-- ==== Sys2Proof/Word.lean ====
section
/-! DEFINITION. The word types of the PX4800 block model. -/

namespace Sys2Proof

/-- One byte of a packet, a payload or a host buffer. -/
abbrev Byte := BitVec 8

/-- A 16-bit field. -/
abbrev Half := BitVec 16

/-- A BAR0 register (R29): every register is 32 bits wide. -/
abbrev Word := BitVec 32

/-- A host address or a 64-bit count. -/
abbrev Long := BitVec 64

/-- The register of a peer lane's scrambler (R359). -/
abbrev LaneReg := BitVec 58

/-- A 48-byte digest or chain value (R51). -/
abbrev Digest := BitVec 384

end Sys2Proof
end

