-- ==== Sys2Proof/Syntax.lean ====
section
/-! DEFINITION. The commands and events of the block: one constructor per row of spec/opcode_table.json. -/

namespace Sys2Proof

/-- A firmware image as the TC finds it (R40, R41): its header bytes, whether the body's SHA-384 is their BODY_HASH and the
signature verifies over them, and the version it identifies itself with (R89). -/
structure ImageIn where
  header : List Byte
  bodyOk : Bool
  signatureOk : Bool
  version : Word
deriving DecidableEq, Repr

/-- A command as the sequencer holds it (R64, R69): the header fields other than OPCODE, which the row names,
the parameter bytes (PARAM_LEN of them), the 32 bytes of the submission entry that names it (none at the management port),
and what host memory answers where the command reads it. -/
structure Packet where
  /-- 0 to 15 host queue, 16 management port (R78). -/
  chan : Fin 17
  flags : Byte
  version : Byte
  tag : Half
  seq : Word
  leaseId : Word
  crc : Word
  /-- Header bytes 20 to 31 (R69). -/
  reserved : List Byte
  params : List Byte
  /-- CMD_ADDR, CMD_LEN, RESP_MAX and RESP_ADDR (R64). -/
  entry : List Byte
  hostData : List Byte
deriving DecidableEq, Repr

/-- Who writes a BAR0 register (R10, R48). -/
inductive Writer where
  | host | ac | tc
deriving DecidableEq, Repr

/-- How a pass-through transfer ended (R88). -/
inductive TransferEnd where
  | complete | nack | timeout
deriving DecidableEq, Repr

/-- The reference inputs checked by the always-on domain (R102, R103). -/
inductive RefInput where
  | lineRef0 | lineRef1 | clientRef | pcieRef
deriving DecidableEq, Repr

/-- The PTP transports of R105. -/
inductive PtpTransport where
  | ethernet | udpIpv4 | udpIpv6
deriving DecidableEq, Repr

/-- A coefficient word of a slice or DAC segment (R146): OFFSET in 1/8 code, GAIN in 2⁻¹³, SKEW in 2 fs. -/
structure Coef where
  offset : Int
  gain : Int
  skew : Int
deriving DecidableEq, Repr

/-- What MATCH or VERIFY measured over 2²⁰ pairs (R123, R124): pairs left out, mean difference in 1/8 code,
RMS of the difference in tenths of a per cent of the slice RMS, timing difference in fs. -/
structure PairStats where
  leftOut : Nat
  mean : Nat
  rms : Nat
  timing : Nat
deriving DecidableEq, Repr

/-- What a statistics window accumulated (R118 to R120): samples excluded, over-range words of the ADC seen, the sum of the
slice's 8-bit codes, its RMS and the mean RMS of the 64 positions in 1/16 code, the correlations with the next and the
previous position, and the slope of the autocorrelation at 3.064 ps for 2 fs. -/
structure WindowStats where
  excluded : Nat
  overRange : Nat
  sum : Int
  rms : Nat
  meanRms : Nat
  corrNext : Int
  corrPrev : Int
  slope : Int
deriving DecidableEq, Repr

/-- How an attempt at a position ended in a foreground calibration (R123, R125, R137): passed, MATCH failed against the spare,
TRIM or VERIFY failed against the slice, abandoned. -/
inductive AttemptEnd where
  | passed | spareFailed | sliceFailed | abandoned
deriving DecidableEq, Repr

/-- What a foreground calibration measured on one ADC (R137): the coefficient words, and the attempts in order, by position. -/
structure FgAdc where
  words : List Coef
  attempts : List (Fin 64 × AttemptEnd)
deriving DecidableEq, Repr

/-- What it measured on one DAC (R137, R139): segment trims, skew to DAC XI in 0.01 ps, 64 points. -/
structure FgDac where
  trims : List Coef
  skew : Int
  points : List (Int × Int)
deriving DecidableEq, Repr

/-- What a DSP processing block measured (R154, R179, R181): residual dispersion moved (ps/nm), SNR X and Y
(0.01 dB), carrier offset (MHz), clock offset (0.01 ppm), DGD (0.1 ps), PDL (0.01 dB), SOP rate (krad/s), residual
skew of the four rails (0.01 ps), and the block's slips, pilot errors and clipped words. -/
structure DspMeasure where
  cdShift : Int
  snrX : Nat
  snrY : Nat
  cfo : Int
  clk : Int
  dgd : Nat
  pdl : Nat
  sopRate : Nat
  skewEst : List Int
  slips : Nat
  pilotErrors : Nat
  clipped : Nat
deriving DecidableEq, Repr

/-- What decoding a block gave at its delivery (R192, R203, R209): bits the inner decoder changed, whether a codeword or
window is uncorrected, codewords and bits the outer decoder corrected, and the fill bits of its payload that read 1 after
descrambling (R215; Machine.fillErrors). -/
structure DecodeResult where
  corrected : Nat
  uncorrected : Bool
  outerWords : Nat
  outerBits : Nat
  fillErr : Nat
deriving DecidableEq, Repr

/-- The overhead of one layer in a received frame (R220 to R222): the TTI when this frame completes its multiframe, the
BIP violations and the BEI value of each block, BDI, STAT, and the payload type and MSI when it completes theirs. An MSI
entry is empty or names a container and a tributary port (R249). -/
structure LayerIn where
  tti : Option (List Byte)
  violations : List Nat
  beis : List Nat
  bdi : Bool
  stat : Nat
  psi : Option (Nat × List (Option (Nat × Nat)))
deriving DecidableEq, Repr

/-- What an aligner sees in one frame (R216, R217, R219): the bits of the frame at which the pattern of its format stands, in
rising order (Machine.otucAt, otu4At, flexoAt), whether every compared bit is right, the multiframe value, and whether every
slice carries it. -/
structure AlignIn where
  found : List Nat
  fasOk : Bool
  mfas : Nat
  agree : Bool
deriving DecidableEq, Repr

/-- A received frame of an engine, a tributary or a client interface (R216 to R223): what its aligner sees; for a FlexO frame what
the aligner of each instance sees, and nothing for an OTUCn or OTU4 frame; both layers, the FlexO group identifier when its bytes
complete it, the AIS pattern of OTU4, RS symbols corrected and codewords uncorrectable, and the differential delay of the
protection group (R260). -/
structure FrameIn where
  fas : AlignIn
  flexo : List AlignIn
  sm : LayerIn
  pm : LayerIn
  gid : Option Nat
  otuAis : Bool
  rsCorr : Nat
  rsUncorr : Nat
  delay : Option Int
deriving DecidableEq, Repr

/-- What a bidirectional group's far end reports in its APS/PCC bytes (R261): its request rank, whether its requested
signal is protection, and whether its configuration differs or its bridged signal disagrees with its request. -/
structure FarEnd where
  rank : Fin 8
  protection : Bool
  differs : Bool
  disagrees : Bool
deriving DecidableEq, Repr

/-- What a transmit tag group carried as it ends (R269, R275, R286): its plaintext, the numbers of the blocks on which the twins
differed, and the PM BIP-8 of each of its eight frames as received by the engine. -/
structure TxGroup where
  plain : List Byte
  mismatched : List Nat
  bips : List Byte
deriving DecidableEq, Repr

/-- A received tag group at its check (R273, R282, R284): whether its header arrived with a right HCRC, the header's
fields, ciphertext and tag, the numbers of the blocks on which the twins differed, the PM BIP-8 of each of its eight frames, and the
Ethernet frames stopped and already gone. -/
structure RxGroup where
  hcrcOk : Bool
  enc : Bool
  epoch : Bool
  keyRef : Nat
  ctr : Nat
  cipher : List Byte
  tag : List Byte
  mismatched : List Nat
  bips : List Byte
  stopped : Nat
  escaped : Nat
  held : List Nat
deriving DecidableEq, Repr

/-- How a job's processing ends (R288, R298, R302): bytes processed since its submission, its whole input and additional data as read
from host memory, a mismatch of its double computation, and an uncorrectable error of its context. -/
structure JobEnd where
  processed : Nat
  input : List Byte
  aad : List Byte
  mismatch : Bool
  contextError : Bool
deriving DecidableEq, Repr

/-- A frame received whole at a port ingress (R309 to R318): length from destination address to FCS, FCS right, a MAC
control frame, its first two tag positions as (TPID, (VID, PCP)), a failed tag group while it arrived (R337), the
tiles the allocator offers it, in order (R315), and whether its reception had begun before the boundary at which its port stopped
admitting (R45), and its bytes (zero where the list is shorter than the length). -/
structure RxFrame where
  len : Nat
  fcsOk : Bool
  control : Bool
  outer : Option (Nat × (Nat × Nat))
  inner : Option (Nat × (Nat × Nat))
  authBad : Bool
  tiles : List Nat
  begun : Bool
  bytes : List Byte
deriving DecidableEq, Repr

/-- What the manager finds as it reads the tiles of the frame it takes (R316, R337, R338): by place in the frame, the tiles whose 256
bytes do not read as they were written, and a tag failure that overtakes the transmission. -/
structure TxRead where
  changed : List (Nat × List Byte)
  authBad : Bool
deriving DecidableEq, Repr

/-- A configuration entry of the packet manager (R340). -/
inductive ConfigEntry where
  | rule (port outer inner pcp : Nat)
  | subscriber (n : Nat)
  | service (n : Nat)
  | port (n : Nat)
  | gate (n : Nat)
deriving DecidableEq, Repr

/-- What a second adds that no other event carries (R100, R357, R379): the crystal's offset while LOCKED in
1/1,024 ppb, positive when it runs fast, per CIF the RS-FEC
codewords corrected and uncorrectable, symbols corrected and invalid PCS blocks, PRBS bit errors per lane, and requesters' reads of
memory rows never written (R440). -/
structure SecondMeasure where
  crystalOffset : Option Int
  cifs : List (Nat × (Nat × (Nat × (Nat × Nat))))
  prbs : List (Nat × Nat)
  unwritten : Nat
deriving DecidableEq, Repr

/-- Why an interface loses alignment (R356, R378). -/
inductive AlignLoss where
  | alignment | highErrors
deriving DecidableEq, Repr

/-- Two 64-bit words where a marker is sought or expected on a peer lane (R362 to R364), and the number of their first symbol on one
symbol scale for all lanes. -/
structure MarkerIn where
  a : Long
  b : Long
  symbol : Nat
deriving DecidableEq, Repr

/-- A block as received (R359, R365, R366): its 16 words as they came from the lanes, still scrambled. -/
structure BlockIn where
  words : List Long
deriving DecidableEq, Repr

/-- The bytes a channel's ODU has ready (R366, R367): its working TRIB, whether the first of them is known to start a frame, and the
bytes. -/
structure TribBlock where
  chan : Nat
  start : Bool
  data : List Byte
deriving DecidableEq, Repr

/-- A HELLO block as received (R359, R371): its 16 words as they came from the lanes, still scrambled. -/
structure HelloIn where
  words : List Long
deriving DecidableEq, Repr

/-- A ring whose head the host writes (R106, R404). -/
inductive RingId where
  | ptp
  | monitor (chan : Fin 16)
  | hka (sar : Fin 2)
deriving DecidableEq, Repr

/-- What one sensor gives at a sample (R413, R415): its oscillator count, and the temperature its fused coefficients map that
count to, in 1/16 °C. -/
structure SensorIn where
  count : Nat
  temp : Int
deriving DecidableEq, Repr

/-- A correctable error (R439, R442): a bit of a word, or copies of VALID and POISON that disagree, and whether it is still there when
the row is read again. -/
inductive CeFound where
  | bit (stuck : Bool)
  | copies (valid poison : Bool × Bool × Bool) (stuck : Bool)
deriving DecidableEq, Repr

/-- What an uncorrectable row holds (R438): it names the unit that the response of the class acts on. -/
inductive UeTarget where
  /-- Nothing that a requester needs now. -/
  | unused
  /-- AC SRAM: a code page, or a data row read by an AC. -/
  | codePage
  | dataRow (ac : Nat)
  /-- PKQ: a frame's descriptor, or the queue state of a subscriber. -/
  | descriptor (frame : Nat)
  | queueState (sub : Nat)
  /-- PKT: a configuration entry. -/
  | entry (e : ConfigEntry)
  /-- CNV: a live coefficient, or a block of a temperature set. -/
  | coefficient (adc slice : Nat)
  | tempBlock (set conv : Nat)
  /-- DSP and FRM: one of two copies, whether the other copy's row is in error too, and the tributaries concerned. -/
  | copy (both : Bool) (tribs : List Nat)
  /-- FEC: message memory of a core, or an LLR buffer of a block. -/
  | messages (core : Nat)
  | llr (block : Nat)
  /-- CPH: an epoch entry, or a job context. -/
  | epoch (trib : Nat) (receive : Bool)
  | job (id : Nat)
  /-- LANE: a client or peer lane's configuration. -/
  | lane (peer : Bool) (n : Nat)
  /-- MON: the FIR table of an engine's channels, or a correction or sequence entry of a SAR. -/
  | fir (engine : Nat)
  | housekeeping (sar chan : Nat)
  /-- HIF: a command's staging buffer, or an event's. -/
  | command (chan : Nat)
  | event
deriving DecidableEq, Repr

/-- How a page program ended (R462, R467). -/
inductive FlashEnd where
  | ok | programFailed | readBackFailed
deriving DecidableEq, Repr

/-- The commands of the block: one constructor per row of the table. -/
inductive Instr where
  /-- AON_POWER_UP (R486). -/
  | aonPowerUp (avsSel : Bool)
  /-- AON_POWER_LOSS (R489). -/
  | aonPowerLoss
  /-- RESET_N_LOW (R42). -/
  | resetNLow
  /-- PWR_OK_LOW (R489). -/
  | pwrOkLow
  /-- KINDLING_START (R36). -/
  | kindlingStart (bootSel : Bool) (mgmtAddr : BitVec 2) (suppliesOk : Bool)
  /-- SUPPLY_CHECK_TIMEOUT (R487). -/
  | supplyCheckTimeout
  /-- FUSE_CHECK_DONE (R36). -/
  | fuseCheckDone (ok : Bool)
  /-- TC_RAM_TEST_DONE (R36). -/
  | tcRamTestDone (ok : Bool)
  /-- TC_IMAGE_FETCH_DONE (R36). -/
  | tcImageFetchDone
  /-- TC_IMAGE_CHECK_DONE (R41). -/
  | tcImageCheckDone (image : ImageIn)
  /-- TRUST_PHASE_DONE (R36). -/
  | trustPhaseDone
  /-- AC_IMAGE_FETCH_DONE (R36). -/
  | acImageFetchDone
  /-- AC_IMAGE_CHECK_DONE (R39). -/
  | acImageCheckDone (image : ImageIn)
  /-- SELFTEST_DONE (R36). -/
  | selftestDone
  /-- DEV_LOAD_CTRL_GO (R38). -/
  | devLoadCtrlGo
  /-- MODE_CHANGE_COMPLETE (R34). -/
  | modeChangeComplete
  /-- QUIESCE_DRAIN_COMPLETE (R46). -/
  | quiesceDrainComplete
  /-- QUIESCE_DRAIN_TIMEOUT (R46). -/
  | quiesceDrainTimeout
  /-- AC_WATCHDOG_EXPIRY (R49). -/
  | acWatchdogExpiry (ac : Fin 4)
  /-- TC_WATCHDOG_EXPIRY (R49). -/
  | tcWatchdogExpiry
  /-- APP_RESET_COMPLETE (R43). -/
  | appResetComplete (imageOk : Bool)
  /-- AC_RESUME_AFTER_EMBER (R35). -/
  | acResumeAfterEmber
  /-- IMAGE_LOAD_COMPLETE (R53). -/
  | imageLoadComplete (image : ImageIn)
  /-- DEV_MODE_SET (R32). -/
  | devModeSet (p : Packet)
  /-- DEV_APP_RESET (R43). -/
  | devAppReset (p : Packet)
  /-- DEV_ENGINE_RESET (R44). -/
  | devEngineReset (p : Packet)
  /-- DEV_EMBER_RELEASE (R428). -/
  | devEmberRelease (p : Packet)
  /-- DEV_IMAGE_LOAD (R53). -/
  | devImageLoad (p : Packet)
  /-- DEV_OPKEY (R50). -/
  | devOpkey (p : Packet)
  /-- DEV_ATTEST_QUOTE (R52). -/
  | devAttestQuote (p : Packet)
  /-- DEV_ATTEST_CERT (R52). -/
  | devAttestCert (p : Packet)
  /-- DEV_LOCKOUT_DIAG (R53). -/
  | devLockoutDiag (p : Packet)
  /-- REGISTER_WRITE (R29). -/
  | registerWrite (src : Writer) (addr : Nat) (width : Nat) (value : Word)
  /-- READ_CLEAR_REGISTER (R10). -/
  | readClearRegister (addr : Nat)
  /-- HIF_ARRIVAL_LO_READ (R91). -/
  | hifArrivalLoRead
  /-- TIM_TOD_SEC_LO_READ (R107). -/
  | timTodSecLoRead
  /-- CPH_DCTR_LO_READ (R305). -/
  | cphDctrLoRead
  /-- LOG_LO_WORD_READ (R483). -/
  | logLoWordRead (counter : Option (Fin 12))
  /-- FRM_PM_SEL_WRITE (R245). -/
  | frmPmSelWrite (writer : Writer) (value : Word)
  /-- DMA_RING_HEAD_WRITE (R404). -/
  | dmaRingHeadWrite (ring : RingId) (value : Word)
  /-- SNAP_REQUEST (R108). -/
  | snapRequest (window : Nat)
  /-- SNAP_COPY_DONE (R108). -/
  | snapCopyDone (window : Nat)
  /-- PCIE_LINK_CHANGE (R58). -/
  | pcieLinkChange (gen width : Nat)
  /-- FUNCTION_LEVEL_RESET (R59). -/
  | functionLevelReset
  /-- D3HOT_ENTRY (R59). -/
  | d3hotEntry
  /-- D0_RETURN (R59). -/
  | d0Return
  /-- PCIE_PERST_FALL (R60). -/
  | pciePerstFall
  /-- PCIE_PERST_RISE (R60). -/
  | pciePerstRise
  /-- HIF_Q0_EN_SET (R91). -/
  | hifQ0EnSet
  /-- HIF_Q0_EN_CLEAR (R91). -/
  | hifQ0EnClear
  /-- HIF_EQ_EN_SET (R91). -/
  | hifEqEnSet
  /-- HIF_EQ_EN_CLEAR (R91). -/
  | hifEqEnClear
  /-- HIF_SQ_TAIL_WRITE (R67). -/
  | hifSqTailWrite (queue : Fin 16) (value : Word) (ringError : Bool)
  /-- HIF_CQ_HEAD_WRITE (R68). -/
  | hifCqHeadWrite (queue : Fin 16) (value : Word)
  /-- HIF_EQ_HEAD_WRITE (R76). -/
  | hifEqHeadWrite (value : Word)
  /-- PACKET_FETCH_FAILED (R66). -/
  | packetFetchFailed (queue : Fin 16)
  /-- UNDEFINED_OPCODE (R74). -/
  | undefinedOpcode (opcode : Half) (p : Packet)
  /-- LEASE_EXPIRY (R84). -/
  | leaseExpiry (id : Word)
  /-- MGMT_PACKET_WRITE (R86). -/
  | mgmtPacketWrite (bytes : List Byte)
  /-- MGMT_RESPONSE_READ (R86). -/
  | mgmtResponseRead
  /-- MGMT_STATUS_READ (R86). -/
  | mgmtStatusRead
  /-- MGMT_AVS_READ (R432). -/
  | mgmtAvsRead
  /-- MGMT_BAD_SELECTOR (R86). -/
  | mgmtBadSelector (selector : Byte)
  /-- MGMT_BUS_TIMEOUT (R85). -/
  | mgmtBusTimeout
  /-- HIF_IDENTIFY (R89). -/
  | hifIdentify (p : Packet)
  /-- HIF_QUEUE_CREATE (R88). -/
  | hifQueueCreate (p : Packet)
  /-- HIF_QUEUE_DELETE (R88). -/
  | hifQueueDelete (p : Packet)
  /-- HIF_LEASE_GRANT (R81). -/
  | hifLeaseGrant (p : Packet)
  /-- HIF_LEASE_REVOKE (R84). -/
  | hifLeaseRevoke (p : Packet)
  /-- HIF_LEASE_QUERY (R88). -/
  | hifLeaseQuery (p : Packet)
  /-- HIF_EVENT_MASK (R77). -/
  | hifEventMask (p : Packet)
  /-- HIF_SPI_XFER (R88). -/
  | hifSpiXfer (p : Packet)
  /-- HIF_I2C_XFER (R88). -/
  | hifI2cXfer (p : Packet)
  /-- PASSTHROUGH_XFER_COMPLETE (R88). -/
  | passthroughXferComplete (key : Nat) (result : TransferEnd) (done : Nat) (read : List Byte)
  /-- HIF_MGMT_EVENT_READ (R87). -/
  | hifMgmtEventRead (p : Packet)
  /-- HIF_NOP (R88). -/
  | hifNop (p : Packet)
  /-- SECOND_BOUNDARY (R22). -/
  | secondBoundary (measure : SecondMeasure)
  /-- PPS_OUT_PULSE_END (R97). -/
  | ppsOutPulseEnd
  /-- PPS_IN_EDGE (R96). -/
  | ppsInEdge
  /-- PPS_IN_MISSING (R95). -/
  | ppsInMissing
  /-- PTP_UPDATE_TIMEOUT (R95). -/
  | ptpUpdateTimeout
  /-- SLEW_COMPLETE (R98). -/
  | slewComplete
  /-- REF_LOST (R103). -/
  | refLost (ref : RefInput)
  /-- REF_RESTORED (R103). -/
  | refRestored (ref : RefInput)
  /-- SYNCE_RESUME_TIMER (R104). -/
  | synceResumeTimer (output : Fin 2)
  /-- PTP_FRAME_RECEIVED (R106). -/
  | ptpFrameReceived (cif : Fin 32) (esmc : Bool) (transport : PtpTransport) (frame : List Byte)
  /-- PTP_FRAME_SENT (R105). -/
  | ptpFrameSent (cif : Fin 32) (messageType domain : Byte) (sequenceId : Half)
  /-- SNAPSHOT_INSTANT (R108). -/
  | snapshotInstant (key : Nat)
  /-- TIM_GET (R110). -/
  | timGet (p : Packet)
  /-- TIM_SET (R99). -/
  | timSet (p : Packet)
  /-- TIM_ADJUST (R98). -/
  | timAdjust (p : Packet)
  /-- TIM_FREQ_SET (R93). -/
  | timFreqSet (p : Packet)
  /-- TIM_SRC_SET (R95). -/
  | timSrcSet (p : Packet)
  /-- TIM_PTP_CFG (R105). -/
  | timPtpCfg (p : Packet)
  /-- TIM_PTP_RING (R106). -/
  | timPtpRing (p : Packet)
  /-- TIM_PTP_SEND (R105). -/
  | timPtpSend (p : Packet)
  /-- TIM_SNAPSHOT (R108). -/
  | timSnapshot (p : Packet)
  /-- CNV_STEP_START (R122). -/
  | cnvStepStart (group : Fin 2)
  /-- CNV_SPARE_SETTLED (R121). -/
  | cnvSpareSettled (group : Fin 2)
  /-- CNV_MATCH_DONE (R123). -/
  | cnvMatchDone (group : Fin 2) (adc : Fin 4) (stats : PairStats)
  /-- CNV_TRIM_DONE (R121). -/
  | cnvTrimDone (group : Fin 2) (adc : Fin 4) (selfTest : Bool)
  /-- CNV_VERIFY_DONE (R125). -/
  | cnvVerifyDone (group : Fin 2) (adc : Fin 4) (stats : PairStats)
  /-- CNV_STATS_WINDOW_DONE (R119). -/
  | cnvStatsWindowDone (group : Fin 2) (adc : Fin 4) (slice : Fin 65) (stats : WindowStats)
  /-- CNV_REFRESH_INTERVAL (R134). -/
  | cnvRefreshInterval (group : Fin 2)
  /-- CNV_REFRESH_COMPLETE (R135). -/
  | cnvRefreshComplete (group : Fin 2)
  /-- CNV_FG_CAL_COMPLETE (R137). -/
  | cnvFgCalComplete (group : Fin 2) (adcs : List FgAdc) (dacs : List FgDac)
  /-- CNV_SLICE_CLOCK_LOCKED (R141). -/
  | cnvSliceClockLocked (group : Fin 2)
  /-- CNV_TSET_SAVE_DUE (R133). -/
  | cnvTsetSaveDue (group : Fin 2) (set : Fin 8) (converter : Fin 8)
  /-- CNV_FG_CAL (R137). -/
  | cnvFgCal (p : Packet)
  /-- CNV_REFRESH (R134). -/
  | cnvRefresh (p : Packet)
  /-- CNV_CFG_SET (R144). -/
  | cnvCfgSet (p : Packet)
  /-- CNV_TSET_READ (R144). -/
  | cnvTsetRead (p : Packet)
  /-- CNV_TSET_CLEAR (R144). -/
  | cnvTsetClear (p : Packet)
  /-- CNV_DAC_CHAR_READ (R139). -/
  | cnvDacCharRead (p : Packet)
  /-- CNV_LOOP (R143). -/
  | cnvLoop (p : Packet)
  /-- DSP_BLOCK_BOUNDARY (R149). -/
  | dspBlockBoundary (engine : Fin 2) (meas : DspMeasure)
  /-- DSP_LOS_DECLARED (R173). -/
  | dspLosDeclared (engine : Fin 2)
  /-- DSP_LOS_CLEARED (R173). -/
  | dspLosCleared (engine : Fin 2)
  /-- DSP_CD_FILTER_SET (R172). -/
  | dspCdFilterSet (engine : Fin 2)
  /-- DSP_CLOCK_ACQUIRED (R172). -/
  | dspClockAcquired (engine : Fin 2)
  /-- DSP_EQ_PRECONVERGED (R172). -/
  | dspEqPreconverged (engine : Fin 2)
  /-- DSP_SYNC_WORD_FOUND (R172). -/
  | dspSyncWordFound (engine : Fin 2)
  /-- DSP_ACQ_STAGE_TIMEOUT (R172). -/
  | dspAcqStageTimeout (engine : Fin 2)
  /-- DSP_SYNC_LOST (R174). -/
  | dspSyncLost (engine : Fin 2)
  /-- DSP_CD_SEARCH_COMPLETE (R154). -/
  | dspCdSearchComplete (engine : Fin 2) (found : Option Int)
  /-- FASTSOP_ENTRY (R158). -/
  | fastsopEntry (engine : Fin 2)
  /-- FASTSOP_HOLD_EXPIRY (R159). -/
  | fastsopHoldExpiry (engine : Fin 2)
  /-- NLC_COMPUTE_COMPLETE (R165). -/
  | nlcComputeComplete (engine : Fin 2)
  /-- TXPD_RECOMPUTE_COMPLETE (R170), with the lanes whose boost the computation limited. -/
  | txpdRecomputeComplete (engine : Fin 2) (boostLimited : BitVec 4)
  /-- PROFILE_SWITCH_INSTANT (R177). -/
  | profileSwitchInstant (engine : Fin 2)
  /-- PROFILE_TX_BOUNDARY (R177). -/
  | profileTxBoundary (engine : Fin 2)
  /-- PROFILE_SWITCH_TIMEOUT (R177). -/
  | profileSwitchTimeout (engine : Fin 2)
  /-- DSP_PROFILE_SET (R176). -/
  | dspProfileSet (p : Packet)
  /-- DSP_CD_SET (R155). -/
  | dspCdSet (p : Packet)
  /-- DSP_EQ_SET (R156). -/
  | dspEqSet (p : Packet)
  /-- DSP_NLC_SET (R165). -/
  | dspNlcSet (p : Packet)
  /-- DSP_RX_SET (R152). -/
  | dspRxSet (p : Packet)
  /-- DSP_TX_SET (R169). -/
  | dspTxSet (p : Packet)
  /-- DSP_TX_RESP_LOAD (R170). -/
  | dspTxRespLoad (p : Packet)
  /-- DSP_FASTSOP_FORCE (R158). -/
  | dspFastsopForce (p : Packet)
  /-- DSP_TEST_PATTERN (R178). -/
  | dspTestPattern (p : Packet)
  /-- DSP_QUALITY_GET (R179). -/
  | dspQualityGet (p : Packet)
  /-- FEC_BLOCK_ARRIVAL (R191). -/
  | fecBlockArrival (engine : Fin 2) (bits : Nat) (zeroAt : Option Nat)
  /-- FEC_ITERATION_BOUNDARY (R197). -/
  | fecIterationBoundary
  /-- FEC_BLOCK_DELIVERY (R191). -/
  | fecBlockDelivery (block : Nat) (result : DecodeResult)
  /-- FEC_KAT_DUE (R199). -/
  | fecKatDue (core : Fin 48)
  /-- FEC_KAT_COMPLETE (R200). -/
  | fecKatComplete (core : Fin 48) (passed : Bool)
  /-- FEC_WINDOW_END (R205). -/
  | fecWindowEnd (engine : Fin 2)
  /-- FEC_CEILING_PACING_END (R211). -/
  | fecCeilingPacingEnd
  /-- CORE_RETEST_COMPLETE (R202). -/
  | coreRetestComplete (core : Fin 48) (passed : Nat)
  /-- POOL_SELFCHECK_COMPLETE (R206). -/
  | poolSelfcheckComplete (failed : BitVec 48)
  /-- FEC_CFG_SET (R208). -/
  | fecCfgSet (p : Packet)
  /-- FEC_THR_SET (R205). -/
  | fecThrSet (p : Packet)
  /-- FEC_STATS_GET (R209). -/
  | fecStatsGet (p : Packet)
  /-- FEC_POOL_GET (R210). -/
  | fecPoolGet (p : Packet)
  /-- FEC_CORE_RETEST (R202). -/
  | fecCoreRetest (p : Packet)
  /-- FEC_ERR_INJECT (R208). -/
  | fecErrInject (p : Packet)
  /-- FRM_FRAME_RECEIVED (R217). -/
  | frmFrameReceived (scope : Fin 3) (unit : Fin 256) (frame : FrameIn)
  /-- FRAME_BOUNDARY (R26). -/
  | frameBoundary (scope : Fin 3) (unit : Fin 256) (mfas : Nat)
  /-- DEFECT_DECLARED (R224). -/
  | defectDeclared (scope : Fin 3) (unit : Fin 256) (codes : BitVec 21)
  /-- DEFECT_CLEARED (R224). -/
  | defectCleared (scope : Fin 3) (unit : Fin 256) (codes : BitVec 21)
  /-- DEFECT_PACING_END (R243). -/
  | defectPacingEnd (scope : Fin 3) (unit : Fin 256)
  /-- FRM_DEFECT_CFG_SET (R240). -/
  | frmDefectCfgSet (p : Packet)
  /-- FRM_TTI_SET (R220). -/
  | frmTtiSet (p : Packet)
  /-- FRM_TTI_GET (R240). -/
  | frmTtiGet (p : Packet)
  /-- FRM_CA_SET (R227). -/
  | frmCaSet (p : Packet)
  /-- FRM_PM_CFG_SET (R240). -/
  | frmPmCfgSet (p : Packet)
  /-- FRM_PM_READ (R241). -/
  | frmPmRead (p : Packet)
  /-- FRM_PM_CLEAR (R240). -/
  | frmPmClear (p : Packet)
  /-- FRM_TCA_SET (R235). -/
  | frmTcaSet (p : Packet)
  /-- FRM_MAINT_INSERT (R240). -/
  | frmMaintInsert (p : Packet)
  /-- MAP_PLAN_APPLY (R252). -/
  | mapPlanApply (engine : Fin 2)
  /-- DEMAPPER_LOCKED (R253). -/
  | demapperLocked (trib : Fin 256)
  /-- APS_HOLDOFF_EXPIRY (R258). -/
  | apsHoldoffExpiry (working : Fin 256)
  /-- APS_WTR_EXPIRY (R259). -/
  | apsWtrExpiry (working : Fin 256)
  /-- APS_SELECTOR_SWITCH (R260). -/
  | apsSelectorSwitch (working : Fin 256)
  /-- APS_PCC_RECEIVED (R261). -/
  | apsPccReceived (working : Fin 256) (far : FarEnd)
  /-- APS_MISMATCH_HELD (R261). -/
  | apsMismatchHeld (working : Fin 256)
  /-- APS_PACING_END (R266). -/
  | apsPacingEnd (working : Fin 256)
  /-- MAP_PLAN_BEGIN (R250). -/
  | mapPlanBegin (p : Packet)
  /-- MAP_PLAN_LOAD (R250). -/
  | mapPlanLoad (p : Packet)
  /-- MAP_PLAN_COMMIT (R251). -/
  | mapPlanCommit (p : Packet)
  /-- MAP_PLAN_ABORT (R254). -/
  | mapPlanAbort (p : Packet)
  /-- MAP_PLAN_GET (R264). -/
  | mapPlanGet (p : Packet)
  /-- APS_CFG_SET (R256). -/
  | apsCfgSet (p : Packet)
  /-- APS_CMD (R262). -/
  | apsCmd (p : Packet)
  /-- APS_STATUS_GET (R265). -/
  | apsStatusGet (p : Packet)
  /-- CPH_TX_GROUP_BOUNDARY (R277). -/
  | cphTxGroupBoundary (trib : Fin 256) (group : TxGroup)
  /-- CPH_RX_GROUP_CHECK (R282). -/
  | cphRxGroupCheck (trib : Fin 256) (group : RxGroup)
  /-- CPH_JOB_COMPLETE (R298). -/
  | cphJobComplete (job : Fin 65536) (end_ : JobEnd)
  /-- EPOCH_REBUILD_COMPLETE (R302). -/
  | epochRebuildComplete (trib : Fin 256) (receive : Bool)
  /-- CPH_KEY_IMPORT (R291). -/
  | cphKeyImport (p : Packet)
  /-- CPH_KEY_AGREE (R292). -/
  | cphKeyAgree (p : Packet)
  /-- CPH_KEY_ERASE (R293). -/
  | cphKeyErase (p : Packet)
  /-- CPH_KEY_INFO (R303). -/
  | cphKeyInfo (p : Packet)
  /-- CPH_EPOCH_SET (R276). -/
  | cphEpochSet (p : Packet)
  /-- CPH_EPOCH_SWITCH (R278). -/
  | cphEpochSwitch (p : Packet)
  /-- CPH_TRIB_SET (R285). -/
  | cphTribSet (p : Packet)
  /-- CPH_TRIB_GET (R303). -/
  | cphTribGet (p : Packet)
  /-- CPH_JOB_SUBMIT (R296). -/
  | cphJobSubmit (p : Packet)
  /-- CPH_JOB_CANCEL (R303). -/
  | cphJobCancel (p : Packet)
  /-- CPH_CTX_SAVE (R299). -/
  | cphCtxSave (p : Packet)
  /-- CPH_CTX_RESTORE (R300). -/
  | cphCtxRestore (p : Packet)
  /-- PKT_FRAME_RECEIVED (R317). -/
  | pktFrameReceived (port : Fin 288) (frame : RxFrame)
  /-- PKT_TX_OPPORTUNITY (R322). -/
  | pktTxOpportunity (port : Fin 288) (read : TxRead)
  /-- PKT_FINE_WHEEL_SLOT (R327). -/
  | pktFineWheelSlot (slot : Fin 4096)
  /-- PKT_COARSE_WHEEL_SLOT (R327). -/
  | pktCoarseWheelSlot (slot : Fin 4096)
  /-- PKT_GATE_ENTRY_END (R330). -/
  | pktGateEntryEnd (port : Fin 288)
  /-- PKT_GATE_CYCLE_START (R336). -/
  | pktGateCycleStart (port : Fin 288)
  /-- PKT_GATE_LIST_START (R332). -/
  | pktGateListStart (port : Fin 288)
  /-- PKT_INIT_COMPLETE (R342). -/
  | pktInitComplete
  /-- CONFIG_ENTRY_REBUILT (R340). -/
  | configEntryRebuilt (target : UeTarget) (faulty : Bool)
  /-- PKT_PORT_SET (R319). -/
  | pktPortSet (p : Packet)
  /-- PKT_ENTITY_SET (R344). -/
  | pktEntitySet (p : Packet)
  /-- PKT_ENTITY_GET (R344). -/
  | pktEntityGet (p : Packet)
  /-- PKT_RULE_ADD (R312). -/
  | pktRuleAdd (p : Packet)
  /-- PKT_RULE_DEL (R343). -/
  | pktRuleDel (p : Packet)
  /-- PKT_GATE_LOAD (R331). -/
  | pktGateLoad (p : Packet)
  /-- PKT_GATE_SET (R332). -/
  | pktGateSet (p : Packet)
  /-- PKT_STATS_GET (R343). -/
  | pktStatsGet (p : Packet)
  /-- CLN_LANE_FAULT (R355). -/
  | clnLaneFault (lane : Fin 32) (signalLost : Bool)
  /-- CLN_TRAINING_TIMEOUT (R355). -/
  | clnTrainingTimeout (lane : Fin 32)
  /-- CLN_LANE_CLEAN (R355). -/
  | clnLaneClean (lane : Fin 32)
  /-- CLN_CIF_UP (R356). -/
  | clnCifUp (cif : Fin 32) (pcsLanes : List Nat)
  /-- PLK_LANE_CDR_LOCKED (R372). -/
  | plkLaneCdrLocked (lane : Fin 16)
  /-- PLK_DFE_CONVERGED (R372). -/
  | plkDfeConverged (lane : Fin 16)
  /-- PLK_LANE_LOSS (R374). -/
  | plkLaneLoss (lane : Fin 16)
  /-- PLK_MARKER_RECEIVED (R363). -/
  | plkMarkerReceived (lane : Fin 16) (marker : MarkerIn)
  /-- PLK_MARKER_PERIOD_START (R374). -/
  | plkMarkerPeriodStart (stuffed : List Nat)
  /-- PLK_BLOCK_TRANSMIT (R367). -/
  | plkBlockTransmit (ready : List TribBlock)
  /-- PLK_TRIB_BLOCK_RECEIVED (R366). -/
  | plkTribBlockReceived (chan : Fin 256) (block : BlockIn)
  /-- PLK_APS_BLOCK_RECEIVED (R370). -/
  | plkApsBlockReceived (block : BlockIn) (entries : List (Nat × Byte))
  /-- PLK_HELLO_RECEIVED (R371). -/
  | plkHelloReceived (hello : HelloIn)
  /-- PLK_HELLO_TIMER (R371). -/
  | plkHelloTimer
  /-- PLK_APS_REFRESH_TIMER (R370). -/
  | plkApsRefreshTimer
  /-- PLK_APS_ENTRY_TIMEOUT (R370). -/
  | plkApsEntryTimeout (working : Fin 256)
  /-- PLK_HELLO_TIMEOUT (R373). -/
  | plkHelloTimeout
  /-- CLN_CIF_SET (R350). -/
  | clnCifSet (p : Packet)
  /-- CLN_LANE_SET (R354). -/
  | clnLaneSet (p : Packet)
  /-- CLN_LOOP (R357). -/
  | clnLoop (p : Packet)
  /-- CLN_PRBS (R357). -/
  | clnPrbs (p : Packet)
  /-- CLN_CIF_GET (R377). -/
  | clnCifGet (p : Packet)
  /-- PLK_CFG_SET (R377). -/
  | plkCfgSet (p : Packet)
  /-- PLK_LANE_SET (R377). -/
  | plkLaneSet (p : Packet)
  /-- PLK_LOOP (R375). -/
  | plkLoop (p : Packet)
  /-- PLK_STATUS_GET (R377). -/
  | plkStatusGet (p : Packet)
  /-- MON_OUTPUT_SAMPLE (R389): the values of the channel's source over the D clocks of the sample (R382, R383). -/
  | monOutputSample (chan : Fin 16) (inputs : List Int)
  /-- MON_FSOP_REPEAT (R393). -/
  | monFsopRepeat (engine : Fin 2)
  /-- MON_CHAIN_FILLED (R387). -/
  | monChainFilled (chan : Fin 16)
  /-- MON_DETECTOR_WINDOW_END (R388). -/
  | monDetectorWindowEnd (chan : Fin 16) (isRms : Bool)
  /-- MON_RECORD_WRITE (R405). -/
  | monRecordWrite (chan : Fin 16)
  /-- HKA_CONVERSION_DONE (R396). -/
  | hkaConversionDone (sar : Fin 2) (raw : Nat) (ovr : Option Bool)
  /-- HKA_SYSTEM_TICK (R396). -/
  | hkaSystemTick
  /-- HKA_SEQ_PERIOD_START (R397). -/
  | hkaSeqPeriodStart (sar : Fin 2)
  /-- HKA_CAL_TIMER (R402). -/
  | hkaCalTimer (sar : Fin 2)
  /-- HKA_CAL_COMPLETE (R402). -/
  | hkaCalComplete (sar : Fin 2)
  /-- HKA_CAL_STEP_ABORT (R403). -/
  | hkaCalStepAbort (sar : Fin 2)
  /-- MON_CH_SET (R387). -/
  | monChSet (p : Packet)
  /-- MON_FSOP_SET (R391). -/
  | monFsopSet (p : Packet)
  /-- MON_DET_GET (R410). -/
  | monDetGet (p : Packet)
  /-- MON_RING_SET (R404). -/
  | monRingSet (p : Packet)
  /-- HKA_SEQ_SET (R397). -/
  | hkaSeqSet (p : Packet)
  /-- HKA_INJECT (R398). -/
  | hkaInject (p : Packet)
  /-- HKA_CAL (R402). -/
  | hkaCal (p : Packet)
  /-- HKA_CORR_SET (R399). -/
  | hkaCorrSet (p : Packet)
  /-- HKA_CFG_SET (R410). -/
  | hkaCfgSet (p : Packet)
  /-- THM_SAMPLE (R419). -/
  | thmSample (readings : List SensorIn)
  /-- THM_LEVEL_PACING_END (R422). -/
  | thmLevelPacingEnd
  /-- COOLING_RULE_MET (R427). -/
  | coolingRuleMet
  /-- AVS_EVALUATION (R430). -/
  | avsEvaluation (margin : Nat)
  /-- THM_LIMIT_SET (R435). -/
  | thmLimitSet (p : Packet)
  /-- THM_STATUS_GET (R435). -/
  | thmStatusGet (p : Packet)
  /-- THM_SENSOR_GET (R435). -/
  | thmSensorGet (p : Packet)
  /-- THM_TRIP_GET (R435). -/
  | thmTripGet (p : Packet)
  /-- PWR_AVS_GET (R435). -/
  | pwrAvsGet (p : Packet)
  /-- PWR_AVS_FIX (R435). -/
  | pwrAvsFix (p : Packet)
  /-- MEMORY_CORRECTABLE_ERROR (R442). -/
  | memoryCorrectableError (cls : Fin 14) (inst row : Nat) (scrub : Bool) (found : CeFound)
  /-- MEMORY_UNCORRECTABLE_ERROR (R443). -/
  | memoryUncorrectableError (cls : Fin 14) (inst row : Nat) (scrub : Bool) (target : UeTarget)
  /-- MI_PATROL_READ (R445). -/
  | miPatrolRead (cls : Fin 14)
  /-- ACM_PAGE_RELOAD_COMPLETE (R444). -/
  | acmPageReloadComplete (ok : Bool)
  /-- WP_TILE_MARCH_COMPLETE (R450). -/
  | wpTileMarchComplete (tile : Nat) (passed : Bool)
  /-- SCRUB_RANGE_COMPLETE (R447). -/
  | scrubRangeComplete (cls : Fin 14) (unwritten : Nat)
  /-- MI_SCRUB_RANGE (R447). -/
  | miScrubRange (p : Packet)
  /-- MI_PATROL_SET (R445). -/
  | miPatrolSet (p : Packet)
  /-- MI_FLIP_TEST (R452). -/
  | miFlipTest (p : Packet)
  /-- MI_CINDER_READ (R457). -/
  | miCinderRead (p : Packet)
  /-- MI_CLASS_GET (R457). -/
  | miClassGet (p : Packet)
  /-- FLASH_PAGE_PROGRAMMED (R462). -/
  | flashPageProgrammed (result : FlashEnd)
  /-- FLASH_BLOCK_ERASED (R465). -/
  | flashBlockErased (ok : Bool)
  /-- LIFE_CLOCK_SECOND (R472). -/
  | lifeClockSecond
  /-- COUNTERS_HOURLY_DUE (R472). -/
  | countersHourlyDue
  /-- AGEING_DAY_DUE (R476). -/
  | ageingDayDue (shifts : List Int)
  /-- AGEING_MONTH_DUE (R476). -/
  | ageingMonthDue
  /-- LOG_REFRESH_PASS_DUE (R471). -/
  | logRefreshPassDue
  /-- LOG_REFRESH_PASS_COMPLETE (R471). -/
  | logRefreshPassComplete (failed : List Nat)
  /-- PLAN_YEAR_DUE (R477). -/
  | planYearDue
  /-- MARGIN_PLAN_COMPLETE (R479). -/
  | marginPlanComplete
  /-- LOG_EXPORT_COMPLETE (R480). -/
  | logExportComplete (failed : List (Nat × Bool))
  /-- LOG_EXPORT (R480). -/
  | logExport (p : Packet)
  /-- LOG_COUNTERS_GET (R481). -/
  | logCountersGet (p : Packet)
  /-- LOG_PLAN_GET (R481). -/
  | logPlanGet (p : Packet)
  /-- LOG_PLAN_RUN (R477). -/
  | logPlanRun (p : Packet)
  /-- LOG_NOTE (R481). -/
  | logNote (p : Packet)
  /-- LOG_AGEING_GET (R481). -/
  | logAgeingGet (p : Packet)
  /-- LOG_REFRESH (R471). -/
  | logRefresh (p : Packet)
  /-- SUPPLY_GROUPS_WITHIN_RANGE (R487). -/
  | supplyGroupsWithinRange
  /-- PPS_OUT_RISE (R97). -/
  | ppsOutRise
  /-- CRYSTAL_LOSS (R424). -/
  | crystalLoss
  /-- PCS_ALIGNMENT_LOST (R356). -/
  | pcsAlignmentLost (cif : Fin 32) (cause : AlignLoss)
  /-- LOCAL_FAULT_RECEIVED (R351). -/
  | localFaultReceived (cif : Fin 32) (localFault remoteFault : Bool)
deriving DecidableEq, Repr

end Sys2Proof
end

