-- ==== Sys2Proof/Machine/Bits.lean ====
section
/-! DEFINITION. Byte order, sign, bit fields, CRC-32C, and sparse tables with a default. -/

namespace Sys2Proof.Machine

/-- The little-endian value of a byte list (R5). -/
def leNat : List Byte → Nat
  | [] => 0
  | b :: bs => b.toNat + 256 * leNat bs

/-- `n` bytes of `v`, little-endian (R5). -/
def leBytes : Nat → Nat → List Byte
  | 0, _ => []
  | n + 1, v => BitVec.ofNat 8 v :: leBytes n (v / 256)

/-- The big-endian value of a byte list: formats that travel on a line are most significant first (R5). -/
def beNat (bs : List Byte) : Nat := leNat bs.reverse

/-- `n` bytes of `v`, most significant first (R5). -/
def beBytes (n v : Nat) : List Byte := (leBytes n v).reverse

/-- `n` little-endian bytes of a signed value, in two's complement. -/
def leBytesInt (n : Nat) (v : Int) : List Byte := leBytes n (v % (256 ^ n : Nat)).toNat

/-- The 48 bytes of a digest, low byte first (R5, R51). -/
def digestBytes (d : Digest) : List Byte := leBytes 48 d.toNat

/-- The signed value of an `n`-bit two's complement number. -/
def signed (n v : Nat) : Int := if 2 * v < 2 ^ n then (v : Int) else (v : Int) - (2 ^ n : Nat)

/-- A signed value as an `n`-bit two's complement number. -/
def unsignedOf (n : Nat) (v : Int) : Nat := (v % (2 ^ n : Nat)).toNat

/-- The `n` parameter bytes from offset `off`, zero where the list ends. -/
def bytesAt (off n : Nat) (bs : List Byte) : List Byte :=
  let cut := (bs.drop off).take n
  cut ++ List.replicate (n - cut.length) 0

/-- One, two, four, six or eight parameter bytes at an offset, little-endian (R5). -/
def u8 (bs : List Byte) (off : Nat) : Nat := leNat (bytesAt off 1 bs)
def u16 (bs : List Byte) (off : Nat) : Nat := leNat (bytesAt off 2 bs)
def u32 (bs : List Byte) (off : Nat) : Nat := leNat (bytesAt off 4 bs)
def u48 (bs : List Byte) (off : Nat) : Nat := leNat (bytesAt off 6 bs)
def u64 (bs : List Byte) (off : Nat) : Nat := leNat (bytesAt off 8 bs)
def s8 (bs : List Byte) (off : Nat) : Int := signed 8 (u8 bs off)
def s16 (bs : List Byte) (off : Nat) : Int := signed 16 (u16 bs off)
def s32 (bs : List Byte) (off : Nat) : Int := signed 32 (u32 bs off)
def s64 (bs : List Byte) (off : Nat) : Int := signed 64 (u64 bs off)

/-- Bits `hi` to `lo` of a value (R6). -/
def bits (v hi lo : Nat) : Nat := (v / 2 ^ lo) % 2 ^ (hi + 1 - lo)

/-- Bit `i` of a value (R6). -/
def bit (v i : Nat) : Bool := v.testBit i

/-- One for true, zero for false. -/
def b2n (b : Bool) : Nat := if b then 1 else 0

/-- A counter that saturates at `top`. -/
def satAdd (top v n : Nat) : Nat := min top (v + n)

/-- The bits of a list of flags, bit 0 first. -/
def packBits : List Bool → Nat
  | [] => 0
  | b :: bs => b2n b + 2 * packBits bs

/-- One bit of the reflected CRC-32C register (R69). -/
def crcBit (c : Nat) : Nat := if c % 2 = 1 then (c / 2) ^^^ 0x82F63B78 else c / 2

/-- One byte into the reflected CRC-32C register. -/
def crcByte (c : Nat) (b : Byte) : Nat :=
  crcBit (crcBit (crcBit (crcBit (crcBit (crcBit (crcBit (crcBit (c ^^^ b.toNat))))))))

/-- The register after a byte list. -/
def crcRun (c : Nat) : List Byte → Nat
  | [] => c
  | b :: bs => crcRun (crcByte c b) bs

/-- CRC-32C (Castagnoli): reflected, initial value and final XOR 0xFFFF_FFFF (R69). -/
def crc32c (bs : List Byte) : Nat := crcRun 0xFFFFFFFF bs ^^^ 0xFFFFFFFF

/-- Sparse tables: a list of (index, value) pairs, indexes strictly rising, no value equal to the default. -/
abbrev Tab (α : Type) := List (Nat × α)

/-- The entry at `k`, the default where none is listed. -/
def tabGet {α : Type} (d : α) : Tab α → Nat → α
  | [], _ => d
  | (i, v) :: t, k => if i = k then v else tabGet d t k

/-- Remove the entry at `k`. -/
def tabErase {α : Type} : Tab α → Nat → Tab α
  | [], _ => []
  | (i, v) :: t, k => if i = k then t else (i, v) :: tabErase t k

/-- Insert or replace the entry at `k`, keeping the indexes rising. -/
def tabInsert {α : Type} : Tab α → Nat → α → Tab α
  | [], k, x => [(k, x)]
  | (i, v) :: t, k, x =>
    if k < i then (k, x) :: (i, v) :: t else if i = k then (k, x) :: t else (i, v) :: tabInsert t k x

/-- Write the entry at `k`: a value equal to the default removes it, so that equal tables are equal lists. -/
def tabSet {α : Type} [DecidableEq α] (d : α) (t : Tab α) (k : Nat) (x : α) : Tab α :=
  if x = d then tabErase t k else tabInsert t k x

/-- The indexes of a table rise strictly and lie above `lo`. -/
def tabRises {α : Type} : Nat → Tab α → Bool
  | _, [] => true
  | lo, (i, _) :: t => decide (lo ≤ i) && tabRises (i + 1) t

/-- The canonical form of a sparse table. -/
def tabWf {α : Type} [DecidableEq α] (d : α) (t : Tab α) : Bool :=
  tabRises 0 t && t.all (fun e => decide (e.2 ≠ d))

/-- Set every index in a range of a vector by a function. -/
def vecMap {α : Type} {n : Nat} (f : Nat → α → α) (v : Vector α n) : Vector α n := v.mapIdx f

/-- Replace one element by a function of it; an index beyond the vector changes nothing. -/
def vecMod {α : Type} {n : Nat} (v : Vector α n) (i : Nat) (f : α → α) : Vector α n :=
  if h : i < n then v.set i (f v[i]) else v

/-- The element at a natural index, a default beyond the end. -/
def vecGet {α : Type} {n : Nat} (d : α) (v : Vector α n) (i : Nat) : α := v.getD i d

end Sys2Proof.Machine
end

