-- ==== Sys2Proof/Machine/Crypto.lean ====
section
/-! DEFINITION. The cryptography the spec names by its standards: AES-256 (FIPS 197), GCM (SP 800-38D), counter mode, CMAC
(SP 800-38B) and SHA-384 (FIPS 180-4), over big-endian words held as natural numbers (R51, R275, R290, R294, R298). -/

namespace Sys2Proof.Machine

/-! ### AES-256 -/

/-- The S-box, one row of sixteen bytes a number. -/
def sboxRows : List Nat :=
  [0x637C777BF26B6FC53001672BFED7AB76, 0xCA82C97DFA5947F0ADD4A2AF9CA472C0, 0xB7FD9326363FF7CC34A5E5F171D83115,
   0x04C723C31896059A071280E2EB27B275, 0x09832C1A1B6E5AA0523BD6B329E32F84, 0x53D100ED20FCB15B6ACBBE394A4C58CF,
   0xD0EFAAFB434D338545F9027F503C9FA8, 0x51A3408F929D38F5BCB6DA2110FFF3D2, 0xCD0C13EC5F974417C4A77E3D645D1973,
   0x60814FDC222A908846EEB814DE5E0BDB, 0xE0323A0A4906245CC2D3AC629195E479, 0xE7C8376D8DD54EA96C56F4EA657AAE08,
   0xBA78252E1CA6B4C6E8DD741F4BBD8B8A, 0x703EB5664803F60E613557B986C11D9E, 0xE1F8981169D98E949B1E87E9CE5528DF,
   0x8CA1890DBFE6426841992D0FB054BB16]
def sbox (b : Nat) : Nat := (sboxRows.getD (b / 16) 0) / 2 ^ (8 * (15 - b % 16)) % 256

/-- Multiplication by x in GF(2⁸). -/
def xtime (a : Nat) : Nat := if 128 ≤ a then (2 * a) ^^^ 0x11B else 2 * a
/-- One column of MixColumns. -/
def mixColumn (c : List Nat) : List Nat :=
  let g := fun i => c.getD (i % 4) 0
  (List.range 4).map (fun i => xtime (g i) ^^^ (xtime (g (i + 1)) ^^^ g (i + 1)) ^^^ g (i + 2) ^^^ g (i + 3))
/-- The columns of a block of sixteen bytes. -/
def columns (b : List Nat) : List (List Nat) := (List.range 4).map (fun c => (b.drop (4 * c)).take 4)
def xorBytes (a b : List Nat) : List Nat := List.zipWith (· ^^^ ·) a b
/-- ShiftRows: row r of column c comes from column c + r. -/
def shiftRows (b : List Nat) : List Nat := (List.range 16).map (fun i => b.getD ((i + 4 * (i % 4)) % 16) 0)

/-- The four bytes of the key word that follows eight words, the newest last; `i` is its number (FIPS 197, key expansion for eight
words of key). -/
def nextKeyWord (i : Nat) (ws : List (List Nat)) : List Nat :=
  let last := ws.getD 7 []
  let t := if i % 8 = 0 then
      let r := ((last.drop 1) ++ last.take 1).map sbox
      xorBytes r [2 ^ (i / 8 - 1), 0, 0, 0]
    else if i % 8 = 4 then last.map sbox else last
  xorBytes (ws.getD 0 []) t
/-- The window of eight key words runs on, and every word is kept. -/
def expandStep (x : List (List Nat) × List (List Nat)) (i : Nat) : List (List Nat) × List (List Nat) :=
  let w := nextKeyWord i x.1
  (x.1.drop 1 ++ [w], x.2 ++ [w])
/-- The fifteen round keys of sixteen bytes. -/
def roundKeys (key : BitVec 256) : List (List Nat) :=
  let bytes := (beBytes 32 key.toNat).map (fun b => b.toNat)
  let first := (List.range 8).map (fun i => (bytes.drop (4 * i)).take 4)
  let words := ((List.range 52).foldl (fun x i => expandStep x (8 + i)) (first, first)).2
  (List.range 15).map (fun r => ((words.drop (4 * r)).take 4).flatten)

/-- A round between the first and the last. -/
def aesRound (b : List Nat) (k : List Nat) : List Nat :=
  xorBytes ((columns (shiftRows (b.map sbox))).map mixColumn).flatten k
/-- AES-256 on one block, with the round keys. -/
def aesBlockWith (ks : List (List Nat)) (block : List Nat) : List Nat :=
  let b := ((ks.drop 1).take 13).foldl aesRound (xorBytes block (ks.getD 0 []))
  xorBytes (shiftRows (b.map sbox)) (ks.getD 14 [])
/-- The big-endian number of a block, and the block of a number. -/
def blockNat (b : List Nat) : Nat := b.foldl (fun a x => 256 * a + x) 0
def natBlock (v : Nat) : List Nat := (beBytes 16 v).map (fun b => b.toNat)
/-- AES-256 of a 128-bit number. -/
def aesNat (ks : List (List Nat)) (v : Nat) : Nat := blockNat (aesBlockWith ks (natBlock v))

/-! ### Counter mode and GCM -/

/-- The text xor a key stream: block `i` is made from counter block `ctr i`. -/
def streamXor (ks : List (List Nat)) (ctr : Nat → Nat) (text : List Byte) : List Byte :=
  let stream := (List.range ((text.length + 15) / 16)).flatMap (fun i => beBytes 16 (aesNat ks (ctr i)))
  List.zipWith (· ^^^ ·) text (bytesAt 0 text.length stream)
/-- AES-256 in counter mode from an initial counter block, which counts as one 128-bit number (R298). -/
@[irreducible] def aesCtr (key : BitVec 256) (counter text : List Byte) : List Byte :=
  streamXor (roundKeys key) (fun i => (beNat (bytesAt 0 16 counter) + i) % 2 ^ 128) text

/-- One step of a product in GF(2¹²⁸), bit 0 the most significant: the running product and the shifted factor. -/
def ghashStep (x : Nat) (zv : Nat × Nat) (i : Nat) : Nat × Nat :=
  (if x.testBit (127 - i) then zv.1 ^^^ zv.2 else zv.1,
    if zv.2 % 2 = 1 then (zv.2 / 2) ^^^ 0xE1000000000000000000000000000000 else zv.2 / 2)
def ghashMul (x y : Nat) : Nat := ((List.range 128).foldl (ghashStep x) (0, y)).1
/-- Bytes padded with zeros to whole blocks, as numbers. -/
def blocksOf (bs : List Byte) : List Nat := (List.range ((bs.length + 15) / 16)).map (fun i => beNat (bytesAt (16 * i) 16 bs))
/-- GHASH under a subkey, from an accumulator. -/
def ghash (h acc : Nat) (blocks : List Nat) : Nat := blocks.foldl (fun a b => ghashMul (a ^^^ b) h) acc
/-- The pre-counter block of an IV of 96 bits, or of another length. -/
def preCounter (h : Nat) (iv : List Byte) : Nat :=
  if iv.length = 12 then beNat iv * 2 ^ 32 + 1 else ghash h 0 (blocksOf iv ++ [8 * iv.length])
/-- The low 32 bits of a counter block count. -/
def gcmCounter (j n : Nat) : Nat := j / 2 ^ 32 * 2 ^ 32 + (j % 2 ^ 32 + n) % 2 ^ 32
/-- AES-256-GCM: encryption and decryption, which are the same stream (R275, R291, R298). -/
@[irreducible] def gcmEncrypt (key : BitVec 256) (iv _aad text : List Byte) : List Byte :=
  let ks := roundKeys key
  let j := preCounter (aesNat ks 0) iv
  streamXor ks (fun i => gcmCounter j (i + 1)) text
def gcmDecrypt (key : BitVec 256) (iv aad text : List Byte) : List Byte := gcmEncrypt key iv aad text
/-- The GHASH accumulator after additional data and the whole blocks of a ciphertext (R299). -/
@[irreducible] def gcmState (key : BitVec 256) (aad ct : List Byte) : Nat := ghash (aesNat (roundKeys key) 0) 0 (blocksOf aad ++ blocksOf ct)
/-- The 16 bytes of the tag over additional data and ciphertext. -/
@[irreducible] def gcmTag (key : BitVec 256) (iv aad ct : List Byte) : List Byte :=
  let ks := roundKeys key
  let h := aesNat ks 0
  let sum := ghash h (gcmState key aad ct) [8 * aad.length * 2 ^ 64 + 8 * ct.length]
  beBytes 16 (sum ^^^ aesNat ks (preCounter h iv))

/-! ### CMAC -/

/-- Doubling in GF(2¹²⁸) as SP 800-38B has it. -/
def cmacDouble (v : Nat) : Nat := if 2 ^ 127 ≤ v then (2 * v % 2 ^ 128) ^^^ 0x87 else 2 * v
/-- The CBC chain over whole blocks (R299). -/
def cbcState (ks : List (List Nat)) (blocks : List Nat) : Nat := blocks.foldl (fun a b => aesNat ks (a ^^^ b)) 0
/-- CMAC-AES-256 (R290, R294): 16 bytes. -/
@[irreducible] def cmac (key : BitVec 256) (text : List Byte) : List Byte :=
  let ks := roundKeys key
  let k1 := cmacDouble (aesNat ks 0)
  let n := (text.length - 1) / 16
  let rest := text.drop (16 * n)
  let last := if rest.length = 16 then beNat rest ^^^ k1 else beNat (bytesAt 0 16 (rest ++ [0x80])) ^^^ cmacDouble k1
  beBytes 16 (aesNat ks (cbcState ks (blocksOf (text.take (16 * n))) ^^^ last))

/-! ### SHA-384 -/

/-- The round constants. -/
def shaK0 : List Nat :=
  [0x428A2F98D728AE22, 0x7137449123EF65CD, 0xB5C0FBCFEC4D3B2F, 0xE9B5DBA58189DBBC, 0x3956C25BF348B538,
   0x59F111F1B605D019, 0x923F82A4AF194F9B, 0xAB1C5ED5DA6D8118, 0xD807AA98A3030242, 0x12835B0145706FBE,
   0x243185BE4EE4B28C, 0x550C7DC3D5FFB4E2, 0x72BE5D74F27B896F, 0x80DEB1FE3B1696B1, 0x9BDC06A725C71235,
   0xC19BF174CF692694, 0xE49B69C19EF14AD2, 0xEFBE4786384F25E3, 0x0FC19DC68B8CD5B5, 0x240CA1CC77AC9C65]
def shaK1 : List Nat :=
  [0x2DE92C6F592B0275, 0x4A7484AA6EA6E483, 0x5CB0A9DCBD41FBD4, 0x76F988DA831153B5, 0x983E5152EE66DFAB,
   0xA831C66D2DB43210, 0xB00327C898FB213F, 0xBF597FC7BEEF0EE4, 0xC6E00BF33DA88FC2, 0xD5A79147930AA725,
   0x06CA6351E003826F, 0x142929670A0E6E70, 0x27B70A8546D22FFC, 0x2E1B21385C26C926, 0x4D2C6DFC5AC42AED,
   0x53380D139D95B3DF, 0x650A73548BAF63DE, 0x766A0ABB3C77B2A8, 0x81C2C92E47EDAEE6, 0x92722C851482353B]
def shaK2 : List Nat :=
  [0xA2BFE8A14CF10364, 0xA81A664BBC423001, 0xC24B8B70D0F89791, 0xC76C51A30654BE30, 0xD192E819D6EF5218,
   0xD69906245565A910, 0xF40E35855771202A, 0x106AA07032BBD1B8, 0x19A4C116B8D2D0C8, 0x1E376C085141AB53,
   0x2748774CDF8EEB99, 0x34B0BCB5E19B48A8, 0x391C0CB3C5C95A63, 0x4ED8AA4AE3418ACB, 0x5B9CCA4F7763E373,
   0x682E6FF3D6B2B8A3, 0x748F82EE5DEFB2FC, 0x78A5636F43172F60, 0x84C87814A1F0AB72, 0x8CC702081A6439EC]
def shaK3 : List Nat :=
  [0x90BEFFFA23631E28, 0xA4506CEBDE82BDE9, 0xBEF9A3F7B2C67915, 0xC67178F2E372532B, 0xCA273ECEEA26619C,
   0xD186B8C721C0C207, 0xEADA7DD6CDE0EB1E, 0xF57D4F7FEE6ED178, 0x06F067AA72176FBA, 0x0A637DC5A2C898A6,
   0x113F9804BEF90DAE, 0x1B710B35131C471B, 0x28DB77F523047D84, 0x32CAAB7B40C72493, 0x3C9EBE0A15C9BEBC,
   0x431D67C49C100D4C, 0x4CC5D4BECB3E42B6, 0x597F299CFC657E2A, 0x5FCB6FAB3AD6FAEC, 0x6C44198C4A475817]
/-- The initial hash value of SHA-384. -/
def sha384Start : List Nat :=
  [0xCBBB9D5DC1059ED8, 0x629A292A367CD507, 0x9159015A3070DD17, 0x152FECD8F70E5939,
   0x67332667FFC00B31, 0x8EB44A8768581511, 0xDB0C2E0D64F98FA7, 0x47B5481DBEFA4FA4]

def rotr64 (n v : Nat) : Nat := v / 2 ^ n + v % 2 ^ n * 2 ^ (64 - n)
def shaBig0 (v : Nat) : Nat := rotr64 28 v ^^^ rotr64 34 v ^^^ rotr64 39 v
def shaBig1 (v : Nat) : Nat := rotr64 14 v ^^^ rotr64 18 v ^^^ rotr64 41 v
def shaSmall0 (v : Nat) : Nat := rotr64 1 v ^^^ rotr64 8 v ^^^ (v / 2 ^ 7)
def shaSmall1 (v : Nat) : Nat := rotr64 19 v ^^^ rotr64 61 v ^^^ (v / 2 ^ 6)
/-- One round: the eight working words and the window of sixteen message words, with a round constant. -/
def shaRound (x : List Nat × List Nat) (k : Nat) : List Nat × List Nat :=
  let v := fun i => x.1.getD i 0
  let w := fun i => x.2.getD i 0
  let ch := (v 4 &&& v 5) ^^^ ((2 ^ 64 - 1 - v 4) &&& v 6)
  let maj := (v 0 &&& v 1) ^^^ (v 0 &&& v 2) ^^^ (v 1 &&& v 2)
  let t1 := v 7 + shaBig1 (v 4) + ch + k + w 0
  let t2 := shaBig0 (v 0) + maj
  ([(t1 + t2) % 2 ^ 64, v 0, v 1, v 2, (v 3 + t1) % 2 ^ 64, v 4, v 5, v 6],
    x.2.drop 1 ++ [(shaSmall1 (w 14) + w 9 + shaSmall0 (w 1) + w 0) % 2 ^ 64])
/-- One message block of 128 bytes. -/
def shaBlock (h : List Nat) (block : List Byte) : List Nat :=
  let words := (List.range 16).map (fun i => beNat (bytesAt (8 * i) 8 block))
  List.zipWith (fun a b => (a + b) % 2 ^ 64) h ((shaK0 ++ shaK1 ++ shaK2 ++ shaK3).foldl shaRound (h, words)).1
/-- The message with its padding: whole blocks of 128 bytes. -/
def shaPadded (m : List Byte) : List Byte :=
  m ++ [0x80] ++ List.replicate ((128 - (m.length + 17) % 128) % 128) 0 ++ beBytes 16 (8 * m.length)
/-- SHA-384 of a byte list, its first byte the lowest of the digest (R5, R40, R51). -/
@[irreducible] def sha384 (m : List Byte) : Digest :=
  let p := shaPadded m
  let h := (List.range (p.length / 128)).foldl (fun a i => shaBlock a ((p.drop (128 * i)).take 128)) sha384Start
  BitVec.ofNat 384 (leNat ((h.take 6).flatMap (beBytes 8)))

end Sys2Proof.Machine
end

