-- ==== Sys2Proof/Config.lean ====
section
/-! DEFINITION. What the spec leaves open: free values without a body, and the uninterpreted cryptography. -/

namespace Sys2Proof.Config

/-- A fresh value the spec does not fix (guide: a free value); applied to the counter of State. -/
opaque freeValue : Nat → Nat

/-- The version of the TC ROM, measurement M2 (R51). -/
opaque tcRomVersion : List Byte

/-- The SHA-384 digests of the Miovik public keys, in fuses (R41, R51). -/
opaque keyDigests : List Byte

/-- An ECDSA P-384 signature by the device attestation key, r then s (R52): uninterpreted. -/
opaque attestSign : Digest → List Byte

/-- The attestation certificate in DER form (R52): its bytes are the manufacturer's. -/
opaque attestCert : List Byte

/-- A word of a fused factory block: group, set, converter, entry (R130): OFFSET, GAIN, SKEW. -/
opaque factoryOffset : Nat → Nat → Nat → Nat → Int
opaque factoryGain : Nat → Nat → Nat → Nat → Int
opaque factorySkew : Nat → Nat → Nat → Nat → Int

/-- A point of a fused factory characterisation record: group, DAC, point (R139): amplitude and phase. -/
opaque factoryAmplitude : Nat → Nat → Nat → Int
opaque factoryPhase : Nat → Nat → Nat → Int

/-- The fused skew of a DAC to DAC XI, in 0.01 ps (R139). -/
opaque factoryDacSkew : Nat → Nat → Int

/-- Tap `k` of the 7-tap fractional-delay interpolator that corrects a SKEW, in units of 2 fs (R115). -/
opaque skewTap : Int → Nat → Rat

/-- The analogue level of a DAC segment from its 8-bit level and its trims, in 8-bit steps (R116). -/
opaque trimmedLevel : Int → Coef → Rat

/-- The estimates of GAIN and SKEW where the mean RMS or the slope is zero: the spec states no result (R119). -/
opaque openGain : Nat → Int
opaque openSkew : Int → Int

/-- The IQ correction of a polarisation (R169): gain in 0.01 dB, phase in 0.01°, and the I and Q samples. -/
opaque iqCorrect : Int → Int → Rat → Rat → Rat × Rat

/-- Tap `k` of the 65-tap FIR that inverts a response of 64 points (0.01 dB, 0.01°) up to MAX_BOOST dB (R169). -/
opaque inverseTap : List (Int × Int) → Nat → Nat → Rat

/-- A lane delayed by a skew in 0.01 ps (R169). -/
opaque delayed : Int → List Rat → List Rat

/-- The payload type G.709 gives a container (R222): by KIND and CONTAINER; KIND 0 for the ODUCn. -/
opaque payloadType : Nat → Nat → Nat

/-- The FlexO group identifier expected by a unit (R223, code 18), by scope and unit. -/
opaque expectedGid : Nat → Nat → Nat

/-- The marker bits that every FlexO instance carries, and those that name an instance of a group (R216). -/
opaque flexoCommon : List Bool
opaque flexoUnique : Nat → Nat → List Bool

/-- The device's key-agreement point and the shared secret with a host point (R292): uninterpreted. -/
opaque agreePoint : List Byte
opaque agreeSecret : List Byte → List Byte

/-- A key slot sealed for the Logbook (R289), by slot. -/
opaque sealedSlot : Nat → BitVec 256 → BitVec 32 → List Byte

/-- BOOT_ID and the context key of a Kindling, and the wrap IV of an export (R299). -/
opaque bootId : Nat → Nat
opaque contextKey : Nat → BitVec 256
opaque wrapIv : Nat → List Byte

/-- The baseline ratio of each ageing monitor, as the BIRTH record holds it (R464). -/
opaque birthBaselines : List Byte

/-- Taps 0 to 14 of the monitor's FIR by order N and delay M (R384): taps 30 to 16 mirror them and the middle tap makes the gain at DC
1; the fixed coefficients are not given. -/
opaque monTap : Nat → Nat → Nat → Rat

/-- The fused correction of a housekeeping channel, by SAR and channel (R399): OFFSET and GAIN. -/
opaque hkaOffset : Nat → Nat → Int
opaque hkaGain : Nat → Nat → Int

/-- Rows of a memory class per instance, where the spec gives no number (R438, R457); by class. -/
opaque miRows : Nat → Nat

/-- A row of a memory has been written: its VALID bit (R440), by class, instance, row and use. -/
opaque miRowValid : Nat → Nat → Nat → Nat → Bool

/-- A tap that training chooses on a client lane (R354), by free number and tap. -/
opaque trainedTap : Nat → Nat → Int

/-- The syndrome of the Hsiao code for a mask of data and check bits (R439, R452). -/
opaque miSyndrome : Nat → Nat → Nat

/-- A signature over a digest verifies under a key of an algorithm (R50): uninterpreted. -/
opaque verify : Byte → List Byte → Digest → List Byte → Bool

end Sys2Proof.Config
end

