-- ==== Sys2Proof/Machine/ClnState.lean ====
section
/-! DEFINITION. State of the client lanes and the peer link (chapter 12). -/

namespace Sys2Proof.Machine

/-- Five FIR taps c(−3) to c(1) in 1/64 of full swing (R354). -/
structure Taps where
  /-- c(−3) (R354). -/
  c3 : Int
  /-- c(−2) (R354). -/
  c2 : Int
  /-- c(−1) (R354). -/
  c1 : Int
  /-- c(0) (R354). -/
  c0 : Int
  /-- c(1) (R354). -/
  p1 : Int
deriving DecidableEq, Repr

/-- A client lane (R354, R355, R357, R379). -/
structure Lane where
  /-- FIR taps (R354, R379). -/
  taps : Taps
  /-- Taps in force: those that training has chosen replace the taps set (R354). -/
  inForce : Taps
  /-- The equaliser figures that RX_FREEZE holds, once a snapshot has shown them (R354). -/
  held : Option Nat
  /-- TX_INV (R354, R379). -/
  txInv : Bool
  /-- RX_INV (R354, R379). -/
  rxInv : Bool
  /-- TRAIN (R354, R379). -/
  train : Bool
  /-- RX_FREEZE (R354, R379). -/
  rxFreeze : Bool
  /-- SIGNAL (R355, R379). -/
  signal : Bool
  /-- CDR_LOCK (R355, R379). -/
  cdr : Bool
  /-- TRAINED (R355, R379). -/
  trained : Bool
  /-- Training has not completed in 500 ms (R355). -/
  timedOut : Bool
  /-- Loop (R357, R379). -/
  loop : Nat
  /-- PRBS pattern (R357, R379). -/
  prbs : Nat
  /-- PRBS generator on (R357). -/
  gen : Bool
  /-- PRBS checker on (R357). -/
  check : Bool
  /-- PCS lane received (R379). -/
  pcsLane : Nat
  /-- PRBS bit errors counted (R357, R379). -/
  prbsErr : Nat
deriving DecidableEq, Repr

/-- A client interface (R349 to R357, R379): TYPE 0 when there is none. -/
structure Cif where
  /-- LANES (R350, R379). -/
  lanes : Nat
  /-- TYPE (R349, R379). -/
  typ : Nat
  /-- RATE (R349, R379). -/
  rate : Nat
  /-- FEC (R349, R379). -/
  fec : Nat
  /-- Lane generation (R347, R350). -/
  gen : Nat
  /-- FlexO group (R352, R379). -/
  group : Nat
  /-- Position in the FlexO group (R352, R379). -/
  position : Nat
  /-- UP (R356, R379). -/
  up : Bool
  /-- ALIGNED (R356, R379). -/
  aligned : Bool
  /-- High error rate reported (R351, R379). -/
  hiErr : Bool
  /-- RX_LF (R379). -/
  rxLf : Bool
  /-- RX_RF (R379). -/
  rxRf : Bool
  /-- Loop (R357, R379). -/
  loop : Nat
  /-- Falls of UP, read-clear (R379). -/
  downCnt : Nat
  /-- Codewords corrected and uncorrectable, symbols corrected, invalid PCS blocks (R379). -/
  fecCorr : Nat
  fecUncorr : Nat
  fecSym : Nat
  pcsErr : Nat
deriving DecidableEq, Repr

/-- The client lanes. -/
structure Cln where
  /-- The client lanes are powered (R376). -/
  powered : Bool
  /-- CIF 0 to 31 (R349). -/
  cifs : Vector Cif 32
  /-- CL 0 to 31 (R347). -/
  lanes : Vector Lane 32
deriving DecidableEq, Repr

/-- Peer-link states (R372, R373). -/
inductive PlkLink where
  | off | acquire | deskew | hello | up
deriving DecidableEq, Repr

/-- A peer lane (R363, R364, R374, R380). -/
structure PeerLane where
  /-- FIR taps (R354, R377, R380). -/
  taps : Taps
  /-- The equaliser figures that RX_FREEZE holds, once a snapshot has shown them (R354). -/
  held : Option Nat
  /-- TX_INV (R377, R380). -/
  txInv : Bool
  /-- RX_INV (R377, R380). -/
  rxInv : Bool
  /-- RX_FREEZE (R377, R380). -/
  rxFreeze : Bool
  /-- CDR_LOCK (R380). -/
  cdr : Bool
  /-- DFE_CONV (R380). -/
  dfe : Bool
  /-- A valid marker has been found, and the symbol at which the last one began (R363). -/
  found : Bool
  /-- The symbol at which the last marker found or expected began (R363). -/
  foundAt : Nat
  /-- MKR_LOCK (R363, R380). -/
  mkrLock : Bool
  /-- DESKEWED (R364, R380). -/
  deskewed : Bool
  /-- ALIVE (R374, R380). -/
  alive : Bool
  /-- It was marked not alive and needs 64 good markers (R374). -/
  readmit : Bool
  /-- GOOD_RUN (R374, R380). -/
  goodRun : Nat
  /-- Consecutive marker errors (R374). -/
  errRun : Nat
  /-- Marker errors counted (R380). -/
  mkrErr : Nat
  /-- Stuffing words counted (R360, R380). -/
  stuff : Nat
  /-- The last 58 scrambled bits sent, and received (R359). -/
  txReg : LaneReg
  rxReg : LaneReg
  /-- The last scrambled data word sent (R359). -/
  sent : Long
  /-- The level and length of the run of data symbols sent so far, and the symbols stuffed in this period (R360). -/
  runLevel : Nat
  /-- Length of that run (R360). -/
  runLength : Nat
  /-- S of the period in progress (R360, R361). -/
  stuffNow : Nat
  /-- The marker words sent last (R362). -/
  markA : Long
  /-- Word B of them (R362). -/
  markB : Long
deriving DecidableEq, Repr

/-- The ODU that arrives on a TRIB channel, as far as its APS/PCC goes (R261, R366, R368). -/
structure PeerFrame where
  /-- Place in the frame of the next byte, once a frame start has come (R366). -/
  pos : Option Nat
  /-- MFAS of the frame is a multiple of 8, the multiframe position for the ODU path (R261). -/
  odu : Bool
  /-- Bytes of the APS/PCC field of this frame that have come (R261). -/
  part : List Byte
  /-- The APS/PCC field of the last frame at that position (R261). -/
  pcc : List Byte
deriving DecidableEq, Repr
def PeerFrame.none : PeerFrame := ⟨Option.none, false, [], []⟩

/-- The peer link (R358 to R375, R380). -/
structure Plk where
  /-- The peer lanes are powered (R376). -/
  powered : Bool
  /-- EN (R372, R380). -/
  en : Bool
  /-- XFER_EN (R368, R380). -/
  xferEn : Bool
  /-- MIN_LANES (R373, R380). -/
  minLanes : Nat
  /-- LANES (R372, R380). -/
  mask : Half
  /-- STATE (R373, R380). -/
  state : PlkLink
  /-- LOOP (R375, R380). -/
  loop : Nat
  /-- LOOPED_FAR (R371, R380). -/
  loopedFar : Bool
  /-- PL 0 to 15 (R358). -/
  lanes : Vector PeerLane 16
  /-- ALIVE as the peer reports it (R362, R365). -/
  remoteAlive : Half
  /-- STRIPE sent (R365, R380). -/
  txStripe : Half
  /-- STRIPE received (R365, R380). -/
  rxStripe : Half
  /-- The COUNT and lane whose marker gave the receive STRIPE (R365). -/
  rxFrom : Option (Nat × Nat)
  /-- COUNT of the next marker (R362). -/
  count : Nat
  /-- The earliest lane's marker of the latest COUNTs: COUNT and symbol (R364). -/
  firsts : List (Nat × Nat)
  /-- Skew of the lanes (R364, R380). -/
  skew : Nat
  /-- A HELLO block is ready to be sent (R367, R371). -/
  helloReady : Bool
  /-- Serial number of the peer (R371, R380). -/
  peerSerial : Long
  /-- XFER_EN of the peer (R371). -/
  peerXfer : Bool
  /-- Demand of the peer (R369, R371). -/
  peerDemand : Nat
  /-- Groups shed, by working TRIB (R369). -/
  shed : List Nat
  /-- APS entries: received by working TRIB, due for sending, and last sent (R370). -/
  apsRx : List (Nat × Byte)
  /-- APS entries due for sending (R370). -/
  apsDue : List Nat
  /-- APS entries last sent (R370). -/
  apsSent : List (Nat × Nat)
  /-- SEQ of the next block sent, by TYPE × 256 + CHAN, and of the next TRIB block expected (R366). -/
  txSeq : List (Nat × Nat)
  rxSeq : List (Nat × Nat)
  /-- Credit of the TRIB channels in units of 10⁻⁶ bit, and when it was last brought up to date (R367). -/
  credit : List (Nat × Int)
  /-- Model time of the last credit (R367). -/
  creditAt : Nat
  /-- Place in the ODU frame of the next byte of a channel, once a frame start is known (R367). -/
  framePos : List (Nat × Nat)
  /-- Bytes received by channel, and the model time since which they count (R367). -/
  rxBytes : List (Nat × Nat)
  /-- The ODU frames that arrive by channel (R366, R368). -/
  rxFrames : List (Nat × PeerFrame)
  /-- Model time at which the link started (R367). -/
  rxSince : Nat
  /-- The last block sent (R366). -/
  lastBlock : List Byte
  /-- Words of the current row sent, and received (R365). -/
  txRow : Nat
  rxRow : Nat
  /-- The last block received, descrambled (R359, R366). -/
  rxBlock : List Byte
  /-- The mirrors of PLK_ALIVE, PLK_STRIPE and PLK_XFER, updated at each marker (R380). -/
  aliveMirror : Nat
  /-- Mirror of PLK_STRIPE (R380). -/
  stripeMirror : Nat
  /-- Mirror of PLK_XFER (R380). -/
  xferMirror : Nat
  /-- Blocks with a wrong CRC (R366, R380). -/
  blkCrc : Nat
  /-- Blocks lost (R366, R380). -/
  blkLost : Nat
  /-- Blocks of bad format (R366, R380). -/
  blkBad : Nat
deriving DecidableEq, Repr

def Taps.reset : Taps := ⟨0, 0, 0, 64, 0⟩
def Lane.reset : Lane := ⟨Taps.reset, Taps.reset, none, false, false, false, false, false, false, false, false, 0, 0, false, false, 0, 0⟩
def Cif.reset : Cif := ⟨0, 0, 0, 0, 0, 0, 0, false, false, false, false, false, 0, 0, 0, 0, 0, 0⟩
def Cln.reset : Cln := ⟨false, Vector.replicate 32 Cif.reset, Vector.replicate 32 Lane.reset⟩
def PeerLane.reset : PeerLane :=
  ⟨Taps.reset, none, false, false, false, false, false, false, 0, false, false, false, false, 0, 0, 0, 0, 0, 0, 0, 0, 0, 0, 0, 0⟩

/-- The peer link at reset (R380: PLK_CFG 0xFFFF_0800). -/
def Plk.reset : Plk where
  powered := false
  en := false
  xferEn := false
  minLanes := 8
  mask := BitVec.allOnes 16
  state := .off
  loop := 0
  loopedFar := false
  lanes := Vector.replicate 16 PeerLane.reset
  remoteAlive := 0
  txStripe := 0
  rxStripe := 0
  rxFrom := none
  count := 0
  firsts := []
  skew := 0
  helloReady := false
  peerSerial := 0
  peerXfer := false
  peerDemand := 0
  shed := []
  apsRx := []
  apsDue := []
  apsSent := []
  txSeq := []
  rxSeq := []
  credit := []
  creditAt := 0
  framePos := []
  rxBytes := []
  rxFrames := []
  rxSince := 0
  lastBlock := []
  txRow := 0
  rxRow := 0
  rxBlock := []
  aliveMirror := 0
  stripeMirror := 0
  xferMirror := 0
  blkCrc := 0
  blkLost := 0
  blkBad := 0

end Sys2Proof.Machine
end

