-- ==== Sys2Proof/Machine/CnvState.lean ====
section
/-! DEFINITION. State of the line converters (chapter 05). -/

namespace Sys2Proof.Machine

/-- CNV_STATUS.STATE (R141, R146). -/
inductive GroupState where
  | off | seeding | running | refresh | foreground | suspended
deriving DecidableEq, Repr

/-- CNV_ADC_STATUS.STEP_PHASE (R121, R146). -/
inductive StepPhase where
  | idle | align | matching | trim | verify
deriving DecidableEq, Repr

/-- One of the 65 slices of an ADC (R113, R119 to R128). -/
structure Slice where
  /-- Live coefficients OFFSET, GAIN, SKEW (R119, R146). -/
  coef : Coef
  /-- FAILED (R128, R146). -/
  failed : Bool
  /-- Consecutive failed visits or windows (R125, R128). -/
  fails : Nat
  /-- Coefficients of the latest accepted window (R121). -/
  accepted : Option Coef
  /-- Consecutive windows discarded for no signal (R120). -/
  discards : Nat
  /-- The change limits are waived: the first step since power-up (R124). -/
  firstStep : Bool
  /-- Analogue trims: comparator offsets, reference gain, sampling delay (R121). -/
  trims : Coef
  /-- The slice has left the data path since its statistics window began (R119). -/
  leftPath : Bool
  /-- The word waits to be rebuilt at the next DSP block (R133). -/
  rebuildDue : Bool
deriving DecidableEq, Repr

/-- One ADC (R113, R146). -/
structure Adc where
  /-- The 64 working slices and the spare (R113). -/
  slices : Vector Slice 65
  /-- Position under step and the coefficients to be verified (R121). -/
  stepPos : Option Nat
  /-- CNV_ADC_STATUS.STEP_PHASE (R121, R146). -/
  phase : StepPhase
  /-- Coefficients to be verified (R121). -/
  candidate : Option Coef
  /-- The trims the slice under step had before TRIM (R121, R125). -/
  trimsBefore : Option Coef
  /-- REPLACED: the position the spare keeps (R126, R146). -/
  replaced : Option Nat
  /-- DEGRADED (R126, R127, R146). -/
  degraded : Bool
  /-- SPARE_RETIRED (R126, R146). -/
  spareRetired : Bool
  /-- FAILED_CNT (R128, R146). -/
  failedCnt : Nat
  /-- Consecutive failures of the spare (R125, R126). -/
  spareFails : Nat
  /-- NO_SIGNAL (R120, R146). -/
  noSignal : Bool
  /-- CNV_OVR_CNT, live (R117, R146). -/
  overRange : Nat
  /-- PLAUS_FAIL (R124, R146). -/
  plausFail : Nat
  /-- Windows discarded for no signal (R120, R146). -/
  discardNoSig : Nat
  /-- Windows discarded for over-range (R120, R146). -/
  discardOvr : Nat
  /-- Positions failed or abandoned in the running refresh, and whether the ADC lost its spare in it (R135). -/
  refreshFails : Nat
  refreshLost : Bool
deriving DecidableEq, Repr

/-- CNV_DAC_CFG as written or in force (R140). -/
structure DacCfg where
  /-- SWING: 150 + 2 × SWING mVppd (R140). -/
  swing : Nat
  /-- EN (R140). -/
  en : Bool
deriving DecidableEq, Repr

/-- A DAC characterisation record (R139). -/
structure DacChar where
  /-- The fused record (R139). -/
  factory : Bool
  /-- Skew to DAC XI, 0.01 ps (R139). -/
  skew : Int
  /-- Capture temperature (R139). -/
  temp : Int
  /-- 64 points of amplitude and phase (R139). -/
  points : List (Int × Int)
deriving DecidableEq, Repr

/-- One DAC (R113, R116, R139, R140). -/
structure Dac where
  /-- CNV_DAC_CFG as written (R140, R146). -/
  written : DacCfg
  /-- CNV_DAC_CFG in force (R140). -/
  inForce : DacCfg
  /-- Segment trims in force (R132, R139). -/
  trims : List Coef
  /-- The characterisation record (R139). -/
  char : DacChar
deriving DecidableEq, Repr

/-- The origin of a temperature-set block (R129). -/
inductive BlockOrigin where
  | factory | foreground | refresh
deriving DecidableEq, Repr

/-- A temperature-set block of one converter (R129); a factory block's words are the fuses' (Config). -/
structure TempBlock where
  /-- VALID (R129). -/
  valid : Bool
  /-- FACTORY, FOREGROUND or neither (R129). -/
  origin : BlockOrigin
  /-- Capture temperature, 1/16 °C (R129). -/
  temp : Int
  /-- Capture time (R129). -/
  seconds : Nat
  /-- Coefficient words; a factory block's stand in the fuses (R129, R130). -/
  words : List Coef
deriving DecidableEq, Repr

/-- CNV_CFG (R144, R146). -/
structure CnvCfg where
  /-- Refresh ΔT in °C (R134, R146). -/
  deltaT : Nat
  /-- Longest interval between refreshes (R134, R146). -/
  maxInterval : Nat
  /-- BG_EN (R122, R146). -/
  bgEn : Bool
  /-- REFRESH_EN (R134, R146). -/
  refreshEn : Bool
  /-- Step period in ms (R122, R146). -/
  period : Nat
deriving DecidableEq, Repr

/-- A refresh in progress (R134, R135): its trigger, 0 temperature, 1 interval, 2 command, 3 power-up. -/
structure Refresh where
  /-- 0 temperature, 1 interval, 2 command, 3 power-up (R134, R146). -/
  trigger : Nat
  /-- Zone temperature at its start, 1/16 °C (R136). -/
  startTemp : Int
deriving DecidableEq, Repr

/-- CNV_INTERP: the interpolation in force for DAC XI (R132, R146). -/
structure InterpUse where
  /-- LOWER and UPPER (R146). -/
  lower : Nat
  upper : Nat
  /-- WEIGHT in 2⁻¹⁶ (R146). -/
  weight : Nat
  /-- SINGLE (R146). -/
  single : Bool
deriving DecidableEq, Repr

/-- CNV_REFRESH_INFO (R146) and when the refresh completed. -/
structure RefreshInfo where
  /-- TEMP of the last refresh (R146). -/
  temp : Int
  /-- SET (R146). -/
  set : Nat
  /-- TRIGGER (R146). -/
  trigger : Nat
  /-- PARTIAL (R135, R146). -/
  part : Bool
  /-- Model time of the last completed refresh (R134). -/
  atPs : Option Nat
deriving DecidableEq, Repr

/-- A converter group (R113). -/
structure Group where
  /-- CNV_STATUS.STATE (R146). -/
  state : GroupState
  /-- CNV_STATUS.LOOP (R143, R146). -/
  loop : Bool
  /-- CNV_CFG in force (R136, R146). -/
  cfg : CnvCfg
  /-- A CNV_CFG_SET waiting for the end of a refresh (R136). -/
  cfgNext : Option CnvCfg
  /-- The position of the next step (R122). -/
  pos : Nat
  /-- The refresh in progress (R134, R135). -/
  refresh : Option Refresh
  /-- CNV_REFRESH_INFO (R146). -/
  info : RefreshInfo
  /-- Zone temperature of the last interpolation, 1/16 °C (R132). -/
  interpTemp : Option Int
  /-- Zone temperature of an interpolation that waits for the next DSP block (R132). -/
  interpNext : Option Int
  /-- CNV_INTERP (R146). -/
  interpUse : Option InterpUse
  /-- ADCs XI, XQ, YI, YQ (R113). -/
  adcs : Vector Adc 4
  /-- DACs XI, XQ, YI, YQ (R113). -/
  dacs : Vector Dac 4
  /-- Temperature-set blocks, by set × 8 + converter (R129). -/
  blocks : List (Nat × TempBlock)
  /-- Blocks saved in the Logbook with the time of the save (R133), by set × 8 + converter. -/
  saved : List (Nat × (Nat × TempBlock))
  /-- Blocks whose save to the Logbook is due (R133). -/
  saveDue : List Nat
  /-- The slice clock has locked: converters produce samples (R141). -/
  clockLocked : Bool
deriving DecidableEq, Repr

/-- A CNV_FG_CAL in progress (R137, R145). -/
structure FgCommand where
  /-- Groups named (R137). -/
  mask : Nat
  /-- Groups completed (R137). -/
  done : Nat
  /-- Groups aborted (R137). -/
  aborted : Nat
  /-- Model time of the start (R137). -/
  startPs : Nat
deriving DecidableEq, Repr

/-- The converters. -/
structure Cnv where
  /-- Converter groups of LE0 and LE1 (R113). -/
  groups : Vector Group 2
  /-- CNV_FG_CAL commands in progress (R137). -/
  fg : List FgCommand
deriving DecidableEq, Repr

def Coef.zero : Coef := ⟨0, 0, 0⟩
def Slice.reset : Slice := ⟨Coef.zero, false, 0, none, 0, true, Coef.zero, false, false⟩

/-- An ADC at reset (R146). -/
def Adc.reset : Adc where
  slices := Vector.replicate 65 Slice.reset
  stepPos := none
  phase := .idle
  candidate := none
  trimsBefore := none
  replaced := none
  degraded := false
  spareRetired := false
  failedCnt := 0
  spareFails := 0
  noSignal := false
  overRange := 0
  plausFail := 0
  discardNoSig := 0
  discardOvr := 0
  refreshFails := 0
  refreshLost := false

/-- A DAC at reset: SWING 150, EN 0 (R146), and the factory record captured at 25 °C (R139). -/
def Dac.reset : Dac := ⟨⟨150, false⟩, ⟨150, false⟩, [], ⟨true, 0, 400, []⟩⟩

/-- A factory block of set 2 (25 °C) or set 6 (85 °C) (R130). -/
def TempBlock.factory (set : Nat) : TempBlock := ⟨true, .factory, if set = 2 then 400 else 1360, 0, []⟩
def TempBlock.invalid : TempBlock := ⟨false, .refresh, 0, 0, []⟩

/-- The factory blocks of every converter in sets 2 and 6 (R130). -/
def factoryBlocks : List (Nat × TempBlock) :=
  (List.range 8).map (fun c => (16 + c, TempBlock.factory 2))
    ++ (List.range 8).map (fun c => (48 + c, TempBlock.factory 6))

/-- A converter group at reset (R146: CNV_CFG 0x000A_0A33). -/
def Group.reset : Group where
  state := .off
  loop := false
  cfg := ⟨3, 10, true, true, 10⟩
  cfgNext := none
  pos := 0
  refresh := none
  info := ⟨0, 0, 0, false, none⟩
  interpTemp := none
  interpNext := none
  interpUse := none
  adcs := Vector.replicate 4 Adc.reset
  dacs := Vector.replicate 4 Dac.reset
  blocks := factoryBlocks
  saved := []
  saveDue := []
  clockLocked := false

def Cnv.reset : Cnv := ⟨Vector.replicate 2 Group.reset, []⟩

end Sys2Proof.Machine
end

