-- ==== Sys2Proof/Machine/CphState.lean ====
section
/-! DEFINITION. State of the cipher engine and the key store (chapter 10). -/

namespace Sys2Proof.Machine

/-- A key slot (R289, R290, R298). -/
structure KeySlot where
  /-- The slot holds a key (R289). -/
  loaded : Bool
  /-- VOLATILE (R289). -/
  isVolatile : Bool
  /-- USAGE (R289). -/
  usage : Nat
  /-- TX_USED (R290). -/
  txUsed : Bool
  /-- The key (R289). -/
  key : BitVec 256
  /-- The salt (R289). -/
  salt : BitVec 32
  /-- Retired KCVs, newest first, at most 64 (R290). -/
  history : List (List Byte)
  /-- Invocation counter of GCM jobs (R298). -/
  invocation : Nat
deriving DecidableEq, Repr

/-- An epoch (R276, R294): from a slot, or derived with a counter; its key reference, limit and epoch bit. -/
structure Epoch where
  /-- The slot it comes from, none for a derived one (R276, R294). -/
  slot : Option Nat
  /-- The root slot (R294). -/
  root : Nat
  /-- The label (R294). -/
  label : List Byte
  /-- The counter it was derived with (R294, R295). -/
  dctr : Nat
  /-- The serial number it was derived with (R294). -/
  serial : Nat
  /-- The key (R275). -/
  key : BitVec 256
  /-- The salt (R275). -/
  salt : BitVec 32
  /-- KEY_REF (R273, R276). -/
  keyRef : Nat
  /-- LIMIT (R277). -/
  limit : Nat
  /-- The epoch bit (R273). -/
  bit : Bool
deriving DecidableEq, Repr

/-- The cipher state of a tributary (R276 to R287, R301, R302). -/
structure CphTrib where
  /-- CPH_TRIB_CFG.SAV as written (R285). -/
  sav : Bool
  /-- Store-and-verify in force (R285). -/
  savUse : Bool
  /-- SAV_FORCE: store-and-verify while dAUTH is present (R285, R305). -/
  savForce : Bool
  /-- Transmit epoch in use (R276). -/
  txCur : Option Epoch
  /-- Transmit epoch prepared (R276). -/
  txNext : Option Epoch
  /-- The counter of the group in progress, none before the epoch's first group (R277). -/
  txCtr : Option Nat
  /-- The counter has reached LIMIT: dCPHF (R280). -/
  exhausted : Bool
  /-- CPH_COUNTER_LOW has been raised for the epoch (R280). -/
  lowReported : Bool
  /-- COB bytes 17 to 30 announced for the group in progress, the tag and TAG_INFO of the group before it, and the last COB
  sent (R273). -/
  txHeader : List Byte
  /-- The tag of the group before (R273). -/
  txTag : List Byte
  /-- TAG_INFO of the group before (R273). -/
  txInfo : Byte
  /-- The last COB sent (R273). -/
  txCob : List Byte
  /-- The payload of the last group sent encrypted, and its eight BIP-8 bytes; empty where the replacement signal went (R268, R269). -/
  txGroup : List Byte
  /-- Those BIP-8 bytes (R269). -/
  txBips : List Byte
  /-- A scheduled switch (R278). -/
  switchAt : Option (Nat × Nat)
  /-- Receive epoch in use (R276). -/
  rxCur : Option Epoch
  /-- Receive epoch prepared (R276). -/
  rxNext : Option Epoch
  /-- The last counter accepted under each receive epoch (R282). -/
  rxLast : Option Nat
  /-- The last counter accepted under the prepared epoch (R282). -/
  rxNextLast : Option Nat
  /-- The header used for the previous group: epoch bit, KEY_REF, counter (R274). -/
  rxPrev : Option (Bool × (Nat × Nat))
  /-- The first group after masking must have a right HCRC (R283). -/
  waitHcrc : Bool
  /-- The payload of the last group released to the demapper, empty where none was (R268, R284 to R286). -/
  rxGroup : List Byte
  /-- Its eight BIP-8 bytes (R269). -/
  rxBips : List Byte
  /-- dAUTH (R282, R284). -/
  dauth : Bool
  /-- Twin mismatches of this second, and the fault in each direction (R287). -/
  twins : Nat
  /-- TWIN_FAULT, transmit (R287). -/
  faultTx : Bool
  /-- TWIN_FAULT, receive (R287). -/
  faultRx : Bool
  /-- Epoch entries being rebuilt (R302). -/
  rebuildTx : Bool
  /-- The receive epoch is being rebuilt (R302). -/
  rebuildRx : Bool
  /-- Counts of the running second (R305). -/
  authFail : Nat
  /-- REPLAY of the running second (R305). -/
  replay : Nat
  /-- STOMPED of the running second (R305). -/
  stomped : Nat
  /-- ESCAPED of the running second (R305). -/
  escaped : Nat
deriving DecidableEq, Repr

/-- An admitted job (R296 to R299): its descriptor, key, progress and what is asked of it. -/
structure Job where
  /-- Job identifier (R296, R303). -/
  id : Nat
  /-- Its descriptor (R297). -/
  desc : List Byte
  /-- Priority (R296). -/
  prio : Nat
  /-- Its key (R297). -/
  key : BitVec 256
  /-- The invocation counter it uses (R298). -/
  invocation : Nat
  /-- The derivation counter it uses (R295). -/
  dctr : Nat
  /-- Bytes processed (R299). -/
  processed : Nat
  /-- It continues a restored context (R300). -/
  restored : Bool
  /-- CPH_JOB_CANCEL has been given (R303). -/
  cancel : Bool
  /-- CPH_CTX_SAVE: form and host address. -/
  save : Option (Nat × Nat)
  /-- Destination ranges written before the last save: address and length (R298, R300). -/
  written : List (Nat × Nat)
deriving DecidableEq, Repr

/-- A context saved to host memory (R299, R300). -/
structure SavedCtx where
  /-- EXPORT_NO (R299). -/
  exportNo : Nat
  /-- The job saved (R299). -/
  job : Job
  /-- The context's bytes (R299). -/
  bytes : List Byte
  /-- It has been restored (R300). -/
  used : Bool
deriving DecidableEq, Repr

/-- The cipher engine (R268 to R305). -/
structure Cph where
  /-- Key slots 0 to 1,023 (R289). -/
  slots : List (Nat × KeySlot)
  /-- The derivation counter of the TC, and CPH_DCTR_HI as latched (R295, R305). -/
  dctr : Nat
  /-- CPH_DCTR_HI as latched (R305). -/
  dctrHi : Nat
  /-- Cipher state by TRIB (R276). -/
  tribs : List (Nat × CphTrib)
  /-- CPH_TWIN_MISMATCH (R286). -/
  twinMismatch : Nat
  /-- Admitted jobs in stamp order (R296). -/
  jobs : List Job
  /-- The last EXPORT_NO given (R299). -/
  exportNo : Nat
  /-- Contexts saved (R299). -/
  saved : List SavedCtx
  /-- Kindlings so far: BOOT_ID names the current one (R299). -/
  boots : Nat
  /-- Transmit epochs the TC derives again as soon as a counter value is reserved (R301, R470). -/
  rekeyDue : List (Nat × Epoch)
  /-- Keys bound to a transmit epoch since their import, by slot: no reset loses one (R281). -/
  bound : List (Nat × BitVec 256)
deriving DecidableEq, Repr

def KeySlot.empty : KeySlot := ⟨false, false, 0, false, 0, 0, [], 0⟩

/-- A tributary at reset (R305). -/
def CphTrib.reset : CphTrib where
  sav := false
  savUse := false
  savForce := false
  txCur := none
  txNext := none
  txCtr := none
  exhausted := false
  lowReported := false
  txHeader := []
  txTag := []
  txInfo := 0
  txCob := []
  txGroup := []
  txBips := []
  switchAt := none
  rxCur := none
  rxNext := none
  rxLast := none
  rxNextLast := none
  rxPrev := none
  waitHcrc := false
  rxGroup := []
  rxBips := []
  dauth := false
  twins := 0
  faultTx := false
  faultRx := false
  rebuildTx := false
  rebuildRx := false
  authFail := 0
  replay := 0
  stomped := 0
  escaped := 0

/-- The cipher engine at reset (R295, R305). -/
def Cph.reset : Cph := ⟨[], 1, 0, [], 0, [], 0, [], 0, [], []⟩

end Sys2Proof.Machine
end

