-- ==== Sys2Proof/Machine/DevState.lean ====
section
/-! DEFINITION. State of the device-mode block (chapter 02): modes, boot, resets, operator keys, measurements. -/

namespace Sys2Proof.Machine

/-- The eight device modes (R30). -/
inductive Mode where
  | kindling | standby | calibrate | service | maintenance | quiesce | ember | lockout
deriving DecidableEq, Repr

/-- A DEFERRED mode change in progress (R34): the target and the drain timeout of DEV_MODE_SET. -/
structure ModeChange where
  /-- Target mode (R34). -/
  target : Mode
  /-- Drain timeout of DEV_MODE_SET in ms (R46). -/
  timeoutMs : Nat
deriving DecidableEq, Repr

/-- The drain of QUIESCE (R45, R46): its timeout, the model time it began (ps) and what it has dropped. -/
structure Drain where
  /-- Drain timeout in ms (R46). -/
  timeoutMs : Nat
  /-- Model time at which the drain began, ps (R46). -/
  startPs : Nat
deriving DecidableEq, Repr

/-- An enrolled operator key (R50): its algorithm and the 97 bytes of the key field. -/
structure OpKey where
  /-- SIG_ALG: 1 LMS, 2 ECDSA P-384 (R40, R50). -/
  alg : Byte
  /-- The 97 bytes of the key field (R50, R53). -/
  key : List Byte
deriving DecidableEq, Repr

/-- The fuse record (R51): variant, stepping B0 (R1), the two SVN minima (R41) and the digests of the keys. DESIGN CHOICE: its bytes stand
in that order, two for each minimum and one for variant and stepping (log 27). -/
def fuseRecord (variantN : Bool) (svnTc svnAc : Nat) : List Byte :=
  leBytes 1 (b2n variantN) ++ [0xB0] ++ leBytes 2 svnTc ++ leBytes 2 svnAc ++ Config.keyDigests

/-- What the TC knows of an accepted image (R40, R41). -/
structure Image where
  /-- Signing key slot (R40). -/
  signer : Nat
  /-- Security version (R41). -/
  svn : Nat
  /-- SHA-384 of the body (R40, R51). -/
  bodyHash : Digest
  /-- Header, body and signature in bytes (R38, R40). -/
  length : Nat
  /-- Firmware version (R89). -/
  version : Word
deriving DecidableEq, Repr

/-- An image load in progress (DEV_IMAGE_LOAD, R53). -/
structure ImageLoad where
  /-- Target of the load (R53). -/
  target : Nat
  /-- COMMIT_SVN (R41, R53). -/
  commitSvn : Bool
deriving DecidableEq, Repr

/-- What LOCKOUT holds for DEV_LOCKOUT_DIAG (R53, R54). -/
structure LockoutRecord where
  /-- SECONDS at entry (R53). -/
  seconds : Nat
  /-- Failing address, 0 for other causes (R53). -/
  address : Word
  /-- The chain at entry (R53). -/
  chain : Digest
deriving DecidableEq, Repr

/-- The cause bits of DEV_RESET_CAUSE (R55), in bit order. -/
structure ResetCause where
  /-- Cold reset (R42, R55). -/
  cold : Bool
  /-- Warm reset (R42, R55). -/
  warm : Bool
  /-- Application reset by command (R43, R55). -/
  app : Bool
  /-- AC watchdog (R49, R55). -/
  wdog : Bool
  /-- EMBER_RESTART (R35, R55). -/
  emberRestart : Bool
deriving DecidableEq, Repr

/-- The running application reset (R43): its cause bit and whether it is the restart from EMBER (R35). -/
structure AppReset where
  /-- The cause bit it sets (R55). -/
  causeBit : Nat
  /-- It restarts the device from EMBER (R35). -/
  fromEmber : Bool
  /-- It is the automatic restart, which may resume (R35). -/
  automatic : Bool
deriving DecidableEq, Repr

/-- The device-mode block (R30 to R56). -/
structure Dev where
  /-- DEV_MODE.MODE (R30). -/
  mode : Mode
  /-- The DEFERRED mode change in progress; DEV_MODE.CHANGING (R34, R55). -/
  changing : Option ModeChange
  /-- The drain of QUIESCE (R46). -/
  drain : Option Drain
  /-- Frames and tiles dropped since the drain began (R46). -/
  drainFrames : Nat
  drainTiles : Nat
  /-- DEV_BOOT_STATUS (R36, R55). -/
  phase : Nat
  slotB : Bool
  waitHost : Bool
  loadErr : Bool
  /-- Slot A has failed its check and slot B is being tried (R37). -/
  tryingB : Bool
  /-- The image of the running phase has been fetched (R36). -/
  fetched : Bool
  /-- Supply groups 1 to 6 are in range (R36, R487). -/
  suppliesOk : Bool
  /-- DEV_RESET_CAUSE (R55). -/
  cause : ResetCause
  /-- DEV_CFG.RESUME (R35, R55). -/
  resume : Bool
  /-- DEV_TC_WR_DROP (R48, R55): host and AC writes refused, each saturating at 0xFFFF. -/
  dropHost : Nat
  dropAc : Nat
  /-- The first refused write of this second, and how many (R48). -/
  refusedFirst : Option Nat
  refusedCount : Nat
  /-- The first refused write after Kindling has had its Logbook record (R48). -/
  refusedLogged : Bool
  /-- DEV_LOCKOUT_CAUSE (R55). -/
  lockoutCause : Nat
  lockout : LockoutRecord
  /-- DEV_LOAD_ADDR, DEV_LOAD_LEN and DEV_LOAD_CTRL.GO (R38, R39). -/
  loadAddr : Long
  loadLen : Word
  loadGo : Bool
  /-- The measurement chain and the number of extensions (R51, R53). -/
  chain : Digest
  measurements : Nat
  /-- Fuses: SVN minima (R41), variant (R1), serial number (R89). -/
  svnMinTc : Nat
  svnMinAc : Nat
  variantN : Bool
  serial : Long
  /-- Enrolled operator keys, slots 0 to 3 (R50). -/
  opKeys : Vector (Option OpKey) 4
  /-- The running images (R89) and what each boot flash slot holds (R37, R53). -/
  tcImage : Option Image
  acImage : Option Image
  /-- The AC image measured at Kindling, which a refetch must match (R39, R43, R51). -/
  kindledAc : Option Image
  slotAValid : Bool
  slotBValid : Bool
  /-- The ACs are held in reset (R36, R54). -/
  acHeld : Bool
  /-- ACs that have taken a bus error and stopped, until the ACs restart (R49, R438). -/
  acStopped : Vector Bool 4
  /-- The application reset in progress (R43). -/
  appReset : Option AppReset
  /-- An engine reset in progress, per engine (R44). -/
  engineReset : Vector Bool 2
  /-- The image load in progress (R53). -/
  imageLoad : Option ImageLoad
  /-- An automatic restart from EMBER is to be followed by the AC's resume (R35). -/
  resumeDue : Bool
  /-- Units whose loops, patterns, injections and insertions are to be removed at their next frame boundary, by
  scope × 256 + unit (R31). -/
  tidy : List Nat
deriving DecidableEq, Repr

/-- The device-mode block at cold reset (R42, R55; fuse contents are the model's choice, log 3). -/
def Dev.reset : Dev where
  mode := .kindling
  changing := none
  drain := none
  drainFrames := 0
  drainTiles := 0
  phase := 1
  slotB := false
  waitHost := false
  loadErr := false
  tryingB := false
  fetched := false
  suppliesOk := false
  cause := ⟨true, false, false, false, false⟩
  resume := false
  dropHost := 0
  dropAc := 0
  refusedFirst := none
  refusedCount := 0
  refusedLogged := false
  lockoutCause := 0
  lockout := ⟨0, 0, 0⟩
  loadAddr := 0
  loadLen := 0
  loadGo := false
  chain := 0
  measurements := 0
  svnMinTc := 0
  svnMinAc := 0
  variantN := false
  serial := 0
  opKeys := Vector.replicate 4 none
  tcImage := none
  acImage := none
  kindledAc := none
  slotAValid := false
  slotBValid := false
  acHeld := true
  acStopped := Vector.replicate 4 false
  appReset := none
  engineReset := Vector.replicate 2 false
  imageLoad := none
  resumeDue := false
  tidy := []

end Sys2Proof.Machine
end

