-- ==== Sys2Proof/Machine/DspState.lean ====
section
/-! DEFINITION. State of the coherent DSP of both engines (chapter 06). -/

namespace Sys2Proof.Machine

/-- DSP_STATE.STATE (R171). -/
inductive LockState where
  | off | noSignal | cdAcq | clockAcq | eqAcq | sync | locked | switching
deriving DecidableEq, Repr

/-- A line profile with its pilot ratio and roll-off (R147, R163, R168). -/
structure ProfileSel where
  /-- LP0 to LP7 (R147). -/
  profile : Nat
  /-- Pilot ratio code (R163). -/
  pilot : Nat
  /-- Roll-off in 0.01 (R168). -/
  rolloff : Nat
deriving DecidableEq, Repr

/-- A pending or running profile change (R176, R177). -/
structure ProfileChange where
  /-- The profile to change to (R176). -/
  sel : ProfileSel
  /-- Switch instant, SECONDS (R177). -/
  seconds : Nat
  /-- Switch instant, NANOSECONDS (R177). -/
  nanoseconds : Nat
  /-- The switch instant has come; the model time of it. -/
  started : Bool
  /-- Model time of the switch (R177). -/
  startPs : Nat
  /-- Device time of the switch, in units of the time counter (R177, R252). -/
  startTod : Nat
  /-- The transmitter has changed too. -/
  txDone : Bool
deriving DecidableEq, Repr

/-- DSP_CD_SET as stored (R154). -/
structure CdCfg where
  /-- Search mode (R154). -/
  search : Bool
  /-- Dispersion or centre, ps/nm (R154). -/
  value : Int
  /-- Half-width, ps/nm (R154). -/
  halfWidth : Nat
  /-- Carrier in MHz (R155). -/
  carrier : Nat
deriving DecidableEq, Repr

/-- DSP_EQ_CFG (R156, R157, R159). -/
structure EqCfg where
  /-- Taps (R156). -/
  taps : Nat
  /-- RATE (R157). -/
  rate : Nat
  /-- FSOP_EN (R158). -/
  fsopEn : Bool
  /-- HOLD in ms (R159). -/
  hold : Nat
deriving DecidableEq, Repr

/-- DSP_RX_SET (R152, R173). -/
structure RxCfg where
  /-- dLOS set threshold (R173). -/
  losSet : Nat
  /-- dLOS clear threshold (R173). -/
  losClear : Nat
  /-- Configured skews (R152). -/
  skew : List Int
deriving DecidableEq, Repr

/-- DSP_NLC_SET (R165): the stage count and the link description's seven numbers. -/
structure NlcCfg where
  /-- Stages (R165). -/
  stages : Nat
  /-- Spans of the link description (R165). -/
  spans : Nat
  /-- Span length (R165). -/
  spanLength : Nat
  /-- Fibre dispersion (R165). -/
  dispersion : Nat
  /-- Nonlinear coefficient (R165). -/
  gamma : Nat
  /-- Attenuation (R165). -/
  attenuation : Nat
  /-- Launch power (R165). -/
  power : Int
deriving DecidableEq, Repr

/-- DSP_TX_SET (R169). -/
structure TxCfg where
  /-- PD_EN (R169). -/
  pdEn : Bool
  /-- MAX_BOOST (R169). -/
  maxBoost : Nat
  /-- DRIVE (R169). -/
  drive : Nat
  /-- Lane skews (R169). -/
  skew : List Int
  /-- X gain imbalance (R169). -/
  xGain : Int
  /-- X phase error (R169). -/
  xPhase : Int
  /-- Y gain imbalance (R169). -/
  yGain : Int
  /-- Y phase error (R169). -/
  yPhase : Int
deriving DecidableEq, Repr

/-- A pre-distortion filter (R169, R170): the configuration, the host's response and the DAC records and swings it is computed
from. -/
structure TxFilter where
  /-- DSP_TX_SET (R169). -/
  cfg : TxCfg
  /-- RESP_HOST (R170). -/
  respHost : Bool
  /-- The host's response, by lane × 64 + point (R170). -/
  resp : List (Nat × (Int × Int))
  /-- The DAC records of the four lanes; none before the first power-up (R139). -/
  chars : List DacChar
  /-- The SWING of each lane (R140). -/
  swings : List Nat
deriving DecidableEq, Repr

/-- Fast-SOP mode (R158, R159): the source of the entry, when the hold ends, and the peak rate. -/
structure FastSop where
  /-- 0 monitor, 1 command (R158). -/
  source : Nat
  /-- Model time at which the hold ends (R159). -/
  holdEnd : Nat
  /-- Peak rotation rate (R161). -/
  peak : Nat
deriving DecidableEq, Repr

/-- A receive and transmit engine (R147 to R181). -/
structure Engine where
  /-- DSP_STATE.STATE (R171, R181). -/
  state : LockState
  /-- dLOS (R173, R181). -/
  dlos : Bool
  /-- CD_FOUND (R154, R181). -/
  cdFound : Bool
  /-- ACQ_RETRY (R172, R181). -/
  acqRetry : Nat
  /-- Failed reacquisitions since LOCKED (R154), and SYNC regaining after a loss (R174). -/
  failedReacq : Nat
  regaining : Bool
  /-- The profile in force (receiver), the transmitter's, and one stored in STANDBY (R176, R177). -/
  sel : ProfileSel
  txSel : ProfileSel
  stored : Option ProfileSel
  /-- The profile change pending or running (R176, R177). -/
  change : Option ProfileChange
  /-- DSP_CD_SET as stored (R154, R181). -/
  cd : CdCfg
  /-- The configured value has not been applied yet (R154, R155). -/
  cdFresh : Bool
  /-- A dispersion search runs (R154). -/
  searching : Bool
  /-- The search completes a DSP_CD_SET (R178). -/
  searchByCommand : Bool
  /-- CD_EST (R154, R181), and the value that tracking started from (R154). -/
  cdEst : Int
  cdStart : Int
  /-- A fixed value that takes effect at the next block, and a return to CD_ACQ at it (R155). -/
  cdNext : Option Int
  cdRestart : Bool
  /-- DSP_EQ_CFG as set (R156, R181). -/
  eq : EqCfg
  /-- The equaliser settings in force from the last block (R149). -/
  eqForce : EqCfg
  /-- Fast-SOP mode, if in it (R158). -/
  fast : Option FastSop
  /-- A fast-SOP event or force waiting for the block boundary: 0 monitor, 1 command (R158). -/
  fastRequest : Option Nat
  /-- The hold has ended: leave fast-SOP at the next block (R159). -/
  fastExit : Bool
  /-- Source of the last entry (R161, R181). -/
  lastSource : Nat
  /-- Model time of the last DSP_FASTSOP entry event (R161). -/
  lastEntryEvent : Option Nat
  /-- Entries since that event (R161). -/
  entriesSince : Nat
  /-- FSOP entries counted (R181). -/
  entries : Nat
  /-- FSOP requests ignored (R160, R181). -/
  ignored : Nat
  /-- DSP_RX_SET as set (R152, R173). -/
  rx : RxCfg
  /-- The receive settings in force from the last block (R149). -/
  rxForce : RxCfg
  /-- Estimated skews (R152, R181). -/
  skewEst : List Int
  /-- DSP_NLC_SET (R165). -/
  nlc : NlcCfg
  /-- Coefficients are being computed (R165). -/
  nlcComputing : Bool
  /-- Stages whose coefficients are ready, and those in use from the last block (R165). -/
  nlcReady : Nat
  nlcInUse : Nat
  /-- C, the configured stage count, as of the last block: the throttle limit is max(0, C − k) (R166, R420). -/
  nlcBase : Nat
  /-- The throttle rungs on the stages and the throttle limit on RATE, in force from the last block (R18, R421). -/
  nlcCut : Nat
  rateCut : Nat
  /-- DSP_TX_SET (R169, R181). -/
  tx : TxCfg
  /-- RESP_HOST: the host's response is in use (R170, R181). -/
  respHost : Bool
  /-- Staged and applied host response, by lane × 64 + point (R170). -/
  respStaged : List (Nat × (Int × Int))
  respApplied : List (Nat × (Int × Int))
  /-- RECOMPUTING (R170, R181). -/
  recomputing : Bool
  /-- The filter in force, and one computed that waits for the next block (R170). -/
  txForce : TxFilter
  txReady : Option TxFilter
  /-- Test pattern (R178). -/
  test : Nat
  /-- Tone of the test pattern (R178). -/
  tone : Int
  /-- Live measurements (R179, R181). -/
  meas : DspMeasure
  /-- Cycle slips (R181). -/
  slips : Nat
  /-- Pilot errors (R181). -/
  pilotErr : Nat
  /-- Clipped words (R116, R181). -/
  clips : Nat
  /-- Sums over the running second, and the SNR averages of the last completed one (R179). -/
  snrSumX : Nat
  snrSumY : Nat
  snrCount : Nat
  snrX : Nat
  snrY : Nat
deriving DecidableEq, Repr

/-- Both engines, the rungs of step 1 applied, and the rate limit of step 3 (R157, R166, R420). -/
structure Dsp where
  /-- LE0 and LE1 (R147). -/
  engines : Vector Engine 2
  /-- Rungs of throttle step 1 applied (R166, R420). -/
  nlcDrop : Nat
  /-- Rate limit of throttle step 3 (R157, R420). -/
  rateLimit : Nat
deriving DecidableEq, Repr

def ProfileSel.reset : ProfileSel := ⟨0, 0, 5⟩
def EqCfg.reset : EqCfg := ⟨31, 0, true, 20⟩
def RxCfg.reset : RxCfg := ⟨32, 48, [0, 0, 0, 0]⟩
def TxCfg.reset : TxCfg := ⟨true, 9, 0, [0, 0, 0, 0], 0, 0, 0, 0⟩
def TxFilter.reset : TxFilter := ⟨TxCfg.reset, false, [], [], []⟩

/-- An engine at reset (R181). -/
def Engine.reset : Engine where
  state := .off
  dlos := false
  cdFound := false
  acqRetry := 0
  failedReacq := 0
  regaining := false
  sel := ProfileSel.reset
  txSel := ProfileSel.reset
  stored := none
  change := none
  cd := ⟨false, 0, 0, 193100000⟩
  cdFresh := true
  searching := false
  searchByCommand := false
  cdEst := 0
  cdStart := 0
  cdNext := none
  cdRestart := false
  eq := EqCfg.reset
  eqForce := EqCfg.reset
  fast := none
  fastRequest := none
  fastExit := false
  lastSource := 0
  lastEntryEvent := none
  entriesSince := 0
  entries := 0
  ignored := 0
  rx := RxCfg.reset
  rxForce := RxCfg.reset
  skewEst := [0, 0, 0, 0]
  nlc := ⟨0, 0, 0, 0, 0, 0, 0⟩
  nlcComputing := false
  nlcReady := 0
  nlcInUse := 0
  nlcBase := 0
  nlcCut := 0
  rateCut := 0
  tx := TxCfg.reset
  respHost := false
  respStaged := []
  respApplied := []
  recomputing := false
  txForce := TxFilter.reset
  txReady := none
  test := 0
  tone := 0
  meas := ⟨0, 0, 0, 0, 0, 0, 0, 0, [0, 0, 0, 0], 0, 0, 0⟩
  slips := 0
  pilotErr := 0
  clips := 0
  snrSumX := 0
  snrSumY := 0
  snrCount := 0
  snrX := 0
  snrY := 0

def Dsp.reset : Dsp := ⟨Vector.replicate 2 Engine.reset, 0, 0⟩

end Sys2Proof.Machine
end

