-- ==== Sys2Proof/Machine/FecState.lean ====
section
/-! DEFINITION. State of the encoders and the shared decoder pool (chapter 07). -/

namespace Sys2Proof.Machine

/-- Where a code block is (R190, R197). -/
inductive BlockStage where
  | waiting | running | converged | atCeiling | atDeadline
deriving DecidableEq, Repr

/-- A code block in the pool (R190 to R192): its owner, coded bits, ceiling and deadline (ps), the iteration at which
its syndrome becomes zero if ever, the iterations done, and whether it is lost (POISON). -/
structure CodeBlock where
  /-- The model's number of the block. -/
  id : Nat
  /-- Its engine (R190). -/
  engine : Nat
  /-- Coded bits (R190). -/
  bits : Nat
  /-- Ceiling it started with (R191). -/
  ceiling : Nat
  /-- Deadline in ps (R191). -/
  deadline : Nat
  /-- The iteration after which its syndrome is zero, if ever (R190). -/
  zeroAt : Option Nat
  /-- Iterations done (R190). -/
  iters : Nat
  /-- Where it stands (R190). -/
  stage : BlockStage
  /-- Its memory has failed (R192, R438). -/
  poison : Bool
deriving DecidableEq, Repr

/-- A decoder core (R182, R199 to R202, R212). -/
structure Core where
  /-- RETIRED (R200, R212). -/
  retired : Bool
  /-- CAUSE (R200, R201, R212). -/
  cause : Bool
  /-- Under retest (R202). -/
  retest : Bool
  /-- KAT_PASS: known-answer blocks passed since Kindling, in service, self-check and retest (R212). -/
  katPass : Nat
  /-- The block it decodes, and a known-answer block in its place (R199, R201). -/
  block : Option Nat
  kat : Bool
  /-- The running known-answer block follows a memory error (R201). -/
  katAfterError : Bool
deriving DecidableEq, Repr

/-- Decoding counts of one engine over a second (R209, R212). -/
structure FecStats where
  /-- Blocks decoded (R209). -/
  blocks : Nat
  /-- Blocks converged after n iterations, 0 to 24 (R209). -/
  conv : List Nat
  /-- Blocks stopped at the ceiling (R209). -/
  ceil : Nat
  /-- Blocks stopped at the deadline (R209). -/
  deadline : Nat
  /-- UNCORR blocks (R209). -/
  uncorr : Nat
  /-- Outer words corrected (R209). -/
  outerWords : Nat
  /-- Outer bits corrected (R209). -/
  outerBits : Nat
  /-- Blocks with POISON (R209). -/
  poison : Nat
  /-- Bits corrected (R209). -/
  corrected : Nat
  /-- Iterations done (R209). -/
  iterations : Nat
  /-- Bit iterations borrowed and lent (R212). -/
  borrowed : Nat
  lent : Nat
  /-- Windows with SD (R209). -/
  sdWindows : Nat
  /-- Windows with SF (R209). -/
  sfWindows : Nat
deriving DecidableEq, Repr

/-- A threshold pair (R205). -/
structure FecThr where
  /-- SD threshold (R205, R208). -/
  sd : Nat
  /-- SF threshold (R205, R208). -/
  sf : Nat
deriving DecidableEq, Repr

/-- What the pool keeps per engine (R203 to R212). -/
structure FecEngine where
  /-- Thresholds of Skeon and oFEC, as set and in force from the next window (R205, R208). -/
  skeon : FecThr
  ofec : FecThr
  skeonNext : FecThr
  ofecNext : FecThr
  /-- FEC_BER (R203, R212). -/
  ber : Nat
  /-- SD (R205, R212). -/
  sd : Bool
  /-- SF (R205, R212). -/
  sf : Bool
  /-- SAT (R203, R212). -/
  sat : Bool
  /-- NO_BLOCKS (R203, R212). -/
  noBlocks : Bool
  /-- The running window: blocks, coded bits, corrected bits, UNCORR blocks (R203). -/
  winBlocks : Nat
  winBits : Nat
  winCorrected : Nat
  winUncorr : Nat
  /-- Injected error rate (R208). -/
  inject : Nat
  /-- Counts of the running second (R209). -/
  live : FecStats
  /-- Counts of the last latched second (R209). -/
  last : FecStats
deriving DecidableEq, Repr

/-- One iteration of the last 10 µs (R197, R212): when it ended (ps), its engine, its bits, and those within the engine's share. -/
structure PoolUse where
  /-- When it ended, ps (R197). -/
  ps : Nat
  /-- Engine of the block (R197). -/
  engine : Nat
  /-- Bits of the iteration (R188, R197). -/
  bits : Nat
  /-- Those within the engine's share (R212). -/
  own : Nat
deriving DecidableEq, Repr

/-- The pool (R182 to R212). -/
structure Fec where
  /-- DC 0 to 47 (R182). -/
  cores : Vector Core 48
  /-- POWERED (R206, R212). -/
  powered : Bool
  /-- OVERLOAD (R198, R212). -/
  overload : Bool
  /-- Blocks with POISON since OVERLOAD set (R198, R211). -/
  overloadPoison : Nat
  /-- FEC_CFG as set, and the ceiling and reserve in force from the next code block (R194, R196). -/
  ceilCfg : Nat
  ceilUse : Nat
  windowCfg : Nat
  windowUse : Nat
  reserve : Nat
  reserveUse : Nat
  /-- The throttle limit of step 2 (R194). -/
  thmLimit : Nat
  /-- FEC_CEILING_CHANGED: the last value reported, and a pacing interval running (R211). -/
  reported : Nat
  pacing : Bool
  /-- Code blocks in the pool (R190). -/
  blocks : List CodeBlock
  /-- The model's own: number of the next block. -/
  nextBlock : Nat
  /-- Iterations of the last 10 µs (R197, R212). -/
  uses : List PoolUse
  /-- What the pool keeps per engine (R203 to R212). -/
  engines : Vector FecEngine 2
  /-- The second that `last` covers (R209). -/
  lastSecond : Nat
deriving DecidableEq, Repr

def FecStats.zero : FecStats := ⟨0, List.replicate 25 0, 0, 0, 0, 0, 0, 0, 0, 0, 0, 0, 0, 0⟩
def Core.reset : Core := ⟨false, false, false, 0, none, false, false⟩

/-- Threshold defaults (R205). -/
def FecEngine.reset : FecEngine where
  skeon := ⟨18000000, 36000000⟩
  ofec := ⟨10000000, 20000000⟩
  skeonNext := ⟨18000000, 36000000⟩
  ofecNext := ⟨10000000, 20000000⟩
  ber := 0
  sd := false
  sf := false
  sat := false
  noBlocks := false
  winBlocks := 0
  winBits := 0
  winCorrected := 0
  winUncorr := 0
  inject := 0
  live := FecStats.zero
  last := FecStats.zero

/-- The pool at reset (R212: FEC_CFG 0x0000_010C). -/
def Fec.reset : Fec where
  cores := Vector.replicate 48 Core.reset
  powered := false
  overload := false
  overloadPoison := 0
  ceilCfg := 12
  ceilUse := 12
  windowCfg := 1
  windowUse := 1
  reserve := 0
  reserveUse := 0
  thmLimit := 24
  reported := 0
  pacing := false
  blocks := []
  nextBlock := 0
  uses := []
  engines := Vector.replicate 2 FecEngine.reset
  lastSecond := 0

end Sys2Proof.Machine
end

