-- ==== Sys2Proof/Machine/FrmState.lean ====
section
/-! DEFINITION. State of the framer, its defects and the performance history (chapter 08). -/

namespace Sys2Proof.Machine

/-- Alignment states (R217, R244). -/
inductive Align where
  | hunt | confirm | sync | off
deriving DecidableEq, Repr

/-- The aligner of an engine, a FlexO stream or an OTU4 client (R217 to R219). -/
structure Aligner where
  /-- ALIGN (R217, R244). -/
  state : Align
  /-- The candidate, or the alignment: a bit of the frame (R217). -/
  pos : Nat
  /-- In multiframe (R219). -/
  im : Bool
  /-- Consecutive frames with FAS errors (R217). -/
  badFas : Nat
  /-- Last multiframe value (R219). -/
  lastMfas : Option Nat
  /-- Consecutive frames whose multiframe value is not the expected one. -/
  badMfas : Nat
  /-- SYNC has been reached since the last restart (R223, code 1). -/
  synced : Bool
deriving DecidableEq, Repr

/-- A condition that turns on or off after n consecutive frames (R223). -/
structure Run where
  /-- The condition is on (R223). -/
  on : Bool
  /-- Consecutive frames that disagree (R223). -/
  count : Nat
deriving DecidableEq, Repr

/-- A value accepted after three identical multiframes (R220, R222). -/
structure Accept (α : Type) where
  last : Option α
  run : Nat
  value : Option α
deriving DecidableEq, Repr

/-- Trail trace configuration of a layer (R220). -/
structure TtiCfg where
  /-- Comparison mode (R220). -/
  mode : Nat
  /-- TIM_ACT (R220). -/
  timAct : Bool
  /-- Transmitted trace (R220). -/
  tx : List Byte
  /-- Expected trace (R220). -/
  exp : List Byte
deriving DecidableEq, Repr

/-- What the framer has seen of one layer (R220 to R223, R225). -/
structure Layer where
  /-- Accepted and candidate trace (R220). -/
  tti : Accept (List Byte)
  /-- Accepted and candidate payload type (R222). -/
  pt : Accept Nat
  /-- Accepted and candidate multiplex structure (R222). -/
  msi : Accept (List (Option (Nat × Nat)))
  /-- BDI (R223). -/
  bdi : Run
  /-- BIAE (R221, R223). -/
  biae : Run
  /-- AIS (R223). -/
  ais : Run
  /-- OCI (R223). -/
  oci : Run
  /-- LCK (R223). -/
  lck : Run
  /-- dDEG: the condition, and consecutive bad and good seconds (R225). -/
  deg : Bool
  degBad : Nat
  degGood : Nat
deriving DecidableEq, Repr

/-- Configuration of a unit (R224, R225, R227, R240): integration times by defect code, both TTI layers, options. -/
structure UnitCfg where
  /-- SET and CLEAR times by defect code where changed (R224, R240). -/
  times : List (Nat × (Nat × Nat))
  /-- Trail trace settings of the section layer (R220). -/
  sm : TtiCfg
  /-- Trail trace settings of the path layer (R220). -/
  pm : TtiCfg
  /-- FRM_CA_CFG (R227, R244). -/
  ca : Nat
deriving DecidableEq, Repr

/-- Native counts of the running second (R230). -/
structure FrmCounts where
  /-- FAS bit errors (R230). -/
  fasErr : Nat
  /-- False FAS candidates (R230). -/
  falseCand : Nat
  /-- Losses of alignment (R230). -/
  oof : Nat
  /-- Section blocks (R230). -/
  smBlocks : Nat
  /-- Section BIP-8 errors (R230). -/
  smBip : Nat
  /-- Section BEI (R230). -/
  smBei : Nat
  /-- Path blocks (R230). -/
  pmBlocks : Nat
  /-- Path BIP-8 errors (R230). -/
  pmBip : Nat
  /-- Path BEI (R230). -/
  pmBei : Nat
  /-- Uncorrectable code words (R230). -/
  uncorr : Nat
  /-- Fill errors (R230). -/
  fillErr : Nat
  /-- RS symbols corrected (R230). -/
  rsCorr : Nat
  /-- RS words uncorrectable (R230). -/
  rsUncorr : Nat
deriving DecidableEq, Repr

/-- The APS/PCC bytes of a protection tributary's overhead, all false and 0 from a unidirectional group (R261). -/
structure PccOut where
  /-- Bidirectional 1+1 switching (R261). -/
  bidir : Bool
  /-- The rank of the local request (R257, R261). -/
  rank : Nat
  /-- The requested signal is protection (R261). -/
  protection : Bool
  /-- The bridged signal is protection (R261). -/
  bridged : Bool
deriving DecidableEq, Repr

/-- The overhead a unit transmits from its last frame boundary on (R220, R221, R227, R240, R249, R261). -/
structure TxOverhead where
  /-- Section trace (R220). -/
  smTti : List Byte
  /-- Path trace (R220). -/
  pmTti : List Byte
  /-- Section BDI (R227, R240). -/
  smBdi : Bool
  /-- Path BDI (R227, R240). -/
  pmBdi : Bool
  /-- Section BEI or BIAE of each slice; of a tributary, its path BEI (R221). -/
  smBei : List Nat
  /-- Path BEI of each slice (R221). -/
  pmBei : List Nat
  /-- STAT of the path layer (R222, R240, R255). -/
  stat : Nat
  /-- Payload type (R222). -/
  pt : Nat
  /-- MSI of an engine: container and tributary port of each slot (R249). -/
  msi : List (Option (Nat × Nat))
  /-- Frames per million sent with BIP errors (R240). -/
  bipErrors : Nat
  /-- APS/PCC of a protection tributary (R261). -/
  pcc : PccOut
  /-- APS/PCC in the copy of a working tributary's ODU that the peer link carries to the other device (R261, R368). -/
  peerPcc : PccOut
  /-- APS/PCC bytes of a protection tributary sent for the other device, as its ODU brought them (R261, R368). -/
  pccCarried : List Byte
deriving DecidableEq, Repr

/-- A unit of the framer: an engine, a tributary or a client interface (R213, R223). -/
structure FrmUnit where
  /-- The aligner of its OTUCn or OTU4 stream (R217). -/
  align : Aligner
  /-- The aligners of the FlexO instances that carry it: LP5, LP6 and FlexO interfaces (R213, R216). -/
  flexo : List Aligner
  /-- What a CIF carries, 0 not OTN, 1 OTU4, 2 FlexO, and loss of signal on its lanes (R223, R244). -/
  otn : Nat
  /-- Loss of signal on its lanes (R223). -/
  los : Bool
  /-- The section layer (R220 to R223). -/
  sm : Layer
  /-- The path layer (R220 to R223). -/
  pm : Layer
  /-- Accepted and candidate FlexO group identifier (R223). -/
  gid : Accept Nat
  /-- OTU-AIS received (R223). -/
  otuAis : Bool
  /-- dAUTH and dCPHF as the cipher engine raises them (R223). -/
  auth : Bool
  /-- dCPHF as the cipher engine raises it (R223). -/
  cphf : Bool
  /-- Consecutive windows with the SD and SF bits set or clear (R224). -/
  sdRun : Run
  sfRun : Run
  /-- Declared defects (R224, R244). -/
  declared : BitVec 21
  /-- Defects seen in this second (R230). -/
  defSec : BitVec 21
  /-- FRM_DEFECT_CHANGED: bits changed since the last event, and a pacing interval running (R243). -/
  changed : BitVec 21
  pacing : Bool
  /-- dLOF and dLOM declared at datapath power-up hold until their CLEAR times, whatever masks them (R236). -/
  starting : Bool
  /-- Settings as written (R240). -/
  cfg : UnitCfg
  /-- Settings in force from the last frame boundary (R240). -/
  force : UnitCfg
  /-- Frames for which BIAE is still to be returned (R221). -/
  biaeLeft : Nat
  /-- BEI of the next transmit frame: of the SM slices, or of a tributary (R221). -/
  beiOut : List Nat
  /-- BEI of the ODUCn PM slices of the next transmit frame of an engine (R221). -/
  pmBeiOut : List Nat
  /-- Maintenance insertions: action and errored frames per million (R240). -/
  inserts : List (Nat × Nat)
  /-- The overhead it transmits (R220, R221, R240, R249, R261). -/
  tx : TxOverhead
  /-- Counts of the running second (R230). -/
  live : FrmCounts
deriving DecidableEq, Repr

/-- Errors of one direction of a second (R232). -/
structure Errors where
  /-- Background block errors (R232). -/
  bbe : Nat
  /-- Errored seconds (R232). -/
  es : Nat
  /-- Severely errored seconds (R232). -/
  ses : Nat
  /-- Unavailable seconds (R232). -/
  uas : Nat
deriving DecidableEq, Repr

/-- One evaluated second of a unit (R232). -/
structure SecEval where
  /-- Near end (R232). -/
  near : Errors
  /-- Far end (R232). -/
  far : Errors
deriving DecidableEq, Repr

/-- What a latched second holds of a unit (R232): blocks, errored blocks of both directions, defect-second facts. -/
structure SecFacts where
  /-- Blocks (R232). -/
  blocks : Nat
  /-- Errored blocks, near end (R232). -/
  near : Nat
  /-- Errored blocks, far end (R232). -/
  far : Nat
  /-- Defect second, near end (R231). -/
  nearDefect : Bool
  /-- Defect second, far end (R231). -/
  farDefect : Bool
deriving DecidableEq, Repr

/-- A latched second waiting to be committed (R233): its label, IRREG, and each unit's facts. -/
structure PmSecond where
  /-- The second's label (R233). -/
  label : Nat
  /-- IRREG (R99, R233). -/
  irreg : Bool
  /-- Its 15-minute bin was closed by a forward step before it was committed (R239). -/
  past15 : Bool
  /-- Its 24-hour bin was closed by a forward step before it was committed (R239). -/
  past24 : Bool
  /-- Facts by record (R232). -/
  units : List (Nat × SecFacts)
deriving DecidableEq, Repr

/-- A history bin (R234, R241, R242); `alerted` has one bit per counter already reported by FRM_TCA (R235). -/
structure Bin where
  /-- The bin has been opened (R241). -/
  valid : Bool
  /-- SUSPECT (R234). -/
  suspect : Bool
  /-- Start time (R241). -/
  start : Nat
  /-- Seconds counted (R241). -/
  seconds : Nat
  /-- Near-end counts (R232). -/
  near : Errors
  /-- Far-end counts (R232). -/
  far : Errors
  /-- The near end was unavailable at its end (R241). -/
  nearUnavail : Bool
  /-- The far end was unavailable at its end (R241). -/
  farUnavail : Bool
  /-- Counters reported by FRM_TCA (R235). -/
  alerted : Nat
deriving DecidableEq, Repr

/-- The record of one monitored unit (R232 to R234). -/
structure PmUnit where
  /-- Near end unavailable (R232). -/
  nearUnavail : Bool
  /-- Far end unavailable (R232). -/
  farUnavail : Bool
  /-- Current 15-minute bin (R234). -/
  cur15 : Bin
  /-- Previous 15-minute bins, newest first, at most 16 (R234). -/
  prev15 : List Bin
  /-- Current 24-hour bin (R234). -/
  cur24 : Bin
  /-- Previous 24-hour bin (R234). -/
  prev24 : Bin
deriving DecidableEq, Repr

/-- The framer (R213 to R245). Units are keyed by scope × 256 + unit: 0 engine, 1 tributary, 2 CIF; history records by
kind × 256 + unit: 0 engine SM, 1 engine PM, 2 tributary PM, 3 CIF SM. -/
structure Frm where
  /-- Units, by scope × 256 + unit (R213). -/
  units : List (Nat × FrmUnit)
  /-- SES_THR in per cent (R232, R244). -/
  sesThr : Nat
  /-- DAY_OFFSET (R234, R244). -/
  dayOffset : Nat
  /-- The seconds latched and not yet committed, oldest first (R233). -/
  waiting : List PmSecond
  /-- Starts of the current bins, once they are open (R234). -/
  start15 : Option Nat
  /-- Start of the current 24-hour bin (R234). -/
  start24 : Option Nat
  /-- The second in which the datapaths powered up or device time stepped into another bin: a bin that contains it is SUSPECT (R237,
  R239, R242). -/
  since : Nat
  /-- History records, by kind × 256 + unit (R232). -/
  pm : List (Nat × PmUnit)
  /-- FRM_TCA thresholds by kind × 2 + period (R235). -/
  tca : List (Nat × List Nat)
  /-- FRM_PM_SEL as kept and FRM_PM_DATA0 to 13 (R245). -/
  sel : Word
  /-- FRM_PM_DATA0 to 13 (R245). -/
  selData : List Byte
deriving DecidableEq, Repr

def Accept.empty {α : Type} : Accept α := ⟨none, 0, none⟩
def Run.off : Run := ⟨false, 0⟩
def TtiCfg.reset : TtiCfg := ⟨0, false, List.replicate 64 0, List.replicate 64 0⟩
def Layer.reset : Layer :=
  ⟨Accept.empty, Accept.empty, Accept.empty, Run.off, Run.off, Run.off, Run.off, Run.off, false, 0, 0⟩
def Aligner.off : Aligner := ⟨.off, 0, false, 0, none, 0, false⟩
def PccOut.zero : PccOut := ⟨false, 0, false, false⟩
def TxOverhead.none : TxOverhead := ⟨[], [], false, false, [], [], 0, 0, [], 0, PccOut.zero, PccOut.zero, []⟩
def FrmCounts.zero : FrmCounts := ⟨0, 0, 0, 0, 0, 0, 0, 0, 0, 0, 0, 0, 0⟩
def UnitCfg.reset : UnitCfg := ⟨[], TtiCfg.reset, TtiCfg.reset, 6⟩
def Errors.zero : Errors := ⟨0, 0, 0, 0⟩
def Bin.never : Bin := ⟨false, false, 0, 0, Errors.zero, Errors.zero, false, false, 0⟩
def PmUnit.reset : PmUnit := ⟨false, false, Bin.never, [], Bin.never, Bin.never⟩

/-- A unit at reset (R236, R244): OFF, no defect, FRM_CA_CFG 6. -/
def FrmUnit.reset : FrmUnit where
  align := Aligner.off
  flexo := []
  otn := 0
  los := false
  sm := Layer.reset
  pm := Layer.reset
  gid := Accept.empty
  otuAis := false
  auth := false
  cphf := false
  sdRun := Run.off
  sfRun := Run.off
  declared := 0
  defSec := 0
  changed := 0
  pacing := false
  starting := false
  cfg := UnitCfg.reset
  force := UnitCfg.reset
  biaeLeft := 0
  beiOut := []
  pmBeiOut := []
  inserts := []
  tx := TxOverhead.none
  live := FrmCounts.zero

/-- The framer at reset (R232, R244). -/
def Frm.reset : Frm where
  units := []
  sesThr := 15
  dayOffset := 0
  waiting := []
  start15 := none
  start24 := none
  since := 0
  pm := []
  tca := []
  sel := 0
  selData := List.replicate 56 0

end Sys2Proof.Machine
end

