-- ==== Sys2Proof/Machine/HifState.lean ====
section
/-! DEFINITION. State of the host interface (chapter 03): queues, events, leases, management port. -/

namespace Sys2Proof.Machine

/-- The status codes of every command (R70). -/
inductive Status where
  | ok | deferred | badOpcode | badLength | badParam | badState | leased | busy | noResource
  | integrity | denied | tempWindow | timeout | aborted | partly
deriving DecidableEq, Repr

/-- A completion entry as written into a completion ring (R65). -/
structure CqEntry where
  /-- TAG of the command (R65). -/
  tag : Half
  /-- Index of its submission entry (R65). -/
  sqIndex : Nat
  /-- STATUS (R65, R70). -/
  status : Status
  /-- PHASE (R65). -/
  phase : Bool
  /-- A response was written (R65, R66). -/
  respWritten : Bool
  /-- The response was cut to RESP_MAX (R66). -/
  truncated : Bool
  /-- RESP_LEN (R65). -/
  respLen : Nat
  /-- SQ_HEAD (R65). -/
  sqHead : Nat
  /-- The command carried SUPPRESS_IRQ (R61); it is no byte of the entry. -/
  suppressIrq : Bool
  /-- The response bytes written to host memory before the entry, and where (R64, R66); no byte of the entry. -/
  resp : Option (Nat × List Byte)
deriving DecidableEq, Repr

/-- An entry that a fence holds back: opcode and packet, or none that could not be read, with the stamp of its fetch and device
time then (R66, R67, R78). -/
structure HeldEntry where
  /-- Opcode and packet, or none that could not be read (R66). -/
  entry : Option (Nat × Packet)
  /-- Arrival stamp (R78). -/
  arrival : Nat
  /-- Device time at the stamp (R78, R98). -/
  tod : Nat
deriving DecidableEq, Repr

/-- A queue pair (R62 to R68). -/
structure QueuePair where
  /-- The queue pair exists and is enabled (R62, R88). -/
  enabled : Bool
  /-- IRQ_EN (R61, R88). -/
  irqEn : Bool
  /-- Submission ring base (R62, R64). -/
  sqBase : Long
  /-- Completion ring base (R62, R65). -/
  cqBase : Long
  /-- Submission ring entries (R62). -/
  sqSize : Nat
  /-- Completion ring entries (R62). -/
  cqSize : Nat
  /-- Next submission entry the device serves, and the tail the host last rang (R63, R67). -/
  sqHead : Nat
  sqTail : Nat
  /-- Next completion slot the device writes, the host's head, and the phase (R65, R68). -/
  cqTail : Nat
  cqHead : Nat
  cqPhase : Bool
  /-- Completion entries held while the ring is full (R68). -/
  held : List CqEntry
  /-- Its completion ring is full: none of its commands starts (R68). -/
  stalled : Bool
  /-- The completion ring as the device has written it, by slot index. -/
  ring : List (Nat × CqEntry)
  /-- Entries met and not started, for a FENCE still waits before them (R66, R67). -/
  waiting : List HeldEntry
deriving DecidableEq, Repr

/-- A queue pair that is absent (R91: reset values zero). -/
def QueuePair.absent : QueuePair where
  enabled := false
  irqEn := false
  sqBase := 0
  cqBase := 0
  sqSize := 0
  cqSize := 0
  sqHead := 0
  sqTail := 0
  cqTail := 0
  cqHead := 0
  cqPhase := true
  held := []
  stalled := false
  ring := []
  waiting := []

/-- An event record (R75). -/
structure Event where
  /-- Event group (R75). -/
  group : Nat
  /-- Event code (R75). -/
  code : Nat
  /-- Payload (R75). -/
  payload : List Byte
  /-- It completes a DEFERRED command (R72, R75). -/
  completion : Bool
  /-- EVENT_SEQ (R75). -/
  seq : Nat
  /-- SECONDS of device time (R75). -/
  seconds : Nat
  /-- NANOSECONDS (R75). -/
  nanoseconds : Nat
  /-- FRACTION (R75). -/
  fraction : Nat
  /-- TAG of the command completed (R75). -/
  tag : Half
  /-- Channel of the command, 0xFF for the device (R75). -/
  channel : Nat
  /-- STATUS of the completion (R75). -/
  status : Status
deriving DecidableEq, Repr

/-- The event ring (R75, R76). -/
structure EventRing where
  /-- Ring base in host memory (R75, R91). -/
  base : Long
  /-- Entries (R75, R91). -/
  size : Nat
  /-- EQ_EN (R91). -/
  enabled : Bool
  /-- Host's head (R76). -/
  head : Nat
  /-- Next slot the device writes (R76). -/
  tail : Nat
  /-- PHASE of the next record (R75). -/
  phase : Bool
  /-- Events dropped since the last HIF_EVENTS_LOST, and the first of them (R76). -/
  lostRun : Nat
  firstLost : Nat
  /-- HIF_EQ_LOST (R91). -/
  lost : Nat
  /-- The ring as written: slot index to record and phase. -/
  ring : List (Nat × (Bool × Event))
deriving DecidableEq, Repr

/-- A lease (R81): identifier, group mask, and the arrival count at which it expires (R84). -/
structure Lease where
  /-- LEASE_ID (R81). -/
  id : Word
  /-- Groups leased (R81). -/
  mask : Half
  /-- Arrival count at which it expires (R84). -/
  expiry : Nat
deriving DecidableEq, Repr

/-- A DEFERRED command not yet complete (R72): who sent it, and the event that completes it. -/
structure Deferred where
  /-- Channel of the command (R72, R78). -/
  chan : Nat
  /-- TAG of the command (R72). -/
  tag : Half
  /-- Opcode (R72). -/
  opcode : Nat
  /-- Unit it works on (R72). -/
  unit : Nat
  /-- Group of the completing event (R72). -/
  group : Nat
  /-- Code of the completing event (R72). -/
  code : Nat
  /-- The payload its completion event carries if it is aborted (R73). -/
  abortPayload : List Byte
  /-- Its completion event is discarded: the host interface was reset (R60). -/
  discard : Bool
deriving DecidableEq, Repr

/-- A command that has started and has not answered yet (pass-through transfers R88, HKA_INJECT). -/
structure InFlight where
  /-- Channel (R78). -/
  chan : Nat
  /-- TAG (R69). -/
  tag : Half
  /-- Opcode (R69). -/
  opcode : Nat
  /-- FLAGS (R69). -/
  flags : Byte
  /-- SEQ (R69). -/
  seq : Word
  /-- The model's key of the command. -/
  key : Nat
  /-- Submission index (R65). -/
  sqIndex : Nat
  /-- RESP_MAX (R64). -/
  respMax : Word
  /-- Response address (R64). -/
  respAddr : Long
  /-- Arrival stamp (R78). -/
  arrival : Nat
  /-- Its answer is discarded (R60, R73). -/
  discard : Bool
deriving DecidableEq, Repr

/-- A queued pass-through transfer (R88): master 0 SPI 0, 1 SPI 1, 2 I2C. -/
structure Transfer where
  /-- The model's key of the command. -/
  key : Nat
  /-- 0 SPI 0, 1 SPI 1, 2 I2C (R88). -/
  master : Nat
  /-- Bytes to write (R88). -/
  writeLen : Nat
  /-- Bytes to read (R88). -/
  readLen : Nat
  /-- Parameters of the command (R88). -/
  params : List Byte
deriving DecidableEq, Repr

/-- The management port (R85 to R87). -/
structure MgmtPort where
  /-- HIF_MGMT_STATUS.STATE (R91): 0 idle, 1 executing, 2 response ready. -/
  state : Nat
  /-- OVERRUN (R86, R91). -/
  overrun : Bool
  /-- The response packet kept until the next accepted write. -/
  kept : List Byte
  /-- SEQ and CRC of the last executed packet. -/
  last : Option (Word × Word)
  /-- SEQ and CRC of the packet now taken (to become `last` when it has executed). -/
  current : Option (Word × Word)
  /-- The BMC event buffer, oldest first (R87). -/
  buffer : List Event
  /-- Records overwritten in the buffer (R87). -/
  overwritten : Nat
  /-- The bytes the last transaction returned on the bus, and whether it was NACKed. -/
  busOut : List Byte
  /-- The last transaction was NACKed (R85). -/
  nacked : Bool
deriving DecidableEq, Repr

/-- The host interface (R57 to R91). -/
structure Hif where
  /-- The PCIe link (R57, R58, R91): generation 0 when down, width in lanes. -/
  linkGen : Nat
  /-- Link width in lanes, 0 when down (R57, R91). -/
  linkWidth : Nat
  /-- D3hot (R59) and PCIE_PERST_N low (R60). -/
  d3hot : Bool
  /-- PCIE_PERST_N is low (R60). -/
  perstLow : Bool
  /-- Queue pairs 0 to 15. Pair 0's bases and sizes are the HIF_Q0_* registers (R91). -/
  queues : Vector QueuePair 16
  /-- HIF_Q0_SQ_BASE (R91). -/
  q0SqBase : Long
  /-- HIF_Q0_CQ_BASE (R91). -/
  q0CqBase : Long
  /-- HIF_Q0_SIZE, submission (R91). -/
  q0SqSize : Half
  /-- HIF_Q0_SIZE, completion (R91). -/
  q0CqSize : Half
  /-- HIF_CTRL (R91). -/
  q0En : Bool
  /-- HIF_CTRL.EQ_EN (R91). -/
  eqEn : Bool
  /-- HIF_STATUS.CFG_ERR_Q0 and CFG_ERR_EQ (R62, R91). -/
  cfgErrQ0 : Bool
  cfgErrEq : Bool
  /-- HIF_EQ_BASE (R91). -/
  eqBaseReg : Long
  /-- HIF_EQ_SIZE (R91). -/
  eqSizeReg : Half
  /-- The event ring (R75, R76). -/
  events : EventRing
  /-- EVENT_SEQ of the next event (R75). -/
  eventSeq : BitVec 32
  /-- HIF_EVT_MASK (R77). -/
  evtMask : Half
  /-- HIF_ERR_CNT (R91): BAD_ACCESS, BAD_DB, BAD_FETCH, BAD_CRC. -/
  badAccess : Nat
  badDb : Nat
  badFetch : Nat
  badCrc : Nat
  /-- Leases in force, at most 8 (R81). -/
  leases : List Lease
  /-- DEFERRED commands not yet complete, at most 64 (R72). -/
  deferred : List Deferred
  /-- Commands started and not answered (R72, R88, R398). -/
  inflight : List InFlight
  /-- Pass-through transfers queued, oldest first (R88). -/
  transfers : List Transfer
  /-- The model's own: the key of the next command in flight. -/
  nextKey : Nat
  /-- The management port (R85 to R87). -/
  mgmt : MgmtPort
  /-- TAG and channel of the command whose effect is being taken, for the events it originates (R75). -/
  origin : Option (Half × Nat)
  /-- The stamp, and device time at it, of the entry behind a fence that is starting now (R78). -/
  stamped : Option (Nat × Nat)
  /-- HIF_ARRIVAL_HI as latched (R91). -/
  arrivalHi : Word
  /-- MSI-X: one mask bit and one pending bit per vector, and messages sent (R61, R63). -/
  msixMask : BitVec 64
  /-- The other words of the MSI-X table: address low, address high and data of each vector (R63). -/
  msixTable : Vector Word 192
  /-- MSI-X pending bits (R61, R63). -/
  msixPending : BitVec 64
  /-- MSI-X messages sent per vector (R61). -/
  msixSent : Vector Nat 64
  /-- Responses and data the device has written into host memory, by host address. -/
  hostWrites : List (Nat × List Byte)
deriving DecidableEq, Repr

/-- The host interface at reset (R91; MSI-X per PCIe, log 4). -/
def Hif.reset : Hif where
  linkGen := 0
  linkWidth := 0
  d3hot := false
  perstLow := false
  queues := Vector.replicate 16 QueuePair.absent
  q0SqBase := 0
  q0CqBase := 0
  q0SqSize := 0
  q0CqSize := 0
  q0En := false
  eqEn := false
  cfgErrQ0 := false
  cfgErrEq := false
  eqBaseReg := 0
  eqSizeReg := 0
  events := ⟨0, 0, false, 0, 0, true, 0, 0, 0, []⟩
  eventSeq := 0
  evtMask := 0
  badAccess := 0
  badDb := 0
  badFetch := 0
  badCrc := 0
  leases := []
  deferred := []
  inflight := []
  transfers := []
  nextKey := 0
  mgmt := ⟨0, false, [], none, none, [], 0, [], false⟩
  origin := none
  stamped := none
  arrivalHi := 0
  msixMask := BitVec.allOnes 64
  msixTable := Vector.replicate 192 0
  msixPending := 0
  msixSent := Vector.replicate 64 0
  hostWrites := []

end Sys2Proof.Machine
end

