-- ==== Sys2Proof/Machine/MiState.lean ====
section
/-! DEFINITION. State of memory integrity: counters, poisoned rows, patrol, scrubs, cinder list and flips (chapter 15). -/

namespace Sys2Proof.Machine

/-- An entry of the cinder list (R449, R457). -/
structure Cinder where
  /-- Class (R449). -/
  cls : Nat
  /-- 0 row, 1 tile, 2 bank. -/
  kind : Nat
  /-- Instance (R449). -/
  inst : Nat
  /-- Row, tile or bank (R449). -/
  addr : Nat
  /-- When (R457). -/
  seconds : Nat
  /-- Cause (R457). -/
  cause : Nat
  /-- PERSISTED (R449). -/
  persisted : Bool
deriving DecidableEq, Repr

/-- A range scrub in progress (R447, R458) with its running counts. -/
structure Scrub where
  /-- Instance (R458). -/
  inst : Nat
  /-- First row (R458). -/
  first : Nat
  /-- Rows (R458). -/
  count : Nat
  /-- Model time of the start. -/
  startPs : Nat
  /-- Rows corrected (R458). -/
  corrected : Nat
  /-- Errors found (R458). -/
  fresh : Nat
  /-- Rows retired (R458). -/
  retired : Nat
deriving DecidableEq, Repr

/-- One memory class (R438, R459). -/
structure MemClass where
  /-- Correctable errors (R459). -/
  ceCnt : Nat
  /-- Uncorrectable errors (R459). -/
  ueCnt : Nat
  /-- Rows poisoned now, by instance and row, and those whose rebuild is awaited. -/
  poisoned : List (Nat × Nat)
  /-- Rows known to have been written since the memory powered up, VALID 1, by instance and row; those of class 3 by tile (R440). -/
  valid : List (Nat × Nat)
  /-- Spare rows used, by instance (R451). -/
  sparesUsed : List (Nat × Nat)
  /-- Instance of the patrol (R445). -/
  patrolInst : Nat
  /-- Row of the patrol (R445, R459). -/
  patrolPos : Nat
  /-- A sweep has completed (R445). -/
  swept : Bool
  /-- Hours since the last complete sweep (R445, R459). -/
  sweepAge : Nat
  /-- The range scrub in progress (R447). -/
  range : Option Scrub
  /-- Mode 1 flips not yet consumed, by instance and row (R453). -/
  flips : List (Nat × Nat)
  /-- Correctable errors of the running second and the first of them (R456). -/
  ceSecond : Nat
  /-- Instance of the first of them (R456). -/
  ceInst : Nat
  /-- Row of the first of them (R456). -/
  ceRow : Nat
  /-- Correctable errors since the last daily summary (R456). -/
  ceDay : Nat
  /-- Logbook records of this hour, and uncorrectable errors beyond the limit (R456). -/
  logHour : Nat
  /-- Uncorrectable errors beyond the Logbook limit of the hour (R456). -/
  logOver : Nat
deriving DecidableEq, Repr

/-- Memory integrity (R438 to R459). -/
structure Mi where
  /-- Datapath memories powered: 0 none, 1 converters and DSP, 2 all (R30, R455). -/
  power : Nat
  /-- Classes 0 to 13 (R438). -/
  classes : Vector MemClass 14
  /-- Patrol period in hours (R445, R459). -/
  periodH : Nat
  /-- Reads of rows never written (R440, R459). -/
  unwrittenRd : Nat
  /-- Reads of poisoned rows (R438, R459). -/
  poisonRd : Nat
  /-- The cinder list, at most 8,192 entries (R449). -/
  cinders : List Cinder
  /-- The list is full (R449, R459). -/
  cinderFull : Bool
  /-- MI_LAST_UE: class (R459). -/
  lastClass : Nat
  /-- MI_LAST_UE: instance (R459). -/
  lastInst : Nat
  /-- MI_LAST_UE.INJECTED (R453, R459). -/
  lastInjected : Bool
  /-- MI_LAST_UE_ROW (R459). -/
  lastRow : Nat
  /-- MI_LAST_UE_SEC (R459). -/
  lastSec : Nat
  /-- MI_LAST_UE_NS (R459). -/
  lastNs : Nat
  /-- Classes whose checker has failed (R452, R459). -/
  checkerFault : BitVec 14
  /-- Events of this second and those suppressed since the last (R456). -/
  ueSecond : Nat
  /-- Events suppressed since the last (R456). -/
  suppressed : Nat
  /-- Mode 2 flips: tiles still to be flipped, by egress port (R454). -/
  tileFlips : List (Nat × Nat)
  /-- Tiles of the Woodpile whose rows have VALID 1 (R440, R450). -/
  tiles : List Nat
  /-- An AC code page being reloaded: its first row (R444). -/
  reloading : Option Nat
  /-- Poisoned rows whose unit is being rebuilt: what they hold, and class, instance and row (R438, R444). -/
  awaiting : List (UeTarget × (Nat × (Nat × Nat)))
deriving DecidableEq, Repr

def MemClass.reset : MemClass := ⟨0, 0, [], [], [], 0, 0, false, 0, none, [], 0, 0, 0, 0, 0, 0⟩

/-- Reset (R459: PERIOD_H 24). -/
def Mi.reset : Mi where
  power := 0
  classes := Vector.replicate 14 MemClass.reset
  periodH := 24
  unwrittenRd := 0
  poisonRd := 0
  cinders := []
  cinderFull := false
  lastClass := 0
  lastInst := 0
  lastInjected := false
  lastRow := 0
  lastSec := 0
  lastNs := 0
  checkerFault := 0
  ueSecond := 0
  suppressed := 0
  tileFlips := []
  tiles := []
  reloading := none
  awaiting := []

end Sys2Proof.Machine
end

