-- ==== Sys2Proof/Machine/LogState.lean ====
section
/-! DEFINITION. State of the Logbook, the life counters, ageing and the margin plan (chapter 16). -/

namespace Sys2Proof.Machine

/-- The retention class of a record (R464). -/
inductive Retention where
  | state | life | rolling
deriving DecidableEq, Repr

/-- The role of a flash block (R460, R461). -/
inductive Role where
  | free | state | event
deriving DecidableEq, Repr

/-- What a STATE record holds, as the device takes it back at Kindling (R463, R464). -/
inductive Kept where
  | none
  | opKeys (keys : List (Option OpKey))
  | cnvUnit (replaced : Option Nat) (spareRetired : Bool) (failed : List Bool)
  | cnvTset (block : TempBlock)
  | dacChar (char : DacChar)
  | fecCores (cores : List (Bool × Bool))
  | keySlot (slot : KeySlot)
  | kcvHist (history : List (List Byte))
  | dctr (ceiling : Nat)
  | cinders (entries : List Cinder)
  | counters (values : List Nat) (orderly : Bool)
  | plan (floor reserve : Nat)
deriving DecidableEq, Repr

/-- A record (R462): its pages' content, what it stands for, and the blocks of its two copies once programmed. -/
structure LogRecord where
  /-- TYPE (R462). -/
  type : Nat
  /-- ITEM (R462). -/
  item : Nat
  /-- Retention class (R464). -/
  retention : Retention
  /-- SEQ (R462). -/
  seq : Nat
  /-- Fragment number (R462). -/
  frag : Nat
  /-- Fragments (R462). -/
  frags : Nat
  /-- TIME_INVALID (R462). -/
  timeInvalid : Bool
  /-- QUEUED (R462). -/
  queued : Bool
  /-- MOVED (R462, R466). -/
  moved : Bool
  /-- INJECTED (R453, R462). -/
  injected : Bool
  /-- SECONDS (R462). -/
  seconds : Nat
  /-- NANOSECONDS (R462). -/
  nanoseconds : Nat
  /-- Life clock (R462). -/
  life : Nat
  /-- PAYLOAD (R462). -/
  payload : List Byte
  /-- What a STATE record stands for, for Kindling. -/
  kept : Kept
  /-- Block of copy A, once programmed (R462). -/
  blockA : Option Nat
  /-- Block of copy B, once programmed (R462). -/
  blockB : Option Nat
deriving DecidableEq, Repr

/-- A flash block (R460, R461, R465, R467). -/
structure FlashBlock where
  /-- Role (R460, R465). -/
  role : Role
  /-- Block sequence number (R461). -/
  seq : Nat
  /-- Erase count (R461). -/
  erases : Nat
  /-- Pages programmed (R465). -/
  pages : Nat
  /-- SECONDS at opening (R461). -/
  openSec : Nat
  /-- TIME_INVALID at opening (R461). -/
  timeInvalid : Bool
  /-- Retired (R467). -/
  retired : Bool
  /-- A reserve block (R460, R467). -/
  reserve : Bool
deriving DecidableEq, Repr

/-- What the flash die is doing (R462, R465). -/
inductive FlashWork where
  | idle
  /-- Program of copy A (false) or B (true) of the record at the front of the queue, into a block. -/
  | program (copyB : Bool) (block : Nat)
  /-- Erase of a block that opens it with a role, or frees it. -/
  | erase (block : Nat) (role : Role)
deriving DecidableEq, Repr

/-- A refresh pass (R471). -/
structure RefreshPass where
  /-- LOG_REFRESH started it (R471). -/
  byCommand : Bool
deriving DecidableEq, Repr

/-- An export in progress (R480). -/
structure Export where
  /-- Host buffer (R480). -/
  address : Nat
  /-- Its length (R480). -/
  bytes : Nat
  /-- First SEQ (R480). -/
  first : Nat
  /-- Type filter (R480). -/
  filter : Nat
  /-- SEQ at its start (R480). -/
  upTo : Nat
deriving DecidableEq, Repr

/-- A margin plan in progress (R477 to R479). -/
structure PlanRun where
  /-- Dry run (R479). -/
  dry : Bool
  /-- LOG_PLAN_RUN started it (R479). -/
  byCommand : Bool
  /-- Service year (R477). -/
  year : Nat
  /-- AVS floor in mV (R478). -/
  floor : Nat
  /-- FEC reserve (R478). -/
  reserve : Nat
  /-- The floor projected for year 15, and whether it exceeds 780 mV. -/
  eol : Nat
  /-- EOL_WARN (R478). -/
  warn : Bool
  /-- Per engine: its profile, the advised one, r and p in 10⁻⁶. -/
  given0 : Nat
  given1 : Nat
  advice0 : Option Nat
  advice1 : Option Nat
  ratio0 : Nat
  ratio1 : Nat
  ahead0 : Nat
  ahead1 : Nat
  /-- SEQ of the PLAN record it waits for. -/
  seq : Nat
deriving DecidableEq, Repr

/-- An action that waits for the commit of a record (R289, R469, R479): the last SEQ, and the command to answer. -/
structure LogWait where
  /-- The last SEQ to be committed. -/
  seq : Nat
  /-- The command to answer. -/
  key : Nat
  /-- Its response. -/
  resp : List Byte
deriving DecidableEq, Repr

/-- Advice for an engine (R483): the profile it was given for, the advised one, and r. -/
structure Advice where
  /-- Advice stands (R483). -/
  valid : Bool
  /-- The profile it was given for (R479). -/
  given : Nat
  /-- The profile advised (R478). -/
  profile : Nat
  /-- r in 10⁻⁶ (R478, R483). -/
  ratio : Nat
deriving DecidableEq, Repr

/-- The Logbook (R460 to R483). -/
structure Log where
  /-- READY (R483). -/
  ready : Bool
  /-- Flash blocks other than free and never used, by number (R460). -/
  blocks : List (Nat × FlashBlock)
  /-- Next block sequence number (R461). -/
  blockSeq : Nat
  /-- Committed live records, oldest first. -/
  records : List LogRecord
  /-- Records created and not yet committed, in SEQ order (R469). -/
  queue : List LogRecord
  /-- What the flash does now (R462, R465). -/
  work : FlashWork
  /-- Deep power-down after a trip (R425). -/
  asleep : Bool
  /-- Next SEQ (R462, R483). -/
  seq : Nat
  /-- LOG_SEQ_HI as latched (R483). -/
  seqHi : Nat
  /-- ROLLING records dropped since Kindling (R469, R483). -/
  dropped : Nat
  /-- Pages programmed in the current 24 h of life clock, and the life second it began (R468). -/
  budgetPages : Nat
  budgetFrom : Nat
  /-- LIFE_SPILL (R466, R483). -/
  lifeSpill : Bool
  /-- SPARES_OUT (R467, R483). -/
  sparesOut : Bool
  /-- Erases since the last wear levelling (R467). -/
  erasesSince : Nat
  /-- The block being compacted (R466). -/
  compacting : Option Nat
  /-- SEQ values discarded from the log (R466, R480). -/
  discarded : Nat
  /-- The refresh pass in progress (R471). -/
  refresh : Option RefreshPass
  /-- Life second of the last refresh pass (R471). -/
  refreshLife : Nat
  /-- SECONDS of the last refresh pass (R471, R483). -/
  refreshSeconds : Nat
  /-- Records rewritten by the last refresh pass (R471, R483). -/
  refreshCount : Nat
  /-- Life counters 0 to 11 (R474) and their latched high words. -/
  life : Vector Nat 12
  /-- Latched high words of the life counters (R483). -/
  lifeHi : List (Nat × Nat)
  /-- Fractions not yet counted: throttle picoseconds, corrected bits, packet bytes. -/
  partThrottle : Nat
  /-- Corrected bits not yet counted (R474). -/
  partCorrected : Nat
  /-- Packet bytes not yet counted (R474). -/
  partBytes : Nat
  /-- UNCLEAN of the running boot (R473). -/
  unclean : Bool
  /-- The newest measurement of the ageing monitors (R475, R481). -/
  shifts : List Int
  /-- SECONDS of that measurement (R481). -/
  shiftSeconds : Nat
  /-- Seconds of the running day in the six temperature bands; least, greatest, sum and count of AVS targets (R476). -/
  bands : List Nat
  /-- Model time of the last life second; FEC_BER estimates of the last 900 seconds per engine and the day's worst mean. -/
  lastLife : Nat
  /-- Seconds of life clock that have passed while the counters were not in TC RAM (R22, R472). -/
  unreadLife : Nat
  /-- FEC_BER of the last 900 seconds, LE0 (R476). -/
  ber0 : List Nat
  /-- FEC_BER of the last 900 seconds, LE1 (R476). -/
  ber1 : List Nat
  /-- Worst 900-second mean of the day, LE0 (R476). -/
  worst0 : Nat
  /-- Worst 900-second mean of the day, LE1 (R476). -/
  worst1 : Nat
  /-- Least AVS target of the day (R476). -/
  targetMin : Nat
  /-- Greatest AVS target of the day (R476). -/
  targetMax : Nat
  /-- Sum of AVS targets of the day (R476). -/
  targetSum : Nat
  /-- AVS targets of the day (R476). -/
  targetCount : Nat
  /-- A plan is due (R477). -/
  planDue : Bool
  /-- The plan in progress (R477). -/
  plan : Option PlanRun
  /-- LOG_PLAN.YEAR (R483). -/
  planYear : Nat
  /-- LOG_PLAN.STATUS (R483). -/
  planStatus : Nat
  /-- LOG_PLAN.FLOOR (R483). -/
  planFloor : Nat
  /-- LOG_PLAN.RESERVE (R483). -/
  planReserve : Nat
  /-- EOL_WARN (R478, R483). -/
  eolWarn : Bool
  /-- LOG_ADVICE of both engines (R483). -/
  advice : Vector Advice 2
  /-- The export in progress (R480). -/
  exporting : Option Export
  /-- Actions that wait for a commit (R289, R469, R479). -/
  waits : List LogWait
  /-- The newest STATE record of each kind and item, as Kindling reads it (R463, R464). -/
  kept : List (Nat × Kept)
  /-- The ceiling of the derivation counter that has been reserved and committed (R470), and a reservation under way. -/
  dctrCeiling : Nat
  /-- A reservation of derivation counters is under way (R470). -/
  dctrBusy : Bool
deriving DecidableEq, Repr

def FlashBlock.reset (reserve : Bool) : FlashBlock := ⟨.free, 0, 0, 0, 0, false, false, reserve⟩

/-- The BIRTH record of manufacture (R464): serial 0 and the variant of log 3. -/
def birthRecord : LogRecord where
  type := 0x0001
  item := 0
  retention := .life
  seq := 0
  frag := 0
  frags := 1
  timeInvalid := true
  queued := false
  moved := false
  injected := false
  seconds := 0
  nanoseconds := 0
  life := 0
  payload := leBytes 8 0 ++ digestBytes (sha384 (fuseRecord false 0 0)) ++ Config.birthBaselines
  kept := .none
  blockA := some 0
  blockB := some 1

/-- Reset: a Logbook that holds its BIRTH record, with 248 blocks in use and 8 in reserve (R460, R464; log 12). -/
def Log.reset : Log where
  ready := false
  blocks := [(0, ⟨.event, 0, 1, 2, 0, true, false, false⟩), (1, ⟨.event, 1, 1, 2, 0, true, false, false⟩)]
  blockSeq := 2
  records := [birthRecord]
  queue := []
  work := .idle
  asleep := false
  seq := 1
  seqHi := 0
  dropped := 0
  budgetPages := 0
  budgetFrom := 0
  lifeSpill := false
  sparesOut := false
  erasesSince := 0
  compacting := none
  discarded := 0
  refresh := none
  refreshLife := 0
  refreshSeconds := 0
  refreshCount := 0
  life := Vector.replicate 12 0
  lifeHi := []
  partThrottle := 0
  partCorrected := 0
  partBytes := 0
  unclean := false
  shifts := List.replicate 16 0
  shiftSeconds := 0
  bands := List.replicate 6 0
  lastLife := 0
  unreadLife := 0
  ber0 := []
  ber1 := []
  worst0 := 0
  worst1 := 0
  targetMin := 0
  targetMax := 0
  targetSum := 0
  targetCount := 0
  planDue := false
  plan := none
  planYear := 0
  planStatus := 0
  planFloor := 0
  planReserve := 0
  eolWarn := false
  advice := Vector.replicate 2 ⟨false, 0, 0, 0⟩
  exporting := none
  waits := []
  kept := []
  dctrCeiling := 0
  dctrBusy := false

end Sys2Proof.Machine
end

