-- ==== Sys2Proof/Machine/MapState.lean ====
section
/-! DEFINITION. State of the map plan and of 1+1 protection (chapter 09). -/

namespace Sys2Proof.Machine

/-- An entry of a map plan with KIND other than 0 (R248). -/
structure PlanEntry where
  /-- KIND (R248). -/
  kind : Nat
  /-- ENGINE (R248). -/
  engine : Nat
  /-- CIF (R248). -/
  cif : Nat
  /-- Lower-order position of a KIND 3 client (R248). -/
  sub : Nat
  /-- CONTAINER (R248). -/
  container : Nat
  /-- ENCRYPT (R248). -/
  encrypt : Bool
  /-- PROTECTED (R248). -/
  protected_ : Bool
  /-- PROTECTION (R248). -/
  protection : Bool
  /-- PEER (R248). -/
  peer : Bool
  /-- SLOT_COUNT (R248). -/
  slotCount : Nat
  /-- PARTNER (R248). -/
  partner : Nat
  /-- Slot bitmap (R248). -/
  slots : BitVec 512
deriving DecidableEq, Repr

/-- A committed plan that waits for its instant or for an engine's boundary (R252, R254). -/
structure PendingPlan where
  /-- Identifier (R252). -/
  id : Word
  /-- Instant, SECONDS (R252). -/
  seconds : Nat
  /-- Instant, NANOSECONDS (R252). -/
  nanoseconds : Nat
  /-- The instant it takes effect, in units of the time counter: its own, or the commit where that is 0 or has passed (R252). -/
  since : Nat
  /-- Its entries (R248). -/
  plan : List (Nat × PlanEntry)
  /-- LE0 has applied it (R252). -/
  done0 : Bool
  /-- LE1 has applied it (R252). -/
  done1 : Bool
  /-- The tributaries added, changed or removed so far (R266). -/
  changed : List Nat
deriving DecidableEq, Repr

/-- What a replacement signal carries (R255): towards the client, and towards the line. -/
inductive Replacement where
  /-- The payload itself. -/
  | none
  /-- Local Fault ordered sets of the client PCS: KIND 1, client-bound. -/
  | localFault
  /-- OTU4 carrying ODU4-AIS: KIND 2, client-bound. -/
  | otu4Ais
  /-- ODU-AIS: KIND 3 client-bound, KIND 2 and 3 line-bound. -/
  | oduAis
  /-- No frames, the port reported down: KIND 4, client-bound. -/
  | noFrames
  /-- GMP carrying Local Fault ordered sets: KIND 1, line-bound. -/
  | gmpLocalFault
  /-- IMP idles: KIND 4, line-bound. -/
  | impIdles
  /-- ODU-OCI. -/
  | oduOci
  /-- ODU-LCK. -/
  | oduLck
deriving DecidableEq, Repr

/-- What a tributary reports (R267): demapper locked, signals sent. -/
structure TribStatus where
  /-- LOCKED (R253, R267). -/
  locked : Bool
  /-- CB_REPL (R255, R267). -/
  clientRepl : Bool
  /-- LB_REPL (R255, R267, R504). -/
  lineRepl : Nat
  /-- What its client is sent (R255). -/
  clientSent : Replacement
  /-- What is sent into the tributary (R255). -/
  lineSent : Replacement
deriving DecidableEq, Repr

/-- Signal fail and signal degrade requests of both paths (R257). -/
structure PathReq where
  /-- Signal fail, working (R257). -/
  sfW : Bool
  /-- Signal degrade, working (R257). -/
  sdW : Bool
  /-- Signal fail, protection (R257). -/
  sfP : Bool
  /-- Signal degrade, protection (R257). -/
  sdP : Bool
deriving DecidableEq, Repr

/-- A protection group, on its working TRIB (R256 to R263). -/
structure ApsGroup where
  /-- The protection TRIB (R256). -/
  partner : Nat
  /-- Cross-device group (R246, R256). -/
  peer : Bool
  /-- REVERTIVE (R256). -/
  revertive : Bool
  /-- BIDIR (R256). -/
  bidir : Bool
  /-- Hold-off in 100 ms (R258). -/
  holdoff : Nat
  /-- WTR in s (R259). -/
  wtrSeconds : Nat
  /-- APS_CMD in force: 0 none, 1 LO, 2 FS, 3 MS to protection, 4 MS to working; and the last result (R262, R265). -/
  cmd : Nat
  /-- LAST_RESULT (R262, R265). -/
  lastResult : Nat
  /-- Requests as they are, and those APS acts on after hold-off (R258). -/
  raw : PathReq
  req : PathReq
  /-- Hold-off runs (R258). -/
  holding : Bool
  /-- The instant at which WTR expires (ps), DNR in force (R257, R259). -/
  wtrEnd : Option Nat
  /-- Do not revert in force (R257). -/
  dnr : Bool
  /-- The rank in force, the selector (true protection), and the selection decided (R257, R260). -/
  rank : Nat
  /-- The selector, true protection (R260). -/
  sel : Bool
  /-- The selection decided (R260). -/
  want : Bool
  /-- The rank at which the latest selection was decided: the cause of the switch (R266). -/
  why : Nat
  /-- The far end's request and position, and the mismatch condition (R261). -/
  farRank : Nat
  /-- The far end's position (R261). -/
  farProtection : Bool
  /-- The far end disagrees now (R261). -/
  mismatchNow : Bool
  /-- MISMATCH (R261). -/
  mismatch : Bool
  /-- DELAY (R260, R267). -/
  delay : Int
  /-- Switches in total (R265). -/
  switches : Nat
  /-- APS switch count, read-clear (R267). -/
  switchesRc : Nat
  /-- APS_SWITCHED: changes since the last event, HIT, cause, pacing (R266). -/
  changes : Nat
  /-- HIT (R266). -/
  hit : Bool
  /-- Cause of the next event (R266). -/
  cause : Nat
  /-- The pacing interval of APS_SWITCHED runs (R266). -/
  pacing : Bool
deriving DecidableEq, Repr

/-- The mapper and APS (R246 to R267, R504). -/
structure Map where
  /-- MAP_PLAN_ID, and the plan each engine follows: entries of both, by TRIB (R248, R252). -/
  planId : Word
  /-- The plan each engine follows, by TRIB (R248, R252). -/
  plan : List (Nat × PlanEntry)
  /-- The staging area, if open (R250). -/
  staging : Option (List (Nat × PlanEntry))
  /-- The committed plan not yet applied (R252). -/
  pending : Option PendingPlan
  /-- Tributary status, by TRIB (R267). -/
  tribs : List (Nat × TribStatus)
  /-- Protection groups, by working TRIB (R256). -/
  groups : List (Nat × ApsGroup)
  /-- A plan committed in STANDBY, to take effect at power-up (R252). -/
  stored : Option (Word × List (Nat × PlanEntry))
  /-- What the peer device reports of its tributaries, SF in bit 0 and SD in bit 1, by working TRIB (R257, R370). -/
  peerReq : List (Nat × Nat)
deriving DecidableEq, Repr

def PathReq.none : PathReq := ⟨false, false, false, false⟩
def TribStatus.reset : TribStatus := ⟨false, false, 0, .none, .none⟩

/-- A new group: unidirectional, revertive, hold-off 0, WTR 300 s, selector on working (R256). -/
def ApsGroup.new (partner : Nat) (peer : Bool) : ApsGroup where
  partner := partner
  peer := peer
  revertive := true
  bidir := false
  holdoff := 0
  wtrSeconds := 300
  cmd := 0
  lastResult := 0
  raw := PathReq.none
  req := PathReq.none
  holding := false
  wtrEnd := none
  dnr := false
  rank := 0
  sel := false
  want := false
  why := 0
  farRank := 0
  farProtection := false
  mismatchNow := false
  mismatch := false
  delay := 0
  switches := 0
  switchesRc := 0
  changes := 0
  hit := false
  cause := 0
  pacing := false

/-- The mapper at reset (R254, R267). -/
def Map.reset : Map := ⟨0, [], none, none, [], [], none, []⟩

end Sys2Proof.Machine
end

