-- ==== Sys2Proof/Machine/MonState.lean ====
section
/-! DEFINITION. State of the monitor channels, the DMA rings and the housekeeping converters (chapter 13). -/

namespace Sys2Proof.Machine

/-- A monitor channel as configured by MON_CH_SET (R410). -/
structure ChanCfg where
  /-- EN (R410). -/
  en : Bool
  /-- DMA_EN (R404, R410). -/
  dmaEn : Bool
  /-- ENV_EVT (R390, R410). -/
  envEvt : Bool
  /-- SOURCE (R382, R410). -/
  source : Nat
  /-- N (R383, R410). -/
  n : Nat
  /-- DEXP (R383, R410). -/
  dexp : Nat
  /-- M (R383, R410). -/
  m : Nat
  /-- PHASE (R386, R410). -/
  phase : Nat
  /-- BIN (R382, R410). -/
  bin : Nat
  /-- ATTACK (R389, R410). -/
  attack : Nat
  /-- RELEASE (R389, R410). -/
  release : Nat
  /-- PK_EXP (R388, R410). -/
  pkExp : Nat
  /-- RMS_EXP (R388, R410). -/
  rmsExp : Nat
  /-- THR (R389, R410). -/
  thr : Nat
  /-- HYST (R389, R410). -/
  hyst : Nat
deriving DecidableEq, Repr

/-- The chain fields in force since the last DSP processing block (R387), with DEXP in force (R394). -/
structure Chain where
  /-- EN in force (R387). -/
  en : Bool
  /-- SOURCE in force (R382, R387). -/
  source : Nat
  /-- N in force (R383, R387). -/
  n : Nat
  /-- DEXP in force (R383, R394). -/
  dexp : Nat
  /-- M in force (R383, R387). -/
  m : Nat
  /-- PHASE in force (R386, R387). -/
  phase : Nat
  /-- BIN in force (R382, R387). -/
  bin : Nat
deriving DecidableEq, Repr

/-- What a chain holds between samples (R383 to R387): inputs that PHASE delays, integrators, combs and the FIR's line. -/
structure Filter where
  /-- Inputs still delayed by PHASE, oldest first (R386). -/
  delay : List Int
  /-- The integrators, first to last (R383). -/
  ints : List Int
  /-- The last M values into each comb, newest first (R383). -/
  combs : List (List Int)
  /-- The last 31 outputs of the CIC, newest first (R384). -/
  fir : List Int
deriving DecidableEq, Repr

/-- A window detector (R388): samples so far, the largest magnitude with its device time, and the sum of squares. -/
structure Detector where
  /-- Samples of the window so far (R388). -/
  count : Nat
  /-- Largest magnitude (R388). -/
  top : Nat
  /-- Its SECONDS (R388). -/
  topSec : Nat
  /-- Its NANOSECONDS (R388). -/
  topNs : Nat
  /-- Sum of squares (R388). -/
  squares : Nat
deriving DecidableEq, Repr

/-- A monitor channel (R381 to R390). -/
structure Chan where
  /-- The last configuration accepted by MON_CH_SET, none if there was none (R391). -/
  stored : Option ChanCfg
  /-- The configuration whose detector fields are in force (R387). -/
  force : ChanCfg
  /-- The chain fields in force (R387). -/
  chain : Chain
  /-- The chain since its last restart is that of the fast-SOP channel (R390, R391). -/
  fsop : Bool
  /-- What the chain holds (R383, R384). -/
  filter : Filter
  /-- The channel runs: its engine has reached a processing block since it left OFF (R381, R408). -/
  running : Bool
  /-- FILLING (R387, R412). -/
  filling : Bool
  /-- The next record is the first after a restart (R387, R405). -/
  cfgChange : Bool
  /-- The running peak window (R388). -/
  peakWin : Detector
  /-- The running RMS window (R388). -/
  rmsWin : Detector
  /-- The detectors' registers (R388, R412). -/
  peak : Nat
  /-- SECONDS of the peak (R388, R412). -/
  peakSec : Nat
  /-- NANOSECONDS of the peak (R388, R412). -/
  peakNs : Nat
  /-- MON_RMS (R388, R412). -/
  rms : Nat
  /-- The envelope (R389, R412). -/
  env : Nat
  /-- ENV_ABOVE (R389, R412). -/
  above : Bool
  /-- An unreported change of ENV_ABOVE, and the model time of the last MON_ENV_CROSS (R390). -/
  crossDue : Bool
  /-- Model time of the last MON_ENV_CROSS (R390). -/
  lastCross : Option Nat
  /-- Saturated outputs of the running second, and whether one lies in the record being filled (R384, R405). -/
  sat : Nat
  /-- A saturated output lies in the record being filled (R405). -/
  satRecord : Bool
  /-- The samples of the record being filled and its timestamp (R405). -/
  samples : List Int
  /-- Timestamp of that record, SECONDS (R405). -/
  stampSec : Nat
  /-- Timestamp of that record, NANOSECONDS (R405). -/
  stampNs : Nat
deriving DecidableEq, Repr

/-- What MON_FSOP_SET names: the channel within the group, THR, HYST and RELEASE (R391, R410). -/
structure FsopSet where
  /-- The channel (R391). -/
  chan : Nat
  /-- THR in krad/s (R391). -/
  thr : Nat
  /-- HYST in krad/s (R391). -/
  hyst : Nat
  /-- RELEASE (R391). -/
  release : Nat
deriving DecidableEq, Repr

/-- The fast-SOP channel of an engine (R391 to R393). -/
structure Fsop where
  /-- MON_FSOP_CFG.CHAN (R391, R412). -/
  chan : Nat
  /-- A MON_FSOP_SET that waits for the next DSP processing block (R391, R410). -/
  next : Option FsopSet
  /-- Threshold in krad/s (R391, R392). -/
  thr : Nat
  /-- Hysteresis in krad/s (R391). -/
  hyst : Nat
  /-- Release (R391). -/
  release : Nat
  /-- Events sent in the running second. -/
  sent : Nat
deriving DecidableEq, Repr

/-- A DMA ring (R404 to R407), with what has been written into it by slot. -/
structure DmaRing where
  /-- The ring is enabled (R404, R410). -/
  enabled : Bool
  /-- Base in host memory (R404). -/
  base : Long
  /-- Entries (R404). -/
  size : Nat
  /-- Next slot the device writes (R406). -/
  tail : Nat
  /-- Host's head (R406). -/
  head : Nat
  /-- PHASE of the next record (R405). -/
  phase : Bool
  /-- The next record follows a gap (R406). -/
  gap : Bool
  /-- Records lost in the running second (R407, R411). -/
  lostSecond : Nat
  /-- What has been written, by slot (R405). -/
  slots : List (Nat × List Byte)
deriving DecidableEq, Repr

/-- An entry of a regular sequence or an injected request: channel and averaging shift (R397, R398). -/
structure HkaEntry where
  /-- Channel (R395). -/
  chan : Nat
  /-- Averaging shift (R399). -/
  shift : Nat
deriving DecidableEq, Repr

/-- An average in progress (R399): entry, conversions done, their sum, and over-range seen high and low (R400). -/
structure Average where
  /-- Its entry (R399). -/
  entry : HkaEntry
  /-- Conversions done (R399). -/
  n : Nat
  /-- Their sum (R399). -/
  sum : Nat
  /-- Over-range high seen (R400). -/
  high : Bool
  /-- Over-range low seen (R400). -/
  low : Bool
deriving DecidableEq, Repr

/-- An injected request (R398): who waits, what is left, and its results so far. -/
structure Inject where
  /-- The model's key of the command in flight. -/
  key : Nat
  /-- URGENT (R398). -/
  urgent : Bool
  /-- It was pending when the calibration now waiting was requested (R403). -/
  ahead : Bool
  /-- Entries still to do (R398). -/
  left : List HkaEntry
  /-- The average in progress (R399). -/
  avg : Option Average
  /-- Entries done (R398). -/
  done : Nat
  /-- Response bytes so far (R410). -/
  results : List Byte
deriving DecidableEq, Repr

/-- The regular sequence as set (R397). -/
structure SeqCfg where
  /-- EN (R397). -/
  en : Bool
  /-- RING_SYS: system results go into the ring too (R406). -/
  ringSys : Bool
  /-- Period (R397). -/
  period : Nat
  /-- Entries (R397). -/
  entries : List HkaEntry
deriving DecidableEq, Repr

/-- What a SAR converts now (R396, R412). -/
inductive SarWork where
  | idle | system | regular | injected | settling
deriving DecidableEq, Repr

/-- The calibration of a SAR (R402, R403). -/
inductive CalState where
  | none | waiting | running
deriving DecidableEq, Repr

/-- A result register (R412). -/
structure HkaResult where
  /-- Result (R399, R412). -/
  code : Nat
  /-- OVR (R400, R412). -/
  ovr : Bool
  /-- VALID (R412). -/
  valid : Bool
  /-- XCHK_BAD (R401, R412). -/
  xchkBad : Bool
  /-- COUNT (R412). -/
  count : Nat
deriving DecidableEq, Repr

/-- A SAR converter (R395 to R403). -/
structure Sar where
  /-- Power-up calibration has begun: the converter runs (R402). -/
  started : Bool
  /-- What it converts now (R398). -/
  work : SarWork
  /-- Calibration state (R402, R412). -/
  cal : CalState
  /-- 0 command, 1 timer, 2 retry, 3 Kindling (R411). -/
  calOrigin : Nat
  /-- Model time at which the calibration began (R402). -/
  calStart : Nat
  /-- The calibration is to be aborted (R403). -/
  calAbort : Bool
  /-- CAL_VALID (R402, R412). -/
  calValid : Bool
  /-- The trims in force, by the model time at which their calibration completed; none before one (R402). -/
  trims : Option Nat
  /-- Injected requests, in order (R398). -/
  injected : List Inject
  /-- Entries of the system sequence due (R396). -/
  sysDue : List Nat
  /-- The system average in progress (R399). -/
  sysAvg : Option Average
  /-- The regular sequence in force (R397). -/
  seq : SeqCfg
  /-- A HKA_SEQ_SET that waits for the next sequence start (R410). -/
  seqNext : Option SeqCfg
  /-- The entries of the running sequence still to do, the average in progress, and a start that fell due meanwhile. -/
  seqLeft : List HkaEntry
  /-- The regular average in progress (R399). -/
  regAvg : Option Average
  /-- A sequence start fell due meanwhile (R397). -/
  seqDue : Bool
  /-- OVERRUN (R397, R412). -/
  overrun : Bool
  /-- The channel whose over-range conversion has to settle (R400). -/
  settleFrom : Option Nat
  /-- SUSPECT (R401, R412). -/
  suspect : Bool
  /-- Result registers, by channel (R412). -/
  results : List (Nat × HkaResult)
  /-- Corrections changed by HKA_CORR_SET; the fused ones stand elsewhere (R399). -/
  corr : List (Nat × (Int × Int))
  /-- Over-range results counted (R400, R412). -/
  ovrCnt : Nat
  /-- Over-range results of the running second and the first channel (R400, R411). -/
  ovrSecond : Nat
  /-- First over-range channel of the second (R411). -/
  ovrFirst : Nat
  /-- Channel 15 has been converted in this millisecond, and a calibration ran in it (R401). -/
  refSeen : Bool
  /-- A calibration ran in this millisecond (R401). -/
  calInMs : Bool
  /-- Channels whose correction or sequence entry is being rebuilt (R409). -/
  rebuilding : List Nat
deriving DecidableEq, Repr

/-- The monitor and the housekeeping converters (R381 to R412). -/
structure Mon where
  /-- Monitor channels 0 to 15 (R381). -/
  chans : Vector Chan 16
  /-- Fast-SOP channels of LE0 and LE1 (R391). -/
  fsops : Vector Fsop 2
  /-- MON_THROTTLE.LEVEL, set by the throttle ladder (R394, R412). -/
  throttle : Nat
  /-- The level in force on an engine's channels, taken at its DSP processing block (R387, R394, R421). -/
  levels : Vector Nat 2
  /-- DMA rings 0 to 17 (R404). -/
  rings : Vector DmaRing 18
  /-- MON_DMA_LOST (R407, R412). -/
  dmaLost : Nat
  /-- SAR0 and SAR1 (R395). -/
  sars : Vector Sar 2
  /-- XCHK_TOL (R401, R410). -/
  xchkTol : Nat
  /-- Calibration period (R402, R410). -/
  calPeriod : Nat
  /-- XCHK_FAIL (R401, R412). -/
  xchkFail : Bool
  /-- Consecutive cross-check mismatches (R401). -/
  mismatches : Nat
  /-- Consecutive cross-check matches (R401). -/
  matches_ : Nat
  /-- Device time of the last system tick (R396). -/
  lastTick : Nat
  /-- HKA_XCHK (R412). -/
  xchk0 : Nat
  /-- HKA_XCHK of SAR1 (R412). -/
  xchk1 : Nat
  /-- Calibrations completed (R412). -/
  calDone : Nat
  /-- Calibrations aborted (R412). -/
  calAborted : Nat
deriving DecidableEq, Repr

def ChanCfg.zero : ChanCfg := ⟨false, false, false, 0, 0, 0, 0, 0, 0, 0, 0, 0, 0, 0, 0⟩
def Chain.idle : Chain := ⟨false, 0, 0, 0, 0, 0, 0⟩
/-- The integrators, the combs and the FIR of a chain, cleared (R387). -/
def Filter.clear (h : Chain) : Filter := ⟨[], List.replicate h.n 0, List.replicate h.n [], []⟩
def Detector.empty : Detector := ⟨0, 0, 0, 0, 0⟩
/-- The chain of a fast-SOP channel (R391). -/
def Chain.fsop : Chain := ⟨true, 7, 3, 3, 1, 0, 0⟩

/-- A channel at reset (R412): no configuration; channels 0 and 8 run as fast-SOP channels. -/
def Chan.reset : Chan where
  stored := none
  force := ChanCfg.zero
  chain := Chain.idle
  fsop := false
  filter := Filter.clear Chain.idle
  running := false
  filling := false
  cfgChange := false
  peakWin := Detector.empty
  rmsWin := Detector.empty
  peak := 0
  peakSec := 0
  peakNs := 0
  rms := 0
  env := 0
  above := false
  crossDue := false
  lastCross := none
  sat := 0
  satRecord := false
  samples := []
  stampSec := 0
  stampNs := 0

/-- Fast-SOP settings at reset (R391, R412): channel 0 of the group, THR 500, HYST 100, RELEASE 10. -/
def Fsop.reset : Fsop := ⟨0, none, 500, 100, 10, 0⟩
def DmaRing.reset : DmaRing := ⟨false, 0, 0, 0, 0, true, false, 0, []⟩
def SeqCfg.off : SeqCfg := ⟨false, false, 0, []⟩

/-- A SAR at reset (R412). -/
def Sar.reset : Sar where
  started := false
  work := .idle
  cal := .none
  calOrigin := 0
  calStart := 0
  calAbort := false
  calValid := false
  trims := none
  injected := []
  sysDue := []
  sysAvg := none
  seq := SeqCfg.off
  seqNext := none
  seqLeft := []
  regAvg := none
  seqDue := false
  overrun := false
  settleFrom := none
  suspect := false
  results := []
  corr := []
  ovrCnt := 0
  ovrSecond := 0
  ovrFirst := 0
  refSeen := false
  calInMs := false
  rebuilding := []

/-- Reset (R412: HKA_CFG 0x0000_3C08). -/
def Mon.reset : Mon where
  chans := Vector.replicate 16 Chan.reset
  fsops := Vector.replicate 2 Fsop.reset
  throttle := 0
  levels := Vector.replicate 2 0
  rings := Vector.replicate 18 DmaRing.reset
  dmaLost := 0
  sars := Vector.replicate 2 Sar.reset
  xchkTol := 8
  calPeriod := 60
  xchkFail := false
  mismatches := 0
  matches_ := 0
  lastTick := 0
  xchk0 := 0
  xchk1 := 0
  calDone := 0
  calAborted := 0

end Sys2Proof.Machine
end

