-- ==== Sys2Proof/Machine/PinState.lean ====
section
/-! DEFINITION. State of the pins (chapter 17). -/

namespace Sys2Proof.Machine

/-- The control pins, straps and supplies (R486 to R497). -/
structure Pins where
  /-- VDD_AON is within tolerance (R486). -/
  vddAon : Bool
  /-- RESET_N (R486). -/
  resetN : Bool
  /-- PWR_OK (R486). -/
  pwrOk : Bool
  /-- READY (R36). -/
  ready : Bool
  /-- THERM_TRIP_N (R424). -/
  thermTripN : Bool
  /-- Datapath outputs are squelched (R42, R54, R424). -/
  squelched : Bool
  /-- Straps as driven, sampled at KINDLING_START and AON_POWER_UP (R497). -/
  bootSel : Bool
  /-- AVS_SEL as driven (R497). -/
  avsSel : Bool
  /-- MGMT_ADDR as driven (R85, R497). -/
  mgmtAddr : BitVec 2
  /-- BOOT_SEL as sampled when Kindling phase 1 begins (R38, R497). -/
  bootHost : Bool
  /-- AVS_SEL as sampled when VDD_AON comes within tolerance (R432, R497). -/
  vidMode : Bool
  /-- Supply groups 1 to 6 are in range (R487). -/
  suppliesInRange : Bool
deriving DecidableEq, Repr

/-- Cold reset: the always-on supply is up, PWR_OK and RESET_N low (R486). -/
def Pins.reset : Pins where
  vddAon := true
  resetN := false
  pwrOk := false
  ready := false
  thermTripN := true
  squelched := true
  bootSel := false
  avsSel := false
  mgmtAddr := 0
  bootHost := false
  vidMode := false
  suppliesInRange := false

end Sys2Proof.Machine
end

