-- ==== Sys2Proof/Machine/PktState.lean ====
section
/-! DEFINITION. State of the packet traffic manager and the Woodpile (chapter 11). -/

namespace Sys2Proof.Machine

/-- Configuration of a port (R309 to R325, R343). -/
structure PortCfg where
  /-- MODE (R311, R343). -/
  mode : Nat
  /-- DEFAULT_EN (R312, R343). -/
  defaultEn : Bool
  /-- THROTTLE_OK (R329). -/
  throttleOk : Bool
  /-- MTU (R309, R343). -/
  mtu : Nat
  /-- DEFAULT_SUB (R312, R343). -/
  defaultSub : Nat
  /-- RES (R318). -/
  res : Nat
  /-- MAX (R318). -/
  max : Nat
  /-- ALPHA (R318). -/
  alpha : Nat
  /-- SHAPE_ADJ (R326). -/
  shapeAdj : Int
  /-- STRICT (R322). -/
  strict : Nat
  /-- Class weights (R323). -/
  weights : List Nat
  /-- TPID (R314). -/
  tpid : Nat
deriving DecidableEq, Repr

/-- A gate entry: STATES and INTERVAL in 8 ns units (R331). -/
structure GateEntry where
  /-- STATES (R331). -/
  states : Nat
  /-- INTERVAL, 8 ns units (R331). -/
  interval : Nat
deriving DecidableEq, Repr

/-- A gate list with its cycle in ns, its base and its start S, as (SECONDS, NANOSECONDS), and the cycles advanced (R332). -/
structure GateList where
  /-- Entries (R331). -/
  entries : List GateEntry
  /-- Cycle in ns (R331). -/
  cycle : Nat
  /-- Base time (R332). -/
  base : Nat × Nat
  /-- Start S (R332). -/
  start : Nat × Nat
  /-- Cycles advanced (R332). -/
  advanced : Nat
deriving DecidableEq, Repr

/-- The gates of a port (R330 to R336). -/
structure Gates where
  /-- Entries loaded by PKT_GATE_LOAD (R331). -/
  staged : List (Nat × GateEntry)
  /-- The list in force (R332). -/
  list : Option GateList
  /-- The list that waits for its start (R332). -/
  pending : Option GateList
  /-- A re-anchored restart of the list in force after a time step (R335). -/
  restart : Option GateList
  /-- PKT_GATE_SET with ENABLE 0 waits for the next cycle start (R336). -/
  disable : Bool
  /-- STATES in force (R330). -/
  states : Nat
  /-- ENTRY in force (R346). -/
  entry : Nat
  /-- The start of the running cycle, in the units of device time. -/
  cycleStart : Nat
  /-- ADVANCED (R332, R346). -/
  isAdvanced : Bool
  /-- RESTARTED (R335, R346). -/
  restarted : Bool
  /-- PKT_GATE_ADV (R332, R346). -/
  adv : Nat
  /-- The longest open window of each class in ns, none when it never closes (R333). -/
  windows : List (Option Nat)
  /-- PKT_GATE_OVERSIZE has been raised in this second (R333). -/
  oversizeRaised : Bool
deriving DecidableEq, Repr

/-- Counts of a port over the running second (R346). -/
structure PortCounts where
  /-- Frames too long for every window (R333). -/
  oversize : Nat
  /-- Frames received (R346). -/
  rxFrames : Nat
  /-- Bytes received (R346). -/
  rxBytes : Nat
  /-- Frames sent (R346). -/
  txFrames : Nat
  /-- Bytes sent (R346). -/
  txBytes : Nat
  /-- Drops of the MAC (R309). -/
  dropMac : Nat
  /-- Drops of classification (R313). -/
  dropCls : Nat
  /-- Tail drops (R318). -/
  dropTail : Nat
  /-- Drops for a port that is down (R339). -/
  dropDown : Nat
  /-- Drops for corruption (R338). -/
  dropCorrupt : Nat
  /-- Drops for failed authentication (R337). -/
  dropAuth : Nat
  /-- Frames ended in error (R337). -/
  stomp : Nat
  /-- Frames dropped and ended errored for PKT_CORRUPT, and its event raised in this second (R338). -/
  corruptDropped : Nat
  corruptEnded : Nat
  corruptRaised : Bool
deriving DecidableEq, Repr

/-- A port (R306 to R308, R318, R322). -/
structure Port where
  /-- PKT_PORT_SET (R343). -/
  cfg : PortCfg
  /-- EGRESS_UP (R308). -/
  egressUp : Bool
  /-- INGRESS_UP (R308). -/
  ingressUp : Bool
  /-- HELD (R308). -/
  held : Bool
  /-- The ingress has stopped admitting in QUIESCE (R341). -/
  stopped : Bool
  /-- Tiles used in its reservation (R318). -/
  resUsed : Nat
  /-- Tiles used of the shared pool (R318). -/
  sharedUsed : Nat
  /-- The candidate subscriber of each class, by class (R322), and the class served last by round robin. -/
  candidates : List (Nat × Nat)
  lastClass : Nat
  /-- Its gates (R330). -/
  gates : Gates
  /-- Counts of the running second (R346). -/
  live : PortCounts
  /-- The model's own: the frame its egress sent last, by length, tags and whether it ended errored (R310, R314). -/
  sent : Option (Nat × (List (Nat × (Nat × Nat)) × Bool))
deriving DecidableEq, Repr

/-- A subscriber or service entry (R344): the service or port, tag action or class, and the tag. -/
structure Entity where
  /-- The service, or the port (R344). -/
  parent : Nat
  /-- The entry is configured (R344). -/
  isValid : Bool
  /-- Weight (R323, R344). -/
  weight : Nat
  /-- CIR (R325, R344). -/
  cir : Nat
  /-- PIR (R325, R344). -/
  pir : Nat
  /-- CBS (R325, R344). -/
  cbs : Nat
  /-- PBS (R325, R344). -/
  pbs : Nat
  /-- Tag action of a subscriber, class of a service (R314, R344). -/
  action : Nat
  /-- The tag (R314). -/
  tag : Nat
deriving DecidableEq, Repr

/-- Eligible times in 2⁻¹⁶ ns with the remainders of their divisions (R326), and the round-robin state (R323). -/
structure Shape where
  /-- C, committed eligible time (R326). -/
  c : Nat
  /-- P, peak eligible time (R326). -/
  p : Nat
  /-- Remainder of C's division (R326). -/
  remC : Nat
  /-- Remainder of P's division (R326). -/
  remP : Nat
  /-- Round-robin deficit (R323). -/
  deficit : Int
  /-- The service's subscriber served last. -/
  last : Nat
  /-- The last interval of P was computed at a peak rate of 0: without end (R326, R329; log 53). -/
  halted : Bool
deriving DecidableEq, Repr

/-- Frames forwarded, bytes forwarded, frames dropped (R343). -/
structure Stats where
  /-- Frames forwarded (R343). -/
  frames : Nat
  /-- Bytes forwarded (R343). -/
  bytes : Nat
  /-- Frames dropped (R343). -/
  drops : Nat
deriving DecidableEq, Repr

/-- A frame in the Woodpile (R317, R318): each tile with whether it counts in the reservation. -/
structure Frame where
  /-- The model's number of the frame. -/
  id : Nat
  /-- Ingress port (R307). -/
  ingress : Nat
  /-- Egress port (R307). -/
  egress : Nat
  /-- Subscriber (R311). -/
  sub : Nat
  /-- Length in bytes (R309). -/
  len : Nat
  /-- The tags it carries, the outer one first, as its ingress port recognises them: TPID, VID and PCP (R311, R314). -/
  tags : List (Nat × (Nat × Nat))
  tiles : List (Nat × Bool)
  /-- The bytes written into its tiles (R315). -/
  bytes : List Byte
  /-- The CRC-32C of each tile, in its descriptor (R316). -/
  crcs : List Nat
  /-- A tile carries a failed tag group (R337). -/
  authBad : Bool
  /-- Its descriptor is poisoned (R438, class 4); its first tile's CRC has been flipped (R454). -/
  descBad : Bool
  flipped : Bool
deriving DecidableEq, Repr

/-- A classification key: ingress port, outer VID, inner VID, PCP (R311). -/
abbrev RuleKey := Nat × (Nat × (Nat × Nat))

/-- The packet traffic manager (R306 to R346). Entities are keyed by kind × 65,536 + number: 0 subscriber, 1 service. -/
structure Pkt where
  /-- POWERED (R341, R346). -/
  powered : Bool
  /-- READY (R341, R346). -/
  ready : Bool
  /-- Ports where not at reset, by number (R306). -/
  ports : List (Nat × Port)
  /-- Classification rules, at most 131,072 (R311, R312). -/
  rules : List (RuleKey × Nat)
  /-- Subscribers and services, by kind × 65,536 + number (R321, R344). -/
  entities : List (Nat × Entity)
  /-- Shaping state of each entity (R326). -/
  shapes : List (Nat × Shape)
  /-- Round-robin deficits of classes, by port × 8 + class, and the service served last in each. -/
  classDeficit : List (Nat × Int)
  lastService : List (Nat × Nat)
  /-- Frames queued, oldest first. -/
  frames : List Frame
  /-- The model's own: number of the next frame. -/
  nextFrame : Nat
  /-- Active banks, retired tiles, tiles with POISON, and freed poisoned tiles under march test (R315, R316, R320, R450). -/
  banks : BitVec 64
  retired : List Nat
  poison : List Nat
  marching : List Nat
  /-- Both wheels: slot and entity (R327). -/
  fine : List (Nat × Nat)
  coarse : List (Nat × Nat)
  /-- PKT_THROTTLE.STEP (R329). -/
  step : Nat
  /-- PKT_TILE_CRC_ERR (R316, R346). -/
  tileCrcErr : Nat
  /-- PKT_POISON_DROP (R338, R346). -/
  poisonDrop : Nat
  /-- Statistics by entity, live (R343). -/
  stats : List (Nat × Stats)
  /-- Statistics as latched (R343). -/
  statsCopy : List (Nat × Stats)
  /-- The second the copies cover (R343). -/
  statsSecond : Nat
  /-- Configuration entries being rebuilt (R340). -/
  broken : List ConfigEntry
deriving DecidableEq, Repr

def PortCfg.reset : PortCfg := ⟨0, false, false, 9216, 0, 0, 524288, 3, 20, 0, List.replicate 8 1, 0⟩
def PortCounts.zero : PortCounts := ⟨0, 0, 0, 0, 0, 0, 0, 0, 0, 0, 0, 0, 0, 0, false⟩
def Gates.reset : Gates where
  staged := []
  list := none
  pending := none
  restart := none
  disable := false
  states := 255
  entry := 0
  cycleStart := 0
  isAdvanced := false
  restarted := false
  adv := 0
  windows := List.replicate 8 none
  oversizeRaised := false
def Port.reset : Port := ⟨PortCfg.reset, false, false, false, false, 0, 0, [], 0, Gates.reset, PortCounts.zero, none⟩
def Entity.none : Entity := ⟨0, false, 0, 0, 0, 0, 0, 0, 0⟩
def Shape.reset : Shape := ⟨0, 0, 0, 0, 0, 0, false⟩
def Stats.zero : Stats := ⟨0, 0, 0⟩

/-- The manager at reset (R346). -/
def Pkt.reset : Pkt where
  powered := false
  ready := false
  ports := []
  rules := []
  entities := []
  shapes := []
  classDeficit := []
  lastService := []
  frames := []
  nextFrame := 0
  banks := BitVec.allOnes 64
  retired := []
  poison := []
  marching := []
  fine := []
  coarse := []
  step := 0
  tileCrcErr := 0
  poisonDrop := 0
  stats := []
  statsCopy := []
  statsSecond := 0
  broken := []

end Sys2Proof.Machine
end

