-- ==== Sys2Proof/Machine/SavedState.lean ====
section
/-! DEFINITION. What the device keeps of its datapath configuration at a trip, for the automatic resume (R35). -/

namespace Sys2Proof.Machine

/-- The datapath blocks as they were (R35, R42). -/
structure Datapath where
  cnv : Cnv
  dsp : Dsp
  fec : Fec
  frm : Frm
  map : Map
  cph : Cph
  pkt : Pkt
  cln : Cln
  plk : Plk
  mon : Mon
deriving DecidableEq, Repr

/-- The configuration in force at the latest trip, if EMBER was entered by it (R35). -/
structure AtTrip where
  saved : Option Datapath
deriving DecidableEq, Repr

def AtTrip.reset : AtTrip := ⟨none⟩

end Sys2Proof.Machine
end

