-- ==== Sys2Proof/Machine/ThmState.lean ====
section
/-! DEFINITION. State of the thermal sequencer, the throttle ladder, the trip and adaptive voltage (chapter 14). -/

namespace Sys2Proof.Machine

/-- A temperature sensor (R413 to R416): its last count and run of equal counts, validity, and the reading in force. -/
structure Sensor where
  /-- Last oscillator count (R415). -/
  count : Option Nat
  /-- Run of equal counts (R415). -/
  same : Nat
  /-- Run of good samples (R415). -/
  good : Nat
  /-- INVALID (R415, R437). -/
  invalid : Bool
  /-- CAUSE (R415). -/
  cause : Nat
  /-- Last temperature, 1/16 °C (R413). -/
  raw : Int
  /-- The reading in force, substituted where invalid (R416). -/
  reading : Option Int
deriving DecidableEq, Repr

/-- The trip retention record (R426). -/
structure TripRecord where
  /-- A trip has been recorded (R426). -/
  valid : Bool
  /-- SECONDS of the trip (R426). -/
  seconds : Nat
  /-- NANOSECONDS of the trip (R426). -/
  nanoseconds : Nat
  /-- Cause (R426). -/
  cause : Nat
  /-- Highest reading, 1/16 °C (R426). -/
  peak : Int
  /-- The sensor that gave it (R426). -/
  sensor : Nat
  /-- FLASH_WAIT (R425, R426). -/
  flashWait : Bool
deriving DecidableEq, Repr

/-- Thermal management and power (R413 to R437). -/
structure Thm where
  /-- TS 0 to 73 (R413). -/
  sensors : Vector Sensor 74
  /-- Model times of the last sample and of the last AVS evaluation (R419, R430). -/
  lastSample : Nat
  lastAvs : Nat
  /-- The sequencer has taken its first sample since VDD_AON came within tolerance (R429). -/
  sampled : Bool
  /-- The sample period is 125 µs (R419). -/
  fast : Bool
  /-- The model time since which the hottest reading has stayed below THR_START − 7 °C (R419). -/
  coolFrom : Option Nat
  /-- The hottest reading, 1/16 °C (R421, R437). -/
  hottest : Int
  /-- Its sensor (R437). -/
  hotSensor : Nat
  /-- DEGRADED zones (R417, R437). -/
  degraded : BitVec 10
  /-- L (R420, R421). -/
  level : Nat
  /-- Rungs per step (R420). -/
  step1 : Nat
  step2 : Nat
  step3 : Nat
  step4 : Nat
  /-- Model time of the last change of L (R421). -/
  lastChange : Nat
  /-- EXHAUSTED (R422, R437). -/
  exhausted : Bool
  /-- Level last reported (R422). -/
  reported : Nat
  /-- The pacing interval of THM_LEVEL_CHANGED runs (R422). -/
  pacing : Bool
  /-- Picoseconds of the running second with the level above 0, and since when it is (R422). -/
  throttlePs : Nat
  throttleFrom : Option Nat
  /-- THR_START in °C (R423, R437). -/
  thrStart : Nat
  /-- SPAN in °C (R423, R437). -/
  span : Nat
  /-- TRIP in °C (R423, R437). -/
  tripLimit : Nat
  /-- FEC_FLOOR (R420, R423, R437). -/
  fecFloor : Nat
  /-- A trip drives THERM_TRIP_N low (R424, R427). -/
  trip : Bool
  /-- The trip retention record (R426). -/
  record : TripRecord
  /-- The peak is still being followed (R426), and the record waits for the Logbook. -/
  following : Bool
  /-- The record waits for the Logbook (R426). -/
  recordDue : Bool
  /-- Trips counted (R437). -/
  trips : Nat
  /-- Always-on times of the last three trips, newest first (R428). -/
  tripTimes : List Nat
  /-- EMBER latched (R428). -/
  latched : Bool
  /-- The model time since which the cooling rule has held (R427). -/
  coolSince : Option Nat
  /-- The rule has been met: 30 s without a break. -/
  coolMet : Bool
  /-- The flash window (R429). -/
  flashOk : Bool
  /-- Both flash die sensors have been invalid since the window was last open (R429). -/
  zfLost : Bool
  /-- AVS (R430 to R433): v and target as VID codes, the floor in mV. -/
  v : Nat
  /-- The AVS loop runs (R430). -/
  avsRunning : Bool
  /-- Consecutive evaluations that allow a lower target (R430). -/
  lowRun : Nat
  /-- AT_MAX (R430, R437). -/
  atMax : Bool
  /-- FIXED, if set by PWR_AVS_FIX (R435). -/
  fixed : Option Nat
  /-- PWR_AVS_FLOOR in mV (R431, R437). -/
  floor : Nat
  /-- Target as a VID code (R430, R432). -/
  target : Nat
  /-- Sequence number of the AVS report (R432). -/
  seq : Nat
  /-- Margin measured (R430, R437). -/
  margin : Nat
  /-- Measured rail (R433, R437). -/
  measured : Nat
  /-- AVS fault (R433, R437). -/
  fault : Bool
  /-- Evaluations out of tolerance in a row (R433). -/
  faultRun : Nat
  /-- Evaluations in tolerance in a row (R433). -/
  clearRun : Nat
  /-- The 25 MHz crystal has stopped (R424). -/
  crystalLost : Bool
  /-- The mirrors of THM_STATUS, THM_LIMITS, THM_LADDER, PWR_AVS_STATUS, PWR_AVS_FLOOR and PWR_AVS_CODE, as of the last sample or
  evaluation (R437). -/
  statusMirror : Nat
  /-- Mirror of THM_LIMITS (R437). -/
  limitsMirror : Nat
  /-- Mirror of THM_LADDER (R437). -/
  ladderMirror : Nat
  /-- Mirror of PWR_AVS_STATUS, but for the strap (R437). -/
  avsMirror : Nat
  /-- Mirror of PWR_AVS_FLOOR (R437). -/
  floorMirror : Nat
  /-- Mirror of PWR_AVS_CODE (R437). -/
  codeMirror : Nat
deriving DecidableEq, Repr

def Sensor.reset : Sensor := ⟨none, 0, 0, false, 0, 0, some 0⟩

/-- Reset (R437): limits 100 °C, 10 °C, 118 °C, floor 6, AVS target 0.800 V (code 120), AVS floor 650 mV. -/
def Thm.reset : Thm where
  sensors := Vector.replicate 74 Sensor.reset
  lastSample := 0
  lastAvs := 0
  sampled := false
  fast := false
  coolFrom := none
  hottest := 0
  hotSensor := 0
  degraded := 0
  level := 0
  step1 := 0
  step2 := 0
  step3 := 0
  step4 := 0
  lastChange := 0
  exhausted := false
  reported := 0
  pacing := false
  throttlePs := 0
  throttleFrom := none
  thrStart := 100
  span := 10
  tripLimit := 118
  fecFloor := 6
  trip := false
  record := ⟨false, 0, 0, 0, 0, 0, false⟩
  following := false
  recordDue := false
  trips := 0
  tripTimes := []
  latched := false
  coolSince := none
  coolMet := false
  flashOk := false
  zfLost := false
  v := 120
  avsRunning := false
  lowRun := 0
  atMax := false
  fixed := none
  floor := 650
  target := 120
  seq := 0
  margin := 0
  measured := 0
  fault := false
  faultRun := 0
  clearRun := 0
  crystalLost := false
  statusMirror := 0
  limitsMirror := 0x760A64
  ladderMirror := 0
  avsMirror := 0x320
  floorMirror := 0x28A
  codeMirror := 0x78

end Sys2Proof.Machine
end

