-- ==== Sys2Proof/Machine/TimState.lean ====
section
/-! DEFINITION. State of device time, discipline, references and PTP (chapter 04). -/

namespace Sys2Proof.Machine

/-- The servo states of TIM_STATUS.STATE (R95, R112). -/
inductive Servo where
  | freerun | acquiring | locked | holdover
deriving DecidableEq, Repr

/-- The discipline sources (R95). -/
inductive TimeSource where
  | host | pps | ptp
deriving DecidableEq, Repr

/-- A SyncE output (R104, R112). -/
structure SyncE where
  /-- Client lane followed (R104, R112). -/
  lane : Nat
  /-- Output enabled (R112). -/
  en : Bool
  /-- Output frequency code (R112). -/
  freq : Nat
  /-- Output squelched (R104). -/
  squelched : Bool
deriving DecidableEq, Repr

/-- An entry of the PTP receive ring (R106). -/
structure PtpEntry where
  /-- Client interface (R106). -/
  cif : Nat
  /-- ESMC frame, else PTP (R106). -/
  esmc : Bool
  /-- Receive timestamp, SECONDS (R106). -/
  seconds : Nat
  /-- Receive timestamp, NANOSECONDS (R106). -/
  nanoseconds : Nat
  /-- The frame (R106). -/
  frame : List Byte
deriving DecidableEq, Repr

/-- A frame of TIM_PTP_SEND that has not yet left (R105, R110). -/
structure PtpSend where
  /-- Client interface (R110). -/
  cif : Nat
  /-- The departure time is wanted (R110). -/
  returnTs : Bool
  /-- Channel of the command (R78). -/
  chan : Nat
  /-- TAG of the command. -/
  tag : Half
  /-- The frame (R105). -/
  frame : List Byte
deriving DecidableEq, Repr

/-- A scheduled TIM_SNAPSHOT (R108, R110). -/
structure Snapshot where
  /-- The model's key of the command. -/
  key : Nat
  /-- Group mask (R110). -/
  mask : Half
  /-- Instant, SECONDS (R108). -/
  seconds : Nat
  /-- Instant, NANOSECONDS (R108). -/
  nanoseconds : Nat
deriving DecidableEq, Repr

/-- A host receive ring of the device: base, size, both indexes (R106, R404). -/
structure HostRing where
  /-- Ring base in host memory (R106). -/
  base : Long
  /-- Entries (R106). -/
  size : Nat
  /-- Next slot the device writes (R106). -/
  tail : Nat
  /-- Host's head (R106). -/
  head : Nat
deriving DecidableEq, Repr

/-- Device time and references (R92 to R112, R503). -/
structure Tim where
  /-- The model's clock: always-on picoseconds since cold reset. -/
  now : Nat
  /-- `now` at the last Kindling; the arrival counter counts from it (R78). -/
  kindlingStart : Nat
  /-- Device time in units of 1/(512 · 10⁹) ns (R92, R93): every tick adds a whole number of them. -/
  tod : Nat
  /-- The highest second already latched, and `now` at the latest latch (R99). -/
  highestLatched : Nat
  lastLatch : Nat
  /-- A step fell into the running latch interval (R99). -/
  stepped : Bool
  /-- The latest latch fell on a step: the running interval began inside a second (R99, R239). -/
  latchAtStep : Bool
  /-- TIM_LATCH_INFO.IRREG and TIM_LATCH_LEN (R99, R112). -/
  irreg : Bool
  latchLen : Nat
  /-- TIM_STATUS (R94, R95, R112). -/
  valid : Bool
  servo : Servo
  source : TimeSource
  /-- What is left of a slew, in the units of `tod` (R98). -/
  slew : Int
  /-- The frequency adjustment in force, in 1/1,024 ppb (R93, R96). -/
  freqAdj : Int
  /-- The PTP update timeout in seconds (R95). -/
  ptpTimeout : Nat
  /-- The second a TIM_SET has put on the next pulse (R96). -/
  label : Option Nat
  /-- No pulse or update has come since the last loss, expiry, restart or change of source (R95, R503). -/
  quiet : Bool
  /-- A TIM_SET has labelled the pulses (R94). -/
  labelled : Bool
  /-- The 1PPS servo: Σx, f₀, consecutive good pulses, consecutive outliers (R95, R96). -/
  sumX : Int
  f0 : Int
  goodPulses : Nat
  outliers : Nat
  /-- The offset of the last captured edge in ns (R112). -/
  ppsOffset : Int
  /-- The holdover measurements, newest first, at most 1,000 (R100). -/
  learned : List Int
  /-- TIM_REF_STATUS.PRESENT: LINE_REF0, LINE_REF1, CLIENT_REF, PCIE_REF (R103). -/
  line0 : Bool
  line1 : Bool
  client : Bool
  pcie : Bool
  /-- TIM_REF_STATUS fallbacks (R103). -/
  fecOnLine1 : Bool
  clientFallback : Bool
  /-- Device time runs from the shadow: the time domain is in reset (R503). -/
  onShadow : Bool
  /-- TIM_PPS_OUT.WIDTH in ms, TIM_PPS_DELAY in ns, and the level of PPS_OUT (R97). -/
  ppsWidth : Nat
  ppsDelay : Int
  ppsOut : Bool
  /-- SyncE outputs (R104, R112). -/
  synce : Vector SyncE 2
  /-- TIM_PTP_CFG flags per client interface (R105, R110). -/
  ptpCfg : Vector Byte 32
  /-- The PTP receive ring (R106, R112). -/
  ring : HostRing
  /-- What has been written into the PTP ring, by slot: the 256 bytes of each entry (R106). -/
  ringData : List (Nat × List Byte)
  /-- TIM_PTP_LOST (R106, R112). -/
  ptpLost : Nat
  /-- Frames of TIM_PTP_SEND not yet out (R105, R110). -/
  ptpSends : List PtpSend
  /-- The frame last sent on each client interface, as it left (R105). -/
  ptpOut : List (Nat × List Byte)
  /-- TIM_SNAPSHOT commands waiting for their instant (R108, R110). -/
  snapshots : List Snapshot
  /-- TIM_TOD_SEC_HI, TIM_TOD_NS and TIM_TOD_FRAC as latched (R107). -/
  latchedHi : Nat
  latchedNs : Nat
  latchedFrac : Nat
deriving DecidableEq, Repr

/-- The time block at cold reset (R94, R112). -/
def Tim.reset : Tim where
  now := 0
  kindlingStart := 0
  tod := 0
  highestLatched := 0
  lastLatch := 0
  stepped := false
  latchAtStep := false
  irreg := false
  latchLen := 1000000
  valid := false
  servo := .freerun
  source := .host
  slew := 0
  freqAdj := 0
  ptpTimeout := 1
  label := none
  quiet := true
  labelled := false
  sumX := 0
  f0 := 0
  goodPulses := 0
  outliers := 0
  ppsOffset := 0
  learned := []
  line0 := false
  line1 := false
  client := false
  pcie := false
  fecOnLine1 := false
  clientFallback := false
  onShadow := false
  ppsWidth := 100
  ppsDelay := 0
  ppsOut := false
  synce := Vector.replicate 2 ⟨0, false, 0, false⟩
  ptpCfg := Vector.replicate 32 0
  ring := ⟨0, 0, 0, 0⟩
  ringData := []
  ptpLost := 0
  ptpSends := []
  ptpOut := []
  snapshots := []
  latchedHi := 0
  latchedNs := 0
  latchedFrac := 0

end Sys2Proof.Machine
end

