-- ==== Sys2Proof/Machine/State.lean ====
section
/-! DEFINITION. The state of the block: every subsystem's registers, buffers and modes, and the queue of waiting commands. -/

namespace Sys2Proof.Machine

/-- Why the block stops with a fault. No command of this block stops: errors are status codes, events and modes (R70),
so no meaning raises one; the one reason is kept for a machine that cannot continue. Safe: nothing is proved from it. -/
inductive Fault where
  /-- Raised by no meaning. Safe: a step that answered it would only stop. -/
  | stopped
deriving DecidableEq, Repr

/-- Why the block refuses a command. -/
inductive Refusal where
  /-- The command has no meaning yet, named by its mnemonic. Safe: the step only stops. -/
  | notModelled (mnemonic : String)
deriving DecidableEq, Repr

/-- The state of the PX4800. -/
structure State where
  /-- Modes, boot, resets, operator keys (chapter 02). -/
  dev : Dev
  /-- Host interface and management port (chapter 03). -/
  hif : Hif
  /-- Device time and references (chapter 04). -/
  tim : Tim
  /-- Line converters (chapter 05). -/
  cnv : Cnv
  /-- Coherent DSP of both engines (chapter 06). -/
  dsp : Dsp
  /-- Encoders and decoder pool (chapter 07). -/
  fec : Fec
  /-- Framer, defects and performance history (chapter 08). -/
  frm : Frm
  /-- Map plan and protection (chapter 09). -/
  map : Map
  /-- Cipher engine and key store (chapter 10). -/
  cph : Cph
  /-- Packet traffic manager and Woodpile (chapter 11). -/
  pkt : Pkt
  /-- Client lanes (chapter 12). -/
  cln : Cln
  /-- Peer link (chapter 12). -/
  plk : Plk
  /-- Monitor chain, DMA rings and housekeeping converters (chapter 13). -/
  mon : Mon
  /-- Thermal management and adaptive voltage (chapter 14). -/
  thm : Thm
  /-- Memory integrity (chapter 15). -/
  mi : Mi
  /-- Logbook, life counters and margin plan (chapter 16). -/
  log : Log
  /-- Pins, straps and supplies (chapter 17). -/
  pins : Pins
  /-- The datapath configuration in force at the trip (R35). -/
  atTrip : AtTrip
  /-- The readable copies of Snapshot fields, by BAR0 address; an address not listed reads its reset value (R26, R108). -/
  snap : List (Nat × Nat)
  /-- The readable copies of Second latch fields, by BAR0 address (R26, R109). -/
  latched : List (Nat × Nat)
  /-- The windows whose _SNAP.REQ reads 1 (R108), by opcode group and engine. -/
  snapBusy : List Nat
  /-- The model's own: how many free values have been used. -/
  freeCount : Nat
  /-- The commands that wait, first in, first out. -/
  pending : List Instr
deriving DecidableEq, Repr

/-- The block right after cold reset (R42, R486): every field at its reset value, nothing waiting. -/
def State.reset : State where
  dev := Dev.reset
  hif := Hif.reset
  tim := Tim.reset
  cnv := Cnv.reset
  dsp := Dsp.reset
  fec := Fec.reset
  frm := Frm.reset
  map := Map.reset
  cph := Cph.reset
  pkt := Pkt.reset
  cln := Cln.reset
  plk := Plk.reset
  mon := Mon.reset
  thm := Thm.reset
  mi := Mi.reset
  log := Log.reset
  pins := Pins.reset
  atTrip := AtTrip.reset
  snap := []
  latched := []
  snapBusy := []
  freeCount := 0
  pending := []

end Sys2Proof.Machine
end

