-- ==== Sys2Proof/Machine/Ops.lean ====
section
/-! DEFINITION. Shared operations: device time, events, interrupts, completion, and the command pipeline of R71. -/

namespace Sys2Proof

/-- The fields of a submission entry (R64). -/
def Packet.cmdAddr (p : Packet) : Long := BitVec.ofNat 64 (Machine.u64 p.entry 0)
def Packet.cmdLen (p : Packet) : Nat := Machine.u32 p.entry 8
def Packet.respMax (p : Packet) : Word := BitVec.ofNat 32 (Machine.u32 p.entry 12)
def Packet.respAddr (p : Packet) : Long := BitVec.ofNat 64 (Machine.u64 p.entry 16)

end Sys2Proof

namespace Sys2Proof.Machine

/-! ### Device time (R92, R93) -/

/-- Units of `Tim.tod` in a nanosecond, in a second, and in one unit of FRACTION. -/
def unitsPerNs : Nat := 512000000000
def unitsPerSecond : Nat := 512000000000000000000
def unitsPerFraction : Nat := 7812500

/-- SECONDS, NANOSECONDS and FRACTION of device time (R92). -/
def Tim.seconds (t : Tim) : Nat := t.tod / unitsPerSecond
def Tim.nanoseconds (t : Tim) : Nat := t.tod / unitsPerNs % 1000000000
def Tim.fraction (t : Tim) : Nat := t.tod % unitsPerNs / unitsPerFraction
/-- The 16 bits the accumulator keeps below FRACTION (R93). -/
def Tim.accumulator (t : Tim) : Nat := t.tod % unitsPerFraction * 2 ^ 16 / unitsPerFraction

/-- The arrival counter: control-clock cycles of 1,250 ps since the last Kindling (R78). -/
def State.arrival (s : State) : Nat := (s.tim.now - s.tim.kindlingStart) / 1250 % 2 ^ 64

/-- Device time at the stamp of the command that runs: that of its fetch when a fence held it back (R78, R98). -/
def State.todAtStamp (s : State) : Nat := (s.hif.stamped.map (fun x => x.2)).getD s.tim.tod

/-- Take a free value: the value, and the state that has used it. -/
def takeFree (s : State) : Nat × State :=
  (Config.freeValue s.freeCount, { s with freeCount := s.freeCount + 1 })

/-! ### Interrupts (R61, R63) -/

/-- The host interface can move data: link up, not in D3hot, PERST high (R59, R60). -/
def Hif.dmaUp (h : Hif) : Bool := decide (h.linkGen ≠ 0) && !h.d3hot && !h.perstLow

/-- Signal an MSI-X vector: a message when it is unmasked, else its pending bit (R61). -/
def signalVector (v : Nat) (s : State) : State :=
  if !s.hif.dmaUp then s
  else if s.hif.msixMask.getLsbD v then
    { s with hif := { s.hif with msixPending := s.hif.msixPending ||| BitVec.ofNat 64 (2 ^ v) } }
  else { s with hif := { s.hif with msixSent := vecMod s.hif.msixSent v (· + 1) } }

/-- Count a host-interface error in one field of HIF_ERR_CNT, saturating at 0xFF, and signal vector 17 (R61, R91). -/
def countBadAccess (s : State) : State :=
  signalVector 17 { s with hif := { s.hif with badAccess := satAdd 255 s.hif.badAccess 1 } }
def countBadDb (s : State) : State :=
  signalVector 17 { s with hif := { s.hif with badDb := satAdd 255 s.hif.badDb 1 } }
def countBadFetch (s : State) : State :=
  signalVector 17 { s with hif := { s.hif with badFetch := satAdd 255 s.hif.badFetch 1 } }
def countBadCrc (s : State) : State :=
  signalVector 17 { s with hif := { s.hif with badCrc := satAdd 255 s.hif.badCrc 1 } }

/-! ### Status codes and events (R70, R75 to R77, R87) -/

/-- The code of a status (R70). -/
def Status.code : Status → Nat
  | .ok => 0 | .deferred => 1 | .badOpcode => 2 | .badLength => 3 | .badParam => 4 | .badState => 5
  | .leased => 6 | .busy => 7 | .noResource => 8 | .integrity => 9 | .denied => 10 | .tempWindow => 11
  | .timeout => 12 | .aborted => 13 | .partly => 14

/-- Slots of the event ring in use, and free beside the one kept in reserve (R76). -/
def EventRing.used (r : EventRing) : Nat := (r.tail + r.size - r.head) % r.size
def EventRing.free (r : EventRing) : Nat := r.size - 1 - r.used

/-- Write one record at the tail, with the phase of this pass (R65, R75). -/
def EventRing.write (r : EventRing) (e : Event) : EventRing :=
  { r with
    ring := tabInsert r.ring r.tail (r.phase, e)
    tail := (r.tail + 1) % r.size
    phase := if r.tail + 1 = r.size then !r.phase else r.phase }

/-- Count a dropped event (R76, R91). -/
def EventRing.lose (r : EventRing) (seq : Nat) : EventRing :=
  { r with
    lost := satAdd 0xFFFFFFFF r.lost 1
    firstLost := if r.lostRun = 0 then seq else r.firstLost
    lostRun := r.lostRun + 1 }

/-- The leases active now: a lease has ended at its expiry instant, whether or not its end has been reported (R84). -/
def State.activeLeases (s : State) : List Lease := s.hif.leases.filter (fun l => decide (s.arrival < l.expiry))
/-- The groups covered by the active leases (R81). -/
def State.leasedMask (s : State) : Half := s.activeLeases.foldl (fun m l => m ||| l.mask) 0

/-- The BMC buffer takes this event (R87). -/
def bmcTakes (s : State) (e : Event) : Bool :=
  e.group = 0 || e.group = 13 || e.group = 14 || e.group = 15 || s.leasedMask.getLsbD e.group
    || (e.completion && e.channel = 16)

/-- Append to the 32-record BMC buffer, overwriting the oldest record when full (R87). -/
def bmcAppend (m : MgmtPort) (e : Event) : MgmtPort :=
  if m.buffer.length < 32 then { m with buffer := m.buffer ++ [e] }
  else { m with buffer := m.buffer.drop 1 ++ [e], overwritten := m.overwritten + 1 }

/-- HIF_EVT_MASK suppresses the event in the ring (R77). -/
def masked (h : Hif) (e : Event) : Bool := !e.completion && e.group ≠ 1 && h.evtMask.getLsbD e.group

/-- Offer an event to the event ring (R75 to R77): suppressed, lost, or written with vector 16 signalled. -/
def toRing (e : Event) (s : State) : State :=
  if masked s.hif e then s
  else if !s.hif.events.enabled then
    { s with hif := { s.hif with events := { s.hif.events with lost := satAdd 0xFFFFFFFF s.hif.events.lost 1 } } }
  else if !s.hif.dmaUp || decide (s.hif.events.free = 0) || decide (s.hif.events.lostRun ≠ 0) then
    { s with hif := { s.hif with events := s.hif.events.lose e.seq } }
  else signalVector 16 { s with hif := { s.hif with events := s.hif.events.write e } }

/-- Offer an event to the BMC buffer (R87). -/
def toBmc (e : Event) (s : State) : State :=
  if bmcTakes s e then { s with hif := { s.hif with mgmt := bmcAppend s.hif.mgmt e } } else s

/-- The record of an event raised now (R75). -/
def mkEvent (group code : Nat) (payload : List Byte) (completion : Bool) (tag : Half) (channel : Nat) (status : Status)
    (s : State) : Event :=
  { group, code, payload, completion, seq := s.hif.eventSeq.toNat, seconds := s.tim.seconds,
    nanoseconds := s.tim.nanoseconds, fraction := s.tim.fraction, tag, channel, status }

/-- The control and always-on domains have their clock: the crystal runs. Without it only the thermal trip stays alive (R103,
log 89). -/
def State.clocked (s : State) : Bool := !s.thm.crystalLost

/-- Generate an event: EVENT_SEQ advances whether or not the event is written (R75, R77). -/
def raiseEvent (e : Event) (s : State) : State :=
  if s.clocked then toBmc e (toRing e { s with hif := { s.hif with eventSeq := s.hif.eventSeq + 1 } }) else s

/-- An event of the device itself (R75: TAG 0xFFFF, CHANNEL 0xFF). -/
def deviceEvent (group code : Nat) (payload : List Byte) (s : State) : State :=
  raiseEvent (mkEvent group code payload false 0xFFFF 0xFF .ok s) s
/-- An event that completes no command: it names the command whose effect raises it, and is the device's own where none does
(R75; log 83). -/
def emit (group code : Nat) (payload : List Byte) (s : State) : State :=
  match s.hif.origin with
  | some o => raiseEvent (mkEvent group code payload false o.1 o.2 .ok s) s
  | none => deviceEvent group code payload s

/-- The 64 bytes of an event record (R75). -/
def Event.bytes (e : Event) (phase : Bool) : List Byte :=
  leBytes 1 e.group ++ leBytes 1 e.code ++ leBytes 1 e.payload.length ++ leBytes 1 (b2n phase + 2 * b2n e.completion)
    ++ leBytes 4 e.seq ++ leBytes 6 e.seconds ++ leBytes 4 e.nanoseconds ++ leBytes 2 e.fraction
    ++ leBytes 2 e.tag.toNat ++ leBytes 1 e.channel ++ leBytes 1 (if e.completion then e.status.code else 0)
    ++ bytesAt 0 40 e.payload

/-- The command whose effect begins, and its end: what is raised later is no longer its own (R75). -/
def beginOrigin (tag : Half) (chan : Nat) (s : State) : State := { s with hif := { s.hif with origin := some (tag, chan) } }
def endOrigin (s : State) : State := { s with hif := { s.hif with origin := none } }

/-! ### Completion of DEFERRED commands (R72, R73) -/

/-- The first DEFERRED command of an opcode and unit. -/
def findDeferred (opcode unit : Nat) (l : List Deferred) : Option Deferred :=
  l.find? (fun d => d.opcode = opcode ∧ d.unit = unit)

/-- Remove the first DEFERRED command of an opcode and unit. -/
def dropDeferred (opcode unit : Nat) (l : List Deferred) : List Deferred :=
  l.eraseP (fun d => d.opcode = opcode ∧ d.unit = unit)

/-- The completion event of a DEFERRED command, unless the reset of the host interface discards it (R60, R75). -/
def completionEvent (d : Deferred) (status : Status) (payload : List Byte) (s : State) : State :=
  if d.discard then s else raiseEvent (mkEvent d.group d.code payload true d.tag d.chan status s) s

/-- Complete the DEFERRED command of an opcode and unit through its event; with none, raise the event alone. -/
def completeOr (opcode unit : Nat) (status : Status) (group code : Nat) (payload : List Byte) (s : State) : State :=
  match findDeferred opcode unit s.hif.deferred with
  | some d =>
    completionEvent d status payload
      { s with hif := { s.hif with deferred := dropDeferred opcode unit s.hif.deferred } }
  | none => emit group code payload s

/-- Complete the DEFERRED command of an opcode and unit, if there is one; else nothing. -/
def completeDeferred (opcode unit : Nat) (status : Status) (payload : List Byte) (s : State) : State :=
  match findDeferred opcode unit s.hif.deferred with
  | some d =>
    completionEvent d status payload
      { s with hif := { s.hif with deferred := dropDeferred opcode unit s.hif.deferred } }
  | none => s

/-- A DEFERRED command of this opcode and unit is in progress. -/
def hasDeferred (opcode unit : Nat) (s : State) : Bool := (findDeferred opcode unit s.hif.deferred).isSome

/-- Complete a list of DEFERRED commands ABORTED (R73). -/
def abortEach : List Deferred → State → State
  | [], s => s
  | d :: ds, s => abortEach ds (completionEvent d .aborted d.abortPayload s)

/-- Abort the DEFERRED commands that satisfy `f` (R73, R88). -/
def abortDeferred (f : Deferred → Bool) (s : State) : State :=
  abortEach (s.hif.deferred.filter f)
    { s with hif := { s.hif with deferred := s.hif.deferred.filter (fun d => !f d) } }

/-! ### Completion entries and responses (R65 to R69) -/

/-- The completion ring has no free slot (R68; one slot keeps head and tail apart). -/
def QueuePair.full (q : QueuePair) : Bool := decide ((q.cqTail + 1) % q.cqSize = q.cqHead)

/-- Write one entry into the completion ring, with the phase of this pass (R65). -/
def QueuePair.write (q : QueuePair) (e : CqEntry) : QueuePair :=
  { q with
    ring := tabInsert q.ring q.cqTail { e with phase := q.cqPhase }
    cqTail := (q.cqTail + 1) % q.cqSize
    cqPhase := if q.cqTail + 1 = q.cqSize then !q.cqPhase else q.cqPhase }

/-- The 16 bytes of a completion entry, little-endian (R5, R65). -/
def CqEntry.bytes (e : CqEntry) : List Byte :=
  leBytes 2 e.tag.toNat ++ leBytes 2 e.sqIndex ++ leBytes 1 e.status.code
    ++ leBytes 1 (packBits [e.phase, e.respWritten, e.truncated]) ++ leBytes 2 e.respLen ++ leBytes 4 e.sqHead ++ leBytes 4 0
/-- What the completion ring holds in host memory: the address and the bytes of each entry written (R62, R65). -/
def QueuePair.image (q : QueuePair) : List (Nat × List Byte) := q.ring.map (fun x => (q.cqBase.toNat + 16 * x.1, x.2.bytes))

/-- Queue pair `n`. -/
def State.queue (s : State) (n : Nat) : QueuePair := vecGet QueuePair.absent s.hif.queues n

/-- Replace queue pair `n`. -/
def State.setQueue (s : State) (n : Nat) (q : QueuePair) : State :=
  { s with hif := { s.hif with queues := vecMod s.hif.queues n (fun _ => q) } }

/-- HIF_QUEUE_ERROR for a completion ring without a free slot (R90). -/
def stallEvent (n : Nat) (s : State) : State := deviceEvent 1 4 (leBytes 1 n ++ leBytes 1 1) s

/-- Write bytes into host memory at an address. -/
def hostWrite (addr : Nat) (bs : List Byte) (s : State) : State :=
  { s with hif := { s.hif with hostWrites := tabInsert s.hif.hostWrites addr bs } }
/-- The response of an entry reaches host memory with it (R64, R66). -/
def writeResponse (e : CqEntry) (s : State) : State :=
  match e.resp with
  | some x => hostWrite x.1 x.2 s
  | none => s

/-- Post a completion entry with its response: written when there is a free slot and nothing is held, else held, with one
HIF_QUEUE_ERROR when the ring is full (R68); held too while the link moves no data (R59). An entry of a queue that is disabled
is discarded (R60, R88). -/
def postCompletion (n : Nat) (e : CqEntry) (s : State) : State :=
  let q := s.queue n
  if !q.enabled then s
  else if q.held.isEmpty && !q.full && s.hif.dmaUp then
    let s1 := (writeResponse e s).setQueue n (q.write e)
    if q.irqEn && !e.suppressIrq then signalVector n s1 else s1
  else
    let s1 := s.setQueue n { q with held := q.held ++ [e], stalled := q.stalled || q.full }
    if q.full && !q.stalled then stallEvent n s1 else s1

/-- Write held entries while slots are free: the queue, and whether an entry that signals was written. -/
def writeHeld (q : QueuePair) (sig : Bool) : List CqEntry → QueuePair × Bool
  | [] => ({ q with held := [] }, sig)
  | e :: es => if q.full then ({ q with held := e :: es }, sig) else writeHeld (q.write e) (sig || !e.suppressIrq) es
/-- Free slots have appeared, or the link moves data again: held entries are written in order, as one batch; fetching resumes
when none is left (R61, R68). -/
def flushHeld (n : Nat) (s : State) : State :=
  let q := s.queue n
  if q.held.isEmpty || !s.hif.dmaUp then s
  else
    let w := writeHeld q false q.held
    let left := !w.1.held.isEmpty
    let sent := q.held.take (q.held.length - w.1.held.length)
    let s1 := (sent.foldl (fun u e => writeResponse e u) s).setQueue n { w.1 with stalled := left }
    let s2 := if w.2 && q.irqEn then signalVector n s1 else s1
    if left && !q.stalled then stallEvent n s2 else s2

/-- HIF_EVENTS_LOST, as soon as the ring can take it (R76). -/
def reportLost (s : State) : State :=
  let r := s.hif.events
  if r.lostRun ≠ 0 ∧ r.enabled ∧ r.free ≠ 0 ∧ s.hif.dmaUp then
    deviceEvent 1 1 (leBytes 4 (min 0xFFFFFFFF r.lostRun) ++ leBytes 4 r.firstLost)
      { s with hif := { s.hif with events := { r with lostRun := 0, firstLost := 0 } } }
  else s
/-- The link moves data again (R59, R60). -/
def resumeDma (s : State) : State := reportLost ((List.range 16).foldl (fun u n => flushHeld n u) s)

/-- A response packet with its CRC (R69). -/
def responsePacket (f : InFlight) (status : Status) (detail : Nat) (resp : List Byte) : List Byte :=
  let head := leBytes 2 f.opcode ++ [f.flags] ++ leBytes 1 1 ++ leBytes 2 f.tag.toNat ++ leBytes 2 resp.length
    ++ leBytes 4 f.seq.toNat ++ leBytes 1 status.code ++ leBytes 1 0 ++ leBytes 2 detail
  let tail := leBytes 8 f.arrival ++ leBytes 4 0 ++ resp
  head ++ leBytes 4 (crc32c (head ++ leBytes 4 0 ++ tail)) ++ tail

/-- The completion entry of a command with its response packet, cut to RESP_MAX; SQ_HEAD is the ring's head after the
command's own entry (R65, R66). -/
def entryOf (f : InFlight) (status : Status) (packet : List Byte) (sqSize : Nat) : CqEntry :=
  { tag := f.tag, sqIndex := f.sqIndex, status, phase := false,
    respWritten := decide (f.respMax.toNat ≠ 0),
    truncated := decide (f.respMax.toNat ≠ 0 ∧ packet.length > f.respMax.toNat),
    respLen := packet.length, sqHead := (f.sqIndex + 1) % sqSize, suppressIrq := f.flags.getLsbD 1
    resp := if f.respMax.toNat = 0 then none else some (f.respAddr.toNat, packet.take f.respMax.toNat) }

/-- Answer a command: to its queue's completion ring and response buffer, or to the management port's kept response
(R65, R66, R69, R86). A packet counts as executed when its status is OK, DEFERRED or PARTIAL (R70). -/
def finish (f : InFlight) (status : Status) (detail : Nat) (resp : List Byte) (s : State) : State :=
  if f.discard then s
  else if f.chan = 16 then
    let m := s.hif.mgmt
    let ran := decide (status = .ok ∨ status = .deferred ∨ status = .partly)
    { s with hif := { s.hif with mgmt := { m with
        state := 2, kept := responsePacket f status detail resp
        last := if ran then m.current else m.last } } }
  else postCompletion f.chan (entryOf f status (responsePacket f status detail resp) (s.queue f.chan).sqSize) s

/-! ### The command pipeline (R67 to R73) -/

/-- What the pipeline must know of a command. -/
structure CmdInfo where
  opcode : Nat
  modifying : Bool
  /-- A loop, test-pattern or other command of MAINTENANCE alone (R30). -/
  maintenance : Bool
  /-- The command needs a powered datapath (R30, STANDBY row). -/
  powered : Bool
  /-- The senders that may never use it (R83, R88). -/
  bmcDenied : Bool
  hostDenied : Bool
  /-- PARAM_LEN matches the opcode (R71, step 8). -/
  lenOk : List Byte → Bool

/-- The opcode group of a command (R69). -/
def CmdInfo.group (c : CmdInfo) : Nat := c.opcode / 256

/-- A read-only command with a fixed PARAM_LEN, and a modifying one. -/
def readCmd (opcode len : Nat) : CmdInfo := ⟨opcode, false, false, false, false, false, fun ps => ps.length = len⟩
def modCmd (opcode len : Nat) : CmdInfo := ⟨opcode, true, false, false, false, false, fun ps => ps.length = len⟩

/-- The packet's bytes with the CRC field zero (R69). -/
def packetBytes (opcode : Nat) (p : Packet) : List Byte :=
  leBytes 2 opcode ++ [p.flags, p.version] ++ leBytes 2 p.tag.toNat ++ leBytes 2 p.params.length
    ++ leBytes 4 p.seq.toNat ++ leBytes 4 p.leaseId.toNat ++ leBytes 4 0 ++ bytesAt 0 12 p.reserved ++ p.params

/-- The command came from the BMC. -/
def fromBmc (p : Packet) : Bool := decide (p.chan.val = 16)

/-- The longest PARAM_LEN of the sender's channel (R69). -/
def packetLimit (p : Packet) : Nat := if fromBmc p then 224 else 4064

/-- The packet CRC is right, and CMD_LEN holds every byte it covers (R64, R69). -/
def packetCrcOk (opcode : Nat) (p : Packet) : Bool :=
  decide (crc32c (packetBytes opcode p) = p.crc.toNat)
    && (fromBmc p || decide (packetLimit p < p.params.length) || decide (32 + p.params.length ≤ p.cmdLen))

/-- A lease covers a command: its group's bit, and in group 0x01 the two transfers only (R81). -/
def Lease.covers (l : Lease) (c : CmdInfo) : Bool :=
  l.mask.getLsbD c.group && (decide (c.group ≠ 1) || decide (c.opcode = 0x0108) || decide (c.opcode = 0x0109))

/-- The modes that a command's own table names for it: DEV_APP_RESET, DEV_EMBER_RELEASE, DEV_LOCKOUT_DIAG (R53), CNV_FG_CAL,
CNV_REFRESH, CNV_TSET_CLEAR (R144), FEC_STATS_GET, FEC_CORE_RETEST (R208) and LOG_EXPORT (R481). -/
def ownModes (m : Mode) (opcode : Nat) : Bool :=
  match opcode with
  | 0x0002 => !decide (m = .kindling) && !decide (m = .ember) && !decide (m = .lockout)
  | 0x0004 => decide (m = .ember)
  | 0x0009 => decide (m = .lockout)
  | 0x0301 => decide (m = .calibrate)
  | 0x0302 => decide (m = .service) || decide (m = .maintenance)
  | 0x0305 => !decide (m = .service) && !decide (m = .maintenance)
  | 0x0503 => decide (m = .service) || decide (m = .maintenance) || decide (m = .quiesce)
  | 0x0505 => decide (m = .standby)
  | 0x0F01 => !decide (m = .ember)
  | _ => true

/-- The current mode accepts the command (R30, and the modes its own table names). -/
def modeAccepts (m : Mode) (c : CmdInfo) : Bool :=
  ownModes m c.opcode && match m with
  | .kindling => false
  | .standby => !c.powered && !c.maintenance
  | .calibrate => (decide (c.group ≤ 3) || decide (12 ≤ c.group)) && !c.maintenance
  | .service => !c.maintenance
  | .maintenance => true
  | .quiesce | .ember => (decide (c.group = 0) || !c.modifying || decide (13 ≤ c.group)) && !c.maintenance
  | .lockout => decide (c.opcode = 0x0009)

/-- Steps 1 to 8 of R71 for a defined opcode: OK, or the first fault. DESIGN CHOICE: a packet with the TAG 0xFFFF that R69
reserves to the device is accepted and its tag echoed (log 34). -/
def admission (c : CmdInfo) (p : Packet) (s : State) : Status :=
  if !packetCrcOk c.opcode p then .integrity
  else if p.params.length > packetLimit p then .badLength
  else if p.version ≠ 1 ∨ 4 ≤ p.flags.toNat ∨ (!(fromBmc p) ∧ p.leaseId ≠ 0) then .badParam
  else if c.group = 8 ∧ s.dev.variantN then .denied
  else if fromBmc p ∧ c.bmcDenied ∨ !(fromBmc p) ∧ c.hostDenied then .denied
  else if fromBmc p ∧ c.modifying ∧ ¬ s.activeLeases.any (fun l => l.id = p.leaseId && l.covers c) then .denied
  else if !(fromBmc p) ∧ c.modifying ∧ s.activeLeases.any (fun l => l.covers c) then .leased
  else if !modeAccepts s.dev.mode c then .badState
  else if !c.lenOk p.params then .badLength
  else .ok

/-- Commands of a channel that have not completed (R67, R72). -/
def outstanding (chan : Nat) (s : State) : Bool :=
  s.hif.deferred.any (fun d => d.chan = chan && !d.discard) || s.hif.inflight.any (fun f => f.chan = chan && !f.discard)

/-- The device fetches from queue `n`: it has its clock, the queue is enabled and not stalled, the link moves data, the mode
services queues, and an entry beyond those that wait is unserved (R67, R68, R73, R103). -/
def fetches (n : Nat) (s : State) : Bool :=
  let q := s.queue n
  s.clocked && q.enabled && !q.stalled && s.hif.dmaUp && decide (s.dev.mode ≠ .kindling)
    && decide (q.waiting.length < (q.sqTail + q.sqSize - q.sqHead) % q.sqSize)
/-- FENCE is set and an earlier command of the queue has not completed (R67). -/
def fenced (p : Packet) (s : State) : Bool := p.flags.getLsbD 0 && outstanding p.chan.val s
/-- CMD_LEN lies in the range of a packet (R64, R66). -/
def lengthFits (p : Packet) : Bool := fromBmc p || decide (32 ≤ p.cmdLen ∧ p.cmdLen ≤ 4096)

/-- The device starts this packet now: a host packet it can fetch and read, with none waiting before it and no fence to wait for
(R66, R67); the management port serves one command at a time (R86). -/
def startable (p : Packet) (s : State) : Bool :=
  if fromBmc p then s.clocked && decide (s.hif.mgmt.state ≠ 1)
  else fetches p.chan.val s && (s.queue p.chan.val).waiting.isEmpty && !fenced p s && lengthFits p

/-- An entry stays behind the fence it meets, or behind those that wait already, with the stamp of its fetch (R67, R78). -/
def holdEntry (n : Nat) (x : Option (Nat × Packet)) (s : State) : State :=
  let q := s.queue n
  s.setQueue n { q with waiting := q.waiting ++ [⟨x, s.arrival, s.tim.tod⟩] }
/-- A packet cannot be read, or its CMD_LEN is out of range: the entry completes INTEGRITY with TAG 0xFFFF and no response
(R66). -/
def fetchFailed (n : Nat) (s : State) : State :=
  let q := s.queue n
  let head := (q.sqHead + 1) % q.sqSize
  postCompletion n { tag := 0xFFFF, sqIndex := q.sqHead, status := .integrity, phase := false, respWritten := false
                     truncated := false, respLen := 0, sqHead := head, suppressIrq := false, resp := none }
    (countBadFetch (s.setQueue n { q with sqHead := head }))
/-- What becomes of a packet that does not start: held, completed INTEGRITY, or nothing where the device fetches none. -/
def notStarted (opcode : Nat) (p : Packet) (s : State) : State :=
  let n := p.chan.val
  if fromBmc p || !fetches n s then s
  else if !(s.queue n).waiting.isEmpty || (lengthFits p && fenced p s) then holdEntry n (some (opcode, p)) s
  else fetchFailed n s

/-- Who sent the command and where its answer goes. -/
def senderOf (opcode : Nat) (p : Packet) (s : State) : InFlight :=
  { chan := p.chan.val, tag := p.tag, opcode, flags := p.flags, seq := p.seq, key := 0,
    sqIndex := (s.queue p.chan.val).sqHead, respMax := p.respMax, respAddr := p.respAddr,
    arrival := (s.hif.stamped.map (fun x => x.1)).getD s.arrival, discard := false }

/-- Take the packet: the submission head advances, or the management port is executing (R67, R86), and what follows is the
command's (R75). -/
def takePacket (p : Packet) (s0 : State) : State :=
  let s := beginOrigin p.tag p.chan.val s0
  if fromBmc p then
    { s with hif := { s.hif with mgmt := { s.hif.mgmt with state := 1, current := some (p.seq, p.crc) } } }
  else
    let q := s.queue p.chan.val
    s.setQueue p.chan.val { q with sqHead := (q.sqHead + 1) % q.sqSize }
/-- The packet is answered: what is raised from here on is the device's. -/
def reply (f : InFlight) (status : Status) (detail : Nat) (resp : List Byte) (s : State) : State :=
  finish f status detail resp (endOrigin s)

/-- What a command's own part answers. -/
inductive Reply where
  /-- An answer at once: status, DETAIL, response bytes, and the state after its effect. -/
  | done (status : Status) (detail : Nat) (resp : List Byte) (s : State)
  /-- DEFERRED: the unit it occupies, the event that completes it and the payload if aborted, and its first effect. -/
  | later (unit group code : Nat) (abortPayload : List Byte) (eff : State → State)
  /-- DEFERRED with response bytes. -/
  | laterWith (resp : List Byte) (unit group code : Nat) (abortPayload : List Byte) (eff : State → State)
  /-- Started, to be answered by a later event under this key. -/
  | wait (key : Nat) (s : State)

/-- OK without a response; OK with one; a fault without effect. -/
def Reply.ok (s : State) : Reply := .done .ok 0xFFFF [] s
def Reply.answer (resp : List Byte) (s : State) : Reply := .done .ok 0xFFFF resp s
def Reply.fail (st : Status) (s : State) : Reply := .done st 0xFFFF [] s
def Reply.failAt (st : Status) (off : Nat) (s : State) : Reply := .done st off [] s

/-- One of a command's own checks (R71, steps 9 and 10): when `bad`, the status and the parameter offset. -/
structure Check where
  bad : Bool
  status : Status
  offset : Nat

/-- A parameter out of range or reserved, at an offset (R8, R70). -/
def badParam (off : Nat) (bad : Bool) : Check := ⟨bad, .badParam, off⟩
/-- A length, count or size rejected, at an offset (R9). -/
def badLen (off : Nat) (bad : Bool) : Check := ⟨bad, .badLength, off⟩
/-- A check with another status. -/
def failIf (st : Status) (bad : Bool) : Check := ⟨bad, st, 0xFFFF⟩
/-- The parameter bytes from `off` to `off + n - 1` are reserved (R8). -/
def reservedBytes (ps : List Byte) (off n : Nat) : Check := badParam off (leNat (bytesAt off n ps) ≠ 0)

/-- Run the checks in order; the first that is bad answers, else the command goes on. -/
def checked (s : State) : List Check → Reply → Reply
  | [], r => r
  | c :: cs, r => if c.bad then .failAt c.status c.offset s else checked s cs r

/-- Add a DEFERRED command (R72). -/
def addDeferred (f : InFlight) (unit group code : Nat) (abortPayload : List Byte) (s : State) : State :=
  { s with hif := { s.hif with deferred :=
      s.hif.deferred ++ [⟨f.chan, f.tag, f.opcode, unit, group, code, abortPayload, false⟩] } }

/-- Answer with what the command's own part says: DEFERRED within the limit of 64, else NO_RESOURCE (R72). -/
def conclude (f : InFlight) (s1 : State) : Reply → State
  | .done st detail resp s' => reply f st detail resp s'
  | .later unit group code abortPayload eff =>
    if 64 ≤ s1.hif.deferred.length then reply f .noResource 0xFFFF [] s1
    else endOrigin (eff (beginOrigin f.tag f.chan
      (reply f .deferred 0xFFFF [] (addDeferred f unit group code abortPayload s1))))
  | .laterWith resp unit group code abortPayload eff =>
    if 64 ≤ s1.hif.deferred.length then reply f .noResource 0xFFFF [] s1
    else endOrigin (eff (beginOrigin f.tag f.chan
      (reply f .deferred 0xFFFF resp (addDeferred f unit group code abortPayload s1))))
  | .wait key s0 =>
    let s' := endOrigin s0
    { s' with hif := { s'.hif with inflight := s'.hif.inflight ++ [{ f with key := key }] } }

/-- A BMC packet with the SEQ and CRC of the last executed one: the kept response stands (R86). -/
def isRetry (p : Packet) (s : State) : Bool := fromBmc p && decide (s.hif.mgmt.last = some (p.seq, p.crc))

/-- The whole pipeline of a command: not started (held behind a fence, or unreadable), answered from the kept response, rejected, or run by its own part (R67,
R71, R86). -/
def runCommand (c : CmdInfo) (body : Packet → State → Reply) (p : Packet) (s : State) : State :=
  if !startable p s then notStarted c.opcode p s
  else if isRetry p s then { s with hif := { s.hif with mgmt := { s.hif.mgmt with state := 2 } } }
  else
    let f := senderOf c.opcode p s
    let s1 := takePacket p s
    match admission c p s1 with
    | .ok => conclude f s1 (body p s1)
    | .integrity => reply f .integrity 0xFFFF [] (countBadCrc s1)
    | st => reply f st 0xFFFF [] s1

/-- Answer a command that was waiting under a key. -/
def finishWaiting (key : Nat) (status : Status) (resp : List Byte) (s : State) : State :=
  match s.hif.inflight.find? (fun f => f.key = key) with
  | some f =>
    finish f status 0xFFFF resp { s with hif := { s.hif with inflight := s.hif.inflight.eraseP (fun g => g.key = key) } }
  | none => s

/-- A fresh key for a waiting or scheduled thing. -/
def takeKey (s : State) : Nat × State :=
  (s.hif.nextKey, { s with hif := { s.hif with nextKey := s.hif.nextKey + 1 } })

end Sys2Proof.Machine
end

