-- ==== Sys2Proof/Machine/TimeOps.lean ====
section
/-! DEFINITION. Device-time instants and line references as every subsystem uses them (chapter 04). -/

namespace Sys2Proof.Machine

/-- A device-time instant in the units of the time counter (R92). -/
def todOf (seconds nanoseconds : Nat) : Nat := seconds * unitsPerSecond + nanoseconds * unitsPerNs

/-- An instant lies more than `limit` seconds ahead of device time. -/
def todAhead (seconds nanoseconds limit : Nat) (s : State) : Bool :=
  decide (s.tim.tod + limit * unitsPerSecond < todOf seconds nanoseconds)

/-- An instant is 0 or has passed. -/
def todPast (seconds nanoseconds : Nat) (s : State) : Bool :=
  decide (seconds = 0 ∧ nanoseconds = 0) || decide (todOf seconds nanoseconds ≤ s.tim.tod)

/-! ### The clock (R93, R98, R100, R101)

The accumulator below FRACTION keeps whatever the ticks add, so nothing is lost (log 5). In 2,000 ps device time gains 1,024 · 10⁹ units of the time counter, plus the frequency adjustment in 1/1,024 ppb, plus
102,400,000 units while a slew runs. -/

/-- The adjustment of the crystal's shadow: the mean of 1,000 measurements in HOLDOVER, else none (R100). DESIGN CHOICE: the mean is
rounded down to a whole 1/1,024 ppb before its sign is turned, since the rule gives no precision (log 5). -/
def shadowAdj (t : Tim) : Int :=
  if t.servo = .holdover ∧ 1000 ≤ t.learned.length then -(t.learned.foldl (· + ·) 0 / 1000) else 0
/-- The frequency adjustment by which device time advances: the one in force, or the shadow's without the client reference or
with the time domain in reset (R93, R101, R503). -/
def clockAdj (t : Tim) : Int := if t.onShadow || t.clientFallback then shadowAdj t else t.freqAdj
/-- Units of the time counter in 2,000 ps, without a slew. -/
def tickUnits (t : Tim) : Nat := (1024000000000 + clockAdj t).toNat

/-- The part of a slew that `n` ps carry out: 100 ppm (R98). -/
def slewPart (slew : Int) (n : Nat) : Int := max (-(51200 * (n : Int))) (min (51200 * (n : Int)) slew)
/-- `n` picoseconds of device time (R93, R98). -/
def Tim.run (n : Nat) (t : Tim) : Tim :=
  let part := slewPart t.slew n
  { t with
    now := t.now + n
    tod := ((t.tod : Int) + (n * tickUnits t / 2000 : Nat) + part).toNat
    slew := t.slew - part }
/-- Let the clock run by some picoseconds (log 1); without the crystal it stands (R103). -/
def advancePs (n : Nat) (s : State) : State := if s.clocked then { s with tim := s.tim.run n } else s
/-- Picoseconds until the time counter has gained `d` units, rounded up, while a slew of this size runs. -/
def psFor (d rate : Int) : Nat := ((d * 2000 + rate - 1) / rate).toNat
/-- Let the clock run until device time reaches a value of the time counter; nothing when it has passed. -/
def advanceToUnits (target : Nat) (s : State) : State :=
  let t := s.tim
  if target ≤ t.tod then s
  else
    let d : Int := (target : Int) - t.tod
    let rate : Int := tickUnits t
    let whole := (t.slew.natAbs + 51199) / 51200
    let during := psFor d (rate + (if 0 < t.slew then 102400000 else if t.slew < 0 then -102400000 else 0))
    advancePs (if during ≤ whole then during else max whole (psFor (d - t.slew) rate)) s
/-- Let the clock run until device time reaches an instant; nothing when it has passed (log 1). -/
def advanceToTod (seconds nanoseconds : Nat) (s : State) : State := advanceToUnits (todOf seconds nanoseconds) s

/-- The line reference of an engine is present (R103). -/
def State.lineRef (s : State) (e : Nat) : Bool := if e = 0 then s.tim.line0 else s.tim.line1

/-- TIM_SYNCE_SQUELCH (R111). -/
def synceEvent (n : Nat) (x : SyncE) (s : State) : State :=
  emit 2 6 (leBytes 1 n ++ leBytes 1 x.lane ++ leBytes 1 (b2n x.squelched)) s
/-- One SyncE output that follows a faulted lane is driven low (R104). -/
def synceSquelchOne (lane n : Nat) (s : State) : State :=
  let x := vecGet ⟨0, false, 0, false⟩ s.tim.synce n
  if x.en && decide (x.lane = lane) && !x.squelched then
    synceEvent n { x with squelched := true }
      { s with tim := { s.tim with synce := vecMod s.tim.synce n (fun y => { y with squelched := true }) } }
  else s
/-- A client lane loses its clock: its SyncE outputs are squelched (R104, R355). -/
def synceSquelch (lane : Nat) (s : State) : State := synceSquelchOne lane 1 (synceSquelchOne lane 0 s)

end Sys2Proof.Machine
end

