-- ==== Sys2Proof/Machine/ThmOps.lean ====
section
/-! DEFINITION. Sensors, validity, substitution and zone temperatures (chapter 14). All temperatures in 1/16 °C. -/

namespace Sys2Proof.Machine

def State.sensor (s : State) (n : Nat) : Sensor := vecGet Sensor.reset s.thm.sensors n
def modSensor (n : Nat) (f : Sensor → Sensor) (s : State) : State :=
  { s with thm := { s.thm with sensors := vecMod s.thm.sensors n f } }

/-- The sensors of a zone; zone 9 is ZF (R413). -/
def zoneSensors (z : Nat) : List Nat := if z < 9 then (List.range 8).map (fun i => 8 * z + i) else [72, 73]
/-- The zone of a sensor (R413). -/
def zoneOf (n : Nat) : Nat := n / 8
/-- Row and column of a main-die sensor (R414). -/
def sensorRow (n : Nat) : Nat := 2 * (n / 8 / 3) + n % 8 / 4
def sensorCol (n : Nat) : Nat := 4 * (n / 8 % 3) + n % 8 % 4
/-- Two sensors are physical neighbours (R414). -/
def adjacent (a b : Nat) : Bool :=
  if 72 ≤ a ∨ 72 ≤ b then decide (a ≠ b ∧ 72 ≤ a ∧ 72 ≤ b)
  else
    let dr := (sensorRow a - sensorRow b) + (sensorRow b - sensorRow a)
    let dc := (sensorCol a - sensorCol b) + (sensorCol b - sensorCol a)
    decide (dr + dc = 1)
def neighbours (n : Nat) : List Nat := (List.range 74).filter (fun m => adjacent n m)

/-- Insert into a rising list, and sort. -/
def insertInt (x : Int) : List Int → List Int
  | [] => [x]
  | y :: ys => if x ≤ y then x :: y :: ys else y :: insertInt x ys
def sortInt (l : List Int) : List Int := l.foldr insertInt []

/-- Twice the median of a list: the sum of the middle two when the count is even (R415, R418). -/
def doubledMedian (l : List Int) : Int :=
  let v := sortInt l
  let n := v.length
  if n % 2 = 1 then 2 * v.getD (n / 2) 0 else v.getD (n / 2 - 1) 0 + v.getD (n / 2) 0

/-- The largest of a list. -/
def maxInt : List Int → Option Int
  | [] => none
  | x :: xs => match maxInt xs with
    | some y => some (max x y)
    | none => some x

/-- The first condition of R415 that a sample meets: 1 band, 2 stuck, 3 median; `med` is twice the zone's raw median. -/
def sampleCause (x : Sensor) (r : SensorIn) (med : Int) : Nat :=
  if r.temp < -640 ∨ 2400 < r.temp then 1
  else if x.count = some r.count ∧ 7 ≤ x.same then 2
  else if 480 < (2 * r.temp - med).natAbs then 3
  else 0

/-- R415: a sensor after one sample; 64 passing samples make it valid again. -/
def Sensor.sample (x : Sensor) (r : SensorIn) (med : Int) : Sensor :=
  let c := sampleCause x r med
  let same := if x.count = some r.count then x.same + 1 else 1
  let y := { x with count := some r.count, same := same, raw := r.temp }
  if x.invalid then
    if c ≠ 0 then { y with good := 0 }
    else if x.good = 63 then { y with good := 0, invalid := false, cause := 0 }
    else { y with good := x.good + 1 }
  else if c ≠ 0 then { y with invalid := true, cause := c, good := 0 }
  else y

/-- The raw readings of the valid sensors among `l`. -/
def validOf (s : State) (l : List Nat) : List Int :=
  (l.filter (fun n => !(s.sensor n).invalid)).map (fun n => (s.sensor n).raw)

/-- R416: the reading in force of a sensor. -/
def readingOf (s : State) (n : Nat) : Option Int :=
  let x := s.sensor n
  if !x.invalid then some x.raw
  else match maxInt (validOf s (neighbours n)) with
    | some m => some (m + 48)
    | none => if 72 ≤ n then none else (maxInt (validOf s (zoneSensors (zoneOf n)))).map (fun m => m + 48)

/-- Invalid sensors of a zone (R417). -/
def invalidIn (s : State) (z : Nat) : Nat := ((zoneSensors z).filter (fun n => (s.sensor n).invalid)).length
/-- Every sensor of a zone is invalid (R417). -/
def zoneDead (s : State) (z : Nat) : Bool := decide (invalidIn s z = (zoneSensors z).length)
/-- A zone is degraded: four invalid sensors, or one in ZF (R417). -/
def zoneDegraded (s : State) (z : Nat) : Bool := decide ((if z < 9 then 4 else 1) ≤ invalidIn s z)

/-- R418: the zone temperature, none for 0x8000; the mean of the middle two is rounded down to 1/16 °C. -/
def zoneReading (s : State) (z : Nat) : Option Int :=
  let v := validOf s (zoneSensors z)
  if v ≠ [] then some (doubledMedian v / 2)
  else if z < 9 then maxInt ((zoneSensors z).filterMap (fun n => (s.sensor n).reading))
  else none
/-- The zone temperature that the converter groups see (R130, R418); 0 before the first sample. -/
def State.zoneTemp (s : State) (z : Nat) : Int := if s.thm.sampled then (zoneReading s z).getD (-32768) else 0
/-- The highest reading of a zone. -/
def zoneMax (s : State) (z : Nat) : Option Int := maxInt ((zoneSensors z).filterMap (fun n => (s.sensor n).reading))

/-- The hottest reading of TS 0 to 71 and its sensor, the lowest number on a tie (R418). -/
def hottestOf (s : State) : Option (Int × Nat) :=
  (List.range 72).foldl (fun best n =>
    match (s.sensor n).reading, best with
    | some r, some (b, m) => if b < r then some (r, n) else some (b, m)
    | some r, none => some (r, n)
    | none, _ => best) none

/-- The flash die temperature (R429). -/
def flashTemp (s : State) : Option Int := maxInt ((zoneSensors 9).filterMap (fun n => (s.sensor n).reading))
/-- The flash write window after an evaluation; once both sensors have been invalid a valid reading reopens it (R429). -/
def windowAfter (wasOpen first lost : Bool) (t : Option Int) (valid : List Int) : Bool :=
  match t with
  | none => false
  | some v =>
    if valid = [] then false
    else if first || wasOpen then decide (0 ≤ v ∧ v ≤ 1520)
    else if lost then valid.any (fun r => decide (32 ≤ r ∧ r ≤ 1488))
    else decide (32 ≤ v ∧ v ≤ 1488)

/-- The flash write window is open (R429). -/
def State.flashOk (s : State) : Bool := s.thm.flashOk

/-- R421: the target level at a temperature. -/
def targetLevel (s : State) (nr : Nat) (t : Int) : Nat :=
  let d := t - 16 * (s.thm.thrStart : Int)
  if d ≤ 0 then 0 else min nr ((d.toNat * nr + 16 * s.thm.span - 1) / (16 * s.thm.span))

/-- A temperature as 16 bits, 0x8000 for none. -/
def temp16 (t : Option Int) : Nat := unsignedOf 16 (t.getD (-32768))

/-- THM_SENSOR (R437). -/
def sensorWord (x : Sensor) : Nat :=
  temp16 x.reading + 2 ^ 16 * b2n x.invalid + 2 ^ 17 * x.cause + 2 ^ 24 * x.good
/-- The map of invalid sensors. -/
def invalidMap (s : State) : Nat := packBits (s.thm.sensors.toList.map (fun x => x.invalid))

/-- Typical power of a mode in watts, where R434 states one. -/
def typicalWatts : Mode → Option Nat
  | .kindling => some 3 | .standby => some 5 | .calibrate => some 51 | .service | .maintenance => some 102
  | .quiesce | .ember | .lockout => none
/-- Maximum power of a mode in watts, where R434 states one: QUIESCE draws at most what SERVICE does. -/
def maximumWatts : Mode → Option Nat
  | .service | .maintenance | .quiesce => some 128 | .ember | .lockout => some 24
  | .kindling | .standby | .calibrate => none

/-- R432: PMBus LINEAR16 mantissa with exponent −12 of a number of tenths of a millivolt, rounded to nearest. -/
def linear16 (tenths : Nat) : Nat := (2 * tenths * 4096 + 10000) / 20000
/-- The AVS request of the management port (R432): 6 bytes. -/
def avsBytes (s : State) : List Byte :=
  leBytes 2 (linear16 (5000 + 25 * s.thm.target)) ++ leBytes 2 (linear16 (10 * s.thm.floor)) ++ leBytes 1 s.thm.seq
    ++ leBytes 1 (b2n s.thm.atMax + 2 * b2n s.thm.fixed.isSome)
/-- The target in whole millivolts, rounded down (R435). -/
def targetMv (s : State) : Nat := (5000 + 25 * s.thm.target) / 10

end Sys2Proof.Machine
end

