-- ==== Sys2Proof/Machine/LogOps.lean ====
section
/-! DEFINITION. The Logbook: records, queue, flash programming, blocks, reservation and life counters (chapter 16). -/

namespace Sys2Proof.Machine

/-! ### Records (R462 to R464) -/

/-- The retention class of a type (R464). -/
def retentionOf (type : Nat) : Retention :=
  if [0x01, 0x03, 0x04, 0x06, 0x52, 0x53].contains type then .life
  else if [0x08, 0x10, 0x11, 0x13, 0x20, 0x30, 0x31, 0x32, 0x42, 0x50, 0x54].contains type then .state
  else .rolling
def roleFor (r : Retention) : Role := if r = .state then .state else .event

/-- What a STATE record stands for, taken from the state it is created in (R464). -/
def capture (type item : Nat) (payload : List Byte) (s : State) : Kept :=
  let grp := vecGet Group.reset s.cnv.groups
  if type = 0x08 then .opKeys s.dev.opKeys.toList
  else if type = 0x10 then
    let a := vecGet Adc.reset (grp (item / 4)).adcs (item % 4)
    .cnvUnit a.replaced a.spareRetired (a.slices.toList.map (fun z => z.failed))
  else if type = 0x11 then .cnvTset (tabGet TempBlock.invalid (grp (item / 64)).blocks (item % 64))
  else if type = 0x13 then .dacChar (vecGet Dac.reset (grp (item / 4)).dacs (item % 4)).char
  else if type = 0x20 then .fecCores (s.fec.cores.toList.map (fun c => (c.retired, c.cause)))
  else if type = 0x30 then
    let x := tabGet KeySlot.empty s.cph.slots item
    .keySlot (if x.isVolatile then KeySlot.empty else x)
  else if type = 0x31 then .kcvHist (tabGet KeySlot.empty s.cph.slots item).history
  else if type = 0x32 then .dctr (leNat payload)
  else if type = 0x42 then .cinders ((s.mi.cinders.drop (13 * item)).take 13)
  else if type = 0x50 then .counters s.log.life.toList (decide (leNat (payload.drop 96) = 1))
  else if type = 0x53 then
    match s.log.plan with
    | some p => .plan p.floor p.reserve
    | none => .none
  else .none

/-- Pieces of at most 220 bytes, at most 8 of them. -/
def pieces : Nat → List Byte → List (List Byte)
  | 0, _ => []
  | n + 1, bs => if bs.length ≤ 220 then [bs] else bs.take 220 :: pieces n (bs.drop 220)

/-- A page program or erase is possible now: none starts from a trip on (R425, R429, R460, R469). -/
def flashFree (s : State) : Bool :=
  s.thm.flashOk && !s.log.asleep && s.log.ready && decide (s.log.work = .idle) && !s.thm.trip

/-- The fragments of a new record (R462). -/
def newRecords (type item : Nat) (injected : Bool) (payload : List Byte) (s : State) : List LogRecord :=
  let parts := pieces 8 payload
  let wait := !flashFree s || decide (s.log.queue ≠ [])
  parts.zipIdx.map (fun x =>
    { type, item, retention := retentionOf type, seq := s.log.seq + x.2, frag := x.2, frags := parts.length,
      timeInvalid := !s.tim.valid, queued := wait, moved := false, injected, seconds := s.tim.seconds,
      nanoseconds := s.tim.nanoseconds, life := vecGet 0 s.log.life 0 / 3600, payload := x.1,
      kept := capture type item payload s, blockA := none, blockB := none })

/-! ### The queue (R468, R469) -/

/-- Pages that may be programmed in 24 hours of life clock (R468). -/
def dayPages : Nat := 917504
def budgetHit (l : Log) : Bool := decide (dayPages ≤ l.budgetPages)
def dropRecord (l : Log) : Log := { l with dropped := satAdd 0xFFFF l.dropped 1 }
def sameItem (a b : LogRecord) : Bool := decide (a.type = b.type ∧ a.item = b.item ∧ a.frag = b.frag)

/-- R469: a record joins the queue of 64. -/
def enqueue (r : LogRecord) (l : Log) : Log :=
  let busy := match l.work with
    | .program _ _ => 1
    | _ => 0
  let front := l.queue.take busy
  let rest := l.queue.drop busy
  if r.retention = .rolling ∧ budgetHit l = true then dropRecord l
  else if rest.length < 64 then { l with queue := l.queue ++ [r] }
  else if r.retention = .state ∧ rest.any (sameItem r) = true then
    { l with queue := front ++ rest.filter (fun x => !sameItem r x) ++ [r] }
  else if rest.any (fun x => x.retention = .rolling) then
    dropRecord { l with queue := front ++ rest.eraseP (fun x => x.retention = .rolling) ++ [r] }
  else if r.retention = .rolling then dropRecord l
  else { l with queue := l.queue ++ [r] }

/-! ### Blocks (R460, R461, R465 to R467) -/

def Log.block (l : Log) (b : Nat) : FlashBlock := tabGet (FlashBlock.reset (decide (248 ≤ b))) l.blocks b
def setBlock (b : Nat) (f : FlashBlock → FlashBlock) (l : Log) : Log := { l with blocks := tabInsert l.blocks b (f (l.block b)) }
def allBlocks : List Nat := List.range 256
/-- ROLE of a block header (R461). -/
def Role.code : Role → Nat
  | .free => 0 | .state => 1 | .event => 2
/-- The header page of a block (R461). -/
def FlashBlock.header (x : FlashBlock) : List Byte :=
  let body := leBytes 4 0x4C424B48 ++ leBytes 1 x.role.code ++ leBytes 1 (b2n x.timeInvalid) ++ leBytes 2 0 ++ leBytes 8 x.seq
    ++ leBytes 4 x.erases ++ leBytes 6 x.openSec ++ leBytes 226 0
  body ++ leBytes 4 (crc32c body)
/-- A header that marks a block as written: MAGIC, ROLE and CRC are right (R461). -/
def headerSound (page : List Byte) : Bool :=
  decide (u32 page 0 = 0x4C424B48) && decide (u8 page 4 ≤ 2) && decide (leBytes 4 (crc32c (page.take 252)) = (page.drop 252).take 4)
def blocksWhere (l : Log) (f : FlashBlock → Bool) : List Nat := allBlocks.filter (fun b => f (l.block b))
def inUse (x : FlashBlock) : Bool := !x.retired && !x.reserve
def isFree (x : FlashBlock) : Bool := inUse x && decide (x.role = .free)
def isOpen (role : Role) (x : FlashBlock) : Bool := inUse x && decide (x.role = role) && decide (x.pages < 1024)
/-- The least of a list under a measure, the first on a tie. -/
def leastBy (f : Nat → Nat) : List Nat → Option Nat
  | [] => none
  | b :: bs => match leastBy f bs with
    | some c => if f c < f b then some c else some b
    | none => some b
/-- Live records with a copy in a block. -/
def liveIn (l : Log) (b : Nat) : List LogRecord := l.records.filter (fun r => r.blockA = some b || r.blockB = some b)

/-- R466: discard ROLLING records oldest first, AGEING_DAY records younger than 400 days of life clock last of all not. -/
def discardRolling : Nat → Log → Log
  | 0, l => l
  | n + 1, l =>
    let hours := vecGet 0 l.life 0 / 3600
    match l.records.find? (fun r => r.retention = .rolling && !(r.type = 0x51 && decide (hours < r.life + 9600))) with
    | some r => discardRolling n { l with records := l.records.filter (fun x => x.seq ≠ r.seq), discarded := l.discarded + 1 }
    | none => l

/-- Blocks needed by `n` live records, both copies. -/
def blocksFor (n : Nat) : Nat := (2 * n + 1022) / 1023
def countOf (l : Log) (f : LogRecord → Bool) : Nat := (l.records.filter f).length

/-- R466: reclassify the oldest LIFE records other than BIRTH and PLAN when STATE and LIFE would exceed 128 blocks. -/
def spillLife (l : Log) : Log :=
  if blocksFor (countOf l (fun r => r.retention = .state)) + blocksFor (countOf l (fun r => r.retention = .life)) ≤ 128 then l
  else
    match l.records.find? (fun r => r.retention = .life && r.type ≠ 1 && r.type ≠ 0x53) with
    | some r => { l with
        lifeSpill := true
        records := l.records.map (fun x => if x.seq = r.seq then { x with retention := .rolling } else x) }
    | none => l

/-- The victim of a compaction: a full block of the role with the fewest live records, oldest first (R466). -/
def victim (role : Role) (l : Log) : Option Nat :=
  leastBy (fun b => (liveIn l b).length * 2 ^ 32 + (l.block b).seq)
    (blocksWhere l (fun x => inUse x && decide (x.role = role) && decide (1024 ≤ x.pages)))

/-- Rewrite records elsewhere, with MOVED and the same SEQ (R466, R467, R471). -/
def moveRecords (rs : List LogRecord) (l : Log) : Log :=
  let again := rs.filter (fun r => !l.queue.any (fun q => q.seq = r.seq))
  { l with queue := l.queue ++ again.map (fun r => { r with moved := true, blockA := none, blockB := none }) }

/-- R465, R466: start a compaction when one is due: STATE above 12 blocks, EVENT below 16 FREE, or uneven wear. -/
def compactIfDue (l : Log) : Log :=
  if l.compacting.isSome then l
  else
    let free := (blocksWhere l isFree).length
    let states := (blocksWhere l (fun x => inUse x && decide (x.role = .state))).length
    let used := blocksWhere l inUse
    let top := (used.map (fun b => (l.block b).erases)).foldl max 0
    let low := leastBy (fun b => (l.block b).erases) used
    let even := match low with
      | some b => if (l.block b).erases + 1000 < top ∧ (l.block b).role ≠ .free then some b else none
      | none => none
    let room := used.length - 16 - states
    let need := blocksFor (countOf l (fun r => r.retention ≠ .state))
    let l1 := spillLife (if free < 16 ∧ room < need then discardRolling (1023 * (need - room)) l else l)
    let chosen := if 12 < states then victim .state l1 else if free < 16 then victim .event l1 else even
    match chosen with
    | some b => moveRecords (liveIn l1 b) { l1 with compacting := some b }
    | none => l1

/-- Erase the FREE block with the lowest ERASE_COUNT, to open it with a role (R465). -/
def startOpen (role : Role) (l : Log) : Log :=
  match leastBy (fun b => (l.block b).erases) (blocksWhere l isFree) with
  | some b => { l with work := .erase b role }
  | none => l

/-- What the flash die does next: program the next copy, open a block for it, or erase a compacted one (R462, R465). -/
def nextWork (l : Log) : Log :=
  match l.queue with
  | r :: _ =>
    let role := roleFor r.retention
    let choices := (blocksWhere l (isOpen role)).filter (fun b => r.blockA ≠ some b)
    match leastBy (fun b => (l.block b).seq) choices with
    | some b => { l with work := .program r.blockA.isSome b }
    | none => startOpen role l
  | [] =>
    match l.compacting with
    | some b => if liveIn l b = [] then { l with work := .erase b .free } else { l with compacting := none }
    | none => l

/-- Start work when the die is free and the window open (R429, R469). -/
def flashKick (s : State) : State :=
  if flashFree s && (decide (s.log.queue ≠ []) || s.log.compacting.isSome) then { s with log := nextWork s.log } else s

/-- Create a record: its fragments take the next SEQ values and join the queue (R462, R469). -/
def logInjected (injected : Bool) (type item : Nat) (payload : List Byte) (s : State) : State :=
  let rs := newRecords type item injected payload s
  flashKick { s with log := { rs.foldl (fun l r => enqueue r l) s.log with seq := s.log.seq + rs.length } }
def logRecord (type item : Nat) (payload : List Byte) (s : State) : State := logInjected false type item payload s

/-- A command whose effect must be durable answers when the record just created is committed (R289, R469). -/
def waitCommit (key : Nat) (resp : List Byte) (s : State) : State :=
  { s with log := { s.log with waits := s.log.waits ++ [⟨s.log.seq - 1, key, resp⟩] } }

/-- Insert a committed record in SEQ order, replacing the one it rewrites (R462, R466). -/
def insertRecord (r : LogRecord) : List LogRecord → List LogRecord
  | [] => [r]
  | x :: xs => if x.seq = r.seq then r :: xs else if r.seq < x.seq then r :: x :: xs else x :: insertRecord r xs

/-- A record is committed: it stands, an older one of the same TYPE and ITEM goes, and its content is what a Kindling
finds (R462 to R464). -/
def commit (r : LogRecord) (l : Log) : Log :=
  let last := decide (r.frag + 1 = r.frags)
  let first := r.seq - r.frag
  let old := fun x : LogRecord =>
    decide (x.type = r.type ∧ x.item = r.item ∧ x.seq < first) && decide (r.retention = .state) && last
  let live := (insertRecord r l.records).filter (fun x => !old x)
  { l with
    records := live
    kept := if last && decide (r.retention = .state ∨ r.type = 0x53) then tabInsert l.kept (r.type * 65536 + r.item) r.kept else l.kept }

/-- R467: retire a block, move its records, take a reserve block into use and report it. -/
def retireFlash (b cause : Nat) (s : State) : State :=
  let l := setBlock b (fun x => { x with retired := true, role := .free }) s.log
  let spare := (blocksWhere l (fun x => x.reserve && !x.retired)).head?
  let l1 := match spare with
    | some r => setBlock r (fun x => { x with reserve := false }) l
    | none => { l with sparesOut := true }
  let l2 := moveRecords (liveIn s.log b) { l1 with compacting := l1.compacting.filter (fun c => c ≠ b) }
  let left := (blocksWhere l2 (fun x => x.reserve && !x.retired)).length
  let used := (blocksWhere l2 inUse).length
  emit 15 5 (leBytes 1 b ++ leBytes 1 cause ++ leBytes 1 left ++ leBytesInt 1 ((used : Int) - 240)) { s with log := l2 }

/-- One page has been programmed (R468, R474). -/
def countPage (l : Log) : Log :=
  { l with budgetPages := l.budgetPages + 1, life := vecMod l.life 11 (fun n => satAdd (2 ^ 64 - 1) n 1) }

/-- The erase table (R464): the erase count of every block, 0xFFFF_FFFF for a retired one. -/
def eraseTable (l : Log) : List Byte :=
  allBlocks.flatMap (fun b => leBytes 4 (if (l.block b).retired then 0xFFFFFFFF else (l.block b).erases))

/-- A page program is under way. -/
def programming (s : State) : Bool :=
  match s.log.work with
  | .program _ _ => true
  | _ => false
/-- The die goes to deep power-down at a trip, after a page program under way (R425). -/
def flashSleep (s : State) : State :=
  if programming s then s else { s with log := { s.log with asleep := true, work := .idle } }
/-- The device has left EMBER, or a trip in LOCKOUT is over: flash work resumes (R425, R427). -/
def flashWake (s : State) : State := flashKick { s with log := { s.log with asleep := false } }

/-- The supply or the TC goes while the die works: an erase cut short leaves no header, so the block is FREE (R461, R466), and a
program leaves its page used. -/
def cutShort (l : Log) : Log :=
  match l.work with
  | .erase b _ => { setBlock b (fun x => { x with role := .free, pages := 0 }) l with work := .idle }
  | .program _ b => { setBlock b (fun x => { x with pages := x.pages + 1 }) l with work := .idle }
  | .idle => l

/-! ### The reservation of the derivation counter (R470) -/

/-- The next value of the derivation counter lies below the committed ceiling (R470). -/
def dctrReady (s : State) : Bool := decide (s.cph.dctr + 1 < s.log.dctrCeiling)
/-- Write a new reservation when fewer than 32,768 values remain (R470). -/
def reserveDctr (s : State) : State :=
  if s.log.dctrBusy || decide (s.cph.dctr + 32768 ≤ s.log.dctrCeiling) then s
  else logRecord 0x0032 0 (leBytes 8 (max s.log.dctrCeiling s.cph.dctr + 65536))
    { s with log := { s.log with dctrBusy := true } }

/-! ### Life counters (R472 to R474) -/

def addLife (k n : Nat) (s : State) : State :=
  { s with log := { s.log with life := vecMod s.log.life k (fun v => satAdd (2 ^ 64 - 1) v n) } }
/-- FEC_BLOCKS and FEC_CORR_KBIT, PKT_KIB: in units of 1,024 with the rest kept (R474). -/
def lifeBlock (corrected : Nat) (s : State) : State :=
  let n := s.log.partCorrected + corrected
  addLife 8 (n / 1024) (addLife 7 1 { s with log := { s.log with partCorrected := n % 1024 } })
def lifeBytes (len : Nat) (s : State) : State :=
  let n := s.log.partBytes + len
  addLife 9 (n / 1024) { s with log := { s.log with partBytes := n % 1024 } }
/-- A COUNTERS record (R472, R473). -/
def logCounters (orderly : Bool) (s : State) : State :=
  logRecord 0x0050 0 (s.log.life.toList.flatMap (fun n => leBytes 8 n) ++ leBytes 1 (b2n orderly)) s
/-- A record written in this mode carries ORDERLY (R473). -/
def orderlyMode (m : Mode) : Bool := decide (m = .standby) || decide (m = .quiesce)

end Sys2Proof.Machine
end

