-- ==== Sys2Proof/Machine/CnvOps.lean ====
section
/-! DEFINITION. Line converters: sample arithmetic, plausibility, interpolation, filing, refresh and power (chapter 05). -/

namespace Sys2Proof.Machine

/-- Round n/d to the nearest integer, halves away from zero (R115, R131). -/
def roundDiv (n : Int) (d : Nat) : Int :=
  let q := ((2 * n.natAbs + d) / (2 * d) : Nat)
  if n < 0 then -(q : Int) else q

/-- Limit a value to an interval. -/
def clampInt (lo hi v : Int) : Int := max lo (min hi v)

/-- A rational rounded to the nearest integer, halves away from zero (R115). -/
def roundRat (x : Rat) : Int := roundDiv x.num x.den

/-- R115, steps 1, 3 and 4: the 12-bit word of an ADC code with a slice's OFFSET and GAIN and no SKEW. -/
def adcWord (q : Int) (c : Coef) : Int :=
  clampInt (-2048) 2047 (roundDiv ((128 * q - c.offset) * 1024) (8192 + c.gain).toNat)

/-- R115, step 1: v = (16 q − OFFSET) / (1 + GAIN), with the fields in their units of 1/8 code and 2⁻¹³. -/
def adcValue (q : Int) (c : Coef) : Rat := (((128 * q - c.offset) * 1024 : Int) : Rat) / ((8192 + c.gain : Int) : Rat)
/-- R115: the word of a sample from the codes of seven neighbouring positions, each with its slice's fields, the sample's own
in the middle: corrected, interpolated for its SKEW, rounded, saturated. -/
def adcSample (own : Coef) (around : List (Int × Coef)) : Int :=
  clampInt (-2048) 2047 (roundRat
    ((around.take 7).zipIdx.foldl (fun acc x => acc + Config.skewTap own.skew x.2 * adcValue x.1.1 x.1.2) 0))

/-- R116: a DAC word rounded to the nearest 8-bit level and clipped. -/
def dacLevel (word : Int) : Int := clampInt (-128) 127 (roundDiv word 16)

/-- The output swing in mVppd (R140). -/
def swingMv (c : DacCfg) : Nat := 150 + 2 * c.swing
/-- The output of a segment in mV: its trimmed level scaled to the swing (R116, R140). -/
def dacOutput (word : Int) (trims : Coef) (c : DacCfg) : Rat := Config.trimmedLevel (dacLevel word) trims * (swingMv c : Rat) / 256

/-- An output word at either end is an over-range sample (R117). -/
def isOverRange (y : Int) : Bool := decide (y = 2047) || decide (y = -2048)

/-- The TRIM limits of R124: absolute values in the units of CNV_COEF. -/
def coefAbsolute (c : Coef) : Bool :=
  decide (c.offset.natAbs ≤ 384) && decide (c.gain.natAbs ≤ 655) && decide (c.skew.natAbs ≤ 450)

/-- The change limits of R124. -/
def coefChange (old new : Coef) : Bool :=
  decide ((new.offset - old.offset).natAbs ≤ 32) && decide ((new.gain - old.gain).natAbs ≤ 40)
    && decide ((new.skew - old.skew).natAbs ≤ 25)

/-- The pair checks of MATCH and VERIFY (R124). -/
def pairPasses (st : PairStats) : Bool := decide (st.mean ≤ 16) && decide (st.rms ≤ 20) && decide (st.timing ≤ 50)

/-- The estimates of a window (R119), in the units of CNV_COEF: mean of the uncorrected samples, RMS over the mean RMS of the 64
positions less 1, and difference of the correlations over the slope, each rounded with halves away from zero; 2²² samples
less those excluded count. Where a divisor is zero the spec states no result, and the value is free (log 87). -/
def windowEstimate (w : WindowStats) : Coef :=
  ⟨roundDiv (128 * w.sum) (4194304 - w.excluded),
    if w.meanRms = 0 then Config.openGain w.rms else roundDiv (8192 * ((w.rms : Int) - w.meanRms)) w.meanRms,
    if w.slope = 0 then Config.openSkew (w.corrNext - w.corrPrev)
    else roundDiv ((w.corrNext - w.corrPrev) * w.slope.sign) w.slope.natAbs⟩

/-- A step of R123 is abandoned. -/
def pairAbandoned (st : PairStats) : Bool := decide (1024 < st.leftOut)

def State.group (s : State) (g : Nat) : Group := vecGet Group.reset s.cnv.groups g
def modGroup (g : Nat) (f : Group → Group) (s : State) : State :=
  { s with cnv := { s.cnv with groups := vecMod s.cnv.groups g f } }
def Group.adc (x : Group) (a : Nat) : Adc := vecGet Adc.reset x.adcs a
def modAdc (g a : Nat) (f : Adc → Adc) (s : State) : State :=
  modGroup g (fun x => { x with adcs := vecMod x.adcs a f }) s
def Adc.slice (x : Adc) (n : Nat) : Slice := vecGet Slice.reset x.slices n
def modSlice (n : Nat) (f : Slice → Slice) (x : Adc) : Adc := { x with slices := vecMod x.slices n f }

/-- What the balls of a DAC carry, in mV: the output of the segment, a differential zero with EN at 0 and while the group's loop is
closed by CNV_LOOP or by a foreground calibration (R137, R140, R143). -/
def dacBalls (g d n : Nat) (word : Int) (s : State) : Rat :=
  let x := vecGet Dac.reset (s.group g).dacs d
  if x.inForce.en && !(s.group g).loop then dacOutput word (x.trims.getD n Coef.zero) x.inForce else 0

/-- The zone temperature that governs a group: Z0 or Z1 (R130). -/
def groupTemp (g : Nat) (s : State) : Int := s.zoneTemp g

/-- The block of a set and converter (R129). -/
def Group.block (x : Group) (set conv : Nat) : TempBlock := tabGet TempBlock.invalid x.blocks (set * 8 + conv)

/-- One word of a block; a factory block's words come from the fuses. -/
def blockWord (g : Nat) (set conv n : Nat) (b : TempBlock) : Coef :=
  if b.origin = .factory then
    ⟨Config.factoryOffset g set conv n, Config.factoryGain g set conv n, Config.factorySkew g set conv n⟩
  else b.words.getD n Coef.zero

/-- The sets whose block of a converter is valid. -/
def validSets (x : Group) (conv : Nat) : List Nat := (List.range 8).filter (fun i => (x.block i conv).valid)

/-- R131, step 1: the valid set with the highest capture temperature at or below `t`, and the lowest above it. -/
def lowerSet (x : Group) (conv : Nat) (t : Int) : Option Nat :=
  (validSets x conv).foldl (fun best i =>
    if (x.block i conv).temp ≤ t then
      match best with
      | some j => if (x.block j conv).temp < (x.block i conv).temp then some i else some j
      | none => some i
    else best) none
def upperSet (x : Group) (conv : Nat) (t : Int) : Option Nat :=
  (validSets x conv).foldl (fun best i =>
    if t < (x.block i conv).temp then
      match best with
      | some j => if (x.block i conv).temp < (x.block j conv).temp then some i else some j
      | none => some i
    else best) none

/-- R131, step 2: one field between two captures, rounded to its unit. -/
def between (t tlo thi lo hi : Int) : Int := roundDiv (lo * (thi - tlo) + (t - tlo) * (hi - lo)) (thi - tlo).toNat

/-- R131: the word of a converter at a zone temperature; the device never extrapolates. -/
def interpolate (g : Nat) (x : Group) (conv n : Nat) (t : Int) : Coef :=
  match lowerSet x conv t, upperSet x conv t with
  | some l, some u =>
    let bl := x.block l conv
    let bu := x.block u conv
    let a := blockWord g l conv n bl
    let b := blockWord g u conv n bu
    ⟨between t bl.temp bu.temp a.offset b.offset, between t bl.temp bu.temp a.gain b.gain,
      between t bl.temp bu.temp a.skew b.skew⟩
  | some l, none => blockWord g l conv n (x.block l conv)
  | none, some u => blockWord g u conv n (x.block u conv)
  | none, none => Coef.zero

/-- The DAC trims at a temperature (R132). -/
def dacTrims (g : Nat) (x : Group) (d : Nat) (t : Int) : List Coef :=
  (List.range 64).map (fun n => interpolate g x (4 + d) n t)

/-- The interpolation for DAC XI at a temperature, as CNV_INTERP shows it (R131, R146). DESIGN CHOICE: WEIGHT is rounded down and
at most 65,535, and with SINGLE at 1 both LOWER and UPPER name the one set used (log 45). -/
def interpUseAt (x : Group) (t : Int) : Option InterpUse :=
  match lowerSet x 4 t, upperSet x 4 t with
  | some l, some u =>
    let tl := (x.block l 4).temp
    let tu := (x.block u 4).temp
    some (if l = u ∨ tu ≤ tl then ⟨l, u, 0, true⟩ else ⟨l, u, min 65535 ((t - tl).toNat * 65536 / (tu - tl).toNat), false⟩)
  | some l, none => some ⟨l, l, 0, true⟩
  | none, some u => some ⟨u, u, 0, true⟩
  | none, none => none

/-- R132: DAC trims always, SKEW of degraded ADCs, and on power-up every ADC coefficient, each slice with a new statistics window.
No coefficient of an ADC in degraded calibration moves while NO_SIGNAL is 1 (R120) or BG_EN is 0 (R144). DESIGN CHOICE: NO_SIGNAL and
its run of discarded windows outlast a power-down, and the seeding at power-up, a foreground calibration and the rebuilding of a word
change coefficients with NO_SIGNAL at 1; a failed slice keeps OFFSET and GAIN (R128) but its SKEW follows the interpolation, and it
takes the words of a foreground calibration (log 45). -/
def applyInterp (g : Nat) (powerUp : Bool) (t : Int) (x : Group) : Group :=
  { x with
    interpTemp := some t, interpNext := none, interpUse := interpUseAt x t
    dacs := vecMap (fun d y => { y with trims := dacTrims g x d t }) x.dacs
    adcs := vecMap (fun a y => { y with slices := vecMap (fun n z =>
        let c := interpolate g x a n t
        if powerUp then { z with coef := c, firstStep := true, leftPath := false }
        else if y.degraded && !y.noSignal && x.cfg.bgEn then { z with coef := { z.coef with skew := c.skew } } else z) y.slices }) x.adcs }

/-- Re-interpolate when the zone has moved by 0.5 °C or more since the last application; it takes effect at the next DSP block
(R132). -/
def reinterpolate (g : Nat) (s : State) : State :=
  let t := groupTemp g s
  let x := s.group g
  match x.interpTemp with
  | some t0 => if 8 ≤ (t - t0).natAbs then modGroup g (fun y => { y with interpNext := some t }) s else s
  | none => s

/-- The set a block captured at `t` (1/16 °C) is filed into (R130). -/
def setOf (t : Int) : Nat := (clampInt 0 7 ((t + 120) / 240)).toNat

/-- The Logbook payload of a block: origin, capture temperature and time, then its words (R133). -/
def coefWord (c : Coef) : Nat :=
  unsignedOf 10 c.offset + 2 ^ 10 * unsignedOf 11 c.gain + 2 ^ 21 * unsignedOf 10 c.skew
def blockPayload (b : TempBlock) : List Byte :=
  leBytes 1 (b2n b.valid) ++ leBytesInt 2 b.temp ++ leBytes 6 b.seconds ++ b.words.flatMap (fun c => leBytes 4 (coefWord c))

/-- Save a block to the Logbook now (R133). -/
def saveBlock (g set conv : Nat) (s : State) : State :=
  let b := (s.group g).block set conv
  logRecord 0x0011 (g * 64 + set * 8 + conv) (blockPayload b)
    (modGroup g (fun x => { x with
      saved := tabInsert x.saved (set * 8 + conv) (s.tim.now, b)
      saveDue := x.saveDue.filter (fun k => k ≠ set * 8 + conv) }) s)

/-- 24 hours in picoseconds. -/
def dayPs : Nat := 86400000000000000

/-- File a block (R130) and save it, at most once per block in 24 hours (R133). -/
def fileBlock (g set conv : Nat) (b : TempBlock) (s : State) : State :=
  let s1 := modGroup g (fun x => { x with blocks := tabInsert x.blocks (set * 8 + conv) b }) s
  match tabGet none ((s.group g).saved.map (fun e => (e.1, some e.2))) (set * 8 + conv) with
  | some (at', _) =>
    if s.tim.now < at' + dayPs then
      modGroup g (fun x => { x with saveDue := (set * 8 + conv) :: x.saveDue.filter (fun k => k ≠ set * 8 + conv) }) s1
    else saveBlock g set conv s1
  | none => saveBlock g set conv s1

/-- The CNV_UNIT record of an ADC: REPLACED, SPARE_RETIRED, failed-slice bitmap (R126, R128, R464). -/
def logUnit (g a : Nat) (s : State) : State :=
  let x := (s.group g).adc a
  let failed := packBits ((List.range 64).map (fun n => (x.slice n).failed))
  logRecord 0x0010 (g * 4 + a) (leBytes 1 (x.replaced.getD 0x7F) ++ leBytes 1 (b2n x.spareRetired) ++ leBytes 8 failed) s

/-- The payload that CNV_SPARE_CONSUMED and CNV_SLICE_FAILED share (R145). -/
def unitPayload (g a n : Nat) (s : State) : List Byte :=
  leBytes 1 g ++ leBytes 1 a ++ leBytes 1 n ++ leBytes 1 0 ++ leBytesInt 2 (groupTemp g s)

/-- The spare stands in the data path in place of the slice under step (R121). -/
def spareIn (x : Adc) : Bool := x.stepPos.isSome && (decide (x.phase = .trim) || decide (x.phase = .verify))
/-- Slice `n` is in the data path: the spare is when it stands in or has replaced a slice, another is unless the spare has its
position (R121, R126). -/
def inPath (x : Adc) (n : Nat) : Bool :=
  if n = 64 then spareIn x || x.replaced.isSome
  else !(decide (x.replaced = some n) || (spareIn x && decide (x.stepPos = some n)))
/-- End the step of an ADC: the spare is idle, the slice under step has the trims it had before unless it passed, and its first
step is done (R121, R124, R125). -/
def endStep (x : Adc) : Adc :=
  let y := match x.stepPos with
    | some p => modSlice p (fun z => { z with trims := x.trimsBefore.getD z.trims, firstStep := false })
        (if spareIn x then modSlice 64 (fun z => { z with leftPath := true }) x else x)
    | none => x
  { y with stepPos := none, phase := .idle, candidate := none, trimsBefore := none }
/-- In degraded calibration the in-place updates count their failures from zero (R127, R128). -/
def beginDegraded (x : Adc) : Adc :=
  { endStep x with degraded := true, refreshLost := true, slices := vecMap (fun _ z => { z with fails := 0 }) x.slices }

/-- The refresh in progress counts a failed or abandoned position (R135). -/
def countRefreshFail (x : Adc) : Adc := { x with refreshFails := x.refreshFails + 1 }

/-- The spare keeps position `p` permanently, in the data path where it stands (R126). DESIGN CHOICE: from here to the next move of
the zone by 0.5 °C every slice keeps the SKEW of the rotation, as R132 interpolates on such a move (log 45). -/
def consumeSpare (g a p : Nat) (s : State) : State :=
  let s1 := modAdc g a (fun x => modSlice 64 (fun z => { z with leftPath := false }) { beginDegraded x with replaced := some p }) s
  logUnit g a (emit 3 3 (unitPayload g a p s1) s1)

/-- The spare is retired (R126). -/
def retireSpare (g a : Nat) (s : State) : State :=
  let s1 := modAdc g a (fun x => { beginDegraded x with spareRetired := true }) s
  logUnit g a (emit 3 3 (unitPayload g a 64 s1) s1)

/-- A failure at TRIM or VERIFY: the slice keeps its values; the third in a row consumes the spare (R125, R126). -/
def sliceFailure (g a p : Nat) (s : State) : State :=
  let s1 := modAdc g a (fun x => countRefreshFail { endStep (modSlice p (fun z => { z with fails := z.fails + 1 }) x) with
    plausFail := satAdd 0xFFFFFFFF x.plausFail 1 }) s
  if 3 ≤ (((s1.group g).adc a).slice p).fails then consumeSpare g a p s1 else s1

/-- A failure at MATCH counts against the spare; the third in a row retires it (R125, R126). -/
def spareFailure (g a : Nat) (s : State) : State :=
  let s1 := modAdc g a (fun y => countRefreshFail { endStep y with
    spareFails := y.spareFails + 1, plausFail := satAdd 0xFFFFFFFF y.plausFail 1 }) s
  if 3 ≤ ((s1.group g).adc a).spareFails then retireSpare g a s1 else s1

/-- Start a refresh, if none runs (R134, R136). DESIGN CHOICE: the step in progress, which R135 lets finish, counts as a position of
the refresh when it fails or is abandoned (log 45). -/
def startRefresh (g trigger : Nat) (s : State) : State :=
  if (s.group g).refresh.isSome then s
  else modGroup g (fun x => { x with
    state := .refresh, refresh := some ⟨trigger, groupTemp g s⟩, pos := 0
    adcs := vecMap (fun _ y => { y with refreshFails := 0, refreshLost := false }) x.adcs }) s

/-- The temperature trigger of R134: the zone has moved by DELTA_T since the last completed refresh. -/
def tempTrigger (g : Nat) (s : State) : Bool :=
  let x := s.group g
  x.cfg.refreshEn && x.info.atPs.isSome && decide (16 * x.cfg.deltaT ≤ (groupTemp g s - x.info.temp).natAbs)

/-- Refreshes run by themselves in SERVICE and MAINTENANCE only (R134). -/
def autoRefreshMode (s : State) : Bool := decide (s.dev.mode = .service) || decide (s.dev.mode = .maintenance)

/-- A new zone temperature reaches the converter groups: interpolation and the temperature trigger (R132, R134). -/
def cnvOnTemp (g : Nat) (s : State) : State :=
  let s1 := reinterpolate g s
  if autoRefreshMode s1 && decide ((s1.group g).state = .running) && tempTrigger g s1 then startRefresh g 0 s1 else s1

/-- Positions failed or abandoned over the four ADCs in the running refresh. -/
def refreshFailures (x : Group) : Nat := (x.adcs.toList.map (fun y => y.refreshFails)).foldl (· + ·) 0

/-- CNV_REFRESH_DONE (R145), completing a CNV_REFRESH when that was the trigger. DESIGN CHOICE: byte 3 holds the number of
positions modulo 256, as up to 256 can fail over the four ADCs (log 45). -/
def refreshDone (g trigger : Nat) (st : Status) (failures : Nat) (setByte : Nat) (s : State) : State :=
  let pay := leBytes 1 g ++ leBytes 1 trigger ++ leBytes 1 st.code ++ leBytes 1 failures ++ leBytesInt 2 (groupTemp g s)
    ++ leBytes 1 setByte
  if trigger = 2 then completeOr 0x0302 g st 3 2 pay s else emit 3 2 pay s

/-- A group powers down: the step is abandoned without counting, a refresh ends ABORTED (R135, R142). -/
def groupDown (g : Nat) (goal : GroupState) (s : State) : State :=
  let x := s.group g
  let s1 := match x.refresh with
    | some r => refreshDone g r.trigger .aborted (refreshFailures x) 0xFF s
    | none => s
  modGroup g (fun y => { y with
    state := goal, refresh := none, clockLocked := false
    cfg := y.cfgNext.getD y.cfg, cfgNext := none
    adcs := vecMap (fun _ z => endStep z) y.adcs }) s1

/-- A group that is powered (R141). -/
def Group.powered (x : Group) : Bool := decide (x.state ≠ .off) && decide (x.state ≠ .suspended)
/-- The Snapshot copies of an engine's two windows go: the domain powers up (R26). -/
def dropSnaps (g : Nat) (s : State) : State :=
  { s with snap := s.snap.filter (fun x => decide (x.1 < 0x100000 + 0x80000 * g ∨ 0x180000 + 0x80000 * g ≤ x.1)
      && decide (x.1 < 0x3C1000 + 0x200 * g ∨ 0x3C1200 + 0x200 * g ≤ x.1)) }
/-- A group powers up: the slice clock synthesiser starts (R141); without its line reference it is suspended (R25, R142). -/
def groupUp (g : Nat) (s : State) : State :=
  if s.lineRef g then dropSnaps g (modGroup g (fun x => { x with state := .seeding, clockLocked := false, pos := 0 }) s)
  else modGroup g (fun x => { x with state := .suspended }) s

/-- What stays of a group across an application reset: temperature sets, failure counts, failed slices, replacement state and the
characterisation (R142). -/
def restoreGroup (x : Group) : Group :=
  { Group.reset with
    blocks := x.blocks, saved := x.saved, saveDue := x.saveDue
    adcs := vecMap (fun a _ => { Adc.reset with
        replaced := (x.adc a).replaced, degraded := (x.adc a).degraded, spareFails := (x.adc a).spareFails
        spareRetired := (x.adc a).spareRetired, failedCnt := (x.adc a).failedCnt
        slices := vecMap (fun n z => { z with failed := ((x.adc a).slice n).failed, fails := ((x.adc a).slice n).fails })
          Adc.reset.slices }) Group.reset.adcs
    dacs := vecMap (fun d y => { y with char := (vecGet Dac.reset x.dacs d).char }) Group.reset.dacs }

/-- A point and the skew of a characterisation record, the factory's from the fuses (R139). -/
def charPoint (g d n : Nat) (c : DacChar) : Int × Int :=
  if c.factory then (Config.factoryAmplitude g d n, Config.factoryPhase g d n) else c.points.getD n (0, 0)
def dacSkewOf (g d : Nat) (c : DacChar) : Int := if c.factory then Config.factoryDacSkew g d else c.skew

/-- The block a foreground calibration or refresh captures now. -/
def captureBlock (g : Nat) (origin : BlockOrigin) (words : List Coef) (s : State) : TempBlock :=
  ⟨true, origin, groupTemp g s, s.tim.seconds, words⟩

/-- The live words of an ADC (R146). -/
def adcWords (x : Adc) : List Coef := x.slices.toList.map (fun z => z.coef)

/-- R137, end: finish a group of the running CNV_FG_CAL commands, as completed or aborted (R138, R145). -/
def fgFinish (g : Nat) (aborted : Bool) (s : State) : State :=
  match s.cnv.fg.find? (fun c => bit c.mask g && !bit (c.done ||| c.aborted) g) with
  | none => s
  | some c =>
    let s := if aborted then modGroup g (fun x => { x with loop := false }) s else s
    let c' := if aborted then { c with aborted := c.aborted ||| 2 ^ g } else { c with done := c.done ||| 2 ^ g }
    let rest := s.cnv.fg.filter (fun d => d.mask ≠ c.mask)
    if (c'.done ||| c'.aborted) = c'.mask then
      let st : Status := if c'.aborted = 0 then .ok else if c'.done = 0 then .aborted else .partly
      let per := fun k => if bit c'.done k then Status.ok.code else if bit c'.aborted k then Status.aborted.code else 0xFF
      let pay := leBytes 1 c'.done ++ leBytes 1 (per 0) ++ leBytes 1 (per 1) ++ leBytes 1 0
        ++ leBytes 4 ((s.tim.now - c'.startPs) / 1000000000)
      completeOr 0x0301 c'.mask st 3 1 pay { s with cnv := { s.cnv with fg := rest } }
    else { s with cnv := { s.cnv with fg := rest ++ [c'] } }

/-- R133: an uncorrectable error in a live coefficient word has it rebuilt by interpolation at the next DSP block. -/
def rebuildCoef (g a n : Nat) (s : State) : State := modAdc g a (modSlice n (fun z => { z with rebuildDue := true })) s
/-- A DSP block boundary of a powered group: an interpolation that waits takes effect, words are rebuilt, and CNV_DAC_CFG comes
into force (R132, R133, R140). -/
def cnvBlock (g : Nat) (s : State) : State :=
  let s1 := match (s.group g).interpNext with
    | some t => modGroup g (applyInterp g false t) s
    | none => s
  let x := s1.group g
  modGroup g (fun y => { y with
    adcs := vecMap (fun a z => { z with slices := vecMap (fun n w =>
      if w.rebuildDue then { w with coef := interpolate g x a n (groupTemp g s), rebuildDue := false } else w) z.slices }) y.adcs
    dacs := vecMap (fun _ d => { d with inForce := d.written }) y.dacs }) s1

/-- R133: an uncorrectable error in a temperature-set block restores its Logbook copy, else the factory block, else
marks it invalid. -/
def restoreBlock (g set conv : Nat) (s : State) : State :=
  let x := s.group g
  let b := match x.saved.find? (fun e => e.1 = set * 8 + conv) with
    | some e => e.2.2
    | none => if set = 2 ∨ set = 6 then TempBlock.factory set else TempBlock.invalid
  modGroup g (fun y => { y with blocks := tabInsert y.blocks (set * 8 + conv) b }) s

end Sys2Proof.Machine
end

