-- ==== Sys2Proof/Machine/MonOps.lean ====
section
/-! DEFINITION. Monitor channels: configuration in force, DMA rings, restarts, throttling (chapter 13). -/

namespace Sys2Proof.Machine

def State.chan (s : State) (c : Nat) : Chan := vecGet Chan.reset s.mon.chans c
def modChan (c : Nat) (f : Chan → Chan) (s : State) : State :=
  { s with mon := { s.mon with chans := vecMod s.mon.chans c f } }
def State.fsop (s : State) (e : Nat) : Fsop := vecGet Fsop.reset s.mon.fsops e
def modFsop (e : Nat) (f : Fsop → Fsop) (s : State) : State :=
  { s with mon := { s.mon with fsops := vecMod s.mon.fsops e f } }
def Chan.cfg (x : Chan) : ChanCfg := x.stored.getD ChanCfg.zero
/-- The fields of a configuration that restart the chain, with EN (R387). -/
def ChanCfg.chainPart (g : ChanCfg) : Chain := ⟨g.en, g.source, g.n, g.dexp, g.m, g.phase, g.bin⟩
/-- What an engine's fast-SOP channel is set to, a command that still waits included (R391). -/
def Fsop.wanted (x : Fsop) : FsopSet := x.next.getD ⟨x.chan, x.thr, x.hyst, x.release⟩
/-- A MON_FSOP_SET comes in force (R391, R410). -/
def Fsop.put (x : Fsop) : Fsop :=
  let w := x.wanted
  { x with chan := w.chan, thr := w.thr, hyst := w.hyst, release := w.release, next := none }

/-- The channel is its engine's fast-SOP channel (R391). -/
def isFsop (c : Nat) (s : State) : Bool := decide ((s.fsop (c / 8)).chan = c % 8)
/-- DMA_EN of a channel (R391). -/
def dmaOn (c : Nat) (s : State) : Bool := (s.chan c).force.dmaEn

/-- RATE in force of an engine: the slower of the configured and the throttle limit (R157). -/
def monRate (e : Nat) (s : State) : Nat :=
  let x := vecGet Engine.reset s.dsp.engines e
  max x.eqForce.rate x.rateCut
/-- R392: the threshold and the hysteresis in force on the fast-SOP channel. -/
def fsopThr (e : Nat) (s : State) : Nat := min (s.fsop e).thr ([500, 250, 125, 62].getD (monRate e s) 62)
def fsopHyst (e : Nat) (s : State) : Nat := min (s.fsop e).hyst (fsopThr e s - 1)

/-- ATTACK, RELEASE, THR, HYST and the window exponents in force (R389, R391). -/
def attackOf (c : Nat) (s : State) : Nat := if isFsop c s then 0 else (s.chan c).force.attack
def releaseOf (c : Nat) (s : State) : Nat := if isFsop c s then (s.fsop (c / 8)).release else (s.chan c).force.release
def thrOf (c : Nat) (s : State) : Nat := if isFsop c s then fsopThr (c / 8) s else (s.chan c).force.thr
def hystOf (c : Nat) (s : State) : Nat := if isFsop c s then fsopHyst (c / 8) s else (s.chan c).force.hyst
def peakExpOf (c : Nat) (s : State) : Nat := if isFsop c s then 0 else (s.chan c).force.pkExp
def rmsExpOf (c : Nat) (s : State) : Nat := if isFsop c s then 0 else (s.chan c).force.rmsExp

/-- The level of R394 in force on a channel: that of its engine's last processing block (R387, R421). -/
def levelOf (c : Nat) (s : State) : Nat := vecGet 0 s.mon.levels (c / 8)
/-- The chain a channel is to run: the fast-SOP chain, or its stored one under throttle level 1 (R391, R394). -/
def wantedChain (c : Nat) (s : State) : Chain :=
  if isFsop c s then Chain.fsop
  else
    let g := (s.chan c).cfg
    ⟨g.en, g.source, g.n, if 1 ≤ levelOf c s ∧ g.en = true then max 8 g.dexp else g.dexp, g.m, g.phase, g.bin⟩

/-! ### Sources and the decimation chain (R382 to R386) -/

/-- The width of a bin group in Hz: the resampled rate of the profile over 512 (R149, R382). -/
def binGroupWidth (profile : Nat) : Nat := [637500000, 637500000, 637500000, 478125000, 318750000, 318750000, 159375000,
  318750000].getD profile 0
/-- The carrier offset in Hz at which bin group `g` begins (R382). -/
def binGroupFrom (profile g : Nat) : Int := ((g : Int) - 256) * binGroupWidth profile
/-- The mean square of the corrected samples of a clock, in codes² (R382, SOURCE 1 to 4). -/
def railPower (codes : List Int) : Nat := (codes.map (fun v => v.natAbs ^ 2)).foldl (· + ·) 0 / codes.length

/-- A sample runs through the integrators in turn (R383). -/
def integrate : Int → List Int → List Int
  | _, [] => []
  | x, a :: as => (a + x) :: integrate (a + x) as
/-- A value runs through the combs in turn, each of which subtracts what it took M output samples before (R383). -/
def combChain (m : Nat) : Int → List (List Int) → Int × List (List Int)
  | x, [] => (x, [])
  | x, d :: ds =>
    let r := combChain m (x - d.getD (m - 1) 0) ds
    (r.1, (x :: d).take m :: r.2)
/-- One input sample: delayed by PHASE, then integrated (R383, R386). -/
def Filter.input (h : Chain) (f : Filter) (x : Int) : Filter :=
  let q := f.delay ++ [x]
  if h.phase < q.length then { f with delay := q.drop 1, ints := integrate (q.headD 0) f.ints } else { f with delay := q }
/-- The FIR of an order N and a delay M over its last 31 inputs, the newest first (R384): symmetric, and of unity gain at DC, which
gives its middle tap; rounded down (DESIGN CHOICE, log 61). -/
def firOutput (n m : Nat) (v : List Int) : Int :=
  let sides := (List.range 15).map (fun i => Config.monTap n m i * ((v.getD i 0 + v.getD (30 - i) 0 - 2 * v.getD 15 0 : Int) : Rat))
  (sides.foldl (· + ·) ((v.getD 15 0 : Int) : Rat)).floor
/-- The CIC's output after D inputs, its gain (M × D)^N removed by a shift, passes the FIR (R383, R384). -/
def Filter.output (h : Chain) (f : Filter) : Int × Filter :=
  let c := combChain h.m (f.ints.getLast?.getD 0) f.combs
  let line := (c.1 / (((h.m * 2 ^ h.dexp) ^ h.n : Nat) : Int) :: f.fir).take 31
  (firOutput h.n h.m line, { f with combs := c.2, fir := line })
/-- The inputs of one output sample pass the chain (R383, R384): D of them, and 0 where fewer are named. -/
def Filter.pass (h : Chain) (inputs : List Int) (f : Filter) : Int × Filter :=
  (((List.range (2 ^ h.dexp)).map (fun i => inputs.getD i 0)).foldl (fun u x => u.input h x) f).output h
/-- R384: an output sample saturated to 32 bits. -/
def satSample (y : Int) : Int := max (-2147483648) (min 2147483647 y)

/-- R385: twice the group delay in input samples. -/
def delay2 (h : Chain) : Nat := h.n * (h.m * 2 ^ h.dexp - 1) + 30 * 2 ^ h.dexp

/-- STOP_CAUSE: 3 disabled or idle, 2 engine OFF, 1 throttle, 0 none (R394, R412). -/
def stopCause (c : Nat) (s : State) : Nat :=
  let x := s.chan c
  let h := if x.running then x.chain else wantedChain c s
  if !h.en || decide (h.source = 0) then 3
  else if (vecGet Engine.reset s.dsp.engines (c / 8)).state = .off then 2
  else if 2 ≤ levelOf c s ∧ isFsop c s = false then 1
  else 0
/-- The channel delivers output (R387, R412). -/
def delivers (c : Nat) (s : State) : Bool := decide (stopCause c s = 0) && (s.chan c).running && !(s.chan c).filling

/-! ### DMA rings (R404 to R407) -/

def State.ring (s : State) (n : Nat) : DmaRing := vecGet DmaRing.reset s.mon.rings n
def modRing (n : Nat) (f : DmaRing → DmaRing) (s : State) : State :=
  { s with mon := { s.mon with rings := vecMod s.mon.rings n f } }
/-- No free entry: one keeps head and tail apart (R404, R407). -/
def DmaRing.full (r : DmaRing) : Bool := decide (r.size = 0) || decide ((r.tail + 1) % r.size = r.head)

/-- Write one entry, built from PHASE and GAP, and signal the ring's vector; a full ring drops and counts it (R407). -/
def writeRing (n : Nat) (entry : Bool → Bool → List Byte) (s : State) : State :=
  let r := s.ring n
  if !r.enabled then s
  else if r.full || !s.hif.dmaUp then
    let s1 := modRing n (fun x => { x with gap := true, lostSecond := x.lostSecond + 1 }) s
    if n < 16 then { s1 with mon := { s1.mon with dmaLost := satAdd 0xFFFFFFFF s1.mon.dmaLost 1 } } else s1
  else
    signalVector (19 + n) (modRing n (fun x => { x with
      slots := tabInsert x.slots x.tail (entry x.phase x.gap)
      tail := (x.tail + 1) % x.size
      phase := if x.tail + 1 = x.size then !x.phase else x.phase
      gap := false }) s)

/-- A monitor record (R405). -/
def monRecord (c : Nat) (x : Chan) (phase gap : Bool) : List Byte :=
  leBytes 1 c ++ leBytes 1 (packBits [phase, gap, x.satRecord, x.cfgChange]) ++ leBytes 2 x.samples.length
    ++ leBytes 6 x.stampSec ++ leBytes 4 x.stampNs ++ leBytes 1 x.chain.dexp ++ leBytes 1 0
    ++ bytesAt 0 48 (x.samples.flatMap (fun y => leBytesInt 4 y))

/-- Write the record being filled, whatever its count, and begin another (R405). -/
def flushRecord (c : Nat) (s : State) : State :=
  let x := s.chan c
  if x.samples = [] then s
  else modChan c (fun y => { y with samples := [], satRecord := false, cfgChange := false }) (writeRing c (monRecord c x) s)

/-- R387: a chain starts again: integrators, combs, FIR and detectors are cleared, what has been set comes in force and it fills.
A change of ENV_ABOVE made while the channel was a fast-SOP channel is not reported (R390, R393). -/
def restartChan (c : Nat) (s : State) : State :=
  let s1 := flushRecord c s
  modChan c (fun y => { y with
    chain := wantedChain c s, force := y.cfg, fsop := isFsop c s, filter := Filter.clear (wantedChain c s)
    running := true, filling := true, cfgChange := true
    peakWin := Detector.empty, rmsWin := Detector.empty, env := 0, samples := [], satRecord := false
    above := false
    crossDue := !y.fsop && !isFsop c s && y.cfg.envEvt && (y.crossDue || (y.above && y.force.envEvt)) }) s1
/-- The detector fields that have been set come in force: without DMA_EN the samples of a record not yet full are dropped, without
ENV_EVT a crossing not yet reported is (R387, R390, R405). -/
def takeDetectors (c : Nat) (s : State) : State :=
  let g := (s.chan c).cfg
  let s1 := if !g.dmaEn && decide (12 ≤ (s.chan c).samples.length) then flushRecord c s else s
  modChan c (fun x => { x with
    force := g, crossDue := x.crossDue && g.envEvt
    samples := if g.dmaEn then x.samples else [], satRecord := x.satRecord && g.dmaEn }) s1

/-- A channel stops: its detectors hold (R381, R394, R408). -/
def stopChan (c : Nat) (s : State) : State := modChan c (fun y => { y with running := false }) (flushRecord c s)
/-- The engine's channels stop (R381, R408). -/
def monStop (e : Nat) (s : State) : State := (List.range 8).foldl (fun u k => stopChan (8 * e + k) u) s

/-- A channel at a DSP processing block: level 2 stops it unless it is a fast-SOP channel, and a chain that has changed, or that
does not run, restarts; `named` says that it was the fast-SOP channel before (R387, R391, R394). -/
def chanBlock (c : Nat) (named : Bool) (s : State) : State :=
  let x := s.chan c
  if !isFsop c s && decide (2 ≤ levelOf c s) then (if x.running then stopChan c s else s)
  else if decide (x.chain ≠ wantedChain c s) || (named && !isFsop c s) || !x.running then restartChan c s
  else takeDetectors c s
/-- A DSP processing block: the throttle level, the fast-SOP channel and the chains take what has been set (R387, R391, R394,
R421). -/
def monBlock (e : Nat) (s : State) : State :=
  let was := (s.fsop e).chan
  let s1 := modFsop e Fsop.put s
  let s2 := { s1 with mon := { s1.mon with levels := vecMod s1.mon.levels e (fun _ => s1.mon.throttle) } }
  (List.range 8).foldl (fun u k => chanBlock (8 * e + k) (decide (k = was)) u) s2

/-- R394: set the level of monitor reduction; each engine's channels take it at their next processing block (R421). -/
def monThrottle (level : Nat) (s : State) : State := { s with mon := { s.mon with throttle := level } }

/-- The configured DMA load times 4,096, in MB/s (R407): every channel with DMA_EN. -/
def loadOf (dma : Bool) (dexp : Nat) : Nat := if dma then 6800 * 4096 / 2 ^ dexp else 0
def chanLoad (c : Nat) (fsopChan : Bool) (s : State) : Nat :=
  let g := (s.chan c).cfg
  loadOf g.dmaEn (if fsopChan then 3 else g.dexp)
def monLoad (s : State) : Nat := ((List.range 16).map (fun c => chanLoad c (isFsop c s) s)).foldl (· + ·) 0

/-- A regular sequence with EN at 0 stops at the end of the entry in progress (R397). -/
def stopSeq (q : SeqCfg) (x : Sar) : Sar :=
  { x with seq := q, seqNext := none, seqLeft := if x.regAvg.isSome || decide (x.work = .regular) then x.seqLeft.take 1 else []
           seqDue := false, overrun := false }

/-- What an application reset does: every setting returns to its reset value and every ring is disabled, the regular
sequences stop; corrections, trims, system conversions and the cross-check stay (R408). -/
def monAppReset (m : Mon) : Mon :=
  { Mon.reset with
    sars := vecMap (fun _ x => { stopSeq SeqCfg.off x with injected := [] }) m.sars
    xchkFail := m.xchkFail, mismatches := m.mismatches, matches_ := m.matches_, xchk0 := m.xchk0, xchk1 := m.xchk1
    calDone := m.calDone, calAborted := m.calAborted, dmaLost := m.dmaLost, lastTick := m.lastTick }

/-- Records lost in the second are reported once per ring (R407, R411). -/
def monRingSecond (n : Nat) (s : State) : State :=
  let r := s.ring n
  if r.lostSecond = 0 then s
  else emit 12 2 (leBytes 1 n ++ leBytes 3 0 ++ leBytes 4 r.lostSecond) (modRing n (fun x => { x with lostSecond := 0 }) s)
/-- Over-range results of the second are reported once per SAR (R400, R411). -/
def hkaOvrSecond (k : Nat) (s : State) : State :=
  let x := vecGet Sar.reset s.mon.sars k
  if x.ovrSecond = 0 then s
  else emit 12 5 (leBytes 1 k ++ leBytes 1 x.ovrFirst ++ leBytes 2 0 ++ leBytes 4 x.ovrSecond)
    { s with mon := { s.mon with sars := vecMod s.mon.sars k (fun y => { y with ovrSecond := 0 }) } }
def monSecond (s : State) : State :=
  let s1 := (List.range 18).foldl (fun u n => monRingSecond n u) s
  let s2 := hkaOvrSecond 1 (hkaOvrSecond 0 s1)
  { s2 with mon := { s2.mon with
    fsops := vecMap (fun _ x => { x with sent := 0 }) s2.mon.fsops
    chans := vecMap (fun _ x => { x with sat := 0 }) s2.mon.chans } }

end Sys2Proof.Machine
end

