-- ==== Sys2Proof/Machine/DspOps.lean ====
section
/-! DEFINITION. Coherent DSP: profile arithmetic, lock states, fast-SOP and limits (chapter 06). -/

namespace Sys2Proof.Machine

def State.engine (s : State) (e : Nat) : Engine := vecGet Engine.reset s.dsp.engines e
def modEngine (e : Nat) (f : Engine → Engine) (s : State) : State :=
  { s with dsp := { s.dsp with engines := vecMod s.dsp.engines e f } }

/-! ### Line profiles (R147 to R151, R153, R156) -/

/-- Tributary slots of a profile (R147). -/
def profileSlots (n : Nat) : Nat := [480, 400, 320, 240, 160, 160, 80, 80].getD n 0
/-- The n of OTUCn (R147). -/
def profileCn (n : Nat) : Nat := [24, 20, 16, 12, 8, 8, 4, 4].getD n 0
/-- Symbol rate in units of 0.1 GBd (R147). -/
def profileRate (n : Nat) : Nat := [2856, 2856, 2856, 2142, 1428, 1428, 714, 1428].getD n 0
/-- Entropy in hundredths of a bit per symbol and polarisation (R147). -/
def profileEntropy (n : Nat) : Nat := [540, 460, 365, 370, 370, 400, 400, 200].getD n 0
/-- The format of a profile (R147). -/
inductive LineFormat where
  | pcs64qam | pcs16qam | qam16 | qpsk
deriving DecidableEq, Repr
def profileFormat (n : Nat) : LineFormat :=
  if n ≤ 1 then .pcs64qam else if n ≤ 4 then .pcs16qam else if n ≤ 6 then .qam16 else .qpsk
/-- The most bits a symbol of a format carries on one polarisation (R167). -/
def formatBits : LineFormat → Nat
  | .pcs64qam => 6 | .pcs16qam => 4 | .qam16 => 4 | .qpsk => 2
/-- The distribution matcher shapes the amplitudes of a format; the others are uniform (R148, R167). -/
def isShaped : LineFormat → Bool
  | .pcs64qam => true | .pcs16qam => true | .qam16 => false | .qpsk => false
/-- The profile uses the oFEC code (R147). -/
def profileOfec (n : Nat) : Bool := decide (n = 5) || decide (n = 6)
/-- The pilot ratios a profile allows (R147): 0 = 1/32, 1 = 1/64, 2 = 1/128. -/
def pilotAllowed (n pilot : Nat) : Bool :=
  if profileOfec n then decide (pilot = 1) else if n = 7 then decide (pilot = 0) else decide (pilot ≤ 2)
/-- The pilot spacing in symbols (R163). -/
def pilotSpacing (pilot : Nat) : Nat := 32 * 2 ^ pilot
/-- Symbol k of a native superframe is a pilot (R163). -/
def isPilot (pilot k : Nat) : Bool := decide (k % pilotSpacing pilot = 0)
/-- The coded rate in Mb/s (R148): shaped formats carry their entropy at every pilot ratio. -/
def codedRate (sel : ProfileSel) : Nat :=
  if isShaped (profileFormat sel.profile) then profileRate sel.profile * 2 * profileEntropy sel.profile
  else profileRate sel.profile * 2 * profileEntropy sel.profile * (pilotSpacing sel.pilot - 1) / pilotSpacing sel.pilot
/-- The information rate in Mb/s (R148). -/
def infoRate (sel : ProfileSel) : Nat := codedRate sel * (if profileOfec sel.profile then 870 else 825) / 1000
/-- The resampling ratio to 8/7 samples per symbol, and the converter samples in a DSP processing block (R149). -/
def resampleRatio (n : Nat) : Nat × Nat := (2856, profileRate n)
/-- The DSP processing block in picoseconds: 65,536 samples at 8/7 samples per symbol (R149). -/
def blockPs (n : Nat) : Nat := 65536 * 7 * 10000 / (8 * profileRate n)
/-- The superframe in picoseconds: 65,536 symbols (R163), or the G.709.3 super-frame in LP5 and LP6 (R150). -/
def framePs (n : Nat) : Nat := (if profileOfec n then 181888 else 65536) * 10000 / profileRate n
/-- The receive latency in tenths of a microsecond (R151). -/
def rxLatency (n stages : Nat) : Nat := [12, 12, 12, 16, 24, 24, 48, 24].getD n 0 + stages
/-- The dispersion range of a profile in ps/nm (R153). -/
def cdRange (n : Nat) : Nat := if n ≤ 2 then 60000 else if n = 3 then 100000 else 200000
/-- The DGD an equaliser of odd `taps` tolerates, in units of 1/16 symbol (R156). -/
def dgdTolerance (taps : Nat) : Int := 7 * ((taps : Int) - 1) - 64
/-- The tracking rate of a RATE setting in krad/s (R157). -/
def trackingRate (rate : Nat) : Nat := 1000 / 2 ^ rate
/-- The integer square root. -/
def isqrt (n : Nat) : Nat :=
  (List.range (n.log2 / 2 + 1)).reverse.foldl (fun r k => if (r + 2 ^ k) * (r + 2 ^ k) ≤ n then r + 2 ^ k else r) 0
/-- One step of the pilot LFSR x¹⁵ + x¹⁴ + 1: the new bit, shifted in at bit 0 (R164). -/
def pilotLfsr (v : BitVec 15) : BitVec 15 :=
  (v <<< 1) ||| (if v.getLsbD 14 ^^ v.getLsbD 13 then 1 else 0)
/-- What the register reloads at each superframe start, for X and for Y (R164). -/
def pilotSeed (polY : Bool) : BitVec 15 := if polY then 0x5555 else 0x7FFF
/-- Output bit `n` of the pilot sequence from a seed (R164). -/
def pilotBit : Nat → BitVec 15 → Bool
  | 0, v => (pilotLfsr v).getLsbD 0
  | n + 1, v => pilotBit n (pilotLfsr v)
/-- The signs of pilot j: (1 − 2a, 1 − 2b) (R164). -/
def pilotSigns (seed : BitVec 15) (j : Nat) : Int × Int :=
  (1 - 2 * (b2n (pilotBit (2 * j) seed) : Int), 1 - 2 * (b2n (pilotBit (2 * j + 1) seed) : Int))
/-- A of R164 in units of 2⁻¹⁶: 2 A² is the mean power of the data symbols. DESIGN CHOICE: it is rounded down to its unit (log 87). -/
def pilotFactor (meanPower : Rat) : Nat := isqrt (meanPower * 2 ^ 31).floor.toNat
/-- The value of pilot j of a superframe on a polarisation, in units of 2⁻¹⁶: A × ((1 − 2a) + j(1 − 2b)) (R164). -/
def pilotValue (meanPower : Rat) (polY : Bool) (j : Nat) : Int × Int :=
  ((pilotFactor meanPower : Int) * (pilotSigns (pilotSeed polY) j).1, (pilotFactor meanPower : Int) * (pilotSigns (pilotSeed polY) j).2)
/-- The entropy of a data symbol in units of 10⁻⁵ bit: raised to make up for the pilots where the matcher shapes it, and that of the
uniform format where it is bypassed (R167). -/
def dataEntropy (sel : ProfileSel) : Nat :=
  if isShaped (profileFormat sel.profile) then
    profileEntropy sel.profile * 1000 * pilotSpacing sel.pilot / (pilotSpacing sel.pilot - 1)
  else formatBits (profileFormat sel.profile) * 100000

/-- The datapaths of the engines are powered by the device mode (R193). -/
def modePowered (m : Mode) : Bool := decide (m = .service) || decide (m = .maintenance) || decide (m = .quiesce)

/-! ### Lock states and defects (R171 to R175) -/

/-- The code of a lock state (R171). -/
def LockState.code : LockState → Nat
  | .off => 0 | .noSignal => 1 | .cdAcq => 2 | .clockAcq => 3 | .eqAcq => 4 | .sync => 5 | .locked => 6 | .switching => 7

/-- dLOL: powered, dLOS inactive and not LOCKED (R174). -/
def Engine.dlol (x : Engine) : Bool := decide (x.state ≠ .off) && !x.dlos && decide (x.state ≠ .locked)

/-- The throttle limit max(0, C − k), with C and k as of the last block; 8 where no rung of step 1 is applied (R420). -/
def nlcLimit (x : Engine) : Nat := if x.nlcCut = 0 then 8 else x.nlcBase - x.nlcCut
/-- The stages in force: only while LOCKED, the lesser of those whose coefficients are computed and the throttle limit (R18, R165,
R166). -/
def nlcForce (x : Engine) : Nat := if x.state = .locked then min x.nlcInUse (nlcLimit x) else 0
/-- The rate in force: the slower of the configured rate and the throttle limit (R157). -/
def rateForce (x : Engine) : Nat := max x.eqForce.rate x.rateCut
/-- The throttle ladder sets its limits: each engine takes them at its next block, one that is OFF at once (R18, R421). -/
def throttleDsp (drop limit : Nat) (d : Dsp) : Dsp :=
  { d with
    nlcDrop := drop, rateLimit := limit
    engines := vecMap (fun _ x => if x.state = .off then { x with nlcBase := x.nlc.stages, nlcCut := drop, rateCut := limit } else x) d.engines }

/-- The exit from fast-SOP mode with its event; bytes 4 and 5 count the entries that no entry event has reported (R159 to R161,
R180). -/
def fastExitNow (e : Nat) (s : State) : State :=
  match (s.engine e).fast with
  | none => s
  | some f =>
    emit 4 3 (leBytes 1 e ++ leBytes 1 0 ++ leBytes 1 f.source ++ leBytes 1 0 ++ leBytes 2 (s.engine e).entriesSince
        ++ leBytes 2 (f.peak / 10))
      (modEngine e (fun x => { x with fast := none, fastExit := false }) s)

/-- Move an engine to a lock state; a change of state or defect raises DSP_LOCK_CHANGED, and leaving LOCKED ends fast-SOP
mode at once (R160, R174, R180). -/
def setLock (e : Nat) (st : LockState) (dlos : Bool) (cause : Nat) (s : State) : State :=
  let x := s.engine e
  let s0 := if st = .locked then s else fastExitNow e s
  let s1 := modEngine e (fun y => { y with state := st, dlos := dlos }) s0
  let y := s1.engine e
  if x.state = st ∧ x.dlos = dlos then s1
  else emit 4 1 (leBytes 1 e ++ leBytes 1 x.state.code ++ leBytes 1 st.code ++ leBytes 1 cause ++ leBytes 1 (b2n y.dlos)
    ++ leBytes 1 (b2n y.dlol)) s1

/-- A pending or running profile change ends with a status (R177, R180). -/
def profileDone (e : Nat) (st : Status) (s : State) : State :=
  let x := s.engine e
  match x.change with
  | none => s
  | some c =>
    let hit := if c.started then (s.tim.now - c.startPs) / 1000000 else 0
    let prof := if c.started then c.sel.profile else x.sel.profile
    completeOr 0x0401 e st 4 2 (leBytes 1 e ++ leBytes 1 prof ++ leBytes 1 st.code ++ leBytes 1 0 ++ leBytes 4 hit)
      (modEngine e (fun y => { y with change := none, txSel := if c.started then c.sel else y.txSel }) s)

/-- The search of an engine ends: DSP_CD_RESULT, completing the command that started it; one that ends without a result runs
again only after two failed reacquisitions (R154, R180). -/
def searchDone (e : Nat) (st : Status) (found : Int) (s : State) : State :=
  let x := s.engine e
  if !x.searching then s
  else
    let pay := leBytes 1 e ++ leBytes 1 st.code ++ leBytes 2 0 ++ leBytesInt 4 found
    let s1 := modEngine e (fun y => { y with searching := false, searchByCommand := false, cdFresh := false }) s
    if x.searchByCommand then completeOr 0x0402 e st 4 4 pay s1 else emit 4 4 pay s1

/-- The engine goes to OFF: pending profile change and search end ABORTED (R175, R180). -/
def engineOff (e : Nat) (cause : Nat) (s : State) : State :=
  let s1 := profileDone e .aborted s
  let s2 := searchDone e .aborted (s1.engine e).cdEst s1
  let s3 := setLock e .off false cause s2
  monStop e (modEngine e (fun x => { x with fastRequest := none, fastExit := false, regaining := false, failedReacq := 0
                                            nlcInUse := x.nlcReady, cdNext := none, cdRestart := false
                                            nlcBase := x.nlc.stages, nlcCut := s.dsp.nlcDrop, rateCut := s.dsp.rateLimit }) s3)

/-- The datapaths power up: an engine takes the profile stored in STANDBY, at the mode change itself (R176, R193, R195). -/
def installProfile (e : Nat) (s : State) : State :=
  modEngine e (fun x => { x with sel := x.stored.getD x.sel, txSel := x.stored.getD x.sel, stored := none }) s

/-- The converters produce samples: NO_SIGNAL with dLOS at once; a stored configuration takes effect (R173, R178). -/
def engineStart (e : Nat) (s : State) : State :=
  if (s.engine e).state ≠ .off then s
  else
    setLock e .noSignal true 1 (modEngine e (fun x => { x with
      txSel := x.sel
      eqForce := x.eq, rxForce := x.rx, nlcInUse := x.nlcReady
      nlcBase := x.nlc.stages, nlcCut := s.dsp.nlcDrop, rateCut := s.dsp.rateLimit }) s)

/-- The engine is acquiring or locked. -/
def Engine.live (x : Engine) : Bool := decide (x.state ≠ .off) && decide (x.state ≠ .noSignal)

/-- Acquisition restarts at CD_ACQ: a search runs when a new one is configured, or after two failed reacquisitions
(R154, R172). -/
def toCdAcq (e cause : Nat) (s : State) : State :=
  setLock e .cdAcq false cause (modEngine e (fun x => { x with
    regaining := false
    searching := x.searching || (x.cd.search && (x.cdFresh || decide (2 ≤ x.failedReacq))) }) s)

/-- The engine loses lock and reacquires (R155, R175). -/
def reacquire (e cause : Nat) (s : State) : State :=
  if (s.engine e).live then toCdAcq e cause s else s

/-- A fast-SOP event reaches the engine, from the monitor (0) or a command (1): taken at the next block boundary (R158). -/
def fastRequest (e source : Nat) (s : State) : State := modEngine e (fun x => { x with fastRequest := some source }) s

/-! ### Pre-distortion (R169, R170) -/

/-- The filter that the settings, the host's response, the DAC records and the swings ask for now (R139, R140, R169, R170). -/
def txWanted (e : Nat) (s : State) : TxFilter :=
  let x := s.engine e
  let dacs := (s.group e).dacs.toList
  ⟨x.tx, x.respHost, x.respApplied, dacs.map (fun d => d.char), dacs.map (fun d => d.inForce.swing)⟩
/-- The combined response of a lane at a grid point: the DAC's times the host's (R169). -/
def combinedPoint (e l k : Nat) (f : TxFilter) : Int × Int :=
  let d := charPoint e l k (f.chars.getD l Dac.reset.char)
  let h := tabGet (0, 0) f.resp (l * 64 + k)
  (d.1 + h.1, d.2 + h.2)
/-- MAX_BOOST limits the inverse of a lane at some point: its loss there is more than MAX_BOOST dB (R169). -/
def boostLimits (e l : Nat) (f : TxFilter) : Bool :=
  f.cfg.pdEn && (List.range 64).any (fun k => decide ((combinedPoint e l k f).1 < -100 * (f.cfg.maxBoost : Int)))
/-- BOOST_LIMITED (R169, R181); none before the first power-up. -/
def boostMask (e : Nat) (f : TxFilter) : Nat :=
  if f.chars.isEmpty then 0 else packBits ((List.range 4).map (fun l => boostLimits e l f))
/-- The total skew of a lane in 0.01 ps: the host's plus that of the DAC's record (R139, R169). -/
def totalSkew (e l : Nat) (f : TxFilter) : Int :=
  f.cfg.skew.getD l 0 + ((f.chars[l]?).map (dacSkewOf e l)).getD 0
/-- A group powers up: the DSP takes the newest record of each DAC, and what was set in STANDBY takes effect (R139, R178). -/
def txTake (e : Nat) (s : State) : State := modEngine e (fun x => { x with txForce := txWanted e s, txReady := none }) s

/-- arcsin as its power series to 64 terms: below 2⁻³² of the function up to 0.8 (R169). -/
def arcsinSeries (x : Rat) : Rat :=
  ((List.range 64).foldl (fun (a : Rat × Rat) k =>
    (a.1 + a.2 / ((2 * k + 1 : Nat) : Rat), a.2 * x * x * ((2 * k + 1 : Nat) : Rat) / ((2 * k + 2 : Nat) : Rat))) (0, x)).1
/-- Samples normalised to a peak of 1; a lane of zeros stays (R169). -/
def normalised (lane : List Rat) : List Rat :=
  let peak := lane.foldl (fun p x => if p < x then x else if p < -x then -x else p) 0
  if peak = 0 then lane else lane.map (fun x => x / peak)
/-- Step 2: the modulator pre-compensation of the samples of a lane, normalised to a peak of 1, DRIVE in 0.01; 0 is off (R169). -/
def modulatorComp (drive : Nat) (lane : List Rat) : List Rat :=
  if drive = 0 then lane
  else (normalised lane).map (fun x => arcsinSeries ((drive : Rat) / 100 * x) / arcsinSeries ((drive : Rat) / 100))
/-- Step 3: the inverse FIR around a sample (R169). -/
def inverseFir (resp : List (Int × Int)) (maxBoost : Nat) (lane : List Rat) : List Rat :=
  (List.range lane.length).map (fun n => (List.range 65).foldl (fun acc k =>
    if k ≤ n + 32 then acc + Config.inverseTap resp maxBoost k * lane.getD (n + 32 - k) 0 else acc) 0)
/-- Step 5: each word scaled to an RMS of 512 codes and rounded, before clipping (R169): 512 x / √(Σ x² / n). -/
def scaleWords (lane : List Rat) : List Int :=
  let sum := lane.foldl (fun acc x => acc + x * x) 0
  lane.map (fun x =>
    let sq := 512 * 512 * x * x * (lane.length : Rat) / sum
    (((isqrt (4 * sq).floor.toNat + 1) / 2 : Nat) : Int) * x.num.sign)
/-- A word beyond +2047 or −2048 is clipped and counted (R169). -/
def txClips (w : Int) : Bool := decide (2047 < w) || decide (w < -2048)
/-- The words of a lane from its samples and those of its partner, by the five steps; a quadrature lane's partner is the in-phase
lane (R169). -/
def txWords (e l : Nat) (f : TxFilter) (lane partner : List Rat) : List Int :=
  let gain := if l < 2 then f.cfg.xGain else f.cfg.yGain
  let phase := if l < 2 then f.cfg.xPhase else f.cfg.yPhase
  let iq := List.zipWith (fun a b => if l % 2 = 0 then (Config.iqCorrect gain phase a b).1 else (Config.iqCorrect gain phase b a).2) lane partner
  let pre := if f.cfg.pdEn then
      inverseFir ((List.range 64).map (fun k => combinedPoint e l k f)) f.cfg.maxBoost (modulatorComp f.cfg.drive iq)
    else lane
  (scaleWords (Config.delayed (totalSkew e l f) pre)).map (clampInt (-2048) 2047)

/-- Recompute the pre-distortion of an engine (R170). -/
def startTxpd (e : Nat) (s : State) : State := modEngine e (fun x => { x with recomputing := true }) s

/-- 100 ms in picoseconds: the pacing of several events. -/
def pace100 : Nat := 100000000000

/-- The switch instant: SWITCHING, or NO_SIGNAL while dLOS holds it (R173), or OFF where the engine is (R171), the new profile in the receiver, fast-SOP ended, a
search abandoned (R160, R177). -/
def startSwitch (e : Nat) (s : State) : State :=
  match (s.engine e).change with
  | none => s
  | some c =>
    let dlos := (s.engine e).dlos
    let st : LockState := if (s.engine e).state = .off then .off else if dlos then .noSignal else .switching
    let s1 := setLock e st dlos 4 (fastExitNow e (searchDone e .aborted (s.engine e).cdEst s))
    startTxpd e (modEngine e (fun x => { x with
      sel := c.sel, regaining := false
      change := some { c with started := true, startPs := s.tim.now, startTod := s.tim.tod } }) s1)

/-- The transmitter, encoder and framer change at the first frame boundary after the instant (R177). -/
def switchTx (e : Nat) (s : State) : State :=
  modEngine e (fun x => match x.change with
    | some c => if c.started then { x with txSel := c.sel, change := some { c with txDone := true } } else x
    | none => x) s

end Sys2Proof.Machine
end

