-- ==== Sys2Proof/Machine/DefectOps.lean ====
section
/-! DEFINITION. Plan lookup, raw conditions, masks and consequent actions of the defects (R222 to R229, R249). -/

namespace Sys2Proof.Machine

/-- Keys of the framer's units: engines, tributaries, client interfaces. -/
def engineKey (e : Nat) : Nat := e
def tribKey (t : Nat) : Nat := 256 + t
def cifKey (c : Nat) : Nat := 512 + c

def State.unit (s : State) (k : Nat) : FrmUnit := tabGet FrmUnit.reset s.frm.units k
def modUnit (k : Nat) (f : FrmUnit → FrmUnit) (s : State) : State :=
  { s with frm := { s.frm with units := tabSet FrmUnit.reset s.frm.units k (f (s.unit k)) } }

/-- Every FlexO instance that carries a unit is in SYNC; a unit without any has its stream at once (R216). -/
def FrmUnit.flexoSync (u : FrmUnit) : Bool := u.flexo.all (fun a => decide (a.state = .sync))
/-- SYNC and IM of a unit: of its stream and of every instance that carries it (R216, R217, R219; log 48). -/
def FrmUnit.inSync (u : FrmUnit) : Bool := decide (u.align.state = .sync) && u.flexoSync
def FrmUnit.inIm (u : FrmUnit) : Bool := u.align.im && u.flexo.all (fun a => a.im)
/-- ALIGN: OFF, or the least aligned of the stream and its instances (R244; log 48). -/
def FrmUnit.alignState (u : FrmUnit) : Align :=
  let has := fun x => (u.align :: u.flexo).any (fun a => decide (a.state = x))
  if u.align.state = .off then .off else if has .hunt then .hunt else if has .confirm then .confirm else .sync

/-- The members of a FlexO interface's group; the group is aligned when every instance is and no position is missing (R216, R352). -/
def flexoMembers (c : Nat) (s : State) : List Nat :=
  let x := vecGet Cif.reset s.cln.cifs c
  (List.range 32).filter (fun d =>
    let y := vecGet Cif.reset s.cln.cifs d
    decide (y.typ = 4) && decide (y.group = x.group))
def flexoAligned (c : Nat) (s : State) : Bool :=
  let m := flexoMembers c s
  m.all (fun d => decide ((vecGet Cif.reset s.cln.cifs d).position < m.length) && (s.unit (cifKey d)).flexoSync)
/-- The stream of a client interface arrives: a FlexO interface needs its whole group (R216, R352). -/
def cifFed (c : Nat) (s : State) : Bool := decide ((s.unit (cifKey c)).otn ≠ 2) || flexoAligned c s

/-- The entry of a TRIB in a plan, if its KIND is not 0 (R248). -/
def planFind (plan : List (Nat × PlanEntry)) (t : Nat) : Option PlanEntry := (plan.find? (fun x => x.1 = t)).map (fun x => x.2)
def State.entry (s : State) (t : Nat) : Option PlanEntry := planFind s.map.plan t

/-- The tributaries of an engine under the plan in force, and the slots they use. -/
def engineTribs (e : Nat) (s : State) : List (Nat × PlanEntry) := s.map.plan.filter (fun x => x.2.engine = e)
def slotsIn (e : Nat) (plan : List (Nat × PlanEntry)) : Nat :=
  (plan.filter (fun x => x.2.engine = e)).foldl (fun n x => n + x.2.slotCount) 0
/-- Slots an engine's plan uses: in force, or stored to take effect at power-up (R176, R252). -/
def planSlots (e : Nat) (s : State) : Nat :=
  max (slotsIn e s.map.plan) ((s.map.stored.map (fun x => slotsIn e x.2)).getD 0)

/-- The container and tributary port number that the plan puts on each slot of an engine (R249). -/
def msiOf (e : Nat) (slots : Nat) (plan : List (Nat × PlanEntry)) : List (Option (Nat × Nat)) :=
  (List.range slots).map (fun i =>
    (plan.find? (fun x => x.2.engine = e && x.2.slots.getLsbD i)).map (fun x => (x.2.container, x.1 + 1)))

/-- A configured trail trace differs under its mode (R220): SAPI bytes 0 to 15, DAPI bytes 16 to 31. -/
def timRaw (c : TtiCfg) (l : Layer) : Bool :=
  match l.tti.value with
  | none => false
  | some v =>
    ((c.mode = 1 || c.mode = 3) && decide (v.take 16 ≠ c.exp.take 16))
      || ((c.mode = 2 || c.mode = 3) && decide ((v.drop 16).take 16 ≠ (c.exp.drop 16).take 16))

/-- An accepted value differs from the expected one. -/
def differs {α : Type} [DecidableEq α] (a : Accept α) (expected : α) : Bool :=
  match a.value with
  | none => false
  | some v => decide (v ≠ expected)

/-- A defect word from its codes. -/
def wordOf (codes : List (Nat × Bool)) : BitVec 21 :=
  codes.foldl (fun w c => if c.2 then w ||| BitVec.ofNat 21 (2 ^ c.1) else w) 0
def maskOf (codes : List Nat) : BitVec 21 := wordOf (codes.map (fun c => (c, true)))
/-- A word holds one of the codes. -/
def hasAny (w : BitVec 21) (codes : List Nat) : Bool := codes.any (fun c => w.getLsbD c)

/-- The PM conditions every PM layer shares. -/
def pmRaw (u : FrmUnit) : List (Nat × Bool) :=
  [(10, u.pm.ais.on), (11, u.pm.oci.on), (12, u.pm.lck.on), (13, timRaw u.force.pm u.pm), (14, u.pm.bdi.on), (15, u.pm.deg)]

/-- Raw conditions of an engine (R223). -/
def engineRaw (e : Nat) (s : State) : BitVec 21 :=
  let x := s.engine e
  let u := s.unit (engineKey e)
  let f := vecGet FecEngine.reset s.fec.engines e
  if !modePowered s.dev.mode then 0
  else wordOf ([(0, x.dlos), (1, x.dlol || vecGet false s.dev.engineReset e || !s.lineRef e || !u.align.synced),
    (2, !u.inSync), (3, !u.inIm), (4, timRaw u.force.sm u.sm), (5, u.sm.bdi.on), (6, u.sm.biae.on),
    (7, u.sm.deg), (8, f.sd), (9, f.sf), (16, differs u.pm.pt (Config.payloadType 0 0)),
    (17, differs u.pm.msi (msiOf e (profileSlots x.txSel.profile) s.map.plan)),
    (18, profileOfec x.txSel.profile && differs u.gid (Config.expectedGid 0 e))] ++ pmRaw u)

/-- Raw conditions of a tributary (R223). -/
def tribRaw (t : Nat) (s : State) : BitVec 21 :=
  let u := s.unit (tribKey t)
  match s.entry t with
  | none => 0
  | some x =>
    if !modePowered s.dev.mode then 0
    else wordOf ([(16, differs u.pm.pt (Config.payloadType x.kind x.container)), (19, u.auth), (20, u.cphf)] ++ pmRaw u)

/-- Raw conditions of a client interface that carries OTN (R223). -/
def cifRaw (c : Nat) (s : State) : BitVec 21 :=
  let u := s.unit (cifKey c)
  if u.otn = 0 ∨ modePowered s.dev.mode = false then 0
  else wordOf [(0, u.los), (2, !(u.inSync && cifFed c s)), (3, !(u.inIm && cifFed c s)), (4, timRaw u.force.sm u.sm),
    (5, u.sm.bdi.on), (6, u.sm.biae.on), (7, u.sm.deg), (10, decide (u.otn = 1) && u.otuAis),
    (18, decide (u.otn = 2) && differs u.gid (Config.expectedGid 2 c))]

/-- Raw conditions of a unit. -/
def rawWord (scope unit : Nat) (s : State) : BitVec 21 :=
  if scope = 0 then engineRaw unit s else if scope = 1 then tribRaw unit s else cifRaw unit s

/-- What may be declared: as the raw word, dSD and dSF by their window counts (R224). -/
def dueWord (scope unit : Nat) (s : State) : BitVec 21 :=
  let u := s.unit (scope * 256 + unit)
  let w := rawWord scope unit s
  if scope = 0 ∧ modePowered s.dev.mode = true then
    (w &&& ~~~ maskOf [8, 9]) ||| wordOf [(8, u.sdRun.on), (9, u.sfRun.on)] else w

/-- The overhead defects (R226). -/
def overhead : List Nat := [4, 5, 6, 7, 10, 11, 12, 13, 14, 15, 16, 17, 18]

/-- The tributary or ODUCn maintenance signal masks within its layer (R226). -/
def pmMask (w : BitVec 21) : BitVec 21 := if hasAny w [10, 11, 12] then maskOf [13, 14, 15, 16, 17] else 0

/-- What an engine's declared defects mask in the engine (R226). -/
def engineMask (w : BitVec 21) : BitVec 21 :=
  (if w.getLsbD 0 then maskOf ([1, 2, 3, 8, 9, 19] ++ overhead) else 0)
    ||| (if w.getLsbD 1 then maskOf ([2, 3, 8, 9] ++ overhead) else 0)
    ||| (if w.getLsbD 2 then maskOf (3 :: overhead) else 0)
    ||| (if w.getLsbD 3 then maskOf [4, 13, 16, 17, 18] else 0) ||| pmMask w

/-- What a client interface's own defects mask (R226). -/
def cifMask (w : BitVec 21) : BitVec 21 :=
  (if w.getLsbD 2 then maskOf (3 :: overhead) else 0) ||| (if w.getLsbD 3 then maskOf [4, 13, 16, 17, 18] else 0)

/-- aTSF of an engine's SM layer, of its ODUCn, and of the engine (R227): from a defect word and the configuration. -/
def smFail (u : FrmUnit) (w : BitVec 21) : Bool := hasAny w [0, 1, 2, 3, 18] || (w.getLsbD 4 && u.force.sm.timAct)
def pmFail (u : FrmUnit) (w : BitVec 21) : Bool := hasAny w [10, 11, 12, 16, 17] || (w.getLsbD 13 && u.force.pm.timAct)
def engineFail (u : FrmUnit) (w : BitVec 21) : Bool := smFail u w || pmFail u w
/-- aTSD of an engine (R227). -/
def engineDegraded (w : BitVec 21) : Bool := hasAny w [7, 8, 15]
/-- aTSF and aTSD of a tributary, aTSF of a client interface (R227). -/
def tribFail (u : FrmUnit) (w : BitVec 21) : Bool := hasAny w [10, 11, 12, 16, 19] || (w.getLsbD 13 && u.force.pm.timAct)
def tribDegraded (w : BitVec 21) : Bool := w.getLsbD 15
def cifFail (u : FrmUnit) (w : BitVec 21) : Bool := hasAny w [0, 2, 3, 10, 18] || (w.getLsbD 4 && u.force.sm.timAct)

/-- Server signal fail of a tributary under an engine word: aTSF, or dSF when protected or SF_REPLACE (R227). -/
def ssfUnder (u : FrmUnit) (w : BitVec 21) (prot : Bool) : Bool :=
  engineFail u w || (w.getLsbD 9 && (prot || bit u.force.ca 0))

/-- What masks a tributary's defects: its engine's and its own (R226). -/
def tribMask (eu : FrmUnit) (w : BitVec 21) : BitVec 21 :=
  (if eu.declared.getLsbD 0 then maskOf ([19] ++ overhead) else 0)
    ||| (if hasAny eu.declared [1, 2] then maskOf overhead else 0)
    ||| (if engineFail eu eu.declared then maskOf [10, 11, 12, 13, 14, 15, 16, 19] else 0) ||| pmMask w

/-- The mask over a unit that would declare `w` (R226). -/
def unitMask (scope unit : Nat) (w : BitVec 21) (s : State) : BitVec 21 :=
  if scope = 0 then engineMask w
  else if scope = 1 then
    match s.entry unit with
    | some x => tribMask (s.unit (engineKey x.engine)) w
    | none => 0
  else cifMask w

/-- SSF, SSD, and the signal-fail and signal-degrade requests of a tributary, and aTSF of a client interface: a CBR interface
that is down has it (R227, R228, R355). -/
def tribSsf (t : Nat) (s : State) : Bool :=
  match s.entry t with
  | some x => ssfUnder (s.unit (engineKey x.engine)) (s.unit (engineKey x.engine)).declared x.protected_
  | none => false
/-- A tributary is masked or in SSF: the cipher engine checks no group of it (R226, R283). -/
def groupsMasked (t : Nat) (s : State) : Bool := tribSsf t s || (unitMask 1 t (s.unit (tribKey t)).declared s).getLsbD 19
def tribSsd (t : Nat) (s : State) : Bool :=
  match s.entry t with
  | some x => engineDegraded (s.unit (engineKey x.engine)).declared
  | none => false
def tribAtsf (t : Nat) (s : State) : Bool := tribFail (s.unit (tribKey t)) (s.unit (tribKey t)).declared
def sfRequest (t : Nat) (s : State) : Bool := tribSsf t s || tribAtsf t s
def sdRequest (t : Nat) (s : State) : Bool := tribSsd t s || tribDegraded (s.unit (tribKey t)).declared
def cifAtsf (c : Nat) (s : State) : Bool :=
  let x := vecGet Cif.reset s.cln.cifs c
  cifFail (s.unit (cifKey c)) (s.unit (cifKey c)).declared || (decide (x.typ = 2) && !x.up)

/-- Backward BDI on the SM and PM layers of an engine, of a tributary, and of a client interface (R227). -/
def engineBdi (e : Nat) (s : State) : Bool × Bool :=
  let u := s.unit (engineKey e)
  let w := u.declared
  if bit u.force.ca 1 then
    (hasAny w [0, 1, 2, 3, 18] || (w.getLsbD 4 && u.force.sm.timAct),
      hasAny w [0, 1, 2, 3, 10, 11, 12, 17] || (w.getLsbD 13 && u.force.pm.timAct))
  else (false, false)
def tribBdi (t : Nat) (s : State) : Bool :=
  let u := s.unit (tribKey t)
  hasAny u.declared [10, 11, 12] || (u.declared.getLsbD 13 && u.force.pm.timAct)
def cifBdi (c : Nat) (s : State) : Bool := cifFail (s.unit (cifKey c)) (s.unit (cifKey c)).declared

end Sys2Proof.Machine
end

