-- ==== Sys2Proof/Machine/MiOps.lean ====
section
/-! DEFINITION. Memory classes, counters, retirement and the cinder list (chapter 15). -/

namespace Sys2Proof.Machine

def State.memClass (s : State) (k : Nat) : MemClass := vecGet MemClass.reset s.mi.classes k
def modClass (k : Nat) (f : MemClass → MemClass) (s : State) : State :=
  { s with mi := { s.mi with classes := vecMod s.mi.classes k f } }

/-- Instances of a class (R457). -/
def classInstances (k : Nat) : Nat := if k = 3 then 64 else if k = 6 ∨ k = 7 then 2 else if k = 8 then 48 else 1
/-- Rows of an instance (R438); those the spec gives no number for are the implementation's. -/
def classRows (k : Nat) : Nat :=
  if k = 0 then 49152 else if k = 1 then 1024 else if k = 3 then 65536 else Config.miRows k
/-- The class has spare rows (R438). -/
def hasSpares (k : Nat) : Bool := decide (k = 2) || (decide (4 ≤ k) && decide (k ≤ 13))
/-- The class's memories are powered (R455). -/
def classPowered (k : Nat) (s : State) : Bool :=
  if k ≤ 2 ∨ k = 13 then s.pins.resetN && s.pins.pwrOk
  else decide (s.mi.power = 2) || (decide (s.mi.power = 1) && [6, 7, 12].contains k)

/-- VALID and POISON are stored three times: what they read as, and whether a copy disagrees, which is a correctable error (R439). -/
def majority (a b c : Bool) : Bool × Bool := ((a && b) || (a && c) || (b && c), !(a == b && b == c))
/-- The tile of a row of a bank (R315). -/
def tileOf (bank row : Nat) : Nat := row / 8 * 64 + bank
/-- VALID of a row: 0 from the power-up of its memory until it is first written (R440). Only the Woodpile's rows are placed by the
spec; in another class it is known of the rows that a command has shown to be written. -/
def rowValid (k inst row : Nat) (s : State) : Bool :=
  if k = 3 then s.mi.tiles.contains (tileOf inst row) else (s.memClass k).valid.contains (inst, row)
/-- VALID is set (R441). -/
def setValid (k inst row : Nat) (s : State) : State :=
  modClass k (fun c => { c with valid := (inst, row) :: c.valid.filter (fun x => x ≠ (inst, row)) }) s
/-- What a read delivers: zeros, without error, from a row with VALID 0 (R440). -/
def readRow (valid : Bool) (stored : List Byte) : List Byte := if valid then stored else stored.map (fun _ => 0)
/-- What a partial write leaves: its bytes merged with what the row reads as, and a poisoned row as it was, since the write is dropped
and the requester takes the response of its class (R441). -/
def partialWrite (valid poisoned : Bool) (stored : List Byte) (new : List (Option Byte)) : List Byte :=
  if poisoned then stored else List.zipWith (fun o n => n.getD o) (readRow valid stored) new
/-- Rows of a scrub's range with VALID 0: exact for the Woodpile, as measured elsewhere (R440, R447). -/
def unwrittenIn (k : Nat) (x : Scrub) (rows measured : Nat) (s : State) : Nat :=
  if k = 3 then
    rows - ((s.mi.tiles.filter (fun t => t % 64 = x.inst)).map (fun t =>
      min (t / 64 * 8 + 8) (x.first + rows) - max (t / 64 * 8) x.first)).foldl (· + ·) 0
  else min measured rows
/-- Rows of a class that the patrol reads in a second, at least (R445). -/
def patrolRate (k periodH : Nat) : Nat := (classInstances k * classRows k + periodH * 3600 - 1) / (periodH * 3600)

/-- Spare rows left in an instance (R438, R451): 1 per 512 rows, less those used. -/
def sparesLeft (k inst : Nat) (s : State) : Nat :=
  if hasSpares k then classRows k / 512 - tabGet 0 (s.memClass k).sparesUsed inst else 0
/-- The least spares left in any instance, and the flags of R451. -/
def leastSpares (k : Nat) (s : State) : Nat :=
  ((List.range (classInstances k)).map (fun i => sparesLeft k i s)).foldl min (sparesLeft k 0 s)
def spareLow (k : Nat) (s : State) : Bool := hasSpares k && decide (leastSpares k s ≤ 8)
def spareOut (k : Nat) (s : State) : Bool := hasSpares k && decide (leastSpares k s = 0)

/-- Retired tiles and banks of the Woodpile (R342, R449). -/
def cinderTiles (s : State) : List Nat := (s.mi.cinders.filter (fun c => c.cls = 3 ∧ c.kind = 1)).map (fun c => c.addr)
def cinderBanks (s : State) : List Nat := (s.mi.cinders.filter (fun c => c.cls = 3 ∧ c.kind = 2)).map (fun c => c.addr)
/-- Rows retired in a class; tiles in class 3 (R459). -/
def retiredCount (k : Nat) (s : State) : Nat :=
  (s.mi.cinders.filter (fun c => c.cls = k ∧ (k ≠ 3 ∨ c.kind = 1))).length

/-- An entry in MI_CINDER_READ format (R457). -/
def Cinder.bytes (c : Cinder) : List Byte :=
  leBytes 1 c.cls ++ leBytes 1 c.kind ++ leBytes 2 c.inst ++ leBytes 4 c.addr ++ leBytes 6 c.seconds ++ leBytes 1 c.cause
    ++ leBytes 1 (b2n c.persisted)

/-- The CINDER record that holds an entry (R449, R464). -/
def logCinder (index : Nat) (s : State) : State :=
  logRecord 0x0042 (index / 13) (((s.mi.cinders.drop (13 * (index / 13))).take 13).flatMap (fun c => c.bytes)) s

/-- Add an entry; a full list takes no more, which is reported once (R449). -/
def addCinder (c : Cinder) (s : State) : State :=
  if s.mi.cinders.length < 8192 then
    logCinder s.mi.cinders.length { s with mi := { s.mi with cinders := s.mi.cinders ++ [c] } }
  else if s.mi.cinderFull then s
  else emit 14 6 (leBytes 2 s.mi.cinders.length) { s with mi := { s.mi with cinderFull := true } }

/-- MI_RETIRED (R458). -/
def retiredEvent (k kind inst addr left : Nat) (persisted : Bool) (s : State) : State :=
  emit 14 3 (leBytes 1 k ++ leBytes 1 kind ++ leBytes 2 inst ++ leBytes 4 addr ++ leBytes 4 left
    ++ leBytes 1 (packBits [persisted, spareLow k s, spareOut k s])) s

/-- Move a row to a spare and list it; with no spare left it stays in use (R442, R451). -/
def retireRow (k inst row cause : Nat) (s : State) : State :=
  if sparesLeft k inst s = 0 then s
  else
    let fits := decide (s.mi.cinders.length < 8192)
    let s1 := modClass k (fun c => { c with sparesUsed := tabInsert c.sparesUsed inst (tabGet 0 c.sparesUsed inst + 1) }) s
    let s2 := addCinder ⟨k, 0, inst, row, s.tim.seconds, cause, false⟩ s1
    retiredEvent k 0 inst row (sparesLeft k inst s2) fits s2

/-- A correctable error is counted (R442, R456). -/
def countCe (k inst row : Nat) (s : State) : State :=
  modClass k (fun c => { c with
    ceCnt := satAdd 0xFFFFFFFF c.ceCnt 1
    ceInst := if c.ceSecond = 0 then inst else c.ceInst
    ceRow := if c.ceSecond = 0 then row else c.ceRow
    ceSecond := c.ceSecond + 1
    ceDay := c.ceDay + 1 }) s

/-- MI_UNCORRECTABLE and its Logbook record, within the limits of R456. The event of class 0 or 1 takes its place in
EVENT_SEQ, but the host cannot receive it: LOCKOUT is in force (R456, DEDUCED). -/
def reportUe (k inst row : Nat) (injected scrub : Bool) (response : Nat) (s : State) : State :=
  let pay := leBytes 1 k ++ leBytes 1 (b2n injected + 2 * b2n scrub) ++ leBytes 2 inst ++ leBytes 4 row ++ leBytes 1 response
    ++ leBytes 3 0 ++ leBytes 4 s.mi.suppressed
  let s1 := modClass k (fun c => { c with ueCnt := satAdd 0xFFFFFFFF c.ueCnt 1 })
    { s with mi := { s.mi with
      lastClass := k, lastInst := inst, lastInjected := injected, lastRow := row, lastSec := s.tim.seconds
      lastNs := s.tim.nanoseconds, ueSecond := s.mi.ueSecond + 1
      suppressed := if s.mi.ueSecond < 64 then 0 else s.mi.suppressed + 1 } }
  let s2 := if 64 ≤ s.mi.ueSecond then s1
    else if k ≤ 1 then { s1 with hif := { s1.hif with eventSeq := s1.hif.eventSeq + 1 } }
    else emit 14 2 pay s1
  if (s.memClass k).logHour < 16 then
    logInjected injected 0x0040 0 pay (modClass k (fun c => { c with logHour := c.logHour + 1 }) s2)
  else modClass k (fun c => { c with logOver := c.logOver + 1 }) s2

/-- MI_SUMMARY (R456, R464): class, period (0 a stuck row, 1 an hour, 2 a day), count and row. -/
def miSummary (k period n row : Nat) (s : State) : State :=
  logRecord 0x0041 0 (leBytes 1 k ++ leBytes 1 period ++ leBytes 2 0 ++ leBytes 4 n ++ leBytes 4 row) s

/-- The hour's and the day's summaries (R456). -/
def miHour (s : State) : State :=
  (List.range 14).foldl (fun u k =>
    let n := (u.memClass k).logOver
    modClass k (fun c => { c with logHour := 0, logOver := 0 }) (if n = 0 then u else miSummary k 1 n 0 u)) s
def miDay (s : State) : State :=
  (List.range 14).foldl (fun u k =>
    let n := (u.memClass k).ceDay
    modClass k (fun c => { c with ceDay := 0 }) (if n = 0 then u else miSummary k 2 n 0 u)) s

/-- A row is poisoned (R443) and, when its unit is rebuilt later, awaits it. -/
def poisonRow (k inst row : Nat) (await : Option UeTarget) (s : State) : State :=
  let s1 := modClass k (fun c => { c with poisoned := (inst, row) :: c.poisoned.filter (fun x => x ≠ (inst, row)) }) s
  match await with
  | some t => { s1 with mi := { s1.mi with awaiting := (t, (k, (inst, row))) :: s1.mi.awaiting.filter (fun a => a.2 ≠ (k, (inst, row))) } }
  | none => s1
/-- POISON is cleared (R441, R450). -/
def clearPoison (k inst row : Nat) (s : State) : State :=
  let s1 := modClass k (fun c => { c with poisoned := c.poisoned.filter (fun x => x ≠ (inst, row)) }) s
  { s1 with mi := { s1.mi with awaiting := s1.mi.awaiting.filter (fun a => a.2 ≠ (k, (inst, row))) } }

/-- A full-row write sets VALID and clears POISON (R441). -/
def fullWrite (k inst row : Nat) (s : State) : State := clearPoison k inst row (setValid k inst row s)
/-- The unit of a poisoned row has been rebuilt: its row is read again, and one that still shows an error moves to a spare
(R444). -/
def rebuilt (t : UeTarget) (faulty : Bool) (s : State) : State :=
  (s.mi.awaiting.filter (fun a => a.1 = t)).foldl (fun u a =>
    let v := fullWrite a.2.1 a.2.2.1 a.2.2.2 u
    if faulty then retireRow a.2.1 a.2.2.1 a.2.2.2 0 v else v) s

/-- A tributary whose framer entry is lost in both copies is SF by a request of its own (R438, class 9). -/
def ownSf (t : Nat) (s : State) : Bool :=
  s.mi.awaiting.any (fun a => match a.1 with
    | .copy true ts => decide (a.2.1 = 9) && ts.contains t
    | _ => false)

/-- The summary record of a range scrub (R458). -/
def scrubSummary (k : Nat) (st : Status) (x : Scrub) (read unwritten poisoned us : Nat) : List Byte :=
  leBytes 1 k ++ leBytes 1 st.code ++ leBytes 2 x.inst ++ leBytes 4 x.first ++ leBytes 4 x.count ++ leBytes 4 read
    ++ leBytes 4 unwritten ++ leBytes 4 x.corrected ++ leBytes 4 x.fresh ++ leBytes 4 poisoned ++ leBytes 4 x.retired
    ++ leBytes 4 us
/-- Rows already poisoned among the first `rows` of a scrub's range (R447, R458). -/
def poisonedIn (c : MemClass) (x : Scrub) (rows : Nat) : Nat :=
  (c.poisoned.filter (fun p => p.1 = x.inst ∧ x.first ≤ p.2 ∧ p.2 < x.first + rows)).length - x.fresh
/-- Rows that a scrub has read when it is aborted: one per µs per Woodpile bank, 8 per µs elsewhere (R447, R448). -/
def scrubRead (k : Nat) (x : Scrub) (s : State) : Nat :=
  min x.count ((s.tim.now - x.startPs) / 1000000 * (if k = 3 then 1 else 8))
/-- The range scrub of a class ends ABORTED: its summary covers the rows read so far, of which a free number were never
written, but in the Woodpile those with VALID 0 (R448). -/
def scrubAbort (k : Nat) (s : State) : State :=
  match (s.memClass k).range with
  | none => s
  | some x =>
    let rows := scrubRead k x s
    let f := takeFree s
    let unwritten := unwrittenIn k x rows (f.1 % (rows + 1)) s
    completeOr 0x0E01 k .aborted 14 4
      (scrubSummary k .aborted x (rows - unwritten) unwritten (poisonedIn (s.memClass k) x rows) ((s.tim.now - x.startPs) / 1000000))
      (modClass k (fun c => { c with range := none }) f.2)

/-- Memories of the datapaths power up or down: what they hold is written afresh at power-up, so that no entry of theirs waits for a
rebuild (R448, R455). -/
def miPower (level : Nat) (s : State) : State :=
  let ks := (List.range 14).filter (fun k => decide (3 ≤ k ∧ k ≤ 12) &&
    (classPowered k s != classPowered k { s with mi := { s.mi with power := level } }))
  let s1 := ks.foldl (fun u k => modClass k (fun c => { c with
    poisoned := [], valid := [], flips := [], swept := false, patrolInst := 0, patrolPos := 0, sweepAge := 0 }) (scrubAbort k u)) s
  { s1 with
    mi := { s1.mi with
      power := level
      awaiting := s1.mi.awaiting.filter (fun a => !ks.contains a.2.1)
      tiles := if ks.contains 3 then [] else s1.mi.tiles
      tileFlips := if level = 2 then s1.mi.tileFlips else [] }
    pkt := { s1.pkt with broken := if ks.contains 5 then [] else s1.pkt.broken }
    mon := { s1.mon with sars := vecMap (fun _ x => { x with rebuilding := if ks.contains 12 then [] else x.rebuilding }) s1.mon.sars } }

/-- The spare rows that the cinder list takes in a class, by instance (R442, R449). -/
def sparesListed (k : Nat) (l : List Cinder) : List (Nat × Nat) :=
  (l.filter (fun c => c.cls = k ∧ c.kind = 0)).foldl (fun t c => tabInsert t c.inst (tabGet 0 t c.inst + 1)) []
/-- A warm or cold reset clears every counter of the window; the cinder list stands and is applied again (R449, R455). -/
def miReset (m : Mi) : Mi :=
  { Mi.reset with cinders := m.cinders, classes := vecMap (fun k c => { c with sparesUsed := sparesListed k m.cinders }) Mi.reset.classes }

/-- Leaving MAINTENANCE discards the flips still pending (R31, R454). -/
def miDropFlips (s : State) : State :=
  { s with mi := { s.mi with tileFlips := [], classes := vecMap (fun _ c => { c with flips := [] }) s.mi.classes } }

/-- The second boundary: MI_CORRECTED per class, and ages (R456, R459). -/
def miSecondClass (k : Nat) (s : State) : State :=
  let c := s.memClass k
  let s1 := modClass k (fun x => { x with sweepAge := satAdd 0xFFFFFFFF x.sweepAge 1, ceSecond := 0 }) s
  if c.ceSecond = 0 then s1
  else emit 14 1 (leBytes 1 k ++ leBytes 1 0 ++ leBytes 2 c.ceInst ++ leBytes 4 c.ceRow ++ leBytes 4 c.ceSecond) s1
def miSecond (s : State) : State :=
  let s1 := (List.range 14).foldl (fun u k => miSecondClass k u) s
  { s1 with mi := { s1.mi with ueSecond := 0 } }
/-- Requesters' reads of rows never written are counted (R440). -/
def miReads (m : SecondMeasure) (s : State) : State :=
  { s with mi := { s.mi with unwrittenRd := satAdd 0xFFFFFFFF s.mi.unwrittenRd m.unwritten } }

end Sys2Proof.Machine
end

