-- ==== Sys2Proof/Machine/ApsOps.lean ====
section
/-! DEFINITION. 1+1 protection: requests, decision, selector and replacement signals (R255 to R266, R504). -/

namespace Sys2Proof.Machine

def State.apsGroup (s : State) (w : Nat) : Option ApsGroup := (s.map.groups.find? (fun x => x.1 = w)).map (fun x => x.2)
def setApsGroup (w : Nat) (g : ApsGroup) (s : State) : State :=
  { s with map := { s.map with groups := s.map.groups.map (fun x => if x.1 = w then (w, g) else x) } }

/-- The differential delay exceeds 10 µs (R260). -/
def delayExcess (g : ApsGroup) : Bool := decide (10000 < g.delay.natAbs)

def workFails (r : PathReq) : Bool := r.sfW || r.sdW
def anyFails (r : PathReq) : Bool := r.sfW || r.sdW || r.sfP || r.sdP
/-- Both paths have SF, or both have SD (R257). -/
def bothFailed (r : PathReq) : Bool := (r.sfW && r.sfP) || (r.sdW && r.sdP)

/-- The local request: its rank and the selection it gives, none where the selector stays (R257). -/
def localRequest (g : ApsGroup) : Nat × Option Bool :=
  let r := g.req
  if g.cmd = 1 then (7, some false)
  else if g.cmd = 2 then (6, some true)
  else if r.sfW || r.sfP then (5, if r.sfW && r.sfP then none else some r.sfW)
  else if r.sdW || r.sdP then (4, if r.sdW && r.sdP then none else some r.sdW)
  else if g.cmd = 3 then (3, some true)
  else if g.cmd = 4 then (3, some false)
  else if g.wtrEnd.isSome then (2, some true)
  else if g.dnr then (1, some true)
  else (0, some false)

/-- The request in force: a far-end request of higher rank governs a bidirectional group (R257, R261). -/
def requestInForce (g : ApsGroup) : Nat × Option Bool :=
  let l := localRequest g
  if g.bidir && decide (l.1 < g.farRank) then (g.farRank, some g.farProtection) else l

/-- A manual switch is dropped when a request of higher rank is present (R262). -/
def dropManual (g : ApsGroup) : ApsGroup :=
  if (g.cmd = 3 ∨ g.cmd = 4) ∧ (anyFails g.req = true ∨ (g.bidir = true ∧ 3 < g.farRank)) then
    { g with cmd := 0, lastResult := 1 } else g

/-- WTR and DNR after a change of requests: a higher request ends WTR, and DNR when it selects working; the recovery of
working with none present and the selector on protection starts one of them (R257, R259). -/
def recoverStep (now : Nat) (workFailed : Bool) (g : ApsGroup) : ApsGroup :=
  let q := requestInForce g
  if 3 ≤ q.1 then
    { g with wtrEnd := none, dnr := g.dnr && decide (q.2 ≠ some false) }
  else if workFailed && !workFails g.req && g.want then
    if g.revertive then { g with wtrEnd := some (now + g.wtrSeconds * 1000000000000) } else { g with dnr := true }
  else g

/-- Take the decision: the rank in force and the selection, with its cause (R257, R260, R266). -/
def chooseStep (expired : Bool) (g : ApsGroup) : ApsGroup :=
  let q := requestInForce g
  let g1 := { g with rank := q.1 }
  match q.2 with
  | some t => if t = g.want then g1 else { g1 with want := t, why := if expired && decide (q.1 < 2) then 2 else q.1 }
  | none => g1

def apsDecide (now : Nat) (workFailed expired : Bool) (g : ApsGroup) : ApsGroup :=
  chooseStep expired (recoverStep now workFailed (dropManual g))

/-- A tributary's SF request: the framer's, or its own while its entry is lost (R228, R438). -/
def pathSf (t : Nat) (s : State) : Bool := sfRequest t s || ownSf t s

/-- The requests of a group's paths now (R228, R257). -/
def rawRequests (w : Nat) (g : ApsGroup) (s : State) : PathReq :=
  if !modePowered s.dev.mode then PathReq.none
  else if g.peer then
    let p := tabGet 0 s.map.peerReq w
    ⟨pathSf w s, sdRequest w s, bit p 0, bit p 1⟩
  else ⟨pathSf w s, sdRequest w s, pathSf g.partner s, sdRequest g.partner s⟩

/-- A clearing request acts at once; a new one after hold-off, at once when that is 0 (R258). -/
def takeRequests (raw : PathReq) (g : ApsGroup) : ApsGroup :=
  let kept : PathReq := ⟨g.req.sfW && raw.sfW, g.req.sdW && raw.sdW, g.req.sfP && raw.sfP, g.req.sdP && raw.sdP⟩
  if raw = kept then { g with raw := raw, req := kept, holding := false }
  else if g.holdoff = 0 then { g with raw := raw, req := raw, holding := false }
  else { g with raw := raw, req := kept, holding := true }

/-- A group follows its requests. -/
def apsRefreshOne (w : Nat) (g : ApsGroup) (s : State) : State :=
  let g1 := takeRequests (rawRequests w g s) g
  if g1 = g then s else setApsGroup w (apsDecide s.tim.now (workFails g.req) false g1) s

/-- Every group follows its requests. -/
def apsRefresh (s : State) : State := s.map.groups.foldl (fun u x => apsRefreshOne x.1 x.2 u) s

/-- APS_SWITCHED (R266). -/
def apsReport (w : Nat) (g : ApsGroup) (s : State) : State :=
  emit 7 2 (leBytes 2 w ++ leBytes 1 (b2n g.sel) ++ leBytes 1 g.cause ++ leBytes 1 (b2n g.hit) ++ leBytes 1 (min 255 g.changes)
      ++ leBytes 2 0 ++ leBytesInt 4 g.delay)
    (setApsGroup w { g with changes := 0, hit := false, pacing := true } s)

/-- The datapaths power down: requests, timers, WTR, DNR and MS are dropped, the selector returns to working; an LO
or FS stays in force, with its rank (R257, R263, R265). -/
def apsDown (g : ApsGroup) : ApsGroup :=
  let cmd := if 3 ≤ g.cmd then 0 else g.cmd
  { g with raw := PathReq.none, req := PathReq.none, holding := false, wtrEnd := none, dnr := false
           cmd := cmd, rank := if cmd = 1 then 7 else if cmd = 2 then 6 else 0, sel := false, want := false, why := 0
           farRank := 0, farProtection := false, mismatchNow := false, mismatch := false }

/-- Groups after a plan: kept when both entries are unchanged, else new, on working with NR (R263). -/
def regroup (old new : List (Nat × PlanEntry)) (groups : List (Nat × ApsGroup)) : List (Nat × ApsGroup) :=
  (new.filter (fun x => x.2.protected_ && !x.2.protection)).map (fun x =>
    let same := decide (planFind old x.1 = some x.2)
      && (x.2.peer || decide (planFind old x.2.partner = planFind new x.2.partner))
    match groups.find? (fun g => g.1 = x.1) with
    | some g => if same then g else (x.1, ApsGroup.new x.2.partner x.2.peer)
    | none => (x.1, ApsGroup.new x.2.partner x.2.peer))

/-! ### Replacement signals (R255, R504) -/

def State.trib (s : State) (t : Nat) : TribStatus := tabGet TribStatus.reset s.map.tribs t
def modTrib (t : Nat) (f : TribStatus → TribStatus) (s : State) : State :=
  { s with map := { s.map with tribs := tabSet TribStatus.reset s.map.tribs t (f (s.trib t)) } }

/-- The working TRIB of the group an entry belongs to on this device; the group of a protection entry for the other device is
there (R246, R255). -/
def groupOf (t : Nat) (x : PlanEntry) : Option Nat := if x.protection then (if x.peer then none else some x.partner) else some t

/-- An engine is out for a reset or a profile switch (R44, R177), or without its line reference until the domain returns to
it, which its tributaries take as an engine reset (R103). -/
def engineOut (e : Nat) (s : State) : Bool :=
  vecGet false s.dev.engineReset e || ((s.engine e).change.map (fun c => c.started)).getD false || !s.lineRef e
    || decide ((vecGet Group.reset s.cnv.groups e).state = .off)

def State.cphTrib (s : State) (t : Nat) : CphTrib := tabGet CphTrib.reset s.cph.tribs t
def modCphTrib (t : Nat) (f : CphTrib → CphTrib) (s : State) : State :=
  { s with cph := { s.cph with tribs := tabSet CphTrib.reset s.cph.tribs t (f (s.cphTrib t)) } }

/-- An encrypted tributary that may not send payload: no transmit epoch, exhausted, twin fault, or an entry being rebuilt
(R280, R287, R301, R302). -/
def txBlocked (t : Nat) (x : PlanEntry) (s : State) : Bool :=
  let c := s.cphTrib t
  x.encrypt && (c.txCur.isNone || c.exhausted || c.faultTx || c.rebuildTx)

/-- The line-bound signal to send: the first of ODU-LCK, ODU-OCI, line-bound replacement whose cause holds; that of the last is the
feeding client's failure, or the loss of the peer path that feeds a cross-device protection tributary of any KIND (R255, R504). -/
def lineCause (t : Nat) (s : State) : Nat :=
  match s.entry t with
  | none => 0
  | some x =>
    if (s.unit (tribKey t)).declared.getLsbD 20 || txBlocked t x s then 3
    else if (decide (s.dev.mode = .quiesce) && decide (x.kind ≠ 4)) || (engineOut x.engine s && !x.protected_) then 2
    else if ownSf t s || (decide (x.cif < 32) && cifAtsf x.cif s)
      || ((decide (x.cif = 0xFE) || (x.protection && x.peer)) && bit (tabGet 0 s.map.peerReq (0x100 + t)) 0) then 1
    else 0

/-- The client of a tributary takes its replacement signal (R255): the copy that serves it has failed or is not locked. -/
def clientCause (t : Nat) (s : State) : Bool :=
  match s.entry t with
  | none => false
  | some x =>
    let failed := fun k => pathSf k s || !(s.trib k).locked
    let served := match (groupOf t x).bind (fun w => (s.apsGroup w).map (fun g => (w, g))) with
      | some (w, g) => if g.sel then (if g.peer then g.raw.sfP else failed g.partner) else failed w
      | none => failed t
    (decide (s.dev.mode = .quiesce) && decide (x.kind ≠ 4)) || served

/-- The content of the client replacement signal, and of the line-bound signal of a code, by KIND (R255, R504). -/
def clientContent (kind : Nat) (on : Bool) : Replacement :=
  if !on then .none else if kind = 1 then .localFault else if kind = 2 then .otu4Ais else if kind = 3 then .oduAis else .noFrames
def lineContent (kind code : Nat) : Replacement :=
  if code = 3 then .oduLck else if code = 2 then .oduOci
  else if code = 1 then (if kind = 1 then .gmpLocalFault else if kind = 4 then .impIdles else .oduAis) else .none
/-- The status of a tributary that starts or ends: unlocked, its client under replacement (R253). -/
def startStatus (kind : Nat) : TribStatus := ⟨false, true, 0, clientContent kind true, .none⟩

/-- A frame boundary of a tributary: both signals follow their causes. -/
def tribBoundary (t : Nat) (s : State) : State :=
  let kind := ((s.entry t).map (fun x => x.kind)).getD 0
  let c := clientCause t s
  let l := lineCause t s
  modTrib t (fun x => { x with
    clientRepl := c, lineRepl := l, clientSent := clientContent kind c, lineSent := lineContent kind l }) s

/-- Demappers lose lock under SSF, aTSF or the loss of their engine (R267). -/
def unlockFailed (s : State) : State :=
  s.map.plan.foldl (fun u x => if sfRequest x.1 s || engineOut x.2.engine s then modTrib x.1 (fun y => { y with locked := false }) u else u) s

end Sys2Proof.Machine
end

