-- ==== Sys2Proof/Machine/Signal.lean ====
section
/-! DEFINITION. What a signal carries, bit by bit: the native line payload and its scrambler, the alignment patterns, BIP-8 across
encryption, the cipher overhead positions, and the peer-lane scrambler (R214 to R216, R269 to R272, R358 to R361). -/

namespace Sys2Proof.Machine

/-! ### The native line payload (R214, R215) -/

/-- Payload bits of a code block (R214). -/
def payloadBits : Nat := 202752
/-- OTUCn bits per block of a native profile; 0 in LP5 and LP6, whose FlexO frame occupies the fill (R214, R215). -/
def otucBits (profile : Nat) : Nat := [201278, 196902, 198521, 195838, 195838, 0, 0, 186994].getD profile 0
/-- Fill bits per block: the rest of the payload; none in LP5 and LP6 (R214, R215). -/
def fillBits (profile : Nat) : Nat := if otucBits profile = 0 then 0 else payloadBits - otucBits profile
/-- The position of a code block and the bit of the position that carry payload bit `m` (R214). -/
def payloadPlace (m : Nat) : Nat × Nat := (m / 12672, m % 12672)
/-- Payload bit `m` of block `k` before scrambling: the OTUCn stream runs on across blocks, and the fill is zero (R214, R215). -/
def payloadBit (profile : Nat) (stream : Nat → Bool) (k m : Nat) : Bool :=
  decide (m < otucBits profile) && stream (k * otucBits profile + m)

/-- The new bit of the payload scrambler: state bits 15, 11, 2 and 0 (R215). -/
def payloadTap (r : Half) : Bool := r.getLsbD 15 ^^ r.getLsbD 11 ^^ r.getLsbD 2 ^^ r.getLsbD 0
/-- One step of the payload scrambler: the register shifts left and the new bit enters at bit 0 (R215). -/
def payloadStep (r : Half) : Half := (r <<< 1) ||| (if payloadTap r then 1 else 0)
/-- The payload bits XORed with the new bit of their steps, from a register: it scrambles and it descrambles (R215). -/
def payloadScramble : Half → List Bool → List Bool
  | _, [] => []
  | r, b :: bs => (b ^^ payloadTap r) :: payloadScramble (payloadStep r) bs
/-- The payload of one block is scrambled from 0xFFFF (R215). -/
def scrambleBlock (payload : List Bool) : List Bool := payloadScramble (BitVec.allOnes 16) payload
/-- FRM_FILL_ERR of a delivered block: the fill bits that read 1 after descrambling (R215). -/
def fillErrors (profile : Nat) (received : List Bool) : Nat :=
  if otucBits profile = 0 then 0 else ((scrambleBlock received).drop (otucBits profile)).countP (fun b => b)

/-! ### Alignment patterns (R216) -/

/-- `n` bits of a value, the most significant first. -/
def bitsOf (n v : Nat) : List Bool := (List.range n).map (fun i => v.testBit (n - 1 - i))
/-- A received bit stream holds these bits at `p`. -/
def holdsAt (stream : Nat → Bool) (p : Nat) (pattern : List Bool) : Bool :=
  (List.range pattern.length).all (fun i => stream (p + i) == pattern.getD i false)
/-- Bytes 2 to 5 of the FAS: OA1 OA1 OA2 OA2 (R216). -/
def fasBits : List Bool := bitsOf 32 0xF6F62828
/-- The pattern of an OTUCn stream at bit `p`: the run of `n` FAS groups, and none 128 bits before it (R216). -/
def otucAt (n : Nat) (stream : Nat → Bool) (p : Nat) : Bool :=
  (List.range n).all (fun k => holdsAt stream (p + 128 * k) fasBits) && !(decide (128 ≤ p) && holdsAt stream (p - 128) fasBits)
/-- The pattern of OTU4 (R216). -/
def otu4At (stream : Nat → Bool) (p : Nat) : Bool := holdsAt stream p fasBits
/-- The pattern of a FlexO instance: the common marker bits and the unique bits of the instance expected there (R216). -/
def flexoAt (group instanceNo : Nat) (stream : Nat → Bool) (p : Nat) : Bool :=
  holdsAt stream p (Config.flexoCommon ++ Config.flexoUnique group instanceNo)
/-- The candidates of a frame of `len` bits, in rising order, under a pattern. -/
def candidatesIn (pattern : Nat → Bool) (len : Nat) : List Nat := (List.range len).filter pattern

/-! ### BIP-8 and the overhead of an encrypted tributary (R268 to R272) -/

/-- BIP-8: the parity of each bit position over the bytes (R221, R269). -/
def bip8 (bytes : List Byte) : Byte := bytes.foldl (fun a b => a ^^^ b) 0
/-- The BIP-8 that the cipher engine sends on: as received, less that of the payload it took, plus that of the payload it gave
(R269). -/
def carriedBip (received : Byte) (taken given : List Byte) : Byte := received ^^^ bip8 taken ^^^ bip8 given
/-- The bits in which a BIP-8 differs from the one computed: its violations (R221). -/
def bipViolations (received : Byte) (bytes : List Byte) : Nat :=
  ((List.range 8).filter (fun i => (received ^^^ bip8 bytes).getLsbD i)).length

/-- P0 to P16: row and column of the ODU overhead (R272). -/
def cobPlaces : List (Nat × Nat) :=
  [(1, 8), (1, 9), (1, 10), (1, 11), (1, 12), (1, 13), (1, 14), (2, 1), (2, 2), (3, 13), (3, 14), (4, 9), (4, 10), (4, 11), (4, 12),
    (4, 13), (4, 14)]
/-- The byte in P`i` of frame `f` of a tag group (R272). -/
def cobAt (cob : List Byte) (f i : Nat) : Byte := if f = 0 then cob.getD i 0 else if f = 1 then cob.getD (17 + i) 0 else 0
/-- An overhead byte of an encrypted tributary: the block's in its positions, the client's own elsewhere (R270, R272). -/
def overheadByte (cob : List Byte) (f : Nat) (client : Nat × Nat → Byte) (place : Nat × Nat) : Byte :=
  match cobPlaces.findIdx? (fun q => q = place) with
  | some i => cobAt cob f i
  | none => client place
/-- The engine encrypts columns 17 to 3,824 of rows 1 to 4 and leaves the overhead in clear (R268). -/
def encryptedPlace (place : Nat × Nat) : Bool :=
  decide (1 ≤ place.1) && decide (place.1 ≤ 4) && decide (17 ≤ place.2) && decide (place.2 ≤ 3824)

/-! ### The peer-lane scrambler (R358 to R361) -/

/-- s(n − 39) ⊕ s(n − 58): bit k of the register holds s(n − 1 − k) (R359). -/
def laneTap (r : LaneReg) : Bool := r.getLsbD 38 ^^ r.getLsbD 57
/-- A scrambled bit enters the register (R359). -/
def lanePush (r : LaneReg) (b : Bool) : LaneReg := (r <<< 1) ||| (if b then 1 else 0)
/-- s(n) = d(n) ⊕ s(n − 39) ⊕ s(n − 58) (R359): the register after the bits, and the bits sent. -/
def laneScramble : LaneReg → List Bool → LaneReg × List Bool
  | r, [] => (r, [])
  | r, d :: ds =>
    let b := d ^^ laneTap r
    let x := laneScramble (lanePush r b) ds
    (x.1, b :: x.2)
/-- d(n) = s(n) ⊕ s(n − 39) ⊕ s(n − 58) (R359): the register after the bits, and the data. -/
def laneDescramble : LaneReg → List Bool → LaneReg × List Bool
  | r, [] => (r, [])
  | r, b :: bs =>
    let x := laneDescramble (lanePush r b) bs
    (x.1, (b ^^ laneTap r) :: x.2)
/-- A 64-bit word, the most significant bit first (R358). -/
def wordBits (w : Long) : List Bool := bitsOf 64 w.toNat
/-- 64 bits, the most significant first, as a word (R358). -/
def bitsWord (bs : List Bool) : Long := bs.foldl (fun a b => (a <<< 1) ||| (if b then 1 else 0)) 0
/-- Bits as a lane's PAM4 levels: 00, 01, 11 and 10 are levels 0 to 3 (R358). -/
def laneLevels : List Bool → List Nat
  | a :: b :: rest => (if a then (if b then 2 else 3) else (if b then 1 else 0)) :: laneLevels rest
  | _ => []
/-- The opposite level that is stuffed or padded after a level (R360, R361). -/
def oppositeLevel (l : Nat) : Nat := if l ≤ 1 then 3 else 0
/-- A symbol is stuffed after 32 alike, and the count restarts with the next data symbol (R360): `last` and `run` are the run so
far. -/
def stuffSymbols : Nat → Nat → List Nat → List Nat
  | _, _, [] => []
  | last, run, x :: xs =>
    let n := if 0 < run ∧ x = last then run + 1 else 1
    if n = 32 then x :: oppositeLevel x :: stuffSymbols x 0 xs else x :: stuffSymbols x n xs
/-- The receiver deletes the symbol after a run of 32 (R360): `skip` says that the next symbol goes. -/
def unstuffSymbols : Bool → Nat → Nat → List Nat → List Nat
  | _, _, _, [] => []
  | true, last, _, _ :: xs => unstuffSymbols false last 0 xs
  | false, last, run, x :: xs =>
    let n := if 0 < run ∧ x = last then run + 1 else 1
    x :: unstuffSymbols (decide (n = 32)) x (if n = 32 then 0 else n) xs
/-- The pad after the last data symbol: levels 0 and 3 alternately (R361). -/
def padSymbols (last : Nat) : Nat → List Nat
  | 0 => []
  | n + 1 => oppositeLevel last :: padSymbols (oppositeLevel last) n

/-- The run that goes on after data symbols (R360): the last level and its length. -/
def stuffAfter : Nat → Nat → List Nat → Nat × Nat
  | last, run, [] => (last, run)
  | last, run, x :: xs =>
    let n := if 0 < run ∧ x = last then run + 1 else 1
    stuffAfter x (if n = 32 then 0 else n) xs
/-- The symbols of a lane's data in a marker period before stuffing, and what the transmitter makes of them (R360, R361). -/
def periodData (sent : List Long) : List Nat := sent.flatMap (fun w => laneLevels (wordBits w))
/-- A marker period (R361): two marker words, the stuffed data words and the pad that makes the length the same whatever the data. -/
def markerPeriod (a b : Long) (sent : List Long) : List Nat :=
  let data := periodData sent
  let stuffed := stuffSymbols 0 0 data
  laneLevels (wordBits a ++ wordBits b) ++ stuffed
    ++ padSymbols (data.getLastD 0) (16384 - (stuffed.length - data.length))
/-- What the receiver takes from the symbols after the marker words: the data symbols, the deleted and the padded ones gone (R360,
R361). -/
def periodReceived (symbols : List Nat) : List Nat := (unstuffSymbols false 0 0 (symbols.drop 64)).take 524224

end Sys2Proof.Machine
end

