-- ==== Sys2Proof/Machine/FrmOps.lean ====
section
/-! DEFINITION. The framer: declaring and clearing defects, alignment, overhead and performance seconds (chapter 08). -/

namespace Sys2Proof.Machine

/-! ### Integration settings (R223 to R225) -/

/-- Default SET and CLEAR of a code. -/
def defaultTimes (code : Nat) : Nat × Nat :=
  if code = 2 ∨ code = 3 then (30, 30) else if code = 7 ∨ code = 15 then (100, 7)
  else if code = 8 then (3, 10) else if code = 9 then (1, 10) else (0, 0)
def timesOf (c : UnitCfg) (code : Nat) : Nat × Nat := tabGet (defaultTimes code) c.times code
/-- The codes of a scope (R223). -/
def scopeCodes (scope : Nat) : List Nat :=
  if scope = 0 then [0, 1, 2, 3, 4, 5, 6, 7, 8, 9, 10, 11, 12, 13, 14, 15, 16, 17, 18]
  else if scope = 1 then [10, 11, 12, 13, 14, 15, 16, 19, 20] else [0, 2, 3, 4, 5, 6, 7, 10, 18]
/-- Units of a scope. -/
def scopeSize (scope : Nat) : Nat := if scope = 0 then 2 else if scope = 1 then 256 else 32

/-! ### Declaring and clearing (R224, R226, R229, R243) -/

/-- FRM_DEFECT_CHANGED for a unit (R243). -/
def reportDefects (k : Nat) (s : State) : State :=
  let u := s.unit k
  emit 6 1 (leBytes 1 (k / 256) ++ leBytes 1 0 ++ leBytes 2 (k % 256) ++ leBytes 4 u.declared.toNat ++ leBytes 4 u.changed.toNat)
    (modUnit k (fun v => { v with changed := 0, pacing := true }) s)

/-- A unit's declared word becomes `w`: one change, reported at most once per 10 ms (R229, R243). -/
def setDeclared (k : Nat) (w : BitVec 21) (s : State) : State :=
  let u := s.unit k
  if u.declared = w then s
  else
    let s1 := modUnit k (fun v => { v with declared := w, defSec := v.defSec ||| w, changed := v.changed ||| (v.declared ^^^ w) }) s
    if u.pacing then s1 else reportDefects k s1

/-- A masked defect's integration restarts from zero: the counts of bad and good seconds, and of windows (R226). -/
def restartMasked (mask : BitVec 21) (u : FrmUnit) : FrmUnit :=
  let from0 := fun (l : Layer) => { l with deg := false, degBad := 0, degGood := 0 }
  { u with
    sm := if mask.getLsbD 7 then from0 u.sm else u.sm
    pm := if mask.getLsbD 15 then from0 u.pm else u.pm
    sdRun := if mask.getLsbD 8 then Run.off else u.sdRun
    sfRun := if mask.getLsbD 9 then Run.off else u.sfRun }

/-- What is masked: not the dLOF and dLOM declared at power-up, which hold until their CLEAR times (R226, R236; log 48). -/
def maskNow (scope unit : Nat) (w : BitVec 21) (s : State) : BitVec 21 :=
  unitMask scope unit w s &&& ~~~ (if (s.unit (scope * 256 + unit)).starting then maskOf [2, 3] else 0)

/-- A masked encrypted tributary: the first group checked after the masking must bring a valid HCRC (R283). -/
def cphMasked (t : Nat) (s : State) : State :=
  if ((s.entry t).map (fun x => x.encrypt)).getD false && groupsMasked t s then
    modCphTrib t (fun c => { c with waitHcrc := true }) s
  else s

/-- A unit declares what of `w` its masks leave (R226); the start ends with its dLOF and dLOM (R236). -/
def setUnmasked (scope unit : Nat) (w : BitVec 21) (s : State) : State :=
  let k := scope * 256 + unit
  let m := maskNow scope unit w s
  let s1 := modUnit k (fun u => let v := restartMasked m u; { v with starting := v.starting && hasAny v.declared [2, 3] })
    (setDeclared k (w &&& ~~~ m) s)
  if scope = 1 then cphMasked unit s1 else s1

/-- The codes of a scope whose SET or CLEAR time, as picked, is 0: they follow the frame in which the condition changes (R224). -/
def atOnce (scope : Nat) (pick : Nat × Nat → Nat) (c : UnitCfg) : BitVec 21 :=
  maskOf ((scopeCodes scope).filter (fun n => !([7, 8, 9, 15].contains n) && decide (pick (timesOf c n) = 0)))

/-- A defect word with the changes that take no time: one change with the others of its frame (R224, R229). -/
def settled (scope unit : Nat) (w : BitVec 21) (s : State) : BitVec 21 :=
  let c := (s.unit (scope * 256 + unit)).force
  let raw := rawWord scope unit s
  (w &&& ~~~ (atOnce scope (fun t => t.2) c &&& ~~~ raw)) ||| (atOnce scope (fun t => t.1) c &&& raw)

/-- The tributaries of an engine under its new masks (R226). -/
def remaskTribs (e : Nat) (s : State) : State :=
  (engineTribs e s).foldl (fun u x => setUnmasked 1 x.1 (settled 1 x.1 (u.unit (tribKey x.1)).declared u) u) s

/-- The consequences of a change: tributary masks, demappers, protection requests (R226 to R228). -/
def afterDefects (scope unit : Nat) (s : State) : State :=
  let s1 := if scope = 0 then remaskTribs unit s else s
  apsRefresh (unlockFailed s1)

/-- A unit's word becomes `w` as its masks leave it, with what follows: one change (R226, R229). -/
def changeDefects (scope unit : Nat) (w : BitVec 21) (s : State) : State :=
  if (s.unit (scope * 256 + unit)).declared = w &&& ~~~ maskNow scope unit w s then s
  else afterDefects scope unit (setUnmasked scope unit w s)

/-- Declare the codes whose raw condition holds and that nothing masks, with the changes that take no time (R224, R226, R229). -/
def declareDefects (scope unit : Nat) (codes : BitVec 21) (s : State) : State :=
  changeDefects scope unit
    (settled scope unit ((s.unit (scope * 256 + unit)).declared ||| (codes &&& dueWord scope unit s)) s) s

/-- Clear the codes whose raw condition is absent, with the changes that take no time (R224, R229). -/
def clearDefects (scope unit : Nat) (codes : BitVec 21) (s : State) : State :=
  changeDefects scope unit
    (settled scope unit ((s.unit (scope * 256 + unit)).declared &&& ~~~ (codes &&& ~~~ dueWord scope unit s)) s) s

/-! ### Alignment (R217 to R219) -/

/-- One frame of a condition that needs `n` consecutive frames to change. -/
def Run.step (n : Nat) (v : Bool) (r : Run) : Run :=
  if v = r.on then { r with count := 0 }
  else if n ≤ r.count + 1 then ⟨v, 0⟩ else { r with count := r.count + 1 }

/-- A value accepted after three identical multiframes (R220, R222). -/
def Accept.step {α : Type} [DecidableEq α] (v : Option α) (a : Accept α) : Accept α :=
  match v with
  | none => a
  | some x =>
    let n := if a.last = some x then a.run + 1 else 1
    ⟨some x, min n 3, if 3 ≤ n then some x else a.value⟩

/-- The framer starts or restarts in HUNT and OOM (R218). -/
def Aligner.restart : Aligner := ⟨.hunt, 0, false, 0, none, 0, false⟩
/-- The input of an aligner is gone: it starts again, and has been in SYNC if it had (R216, R218, R223). -/
def Aligner.lost (a : Aligner) : Aligner := { Aligner.restart with synced := a.synced }

/-- One multiframe value in SYNC, modulo `m` (R219): the new state, and whether it breaks the sequence in IM. A frame whose slices
disagree gives no value to follow. -/
def multiframe (m mfas : Nat) (agree : Bool) (a : Aligner) : Aligner × Bool :=
  let good := agree && decide (a.lastMfas.map (fun v => (v + 1) % m) = some mfas)
  let a1 := { a with lastMfas := if agree then some mfas else none }
  if a.im then
    if good then ({ a1 with badMfas := 0 }, false)
    else if 5 ≤ a.badMfas + 1 then ({ a1 with im := false, badMfas := 0 }, true)
    else ({ a1 with badMfas := a.badMfas + 1 }, true)
  else ({ a1 with im := good, badMfas := 0 }, false)

/-- The search goes on from a bit of the frame just examined: CONFIRM at the next candidate in it, else HUNT (R217). -/
def huntFrom (start : Nat) (f : AlignIn) (a : Aligner) : Aligner :=
  match f.found.find? (fun p => decide (start ≤ p)) with
  | some p => { a with state := .confirm, pos := p }
  | none => { a with state := .hunt }

/-- One received frame of the aligner: the new state, and counts of FAS errors, false candidates, OOF entries, and an
incoming-alignment condition (R217, R219). -/
def alignStep (m : Nat) (f : AlignIn) (a : Aligner) : Aligner × (Nat × Nat × Nat × Bool) :=
  match a.state with
  | .off => (a, (0, 0, 0, false))
  | .hunt => (huntFrom 0 f a, (0, 0, 0, false))
  | .confirm =>
    if f.found.contains a.pos then
      ({ a with state := .sync, badFas := 0, im := false, lastMfas := if f.agree then some f.mfas else none, badMfas := 0
                synced := true },
        (0, 0, 0, false))
    else (huntFrom (a.pos + 1) f a, (0, 1, 0, false))
  | .sync =>
    if !f.fasOk && decide (5 ≤ a.badFas + 1) then
      (huntFrom (a.pos + 1) f { a with im := false, badFas := 0, lastMfas := none, badMfas := 0 }, (1, 0, 1, false))
    else
      let r := multiframe m f.mfas f.agree { a with badFas := if f.fasOk then 0 else a.badFas + 1 }
      (r.1, (b2n (!f.fasOk), 0, 0, r.2))

/-! ### Overhead (R220 to R222) -/

/-- Blocks with a violation, and far-end errored blocks: BEI 1 to 8 (R221). -/
def erroredBlocks (l : LayerIn) : Nat := (l.violations.filter (fun v => decide (0 < v))).length
def farErrored (l : LayerIn) : Nat := (l.beis.filter (fun v => decide (0 < v) && decide (v ≤ 8))).length

/-- What a layer reads on every frame in SYNC: BDI, BIAE and STAT (R222, R223). -/
def Layer.signals (f : LayerIn) (l : Layer) : Layer :=
  { l with
    bdi := l.bdi.step 5 f.bdi
    biae := l.biae.step 3 (f.beis.contains 11)
    ais := l.ais.step 3 (decide (f.stat = 7))
    oci := l.oci.step 3 (decide (f.stat = 6))
    lck := l.lck.step 3 (decide (f.stat = 5)) }
/-- What a layer gathers over multiframes, in IM: TTI, payload type and MSI (R220, R222). -/
def Layer.values (f : LayerIn) (l : Layer) : Layer :=
  { l with
    tti := l.tti.step f.tti
    pt := l.pt.step (f.psi.map (fun x => x.1))
    msi := l.msi.step (f.psi.map (fun x => x.2)) }
/-- One frame of a layer's overhead (R220 to R223). -/
def Layer.step (sync im : Bool) (f : LayerIn) (l : Layer) : Layer :=
  let l1 := if sync then l.signals f else l
  if im then l1.values f else l1

/-- The BEI values returned in the transmit direction: BIAE for three frames after an incoming-alignment condition, and
zero with BEI_EN at 0 (R221, R227). -/
def beiReturn (u : FrmUnit) (f : FrameIn) : List Nat :=
  if !bit u.force.ca 2 then f.sm.violations.map (fun _ => 0)
  else if 0 < u.biaeLeft then f.sm.violations.map (fun _ => 11) else f.sm.violations

/-- The BEI values returned on the ODUCn PM layer (R221, R227). -/
def pmBeiReturn (u : FrmUnit) (f : FrameIn) : List Nat :=
  if bit u.force.ca 2 then f.pm.violations else f.pm.violations.map (fun _ => 0)

/-- A FlexO frame: each instance aligns on its own, and the stream they carry starts again when one of them is out of SYNC (R216,
R217, R219). -/
def flexoFrame (f : FrameIn) (u : FrmUnit) : FrmUnit :=
  let rs : List (Aligner × (Nat × Nat × Nat × Bool)) := (List.range u.flexo.length).map (fun i =>
    alignStep 8 (f.flexo.getD i ⟨[], false, 0, false⟩) (u.flexo.getD i Aligner.off))
  let sum := fun (g : Nat × Nat × Nat × Bool → Nat) => (rs.map (fun r => g r.2)).foldl (fun n k => n + k) 0
  let v := u.live
  let u1 : FrmUnit := { u with flexo := rs.map (fun r => r.1) }
  { u1 with
    align := if u1.flexoSync then u.align else u.align.lost
    biaeLeft := if rs.any (fun r => r.2.2.2.2) then 3 else u.biaeLeft
    gid := if u1.flexoSync && u1.flexo.all (fun a => a.im) then u.gid.step f.gid else u.gid
    live := { v with
      fasErr := satAdd 0xFFFFFFFF v.fasErr (min 1 (sum (fun r => r.1)))
      falseCand := satAdd 0xFFFFFFFF v.falseCand (sum (fun r => r.2.1))
      oof := satAdd 0xFFFFFFFF v.oof (sum (fun r => r.2.2.1)) } }

/-- An OTUCn or OTU4 frame, the first of three whose BEI is BIAE after an incoming-alignment condition; `fed` says that the stream arrives, `count` that error events count (R217 to R223, R231). -/
def otuFrame (fed count : Bool) (f : FrameIn) (u : FrmUnit) : FrmUnit :=
  if !fed then { u with align := u.align.lost }
  else
    let r := alignStep 256 f.fas u.align
    let u1 := { u with align := r.1, biaeLeft := if r.2.2.2.2 then 3 else u.biaeLeft }
    let v := u.live
    let inIm := u1.inSync && u1.inIm
    let got := b2n u1.inSync
    let n := b2n (count && inIm)
    { u1 with
      sm := u.sm.step u1.inSync inIm f.sm
      pm := u.pm.step u1.inSync inIm f.pm
      otuAis := f.otuAis
      biaeLeft := u1.biaeLeft - 1
      beiOut := beiReturn u1 f
      pmBeiOut := pmBeiReturn u f
      live := { v with
        fasErr := satAdd 0xFFFFFFFF v.fasErr r.2.1
        falseCand := satAdd 0xFFFFFFFF v.falseCand r.2.2.1
        oof := satAdd 0xFFFFFFFF v.oof r.2.2.2.1
        smBlocks := v.smBlocks + got * f.sm.violations.length
        smBip := satAdd 0xFFFFFFFF v.smBip (n * erroredBlocks f.sm)
        smBei := satAdd 0xFFFFFFFF v.smBei (n * farErrored f.sm)
        pmBlocks := v.pmBlocks + got * f.pm.violations.length
        pmBip := satAdd 0xFFFFFFFF v.pmBip (n * erroredBlocks f.pm)
        pmBei := satAdd 0xFFFFFFFF v.pmBei (n * farErrored f.pm) } }

/-- A frame of an engine or a client interface: of its FlexO instances, or of the stream they or the line carry (R213, R217). -/
def unitFrame (fed count : Bool) (f : FrameIn) (u : FrmUnit) : FrmUnit :=
  let u1 := if f.flexo = [] then otuFrame fed count f u else flexoFrame f u
  { u1 with live := { u1.live with
    rsCorr := satAdd 0xFFFFFFFF u1.live.rsCorr f.rsCorr
    rsUncorr := satAdd 0xFFFFFFFF u1.live.rsUncorr f.rsUncorr } }

/-- A frame of a tributary ODU. -/
def tribFrame (count : Bool) (f : FrameIn) (u : FrmUnit) : FrmUnit :=
  let v := u.live
  let n := b2n count
  { u with
    pm := u.pm.step true true f.pm
    beiOut := f.pm.violations
    live := { v with
      pmBlocks := v.pmBlocks + f.pm.violations.length
      pmBip := satAdd 0xFFFFFFFF v.pmBip (n * erroredBlocks f.pm)
      pmBei := satAdd 0xFFFFFFFF v.pmBei (n * farErrored f.pm) } }

/-- Error events of an engine's units count: no dLOS and no dLOL declared (R231). -/
def engineCounts (e : Nat) (s : State) : Bool := !hasAny (s.unit (engineKey e)).declared [0, 1]
/-- The engine is in SYNC and IM. -/
def engineAligned (e : Nat) (s : State) : Bool :=
  (s.unit (engineKey e)).inSync && (s.unit (engineKey e)).inIm

/-- Count the fill bits in error of a delivered block; none in LP5 and LP6 (R215). -/
def countFill (e errors : Nat) (s : State) : State :=
  modUnit (engineKey e) (fun u => { u with live := { u.live with
    fillErr := satAdd 0xFFFFFFFF u.live.fillErr (min errors (fillBits (s.engine e).txSel.profile)) } }) s

/-- Count an UNCORR block of an engine, whatever the alignment (R192, R231). -/
def countUncorr (e : Nat) (uncorr : Bool) (s : State) : State :=
  if uncorr then modUnit (engineKey e) (fun u => { u with live := { u.live with uncorr := satAdd 0xFFFFFFFF u.live.uncorr 1 } }) s
  else s

/-! ### Estimation windows (R224, R226) -/

/-- An estimation window ends with its SD and SF bits: consecutive windows are counted, from zero while masked (R224,
R226). -/
def frmWindow (e : Nat) (sd sf : Bool) (s : State) : State :=
  let k := engineKey e
  let u := s.unit k
  let masked := hasAny u.declared [0, 1]
  let go := fun code v (r : Run) =>
    if masked then Run.off else r.step (if v then (timesOf u.force code).1 else (timesOf u.force code).2) v
  modUnit k (fun v => { v with sdRun := go 8 sd v.sdRun, sfRun := go 9 sf v.sfRun }) s

/-! ### Transmitted overhead (R220, R221, R227, R240, R249, R255, R261) -/

/-- STAT of a path layer: an inserted PM AIS, OCI or LCK goes first, then what the layer sends itself (R240). -/
def insertStat (inserts : List (Nat × Nat)) (own : Nat) : Nat :=
  if (inserts.any (fun x => x.1 = 3)) then 5 else if inserts.any (fun x => x.1 = 2) then 6
  else if inserts.any (fun x => x.1 = 1) then 7 else own
/-- BDI is inserted on both layers, and BIP errors at a rate (R240). -/
def insertBdi (inserts : List (Nat × Nat)) : Bool := inserts.any (fun x => x.1 = 4)
def insertBip (inserts : List (Nat × Nat)) : Nat := tabGet 0 inserts 5
/-- STAT of a tributary under its line-bound signal: LCK, OCI, AIS for an ODU client, else the normal path signal (R255; log 48). -/
def replStat (x : Replacement) : Nat :=
  match x with
  | .oduLck => 5
  | .oduOci => 6
  | .oduAis | .otu4Ais => 7
  | _ => 1

/-- The APS/PCC bytes that a group sends on its protection tributary: its own request; none of it when unidirectional (R261). -/
def pccOf (g : ApsGroup) : PccOut :=
  if g.bidir then
    let l := localRequest g
    ⟨true, l.1, l.2.getD g.want, l.2.getD g.want⟩
  else PccOut.zero
/-- The group of this device whose protection tributary `t` is, and the cross-device group whose working tributary it is (R256,
R261). -/
def pccGroup (t : Nat) (s : State) : Option ApsGroup :=
  (s.map.groups.find? (fun x => !x.2.peer && decide (x.2.partner = t))).map (fun x => x.2)
def peerPccGroup (t : Nat) (s : State) : Option ApsGroup :=
  (s.map.groups.find? (fun x => x.2.peer && decide (x.1 = t))).map (fun x => x.2)
/-- The APS/PCC bytes that the peer link brought for a protection tributary sent for the other device (R261, R368). -/
def carriedPcc (x : PlanEntry) (s : State) : List Byte :=
  if x.protection && x.peer then (tabGet PeerFrame.none s.plk.rxFrames x.partner).pcc else []

/-- The overhead that a unit transmits from a frame boundary on. -/
def txOverhead (scope unit : Nat) (s : State) : TxOverhead :=
  let u := s.unit (scope * 256 + unit)
  let c := u.force
  let i := u.inserts
  if scope = 0 then
    let b := engineBdi unit s
    { smTti := c.sm.tx, pmTti := c.pm.tx, smBdi := b.1 || insertBdi i, pmBdi := b.2 || insertBdi i, smBei := u.beiOut
      pmBei := u.pmBeiOut, stat := insertStat i 1, pt := Config.payloadType 0 0
      msi := msiOf unit (profileSlots (s.engine unit).txSel.profile) s.map.plan, bipErrors := insertBip i, pcc := PccOut.zero
      peerPcc := PccOut.zero, pccCarried := [] }
  else if scope = 1 then
    match s.entry unit with
    | none => TxOverhead.none
    | some x =>
      { smTti := [], pmTti := c.pm.tx, smBdi := false, pmBdi := tribBdi unit s || insertBdi i, smBei := [], pmBei := u.beiOut
        stat := insertStat i (replStat (s.trib unit).lineSent), pt := Config.payloadType x.kind x.container, msi := []
        bipErrors := insertBip i, pcc := ((pccGroup unit s).map pccOf).getD PccOut.zero
        peerPcc := ((peerPccGroup unit s).map pccOf).getD PccOut.zero, pccCarried := carriedPcc x s }
  else
    { smTti := c.sm.tx, pmTti := [], smBdi := cifBdi unit s || insertBdi i, pmBdi := false, smBei := u.beiOut, pmBei := []
      stat := 0, pt := 0, msi := [], bipErrors := insertBip i, pcc := PccOut.zero, peerPcc := PccOut.zero, pccCarried := [] }
/-- A frame boundary of a unit: its overhead is what the unit transmits now. The BEI of a received block goes out once; with no block
since, none is returned (R221). -/
def sendOverhead (scope unit : Nat) (s : State) : State :=
  modUnit (scope * 256 + unit) (fun u => { u with tx := txOverhead scope unit s, beiOut := [], pmBeiOut := [] }) s
/-- The PT and the MSI that a unit transmits follow the plan (R222, R249). -/
def sendStructure (scope unit : Nat) (s : State) : State :=
  modUnit (scope * 256 + unit) (fun u => { u with tx := { u.tx with
    pt := (txOverhead scope unit s).pt, msi := (txOverhead scope unit s).msi } }) s

/-! ### Starting and stopping (R218, R236 to R238) -/

/-- A unit's aligners start in HUNT and OOM, with as many FlexO instances as its format has (R213, R218). -/
def FrmUnit.restart (instances : Nat) (u : FrmUnit) : FrmUnit :=
  { u with align := Aligner.restart, flexo := List.replicate instances Aligner.restart }
/-- FlexO instances of an engine's line: FlexO-x-DSH in LP5 and LP6 (R213). -/
def lineInstances (profile : Nat) : Nat := if profileOfec profile then profileCn profile else 0
/-- An engine's framer restarts in HUNT and OOM. -/
def framerRestart (e : Nat) (s : State) : State :=
  modUnit (engineKey e) (fun u0 =>
    let u := u0.restart (lineInstances (s.engine e).txSel.profile)
    { u with sm := { u.sm with bdi := Run.off, biae := Run.off }
             pm := { u.pm with bdi := Run.off, ais := Run.off, oci := Run.off, lck := Run.off } }) s

/-- The framer of an engine powers up: HUNT, with dLOF and dLOM declared without integration (R236), and dLOL, whose raw
condition is then present, when its SET time is 0 (R223, R224); the bins open from here on (R242). -/
def framerUp (e : Nat) (s : State) : State :=
  let s1 := modUnit (engineKey e) (fun u => { u with force := u.cfg, starting := true }) (framerRestart e s)
  declareDefects 0 e (maskOf [2, 3]) { s1 with frm := { s1.frm with since := s1.tim.seconds } }

/-- The framer of a client interface that carries OTN starts or restarts, with or without loss of signal; at datapath power-up
dLOF and dLOM are declared without integration, and a restart before they clear does not end that start (R218, R236, R355). -/
def cifFramerUp (powerUp : Bool) (c otn : Nat) (los : Bool) (s : State) : State :=
  declareDefects 2 c (if powerUp then maskOf [2, 3] else 0) (modUnit (cifKey c) (fun u0 =>
    let u := u0.restart (otn - 1)
    { u with otn := otn, los := los, sm := Layer.reset, gid := Accept.empty, force := u.cfg, starting := powerUp || u0.starting }) s)

/-- A unit stops: OFF, every defect word 0 (R236); its configuration stays, and so does what its next event has to cover
(R243). -/
def unitDown (u : FrmUnit) : FrmUnit :=
  { FrmUnit.reset with otn := u.otn, cfg := u.cfg, force := u.force, live := u.live, changed := u.changed, pacing := u.pacing }

/-- The address of a unit's latched defect-second word (R244). -/
def defSecAddr (k : Nat) : Nat :=
  0x220000 + (if k / 256 = 0 then 0x10C + 0x100 * (k % 256) else if k / 256 = 1 then 0x1C00 + 4 * (k % 256) else 0x808 + 0x20 * (k % 256))

/-- A unit stops: its declared defects clear as one change, and its latched word reads 0 (R229, R236, R243). -/
def unitOff (k : Nat) (s : State) : State :=
  let s1 := modUnit k unitDown (setDeclared k 0 s)
  { s1 with latched := s1.latched.filter (fun x => x.1 ≠ defSecAddr k) }

/-- A client interface no longer carries OTN. -/
def cifFramerDown (c : Nat) (s : State) : State :=
  apsRefresh (modUnit (cifKey c) (fun u => { u with otn := 0 }) (unitOff (cifKey c) s))

/-- The datapaths power down: every framer off, the layer commits no second, open bins SUSPECT (R236, R242). -/
def framerDown (s : State) : State :=
  let s1 := s.frm.units.foldl (fun u x => unitOff x.1 u) s
  { s1 with frm := { s1.frm with
    waiting := []
    pm := s1.frm.pm.map (fun x => (x.1, { x.2 with cur15 := { x.2.cur15 with suspect := true }
                                                   cur24 := { x.2.cur24 with suspect := true } })) } }

/-! ### Seconds (R225, R230 to R235, R239, R242) -/

/-- Errored blocks reach a share of the blocks received; a second without blocks has none (R225, R232, log 82). -/
def errorShare (thr unit blocks errors : Nat) : Bool := decide (0 < blocks) && decide (thr * blocks ≤ errors * unit)

/-- dDEG after a second: `errors` among `blocks`, neither bad nor good while under aTSF (R225). -/
def degStep (thr m blocks errors : Nat) (failed : Bool) (l : Layer) : Layer :=
  if failed then l
  else if errorShare thr 10000 blocks errors then
    { l with degGood := 0, degBad := min m (l.degBad + 1), deg := l.deg || decide (m ≤ l.degBad + 1) }
  else { l with degBad := 0, degGood := min m (l.degGood + 1), deg := l.deg && decide (l.degGood + 1 < m) }

/-- One direction of one second; an excluded one is neither ES nor SES, so its errored blocks are BBE (R232). -/
def evalSecond (thr blocks errors : Nat) (defect excluded : Bool) : Errors :=
  if excluded then ⟨errors, 0, 0, 0⟩
  else if defect || errorShare thr 100 blocks errors then ⟨0, 1, 1, 0⟩
  else ⟨errors, b2n (decide (0 < errors)), 0, 0⟩

/-- A unit's second under SES_THR (R232). -/
def evalUnit (thr : Nat) (x : SecFacts) : SecEval :=
  ⟨evalSecond thr x.blocks x.near x.nearDefect false,
    evalSecond thr x.blocks x.far (x.farDefect && !x.nearDefect) x.nearDefect⟩

/-- The units the layer monitors, with the facts of the second (R232). -/
def secondFacts (s : State) : List (Nat × SecFacts) :=
  let eng := (List.range 2).flatMap (fun e =>
    let u := s.unit (engineKey e)
    let v := u.live
    let sm := smFail u u.defSec
    [(e, SecFacts.mk v.smBlocks v.smBip v.smBei sm (u.defSec.getLsbD 5)),
      (256 + e, SecFacts.mk v.pmBlocks v.pmBip v.pmBei (sm || pmFail u u.defSec) (u.defSec.getLsbD 14))])
  let tribs := s.map.plan.map (fun x =>
    let u := s.unit (tribKey x.1)
    let eu := s.unit (engineKey x.2.engine)
    let v := u.live
    (512 + x.1, SecFacts.mk v.pmBlocks v.pmBip v.pmBei (tribFail u u.defSec || ssfUnder eu eu.defSec x.2.protected_)
      (u.defSec.getLsbD 14)))
  let cifs := (List.range 32).filterMap (fun c =>
    let u := s.unit (cifKey c)
    let v := u.live
    if u.otn = 0 then none
    else some (768 + c, SecFacts.mk v.smBlocks v.smBip v.smBei (cifFail u u.defSec) (u.defSec.getLsbD 5)))
  eng ++ tribs ++ cifs

/-- A unit is present in every one of ten waiting seconds, and each of them satisfies `f` (R233). -/
def allTen (w : List PmSecond) (k : Nat) (f : SecFacts → Bool) : Bool :=
  decide (w.length = 10) && w.all (fun x => (x.units.find? (fun e => e.1 = k)).map (fun e => f e.2) == some true)

/-- Unavailability of a direction at the oldest waiting second (R233). -/
def unavailNow (w : List PmSecond) (k : Nat) (ses : SecFacts → Nat) (was : Bool) : Bool :=
  if was then !allTen w k (fun e => decide (ses e = 0)) else allTen w k (fun e => decide (ses e = 1))

def Errors.add (a b : Errors) : Errors := ⟨a.bbe + b.bbe, a.es + b.es, a.ses + b.ses, a.uas + b.uas⟩

/-- What a second adds to a bin (R233). -/
def commitErrors (near far : Bool) (e : SecEval) : SecEval :=
  if near || far then ⟨⟨0, 0, 0, b2n near⟩, ⟨0, 0, 0, b2n far⟩⟩ else e

/-- The eight counters of a bin in the order of FRM_TCA_SET (R240). -/
def binCounters (b : Bin) : List Nat :=
  [b.near.es, b.near.ses, b.near.bbe, b.near.uas, b.far.es, b.far.ses, b.far.bbe, b.far.uas]

/-- A bin with one more committed second; one that opens is SUSPECT unless it is `whole` (R237, R239, R242). -/
def Bin.commit (start : Nat) (whole irreg near far : Bool) (e : SecEval) (b : Bin) : Bin :=
  let c := commitErrors near far e
  let b0 := if b.valid && decide (b.start = start) then b else { Bin.never with valid := true, start := start, suspect := !whole }
  { b0 with seconds := b0.seconds + 1, suspect := b0.suspect || irreg, near := b0.near.add c.near, far := b0.far.add c.far
            nearUnavail := near, farUnavail := far }

/-- Threshold-crossing alerts of a unit's bin after a commit: at most one per counter and bin (R235). -/
def tcaCheck (k period : Nat) (old new : Bin) (s : State) : State × Bin :=
  let thr := tabGet [] s.frm.tca (k / 256 * 2 + period)
  let olds := if old.valid && decide (old.start = new.start) then binCounters old else List.replicate 8 0
  (List.range 8).foldl (fun (acc : State × Bin) i =>
    let t := thr.getD i 0
    let n := (binCounters new).getD i 0
    if t ≠ 0 ∧ olds.getD i 0 < t ∧ t ≤ n ∧ ¬ acc.2.alerted.testBit i then
      (emit 6 4 (leBytes 1 (k / 256) ++ leBytes 1 period ++ leBytes 2 (k % 256) ++ leBytes 1 i ++ leBytes 3 0 ++ leBytes 4 n
          ++ leBytes 6 new.start) acc.1,
        { acc.2 with alerted := acc.2.alerted ||| 2 ^ i })
    else acc) (s, new)

def State.pmUnit (s : State) (k : Nat) : PmUnit := tabGet PmUnit.reset s.frm.pm k
def setPmUnit (k : Nat) (u : PmUnit) (s : State) : State := { s with frm := { s.frm with pm := tabInsert s.frm.pm k u } }

/-- FRM_UAS_CHANGED (R243). -/
def uasEvent (k dir label : Nat) (was now : Bool) (s : State) : State :=
  if was = now then s
  else emit 6 2 (leBytes 1 (k / 256) ++ leBytes 1 dir ++ leBytes 2 (k % 256) ++ leBytes 1 (b2n now) ++ leBytes 1 0 ++ leBytes 6 label) s

/-- A second of a bin that a forward step has closed is still committed into it, as SUSPECT as the bin (R239; log 48). -/
def commitPast (nominal label : Nat) (near far : Bool) (e : SecEval) (b : Bin) : Bin :=
  if b.valid && decide (b.start ≤ label) && decide (label < b.start + nominal) then b.commit b.start false true near far e else b

/-- A bin that opens holds its first second and no power-up, reset or step (R237, R239, R242). -/
def wholeBin (start label : Nat) (s : State) : Bool := decide (label = start) && decide (s.frm.since < start)

/-- Commit the oldest waiting second of one unit (R233 to R235). -/
def commitUnit (w : List PmSecond) (x : PmSecond) (start15 start24 : Nat) (k : Nat) (x0 : SecFacts) (s : State) : State :=
  let u := s.pmUnit k
  let thr := s.frm.sesThr
  let e := evalUnit thr x0
  let near := unavailNow w k (fun v => (evalUnit thr v).near.ses) u.nearUnavail
  let far := unavailNow w k (fun v => (evalUnit thr v).far.ses) u.farUnavail
  let s1 := uasEvent k 1 x.label u.farUnavail far (uasEvent k 0 x.label u.nearUnavail near s)
  let r15 := if x.past15 then (s1, u.cur15)
    else tcaCheck k 0 u.cur15 (u.cur15.commit start15 (wholeBin start15 x.label s) x.irreg near far e) s1
  let r24 := if x.past24 then (r15.1, u.cur24)
    else tcaCheck k 1 u.cur24 (u.cur24.commit start24 (wholeBin start24 x.label s) x.irreg near far e) r15.1
  setPmUnit k { u with
    nearUnavail := near, farUnavail := far, cur15 := r15.2, cur24 := r24.2
    prev15 := if x.past15 then u.prev15.map (commitPast 900 x.label near far e) else u.prev15
    prev24 := if x.past24 then commitPast 86400 x.label near far e u.prev24 else u.prev24 } r24.1

/-- The start of the bin of `period` seconds that contains a second (R234). -/
def binStart (period offset second : Nat) : Nat :=
  (((second : Int) - (((second : Int) - (offset : Int)) % (period : Int)))).toNat

/-- Close a bin: SUSPECT unless it holds exactly its nominal seconds (R242). -/
def Bin.close (nominal : Nat) (force : Bool) (b : Bin) : Bin :=
  { b with suspect := b.suspect || force || decide (b.seconds ≠ nominal) }

/-- Close the current 15-minute bins of every unit, with one FRM_BIN_CLOSED (R234, R243). -/
def close15 (force : Bool) (s : State) : State :=
  match s.frm.start15 with
  | none => s
  | some st =>
    let pm := s.frm.pm.map (fun x => (x.1, { x.2 with prev15 := (x.2.cur15.close 900 force :: x.2.prev15).take 16, cur15 := Bin.never }))
    let bad := s.frm.pm.any (fun x => x.2.cur15.valid && (x.2.cur15.close 900 force).suspect)
    emit 6 3 (leBytes 1 0 ++ leBytes 1 (b2n bad) ++ leBytes 2 0 ++ leBytes 6 st)
      { s with frm := { s.frm with pm := pm, start15 := none } }

/-- Close the current 24-hour bins. -/
def close24 (force : Bool) (s : State) : State :=
  match s.frm.start24 with
  | none => s
  | some st =>
    let pm := s.frm.pm.map (fun x => (x.1, { x.2 with prev24 := x.2.cur24.close 86400 force, cur24 := Bin.never }))
    let bad := s.frm.pm.any (fun x => x.2.cur24.valid && (x.2.cur24.close 86400 force).suspect)
    emit 6 3 (leBytes 1 1 ++ leBytes 1 (b2n bad) ++ leBytes 2 0 ++ leBytes 6 st)
      { s with frm := { s.frm with pm := pm, start24 := none } }

/-- A current bin stays for a second: it holds it, or a backward step has left it open (R234, R239). -/
def binStays (start : Option Nat) (nominal label : Nat) : Bool := (start.map (fun st => decide (label < st + nominal))).getD false

/-- Open the bins that contain a second, closing those that end before it (R234, R239). -/
def openBins (label : Nat) (s : State) : State :=
  let s1 := if binStays s.frm.start15 900 label then s else
    let u := close15 true s
    { u with frm := { u.frm with start15 := some (binStart 900 s.frm.dayOffset label) } }
  if binStays s1.frm.start24 86400 label then s1 else
    let u := close24 true s1
    { u with frm := { u.frm with start24 := some (binStart 86400 s.frm.dayOffset label) } }

/-- A step from `old` to `new` crosses a boundary of the open bin: its end where it holds `old` or a backward step left it open, else,
where its last seconds still wait, the end of the bin that holds `old` (R234, R239). -/
def crosses (nominal offset old new : Nat) (start : Option Nat) : Bool :=
  (start.map (fun st => decide (max st (binStart nominal offset old) + nominal ≤ new))).getD false
/-- The bins that hold a second open before any second of them is committed, SUSPECT, those that end before it closing (R239). -/
def openLate (label : Nat) (s : State) : State :=
  let u := openBins label s
  let fresh := fun (old new : Option Nat) (b : Bin) =>
    if old = new then b else { Bin.never with valid := true, start := new.getD 0, suspect := true }
  { u with frm := { u.frm with pm := u.frm.pm.map (fun x => (x.1, { x.2 with
    cur15 := fresh s.frm.start15 u.frm.start15 x.2.cur15, cur24 := fresh s.frm.start24 u.frm.start24 x.2.cur24 })) } }
/-- A step of device time from one second to another in the history (R239): backward, the current bins carry SUSPECT and stay open;
forward over a boundary, the current bin closes at the step with SUSPECT and the one that holds the new time opens, SUSPECT. -/
def stepBins (old new : Nat) (s : State) : State :=
  if new < old then
    { s with frm := { s.frm with pm := s.frm.pm.map (fun x => (x.1, { x.2 with
      cur15 := { x.2.cur15 with suspect := true }, cur24 := { x.2.cur24 with suspect := true } })) } }
  else
    let o15 := crosses 900 s.frm.dayOffset old new s.frm.start15
    let o24 := crosses 86400 s.frm.dayOffset old new s.frm.start24
    let s0 := if o15 || o24 then openLate old s else s
    let s1 := { s0 with frm := { s0.frm with
      waiting := s0.frm.waiting.map (fun x => { x with past15 := x.past15 || o15, past24 := x.past24 || o24 })
      since := if o15 || o24 then new else s0.frm.since } }
    if o15 || o24 then openBins new s1 else s1

/-- Commit the oldest of ten waiting seconds; bins whose last second this was close (R233, R234). -/
def commitOldest (s : State) : State :=
  match s.frm.waiting with
  | [] => s
  | x :: rest =>
    if s.frm.waiting.length < 10 then s
    else
      let s1 := openBins x.label s
      let b15 := s1.frm.start15.getD 0
      let b24 := s1.frm.start24.getD 0
      let s2 := x.units.foldl (fun u e => commitUnit s.frm.waiting x b15 b24 e.1 e.2 u) s1
      let s3 := { s2 with frm := { s2.frm with waiting := rest } }
      let s4 := if !x.past15 && decide (x.label + 1 = b15 + 900) then close15 false s3 else s3
      if !x.past24 && decide (x.label + 1 = b24 + 86400) then close24 false s4 else s4

/-- dDEG of a unit's layers after the second (R225). -/
def degUnit (k : Nat) (failed : Bool × Bool) (u : FrmUnit) : FrmUnit :=
  let t7 := timesOf u.force 7
  let t15 := timesOf u.force 15
  { u with
    sm := if k / 256 = 1 then u.sm else degStep t7.1 t7.2 u.live.smBlocks u.live.smBip failed.1 u.sm
    pm := if k / 256 = 2 then u.pm else degStep t15.1 t15.2 u.live.pmBlocks u.live.pmBip failed.2 u.pm }

/-- The SM and the PM layer of a unit were under aTSF in the second. -/
def underAtsf (k : Nat) (s : State) : Bool × Bool :=
  let u := s.unit k
  if k / 256 = 0 then (smFail u u.defSec, engineFail u u.defSec)
  else if k / 256 = 1 then
    match s.entry (k % 256) with
    | some x => (false, tribFail u u.defSec || engineFail (s.unit (engineKey x.engine)) (s.unit (engineKey x.engine)).defSec)
    | none => (true, true)
  else (cifFail u u.defSec, false)

/-- The second boundary in the framer: the second just ended is evaluated and queued, ten waiting seconds commit one,
dDEG advances, counts restart (R225, R230 to R234). `label` names the second. -/
def frmSecond (label : Nat) (irreg : Bool) (s : State) : State :=
  let s1 := if modePowered s.dev.mode then
      commitOldest { s with frm := { s.frm with waiting := s.frm.waiting ++ [⟨label, irreg, false, false, secondFacts s⟩] } }
    else s
  { s1 with frm := { s1.frm with
    units := s1.frm.units.map (fun x =>
      let u := degUnit x.1 (underAtsf x.1 s) x.2
      (x.1, { u with live := FrmCounts.zero, defSec := u.declared })) } }

end Sys2Proof.Machine
end

