-- ==== Sys2Proof/Machine/CphOps.lean ====
section
/-! DEFINITION. The cipher engine: keys, derivation, overhead block, epochs, twin faults, jobs (chapter 10). -/

namespace Sys2Proof.Machine

def State.keySlot (s : State) (k : Nat) : KeySlot := tabGet KeySlot.empty s.cph.slots k
def modKeySlot (k : Nat) (f : KeySlot → KeySlot) (s : State) : State :=
  { s with cph := { s.cph with slots := tabSet KeySlot.empty s.cph.slots k (f (s.keySlot k)) } }

/-! ### Keys (R281, R289, R290, R294) -/

/-- The prime and the coefficient of P-384 (R292), PRESUMED from the standard that names the curve (log 15). -/
def p384Prime : Nat := 2 ^ 384 - 2 ^ 128 - 2 ^ 96 + 2 ^ 32 - 1
def p384Coefficient : Nat :=
  0xB3312FA7E23EE7E4988E056BE3F82D19181D9C6EFE8141120314088F5013875AC656398D8A2ED19D2A85C8EDD3EC2AEF
/-- A point in uncompressed form lies on P-384 (R292): y² = x³ − 3x + b. -/
def onCurve (point : List Byte) : Bool :=
  let x := beNat (bytesAt 1 48 point)
  let y := beNat (bytesAt 49 48 point)
  decide (x < p384Prime) && decide (y < p384Prime)
    && decide (y * y % p384Prime = (x * x * x + (p384Prime - 3) * x + p384Coefficient) % p384Prime)

/-- The KCV of a key: the first 8 bytes of CMAC over 0x5A × 16 (R290). -/
def kcvOf (key : BitVec 256) : List Byte := bytesAt 0 8 (cmac key (List.replicate 16 0x5A))

/-- The epochs of a tributary. -/
def CphTrib.epochs (c : CphTrib) : List Epoch := c.txCur.toList ++ c.txNext.toList ++ c.rxCur.toList ++ c.rxNext.toList
/-- The slot of a job with KEY_SRC 0. -/
def Job.slot (j : Job) : Option Nat := if u8 j.desc 2 = 0 then some (u16 j.desc 4) else none
/-- Epochs and jobs bound to a slot (R305). -/
def slotBound (k : Nat) (s : State) : Nat :=
  ((s.cph.tribs.flatMap (fun x => x.2.epochs)).filter (fun e => e.slot = some k)).length
    + (s.cph.jobs.filter (fun j => j.slot = some k)).length
/-- A slot is bound to a transmit epoch (R281). -/
def slotTxBound (k : Nat) (s : State) : Bool :=
  s.cph.tribs.any (fun x => (x.2.txCur.toList ++ x.2.txNext.toList).any (fun e => e.slot = some k))

/-- Usage masks that R289 allows: JOB excludes TX; ROOT and KEK each exclude every other use. -/
def usageOk (u : Nat) : Bool :=
  !(bit u 0 && bit u 2) && (!bit u 3 || decide (u = 8)) && (!bit u 4 || decide (u = 16))

/-- CPH_SLOT_STATUS (R305). -/
def slotStatus (k : Nat) (s : State) : Nat :=
  let x := s.keySlot k
  b2n x.loaded + 2 * b2n x.isVolatile + 4 * x.usage + 128 * b2n x.txUsed + 256 * min 255 (slotBound k s)
    + 65536 * x.history.length

/-- The key in 36 bytes of text, its salt. -/
def keyOf (b : List Byte) : BitVec 256 := BitVec.ofNat 256 (beNat (bytesAt 0 32 b))
def saltOf (b : List Byte) : BitVec 32 := BitVec.ofNat 32 (beNat (bytesAt 32 4 b))

/-- Key derivation in counter mode (R294): `n` bits of label and context. -/
def derive (root : BitVec 256) (label context : List Byte) (n : Nat) : List Byte :=
  ([1, 2, 3].flatMap (fun i => cmac root (beBytes 4 i ++ label ++ [0] ++ context ++ beBytes 4 n))).take (n / 8)

/-- ASCII labels of R292 and R294. -/
def labelTrib : List Byte := [0x50, 0x58, 0x34, 0x38, 0x54, 0x52, 0x49, 0x42]
def labelJob : List Byte := [0x50, 0x58, 0x34, 0x38, 0x4A, 0x4F, 0x42]
def labelKek : List Byte := [0x50, 0x58, 0x34, 0x38, 0x4B, 0x45, 0x4B]

/-- The key material of a derived tributary epoch; the serial number is the eight bytes of the identity record (R89, R294; log 52). -/
def deriveTrib (root : BitVec 256) (host : List Byte) (serial dctr t : Nat) : List Byte :=
  derive root labelTrib (host ++ leBytes 8 serial ++ beBytes 8 dctr ++ beBytes 2 t) 288
/-- The key of a derived job (R294). -/
def deriveJob (root : BitVec 256) (host : List Byte) (serial dctr : Nat) : List Byte :=
  derive root labelJob (host ++ leBytes 8 serial ++ beBytes 8 dctr) 256

/-- The derivation counter advances, and the new value is used (R295). -/
def nextDctr (s : State) : State := reserveDctr { s with cph := { s.cph with dctr := s.cph.dctr + 1 } }

/-- A slot holds a key that the Logbook keeps (R289). -/
def KeySlot.lasting (x : KeySlot) : Bool := x.loaded && !x.isVolatile
/-- Records of a slot that held `old`: the sealed slot with TX_USED where either key is not volatile, so that a volatile key also
takes the place of the one kept, and its KCV history (R289, R290, R464). -/
def logSlot (old : KeySlot) (k : Nat) (s : State) : State :=
  let x := s.keySlot k
  let s1 := if old.lasting || x.lasting then
      logRecord 0x0030 k (Config.sealedSlot k x.key x.salt ++ leBytes 1 (b2n x.txUsed)) s
    else s
  logRecord 0x0031 k (x.history.flatMap (fun h => h)) s1

/-- The key in a slot is removed and its KCV recorded, the last 64 kept (R290); TX_USED stays (R281). -/
def retireKey (x : KeySlot) : KeySlot :=
  if x.loaded then
    { KeySlot.empty with history := (kcvOf x.key :: x.history).take 64, invocation := x.invocation, txUsed := x.txUsed }
  else x

/-- Write a key into a slot (R289, R292). -/
def loadKey (vol : Bool) (usage : Nat) (material : List Byte) (x : KeySlot) : KeySlot :=
  { retireKey x with loaded := true, isVolatile := vol, usage := usage, key := keyOf material, salt := saltOf material }

/-- An import writes a slot: it alone clears TX_USED (R281). -/
def importKey (k : Nat) (vol : Bool) (usage : Nat) (material : List Byte) (s : State) : State :=
  let s1 := modKeySlot k (fun x => { loadKey vol usage material x with txUsed := false }) s
  logSlot (s.keySlot k) k { s1 with cph := { s1.cph with bound := s1.cph.bound.filter (fun b => b.1 ≠ k) } }

/-- A slot is bound to a transmit epoch: TX_USED (R281). DESIGN CHOICE: the mark is durable at once, since no reset may lose it; its
record follows in its turn (log 52). -/
def bindSlot (k : Nat) (s : State) : State :=
  let s1 := modKeySlot k (fun x => { x with txUsed := true }) s
  logSlot (s.keySlot k) k { s1 with cph := { s1.cph with bound := (k, (s.keySlot k).key) :: s1.cph.bound } }

/-! ### Tag groups (R271, R285) -/

/-- The ODU frame period of a container in ps: the table of R271, and for an ODUflex 122,368 bits at slots × 5,240.9 Mb/s. -/
def framePeriod (container slots : Nat) : Nat :=
  if container < 4 then [98350000, 12190000, 11770000, 1168000].getD container 0 else 122368 * 10 ^ 7 / (52409 * slots)
/-- The tag group period in ps: eight frame periods, as the table of R271 gives it. -/
def groupPeriod (container slots : Nat) : Nat :=
  if container < 4 then [786800000, 97530000, 94130000, 9344000].getD container 0 else 8 * (122368 * 10 ^ 7) / (52409 * slots)
/-- The latency that store-and-verify adds, in ps: one tag group and 1 µs for frames of at most 1.19 µs, else one tag group and one
frame (R285). No meaning uses it: the rows bring each group at its check (log 77, log 78). -/
def storeLatency (container slots : Nat) : Nat :=
  groupPeriod container slots + (if framePeriod container slots ≤ 1190000 then 1000000 else framePeriod container slots)

/-! ### The cipher overhead block (R273 to R275) -/

/-- CRC-16 of polynomial 0x1021, initial value 0xFFFF (R274). -/
def crc16Bit (c : Nat) : Nat := if 0x8000 ≤ c then ((2 * c) % 65536) ^^^ 0x1021 else 2 * c
def crc16Byte (c : Nat) (b : Byte) : Nat :=
  crc16Bit (crc16Bit (crc16Bit (crc16Bit (crc16Bit (crc16Bit (crc16Bit (crc16Bit (c ^^^ (b.toNat * 256)))))))))
def crc16 (bs : List Byte) : Nat := bs.foldl crc16Byte 0xFFFF

/-- COB bytes 17 to 30: VERSION, FLAGS, KEY_REF, NEXT_CTR, reserved (R273). -/
def cobHeader (enc epoch : Bool) (keyRef ctr : Nat) : List Byte :=
  leBytes 1 0x10 ++ leBytes 1 (b2n enc + 2 * b2n epoch) ++ beBytes 2 (if enc then keyRef else 0) ++ beBytes 8 ctr ++ leBytes 2 0
/-- The 34 bytes of a COB (R273). -/
def cobBytes (tag : List Byte) (info : Byte) (header : List Byte) : List Byte :=
  bytesAt 0 16 tag ++ [info] ++ header ++ beBytes 2 (crc16 (info :: header)) ++ [0]
/-- The overhead bytes that a tributary sends in frame `f` of a tag group: an encrypted one carries its overhead block in place of the
client's own bytes (R270, R272). -/
def sentOverhead (t f : Nat) (client : Nat × Nat → Byte) (s : State) (place : Nat × Nat) : Byte :=
  match s.entry t with
  | some x => if x.encrypt then overheadByte (s.cphTrib t).txCob f client place else client place
  | none => 0
/-- IV and additional data of a group (R275). -/
def groupIv (salt : BitVec 32) (ctr : Nat) : List Byte := beBytes 4 salt.toNat ++ beBytes 8 ctr
def groupAad (t : Nat) (header : List Byte) : List Byte := beBytes 2 t ++ header

/-- The payload of a tag group: 8 frames of 4 rows and 3,808 columns, 121,856 bytes; a row of the table that gives fewer has zeros after
them, and bytes beyond are not the group's (R268, R275). -/
def groupText (bs : List Byte) : List Byte := bytesAt 0 121856 bs
/-- The group as released: 16 zero bytes in place of every block whose twins differed (R286). -/
def zeroBlocks (blocks : List Nat) (text : List Byte) : List Byte :=
  if blocks = [] then text
  else ((List.range text.length).zip text).map (fun x => if blocks.contains (x.1 / 16) then 0 else x.2)
/-- The BIP-8 of each frame of a group as the engine sends it on (R269). -/
def groupBips (received taken given : List Byte) : List Byte :=
  (List.range 8).map (fun f =>
    carriedBip (received.getD f 0) (bytesAt (15232 * f) 15232 taken) (bytesAt (15232 * f) 15232 given))
/-- A byte of frame `f` of the group a tributary sent last: of the payload area its text, elsewhere the overhead (R268, R270, R272). -/
def sentByte (t f : Nat) (client : Nat × Nat → Byte) (s : State) (place : Nat × Nat) : Byte :=
  if encryptedPlace place then (s.cphTrib t).txGroup.getD (15232 * f + 3808 * (place.1 - 1) + (place.2 - 17)) 0
  else sentOverhead t f client s place

/-! ### Conditions -/

/-- CPH_TRIB_STATUS (R305). -/
def tribCipherStatus (t : Nat) (s : State) : Nat :=
  let c := s.cphTrib t
  let enc := ((s.entry t).map (fun x => x.encrypt)).getD false
  packBits [enc, c.txCur.isSome, c.txNext.isSome, (c.txCur.map (fun e => e.bit)).getD false, c.rxCur.isSome, c.rxNext.isSome,
    (c.rxCur.map (fun e => e.bit)).getD false, enc && c.txCur.isNone, c.dauth, c.exhausted, c.lowReported, c.switchAt.isSome,
    c.faultTx || c.faultRx]

/-- Raw dAUTH and dCPHF as the framer sees them (R223, R280, R282). -/
def tellFramer (t : Nat) (s : State) : State :=
  let c := s.cphTrib t
  modUnit (tribKey t) (fun u => { u with auth := c.dauth, cphf := c.exhausted }) s

/-- Twin mismatches on a tributary: three in one second make a twin fault (R286, R287). -/
def addTwins (t : Nat) (receive : Bool) (n : Nat) (s : State) : State :=
  if n = 0 then s
  else
    let c := s.cphTrib t
    let s1 := modCphTrib t (fun x => { x with twins := x.twins + n })
      { s with cph := { s.cph with twinMismatch := satAdd 0xFFFFFFFF s.cph.twinMismatch n } }
    if c.twins < 3 ∧ 3 ≤ c.twins + n then
      logRecord 0x0033 0 (leBytes 2 t ++ leBytes 1 (b2n receive))
        (emit 8 5 (leBytes 2 t ++ leBytes 1 (b2n receive))
          (modCphTrib t (fun x => { x with faultTx := true, faultRx := true }) s1))
    else s1

/-- CPH_EPOCH_SWITCHED (R304). -/
def switchedPayload (t : Nat) (receive : Bool) (e : Epoch) (last : Nat) : List Byte :=
  leBytes 2 t ++ leBytes 1 (b2n receive) ++ leBytes 1 (b2n e.bit) ++ leBytes 2 e.keyRef ++ leBytes 2 0 ++ leBytes 8 last

/-- A pending switch of a tributary ends ABORTED (R301). -/
def switchAbort (t : Nat) (s : State) : State :=
  let c := s.cphTrib t
  match c.switchAt, c.txNext with
  | some _, some e =>
    completeDeferred 0x0806 t .aborted (switchedPayload t false e (c.txCtr.getD 0)) (modCphTrib t (fun x => { x with switchAt := none }) s)
  | _, _ => s

/-- A map-plan entry is removed or changed: epochs cleared, a pending switch aborted (R301). -/
def cphTribEnd (t : Nat) (s : State) : State :=
  let s1 := switchAbort t s
  modCphTrib t (fun c => { CphTrib.reset with sav := c.sav, savUse := c.savUse, authFail := c.authFail, replay := c.replay
                                              stomped := c.stomped, escaped := c.escaped }) s1

/-- A tributary starts under its entry. -/
def cphTribStart (_t : Nat) (_x : PlanEntry) (s : State) : State := s

/-- A frame boundary of a tributary: the release mode takes effect (R285). -/
def cphTribBoundary (t : Nat) (s : State) : State := modCphTrib t (fun c => { c with savUse := c.sav }) s

/-- An uncorrectable error in an epoch entry: the direction stops until it is rebuilt (R302). -/
def epochFault (t : Nat) (receive : Bool) (s : State) : State :=
  modCphTrib t (fun c => if receive then { c with rebuildRx := true } else { c with rebuildTx := true }) s

/-- LOCKOUT clears the key registers of the data path and makes no key available: epochs go, jobs and pending switches end
ABORTED (R54; log 52). -/
def cphClearEpochs (s0 : State) : State :=
  let s := abortDeferred (fun d => d.opcode / 256 = 8) s0
  { s with cph := { s.cph with jobs := [], rekeyDue := [], tribs := s.cph.tribs.map (fun x => (x.1, { CphTrib.reset with sav := x.2.sav, savUse := x.2.savUse })) } }

/-- What a reset leaves of the engine: epochs and jobs go, the key store, counters and saved contexts stay (R42, R300,
R301). -/
def cphAppReset (c : Cph) : Cph := { c with tribs := [], jobs := [], twinMismatch := 0, rekeyDue := [] }
/-- Second boundary: counts restart, three mismatches are counted anew (R287, R305). -/
def cphSecond (s : State) : State :=
  { s with cph := { s.cph with tribs := s.cph.tribs.map (fun x =>
      (x.1, { x.2 with twins := 0, authFail := 0, replay := 0, stomped := 0, escaped := 0 })) } }

/-- Install an epoch as current, or as next with the opposite bit (R276): whether it is the next one. -/
def installEpoch (t : Nat) (receive : Bool) (e : Epoch) (s : State) : State × Bool :=
  let c := s.cphTrib t
  match (if receive then c.rxCur else c.txCur) with
  | none =>
    let e1 := { e with bit := false }
    (modCphTrib t (fun x => if receive then { x with rxCur := some e1, rxLast := none }
      else { x with txCur := some e1, txCtr := none, exhausted := false, lowReported := false }) s, false)
  | some cur =>
    let e1 := { e with bit := !cur.bit }
    (modCphTrib t (fun x => if receive then { x with rxNext := some e1, rxNextLast := none } else { x with txNext := some e1 }) s, true)

/-- Re-derive a transmit epoch derived before an automatic restart, with a fresh counter (R301), once a value is reserved (R470); it
is installed as R276 has it. -/
def rekeyTrib (t : Nat) (e : Epoch) (s : State) : State :=
  if !dctrReady s then reserveDctr { s with cph := { s.cph with rekeyDue := s.cph.rekeyDue ++ [(t, e)] } }
  else
  let s1 := nextDctr s
  let material := deriveTrib (s1.keySlot e.root).key e.label s1.dev.serial.toNat s1.cph.dctr t
  let e1 := { e with dctr := s1.cph.dctr, serial := s1.dev.serial.toNat, key := keyOf material, salt := saltOf material, bit := false }
  emit 8 7 (leBytes 2 t ++ leBytes 6 0 ++ leBytes 8 e1.dctr ++ kcvOf e1.key)
    (installEpoch t false e1 s1).1
/-- Derivations that waited for a reserved counter value go on when one is committed (R470). -/
def rekeyWaiting (s : State) : State :=
  s.cph.rekeyDue.foldl (fun u x => rekeyTrib x.1 x.2 u) { s with cph := { s.cph with rekeyDue := [] } }
/-- Every derived transmit epoch in force at the trip, current or next, is derived again; slot transmit epochs are not (R301). The
receive epochs are part of the configuration that R35 re-applies, with the counters they have accepted (log 52). -/
def cphResume (old : Cph) (s : State) : State :=
  let s1 := { s with cph := { s.cph with tribs := old.tribs.map (fun x => (x.1, { CphTrib.reset with
    sav := x.2.sav, savUse := x.2.sav, rxCur := x.2.rxCur, rxNext := x.2.rxNext, rxLast := x.2.rxLast
    rxNextLast := x.2.rxNextLast })) } }
  old.tribs.foldl (fun u x =>
    ((x.2.txCur.toList ++ x.2.txNext.toList).filter (fun e => e.slot.isNone)).foldl (fun v e => rekeyTrib x.1 e v) u) s1

/-! ### Jobs (R296 to R300) -/

/-- The running job: the highest priority, then stamp order (R296). -/
def runningJob (s : State) : Option Job :=
  s.cph.jobs.foldl (fun best j =>
    match best with
    | some x => if x.prio < j.prio then some j else some x
    | none => some j) none
/-- Encrypt-type operations are GCM-ENC, CTR-ENC and CMAC-GEN (R297). -/
def encryptType (op : Nat) : Bool := decide (op % 2 = 1)
def State.job (s : State) (id : Nat) : Option Job := s.cph.jobs.find? (fun j => j.id = id)
def modJob (id : Nat) (f : Job → Job) (s : State) : State :=
  { s with cph := { s.cph with jobs := s.cph.jobs.map (fun j => if j.id = id then f j else j) } }
def dropJob (id : Nat) (s : State) : State := { s with cph := { s.cph with jobs := s.cph.jobs.filter (fun j => j.id ≠ id) } }

/-- CPH_JOB_DONE (R304). -/
def jobPayload (j : Job) (processed : Nat) (tag : List Byte) : List Byte :=
  leBytes 2 j.id ++ leBytes 6 processed ++ bytesAt 0 16 tag ++ leBytes 8 j.invocation ++ leBytes 8 j.dctr

/-- A job ends: its context slot is free and its event goes out (R296, R298). -/
def jobDone (j : Job) (st : Status) (processed : Nat) (tag : List Byte) (s : State) : State :=
  completeOr (if j.restored then 0x080C else 0x0809) j.id st 8 6 (jobPayload j processed tag) (dropJob j.id s)

end Sys2Proof.Machine
end

