-- ==== Sys2Proof/Machine/PktOps.lean ====
section
/-! DEFINITION. Packet manager: ports, Woodpile accounting, shaping, wheels, round robin and time gates (chapter 11). -/

namespace Sys2Proof.Machine

def State.port (s : State) (q : Nat) : Port := tabGet Port.reset s.pkt.ports q
def modPort (q : Nat) (f : Port → Port) (s : State) : State :=
  { s with pkt := { s.pkt with ports := tabSet Port.reset s.pkt.ports q (f (s.port q)) } }
def modLive (q : Nat) (f : PortCounts → PortCounts) (s : State) : State := modPort q (fun x => { x with live := f x.live }) s

/-- Saturating 32-bit and 64-bit counts (R343, R346). -/
def sat32 (v n : Nat) : Nat := satAdd 0xFFFFFFFF v n
def sat64 (v n : Nat) : Nat := satAdd 0xFFFFFFFFFFFFFFFF v n

/-! ### Ports (R306 to R308) -/

/-- A plan entry names a client interface. -/
def cifNamed (c : Nat) (s : State) : Bool := s.map.plan.any (fun x => x.2.cif = c)
/-- A port exists (R306). -/
def portExists (q : Nat) (s : State) : Bool :=
  if q < 256 then ((s.entry q).map (fun x => decide (x.kind = 4))).getD false
  else decide (q < 288) && decide ((vecGet Cif.reset s.cln.cifs (q - 256)).typ = 1) && !cifNamed (q - 256) s
/-- The rate of a client interface's RATE code in Mb/s (R349). -/
def ethRate (code : Nat) : Nat := [100000, 200000, 400000, 800000, 1600000].getD code 0
/-- The port rate R in Mb/s, 0 when the port does not exist (R306). -/
def portRate (q : Nat) (s : State) : Nat :=
  if !portExists q s then 0
  else if q < 256 then ((s.entry q).map (fun x => x.slotCount * 5240)).getD 0
  else ethRate (vecGet Cif.reset s.cln.cifs (q - 256)).rate

/-- An engine's ports are held: an engine reset until DEV_ENGINE_READY, also for want of its line reference, or the state
SWITCHING (R44, R103, R177, R308). -/
def portHeld (e : Nat) (s : State) : Bool :=
  vecGet false s.dev.engineReset e || decide ((s.engine e).state = .switching) || !s.lineRef e
    || decide ((vecGet Group.reset s.cnv.groups e).state = .off)
/-- A line engine is powered: not while it is reset, nor while it is down for want of its line reference (R25, R308). -/
def enginePowered (e : Nat) (s : State) : Bool := (vecGet Group.reset s.cnv.groups e).powered
/-- EGRESS_UP, INGRESS_UP and HELD as their conditions stand (R308). -/
def portFacts (q : Nat) (s : State) : Bool × (Bool × Bool) :=
  if !portExists q s || !modePowered s.dev.mode then (false, (false, false))
  else if q < 256 then
    match s.entry q with
    | some x => (enginePowered x.engine s, ((s.trib q).locked && !(s.trib q).clientRepl, portHeld x.engine s))
    | none => (false, (false, false))
  else
    let up := (vecGet Cif.reset s.cln.cifs (q - 256)).up
    (up, (up, false))

/-! ### Entities (R321, R325) -/

def subKey (n : Nat) : Nat := n
def svcKey (n : Nat) : Nat := 65536 + n
def State.entity (s : State) (k : Nat) : Entity := tabGet Entity.none s.pkt.entities k
def State.shape (s : State) (k : Nat) : Shape := tabGet Shape.reset s.pkt.shapes k
def modShape (k : Nat) (f : Shape → Shape) (s : State) : State :=
  { s with pkt := { s.pkt with shapes := tabSet Shape.reset s.pkt.shapes k (f (s.shape k)) } }
/-- The service of a subscriber, and the egress port of an entity (R321). -/
def serviceOf (sub : Nat) (s : State) : Nat := (s.entity (subKey sub)).parent
def portOf (k : Nat) (s : State) : Nat :=
  if k < 65536 then (s.entity (svcKey (serviceOf k s))).parent else (s.entity k).parent
/-- Count a frame in the statistics of its subscriber and service (R343). -/
def addStats (sub : Nat) (f : Stats → Stats) (s : State) : State :=
  let put := fun (t : Tab Stats) k => tabSet Stats.zero t k (f (tabGet Stats.zero t k))
  { s with pkt := { s.pkt with stats := put (put s.pkt.stats (subKey sub)) (svcKey (serviceOf sub s)) } }
def statDrop (sub : Nat) (s : State) : State := addStats sub (fun x => { x with drops := sat64 x.drops 1 }) s
/-- The frames an entity has queued. -/
def queued (k : Nat) (s : State) : Bool :=
  s.pkt.frames.any (fun f => if k < 65536 then decide (f.sub = k) else decide (svcKey (serviceOf f.sub s) = k))

/-! ### The Woodpile (R315 to R320) -/

/-- Tiles in use. -/
def tilesInUse (p : Pkt) : List Nat := p.frames.flatMap (fun f => f.tiles.map (fun t => t.1))
def bankActive (p : Pkt) (b : Nat) : Bool := p.banks.getLsbD b
/-- Active banks. -/
def bankCount (p : Pkt) : Nat := ((List.range 64).filter (bankActive p)).length
/-- Active tiles: 8,192 for each active bank, less the retired tiles no frame holds any more (R320). -/
def activeTiles (p : Pkt) : Nat :=
  8192 * bankCount p - (p.retired.filter (fun t => bankActive p (t % 64) && !(tilesInUse p).contains t)).length
/-- The sum of configured RES, and RES in force of a port (R320). -/
def resSum (p : Pkt) : Nat := p.ports.foldl (fun n x => n + x.2.cfg.res) 0
def resScaled (p : Pkt) : Bool := decide (activeTiles p - 65536 < resSum p)
def resForce (p : Pkt) (res : Nat) : Nat := if resScaled p then res * (activeTiles p - 65536) / resSum p else res
/-- The shared remainder and its free tiles (R318). -/
def sharedTotal (p : Pkt) : Nat := activeTiles p - p.ports.foldl (fun n x => n + resForce p x.2.cfg.res) 0
def sharedFree (p : Pkt) : Nat := sharedTotal p - p.ports.foldl (fun n x => n + x.2.sharedUsed) 0 - p.marching.length
/-- Free tiles in all. -/
def freeTiles (p : Pkt) : Nat :=
  activeTiles p - ((tilesInUse p).filter (fun t => bankActive p (t % 64))).length - p.marching.length

/-- A tile may be allocated. -/
def tileFree (p : Pkt) (t : Nat) : Bool :=
  decide (t < 524288) && bankActive p (t % 64) && !p.retired.contains t && !p.marching.contains t && !(tilesInUse p).contains t
/-- A bank still has a free tile. -/
def bankHasFree (p : Pkt) (b : Nat) : Bool :=
  bankActive p b && decide ((((tilesInUse p ++ p.retired ++ p.marching).eraseDups).filter (fun t => t % 64 = b)).length < 8192)
/-- The next active bank with a free tile, going round from `b` (R315). -/
def nextBank (p : Pkt) (b : Nat) : Option Nat := ((List.range 64).map (fun i => (b + 1 + i) % 64)).find? (bankHasFree p)
/-- Successive tiles come from successive active banks (R315). -/
def banksInOrder (p : Pkt) : List Nat → Bool
  | a :: b :: ts => decide (nextBank p (a % 64) = some (b % 64)) && banksInOrder p (b :: ts)
  | _ => true

/-- The admission test of R318 for `n` tiles of egress port `q`, from `res` reserved and `sh` shared tiles in use: the pool
of each tile (true: the reservation), none when a tile is refused. -/
def admitTiles (resF maxT alpha : Nat) : Nat → Nat → Nat → Nat → Option (List Bool)
  | 0, _, _, _ => some []
  | n + 1, res, sh, free =>
    if res < resF then (admitTiles resF maxT alpha n (res + 1) sh free).map (fun l => true :: l)
    else if 1 ≤ free ∧ sh < free * 2 ^ alpha / 8 ∧ res + sh < maxT then
      (admitTiles resF maxT alpha n res (sh + 1) (free - 1)).map (fun l => false :: l)
    else none

/-- Give the tiles of a frame back: poisoned ones wait for their march test, retired ones are gone (R318, R320, R450). -/
def releaseTiles (f : Frame) (s : State) : State :=
  let ts := f.tiles.map (fun t => t.1)
  let s1 := modPort f.egress (fun x => { x with
    resUsed := x.resUsed - (f.tiles.filter (fun t => t.2)).length
    sharedUsed := x.sharedUsed - (f.tiles.filter (fun t => !t.2)).length }) s
  { s1 with pkt := { s1.pkt with
    frames := s1.pkt.frames.filter (fun g => g.id ≠ f.id)
    marching := s1.pkt.marching ++ ts.filter (fun t => s1.pkt.poison.contains t && !s1.pkt.retired.contains t)
    poison := s1.pkt.poison.filter (fun t => !ts.contains t) } }

/-- A tile or a bank is retired by memory integrity (R320, R345). -/
def retireTile (t : Nat) (s : State) : State :=
  { s with pkt := { s.pkt with retired := if s.pkt.retired.contains t then s.pkt.retired else t :: s.pkt.retired
                               marching := s.pkt.marching.filter (fun x => x ≠ t) } }
def retireBank (b : Nat) (s : State) : State :=
  if !bankActive s.pkt b then s
  else
    let s1 := { s with pkt := { s.pkt with banks := s.pkt.banks &&& ~~~ BitVec.ofNat 64 (2 ^ b)
                                           marching := s.pkt.marching.filter (fun x => x % 64 ≠ b) } }
    emit 9 4 (leBytes 1 b ++ leBytes 1 (bankCount s1.pkt) ++ leBytes 1 (b2n (resScaled s1.pkt)) ++ leBytes 1 0
      ++ leBytes 4 (activeTiles s1.pkt)) s1

/-! ### Shaping (R325 to R329) -/

/-- Now, in 2⁻¹⁶ ns. -/
def fxNow (s : State) : Nat := s.tim.now * 65536 / 1000
/-- An 8 ns slot in those units. -/
def fxSlot : Nat := 8 * 65536
/-- The peak rate in force of an entity (R329). CIR may exceed R, and the difference is then negative. -/
def peakForce (k : Nat) (s : State) : Nat :=
  let x := s.entity k
  let q := portOf k s
  if s.pkt.step = 0 ∨ (s.port q).cfg.throttleOk = false then x.pir
  else ((x.cir : Int) + ((min x.pir (portRate q s * 1000) : Nat) - (x.cir : Int)) * (4 - s.pkt.step : Nat) / 4).toNat

/-- Committed-eligible and excess-eligible (R326), in the 8 ns slot that contains the eligible time (R327). -/
def committedElig (k : Nat) (s : State) : Bool :=
  decide ((s.entity k).cir ≠ 0) && decide ((s.shape k).c / fxSlot ≤ fxNow s / fxSlot)
/-- No excess leaves at a peak rate of 0: the interval of P has no end until the rate rises (R326, R329). DESIGN CHOICE: it then ends at
the P of before (log 53). -/
def excessHalted (k : Nat) (s : State) : Bool := (s.shape k).halted && decide (peakForce k s = 0)
def excessElig (k : Nat) (s : State) : Bool := decide ((s.shape k).p / fxSlot ≤ fxNow s / fxSlot) && !excessHalted k s
/-- A subscriber's head frame is committed, or excess (R326). -/
def subCommitted (n : Nat) (s : State) : Bool := committedElig (subKey n) s && committedElig (svcKey (serviceOf n s)) s
def subExcess (n : Nat) (s : State) : Bool :=
  let v := svcKey (serviceOf n s)
  (committedElig n s || excessElig n s) && (committedElig v s || excessElig v s) && !subCommitted n s

/-- One eligible time after a frame: the interval's quotient and remainder at a rate in kb/s (R326). -/
def advanceTime (now len rate burst t rem : Nat) : Nat × Nat :=
  let unit := 8 * 65536 * 1000000
  let num := unit * len + rem
  if rate = 0 then (t, rem) else (max t (now - unit * burst / rate) + num / rate, num % rate)

/-- A frame of shaping length `len` leaves through an entity (R326). -/
def chargeEntity (k len : Nat) (committed : Bool) (s : State) : State :=
  let x := s.entity k
  let p := advanceTime (fxNow s) len (peakForce k s) x.pbs (s.shape k).p (s.shape k).remP
  let c := if committed then advanceTime (fxNow s) len x.cir x.cbs (s.shape k).c (s.shape k).remC else ((s.shape k).c, (s.shape k).remC)
  modShape k (fun y => { y with p := p.1, remP := p.2, c := c.1, remC := c.2, halted := decide (peakForce k s = 0) }) s

/-- The eligible time an entity is kept at on the wheels (R327): P alone with CIR 0, C alone while P has no end. -/
def wheelTime (k : Nat) (s : State) : Nat :=
  if (s.entity k).cir = 0 then (s.shape k).p else if excessHalted k s then (s.shape k).c else min (s.shape k).c (s.shape k).p
/-- Neither eligible time of an entity comes: it is on no wheel (R326, R327). -/
def neverElig (k : Nat) (s : State) : Bool := decide ((s.entity k).cir = 0) && excessHalted k s
/-- Put an entity on the wheel its eligible time asks for, or on none (R327). -/
def wheelPlace (k : Nat) (s : State) : State :=
  let fine := s.pkt.fine.filter (fun x => x.2 ≠ k)
  let coarse := s.pkt.coarse.filter (fun x => x.2 ≠ k)
  let t := wheelTime k s
  if !queued k s || committedElig k s || excessElig k s || neverElig k s then { s with pkt := { s.pkt with fine := fine, coarse := coarse } }
  else if t - fxNow s < 4096 * fxSlot then { s with pkt := { s.pkt with fine := fine ++ [(t / fxSlot % 4096, k)], coarse := coarse } }
  else { s with pkt := { s.pkt with fine := fine, coarse := coarse ++ [(t / (4096 * fxSlot) % 4096, k)] } }

/-! ### Deficit round robin (R323) -/

/-- Visit entities in turn, adding weight × 1,024 bytes, until one has a positive deficit. -/
def drrVisit (weight : Nat → Nat) : Nat → List Nat → Tab Int → Option (Nat × Tab Int)
  | 0, _, _ => none
  | _, [], _ => none
  | fuel + 1, k :: ks, d =>
    let v := tabGet 0 d k + 1024 * (weight k : Int)
    let d1 := tabSet 0 d k v
    if 0 < v then some (k, d1) else drrVisit weight fuel (ks ++ [k]) d1

/-- Choose among the entities that take part: the one served last while its deficit is positive, else the next in turn
(R323). -/
def drrPick (weight : Nat → Nat) (elig : List Nat) (last : Nat) (d : Tab Int) : Option (Nat × Tab Int) :=
  if elig.contains last && decide (0 < tabGet 0 d last) then some (last, d)
  else drrVisit weight (20 * elig.length + 1) (elig.filter (fun k => last < k) ++ elig.filter (fun k => k ≤ last)) d

/-- A subscriber, or some subscriber of a service, has a frame queued that is committed or excess (R323, R326). -/
def hasEligible (k : Nat) (s : State) : Bool :=
  ((s.pkt.frames.map (fun f => f.sub)).eraseDups).any (fun n =>
    (decide (k = subKey n) || decide (k = svcKey (serviceOf n s))) && (subCommitted n s || subExcess n s))
/-- Subscribers with frames queued for a port, oldest first. -/
def portSubs (q : Nat) (s : State) : List Nat := ((s.pkt.frames.filter (fun f => f.egress = q)).map (fun f => f.sub)).eraseDups
/-- The class of a subscriber's service. -/
def classOf (sub : Nat) (s : State) : Nat := (s.entity (svcKey (serviceOf sub s))).action
/-- The subscribers, services and classes of a port that have no eligible frame lose their deficit (R323). -/
def loseDeficits (q : Nat) (s : State) : State :=
  let idle := (s.pkt.shapes.map (fun x => x.1)).filter (fun k => decide (portOf k s = q) && !hasEligible k s)
  let busy := ((portSubs q s).filter (fun n => hasEligible (subKey n) s)).map (fun n => classOf n s)
  let s1 := idle.foldl (fun u k => modShape k (fun x => { x with deficit := 0 }) u) s
  { s1 with pkt := { s1.pkt with classDeficit :=
    ((List.range 8).filter (fun c => !busy.contains c)).foldl (fun t c => tabSet 0 t (q * 8 + c) 0) s1.pkt.classDeficit } }

/-! ### Gates (R330 to R336) -/

/-- The windows of a list over one cycle: STATES and length in ns, cut at the cycle's end or the last one held to it (R331). -/
def gateWindows : List GateEntry → Nat → List (Nat × Nat)
  | [], _ => []
  | [e], left => if left = 0 then [] else [(e.states, left)]
  | e :: f :: es, left =>
    if left = 0 then []
    else if left ≤ 8 * e.interval then [(e.states, left)]
    else (e.states, 8 * e.interval) :: gateWindows (f :: es) (left - 8 * e.interval)
def GateList.windows (l : GateList) : List (Nat × Nat) := gateWindows l.entries l.cycle

/-- The open time of a class from the start of a list of windows until it closes, in ns. -/
def openRun (c : Nat) : List (Nat × Nat) → Nat
  | [] => 0
  | w :: ws => if bit w.1 c then w.2 + openRun c ws else 0
/-- The class is open in every window. -/
def alwaysOpen (c : Nat) (ws : List (Nat × Nat)) : Bool := ws.all (fun w => bit w.1 c)
/-- The longest open window of a class over one cycle, joined across its end; none when it never closes (R333). -/
def longestWindow (c : Nat) (l : GateList) : Option Nat :=
  let ws := l.windows
  if alwaysOpen c ws then none
  else some ((List.range ws.length).foldl (fun m i => max m (openRun c (ws.drop i ++ ws.take i))) 0)

/-- The start of a list in the units of device time. -/
def GateList.startTod (l : GateList) : Nat := todOf l.start.1 l.start.2
/-- The ns offset of entry `i` in the cycle. -/
def entryOffset (l : GateList) (i : Nat) : Nat := ((l.windows.take i).map (fun w => w.2)).foldl (· + ·) 0

/-- How long class `c` stays open from now, in ps; none without a limit (R330). While a re-anchored list waits for its
restart, the STATES in force hold until then (R335). -/
def openFor (c : Nat) (g : Gates) (s : State) : Option Nat :=
  let ps := fun target => (target - s.tim.tod) / 512000000
  match g.restart, g.list with
  | some l, _ => if alwaysOpen c l.windows then none else some (ps l.startTod + 1000 * openRun c l.windows)
  | none, some l =>
    let ws := l.windows
    if alwaysOpen c ws then none
    else
      some (ps (g.cycleStart + entryOffset l (g.entry + 1) * unitsPerNs)
        + 1000 * openRun c (ws.drop (g.entry + 1) ++ ws.take (g.entry + 1)))
  | none, none => none

/-- The least N and the start S = base + N × cycle at least 10 µs after device time (R332, R335). -/
def anchor (base : Nat × Nat) (cycle : Nat) (s : State) : Nat × (Nat × Nat) :=
  let b := base.1 * 1000000000 + base.2
  let due := s.tim.tod / unitsPerNs + 10000 + b2n (decide (s.tim.tod % unitsPerNs ≠ 0))
  let n := if due ≤ b then 0 else (due - b + cycle - 1) / cycle
  let t := b + n * cycle
  (n, (t / 1000000000, t % 1000000000))

/-- PKT_GATE_STARTED (R345). -/
def gateStarted (q : Nat) (enable : Bool) (reason n : Nat) (start : Nat × Nat) : List Byte :=
  leBytes 2 q ++ leBytes 1 (b2n enable) ++ leBytes 1 reason ++ leBytes 8 n ++ leBytes 6 start.1 ++ leBytes 2 0 ++ leBytes 4 start.2

/-- A list comes into force: its first entry, its longest windows, and whether it was advanced or restarted; `keep` holds the STATES of
a port under rebuild (R332 to R335, R340). -/
def installList (l : GateList) (restarted keep : Bool) (g : Gates) : Gates :=
  { g with
    list := some l, disable := false, restart := none
    states := if keep then g.states else ((l.windows.head?).map (fun w => w.1)).getD 255, entry := 0, cycleStart := l.startTod
    isAdvanced := decide (0 < l.advanced), restarted := restarted
    adv := sat32 g.adv (b2n (restarted || decide (0 < l.advanced)))
    windows := (List.range 8).map (fun c => longestWindow c l) }

/-- Gates without a list: every class open (R330), but for a port under rebuild, which keeps its STATES (R340). -/
def openGates (keep : Bool) (g : Gates) : Gates :=
  { g with list := none, restart := none, disable := false, states := if keep then g.states else 255, entry := 0, cycleStart := 0
           isAdvanced := false, restarted := false, windows := List.replicate 8 none }

/-- The gate list or the configuration of a port is being rebuilt: it keeps the STATES in force (R340). -/
def gateBroken (q : Nat) (s : State) : Bool := s.pkt.broken.contains (.gate q) || s.pkt.broken.contains (.port q)
/-- The STATES of the entry in force: every class open without a list, those of the step while a list waits for its restart (R330, R331,
R335). -/
def entryStates (g : Gates) : Nat :=
  match g.list, g.restart with
  | some l, none => ((l.windows[g.entry]?).map (fun w => w.1)).getD g.states
  | none, none => 255
  | _, some _ => g.states
/-- A step of device time re-anchors the lists of a port (R335). -/
def reanchor (s : State) (g : Gates) : Gates :=
  let again := fun (l : GateList) =>
    let a := anchor l.base l.cycle s
    { l with start := a.2, advanced := a.1 }
  { g with
    restart := g.list.map again
    pending := g.pending.map (fun l => if l.startTod < s.tim.tod + 10000 * unitsPerNs then again l else l) }
def pktTimeStep (s : State) : State :=
  { s with pkt := { s.pkt with ports := s.pkt.ports.map (fun x => (x.1, { x.2 with gates := reanchor s x.2.gates })) } }

/-! ### Losing frames and following port states (R308, R337 to R341) -/

/-- A queued frame is dropped: its tiles return, the statistics count it, its candidacy ends. -/
def dropFrame (f : Frame) (s : State) : State :=
  let s1 := releaseTiles f (statDrop f.sub s)
  wheelPlace (svcKey (serviceOf f.sub s)) (wheelPlace (subKey f.sub)
    (modPort f.egress (fun x => { x with candidates := x.candidates.filter (fun c => c.2 ≠ f.sub) }) s1))

/-- Flush the frames that satisfy a test, counting each (R339, R340). -/
def flushFrames (f : Frame → Bool) (count : Nat → State → State) (s : State) : State :=
  (s.pkt.frames.filter f).foldl (fun u x => count x.egress (dropFrame x u)) s
def countDown (q : Nat) (s : State) : State := modLive q (fun c => { c with dropDown := sat32 c.dropDown 1 }) s
def countCorrupt (q : Nat) (s : State) : State := modLive q (fun c => { c with dropCorrupt := sat32 c.dropCorrupt 1 }) s
def flushPort (q : Nat) (s : State) : State := flushFrames (fun x => x.egress = q) countDown s

/-- PKT_PORT_CHANGED (R345). -/
def portEvent (q : Nat) (s : State) : State :=
  let x := s.port q
  emit 9 3 (leBytes 2 q ++ leBytes 1 (packBits [x.egressUp, x.ingressUp, x.held])) s

/-- One port follows its conditions: a change raises the event, and the loss of EGRESS_UP other than into HELD flushes, as does the end
of HELD without it (R308, R339). -/
def refreshPort (q : Nat) (s : State) : State :=
  let x := s.port q
  let f := portFacts q s
  if x.egressUp = f.1 ∧ x.ingressUp = f.2.1 ∧ x.held = f.2.2 then s
  else
    let s1 := modPort q (fun y => { y with egressUp := f.1, ingressUp := f.2.1, held := f.2.2 }) s
    let s2 := if (x.egressUp || x.held) && !f.1 && !f.2.2 then flushPort q s1 else s1
    portEvent q s2
/-- The ports that exist or have existed. -/
def portsOfInterest (s : State) : List Nat :=
  let known : List Nat := s.pkt.ports.map (fun x => x.1)
  let lines : List Nat := (s.map.plan.filter (fun x => decide (x.2.kind = 4))).map (fun x => x.1)
  let clients : List Nat := ((List.range 32).filter (fun c => decide ((vecGet Cif.reset s.cln.cifs c).typ = 1))).map (fun c => 256 + c)
  (known ++ lines ++ clients).eraseDups
/-- Every port follows its conditions. -/
def pktRefresh (s : State) : State := (portsOfInterest s).foldl (fun u q => refreshPort q u) s

/-- A packet tributary's entry ends: its port is flushed at the boundary (R253, R339). -/
def pktTribEnd (t : Nat) (s : State) : State :=
  if (s.port t).egressUp || (s.port t).held then
    portEvent t (flushPort t (modPort t (fun y => { y with egressUp := false, ingressUp := false, held := false }) s))
  else s
/-- A packet tributary starts: its port starts empty at its rate; it appears with the next refresh (R339). -/
def pktTribStart (_t : Nat) (_x : PlanEntry) (s : State) : State := s

/-- A tag failure on packet tributary `t` reaches the frames from its ingress that hold a byte of the group (R337). -/
def pktAuthFail (t : Nat) (ids : List Nat) (s : State) : State :=
  { s with pkt := { s.pkt with frames := s.pkt.frames.map (fun f =>
    if ids.contains f.id && decide (f.ingress = t) then { f with authBad := true } else f) } }
/-- A frame that a tag failure has reached is stopped: CPH_AUTH_STOMPED of its tributary counts it (R284, R337). -/
def countStopped (ingress : Nat) (s : State) : State :=
  if ingress < 256 then modCphTrib ingress (fun x => { x with stomped := sat32 x.stomped 1 }) s else s

/-- Power-up and power-down of the manager, and an application reset (R342, R42). -/
def pktUp (s : State) : State :=
  pktRefresh { s with pkt := { s.pkt with powered := true, ready := false, fine := [], coarse := [] } }
def pktDown (s : State) : State :=
  let s1 := pktRefresh s
  { s1 with pkt := { s1.pkt with
    powered := false, ready := false, frames := [], fine := [], coarse := [], poison := [], marching := []
    ports := s1.pkt.ports.map (fun x => (x.1, { x.2 with stopped := false, resUsed := 0, sharedUsed := 0, candidates := [] })) } }

/-- The second boundary: statistics are copied, event pacing restarts (R333, R338, R343). -/
def pktSecond (s : State) : State :=
  { s with pkt := { s.pkt with
    statsCopy := s.pkt.stats, statsSecond := s.tim.seconds
    ports := s.pkt.ports.map (fun x => (x.1, { x.2 with
      live := PortCounts.zero, gates := { x.2.gates with oversizeRaised := false } })) } }

end Sys2Proof.Machine
end

