-- ==== Sys2Proof/Machine/Cipher.lean ====
section
/-! DEFINITION. The meanings of group 0x08: cipher engine and key handling (chapter 10). -/

namespace Sys2Proof.Machine

/-- CPH_DCTR_LO_READ latches CPH_DCTR_HI (R305). -/
def execCphDctrLoRead (s : State) : Host.Outcome State Fault Refusal :=
  .next (if s.dev.variantN then s else { s with cph := { s.cph with dctrHi := s.cph.dctr / 2 ^ 32 } })

/-! ### Transmit groups (R273, R275, R277, R278, R280) -/

/-- The transmit state for the group that begins, without a switch: the counter advances, or the epoch is exhausted. -/
def advanceEpoch (c : CphTrib) : CphTrib :=
  match c.txCur with
  | none => c
  | some e =>
    let n := (c.txCtr.map (fun v => v + 1)).getD 0
    if c.exhausted then c
    else if e.limit ≤ n then { c with exhausted := true }
    else { c with txCtr := some n }

/-- A switch is due at this boundary (R278). -/
def switchDue (c : CphTrib) (s : State) : Bool :=
  match c.switchAt with
  | some (sec, ns) => c.txNext.isSome && todPast sec ns s
  | none => false

/-- The ciphertext of the group that ends, none when it was not encrypted (R268, R275). -/
def endedCipher (t : Nat) (g : TxGroup) (c : CphTrib) : Option (List Byte) :=
  match c.txCur, c.txCtr with
  | some e, some n =>
    if bit (u8 c.txHeader 1) 0 then some (gcmEncrypt e.key (groupIv e.salt n) (groupAad t c.txHeader) (groupText g.plain)) else none
  | _, _ => none
/-- The tag of the group that ends: zero when it was not encrypted or its twins differed (R275, R286). -/
def endedTag (t : Nat) (g : TxGroup) (c : CphTrib) : List Byte :=
  match c.txCur, c.txCtr, endedCipher t g c with
  | some e, some n, some text =>
    if g.mismatched = [] then gcmTag e.key (groupIv e.salt n) (groupAad t c.txHeader) text else List.replicate 16 0
  | _, _, _ => List.replicate 16 0
/-- What the line carries of the group that ends: its text with zeros in place of the blocks whose twins differed, and its BIP-8 bytes;
nothing of it where the replacement signal went (R268, R269, R286). -/
def sendGroup (t : Nat) (g : TxGroup) (c : CphTrib) : CphTrib :=
  match endedCipher t g c with
  | some text =>
    let sent := zeroBlocks g.mismatched text
    { c with txGroup := sent, txBips := groupBips g.bips (groupText g.plain) sent }
  | none => { c with txGroup := [], txBips := [] }

/-- CPH_TX_GROUP_BOUNDARY: the group that ends has been sent, the next one begins (R268, R273, R277, R278, R280, R286, R287). -/
def execCphTxGroupBoundary (trib : Fin 256) (group : TxGroup) (s : State) : Host.Outcome State Fault Refusal :=
  let t := trib.val
  match s.entry t with
  | none => .next s
  | some x =>
    if !x.encrypt then .next s
    else
      let s0 := addTwins t false group.mismatched.length s
      let c := sendGroup t group (s0.cphTrib t)
      let due := switchDue c s0
      let c1 := if due then
          { c with txCur := c.txNext, txNext := none, txCtr := some 0, switchAt := none, exhausted := false
                   lowReported := false, faultTx := false }
        else advanceEpoch c
      let low := match c1.txCur, c1.txCtr with
        | some e, some n => !c1.lowReported && decide (e.limit ≤ n + 2 ^ 20)
        | _, _ => false
      let enc := c1.txCur.isSome && !c1.exhausted && !c1.faultTx && !c1.rebuildTx
      let bitNow := (c1.txCur.map (fun e => e.bit)).getD false
      let header := cobHeader enc bitNow ((c1.txCur.map (fun e => e.keyRef)).getD 0) (c1.txCtr.getD 0)
      let wasEnc := bit (u8 c.txHeader 1) 0
      let c2 := { c1 with
        txHeader := header, txTag := endedTag t group c, txCob := cobBytes c.txTag c.txInfo header
        txInfo := BitVec.ofNat 8 (128 * b2n wasEnc + 64 * b2n (wasEnc && bit (u8 c.txHeader 1) 1))
        lowReported := c1.lowReported || low }
      let s1 := tellFramer t (modCphTrib t (fun _ => c2) s0)
      let s2 := match due, c1.txCur with
        | true, some e => completeOr 0x0806 t .ok 8 1 (switchedPayload t false e (c.txCtr.getD 0)) s1
        | _, _ => s1
      let s3 := if low then emit 8 2 (leBytes 2 t ++ leBytes 6 0 ++ leBytes 8 (c1.txCtr.getD 0)) s2 else s2
      .next (if c1.exhausted && !c.exhausted then
          emit 8 4 (leBytes 2 t ++ leBytes 6 0 ++ leBytes 8 ((c1.txCur.map (fun e => e.limit)).getD 0)) s3
        else s3)

/-! ### Received groups (R274, R279, R282 to R285) -/

/-- The header the receiver uses: the one that arrived, or the previous group's with the counter plus 1 (R274). -/
def usedHeader (g : RxGroup) (c : CphTrib) : Bool × (Bool × (Nat × Nat)) :=
  if g.hcrcOk then (g.enc, (g.epoch, (g.keyRef, g.ctr)))
  else match c.rxPrev with
    | some h => (true, (h.1, (h.2.1, h.2.2 + 1)))
    | none => (false, (false, (0, 0)))

/-- The receive epoch with the announced bit, and whether it is the next one (R279). -/
def rxEpoch (b : Bool) (c : CphTrib) : Option (Epoch × Bool) :=
  match c.rxCur.filter (fun e => e.bit = b), c.rxNext.filter (fun e => e.bit = b) with
  | some e, _ => some (e, false)
  | none, some e => some (e, true)
  | none, none => none

/-- Why a group fails, as CPH_AUTH_FAILED codes it; none when it passes (R282, R304). A twin fault fails every group but one of the next
epoch, whose first that passes its tag is the epoch switch that ends the fault (R279, R287). -/
def groupFailure (t : Nat) (g : RxGroup) (c : CphTrib) : Option Nat :=
  let h := usedHeader g c
  let ctr := h.2.2.2
  if c.faultRx && ((rxEpoch h.2.1 c).map (fun x => x.2) != some true) then some 5
  else if c.rebuildRx then some 2
  else if c.waitHcrc && !g.hcrcOk then some 2
  else if !h.1 then some 4
  else match rxEpoch h.2.1 c with
    | none => some 2
    | some (e, isNext) =>
      let last := if isNext then c.rxNextLast else c.rxLast
      if e.keyRef ≠ h.2.2.1 then some 3
      else if (last.map (fun v => decide (ctr ≤ v))).getD false then some 1
      else if gcmTag e.key (groupIv e.salt ctr) (groupAad t (cobHeader true h.2.1 h.2.2.1 ctr)) (groupText g.cipher) ≠ g.tag then
        some 0
      else if g.mismatched ≠ [] then some 5
      else none

/-- The payload of a received group, deciphered, with zeros in place of the blocks whose twins differed: empty where no epoch can
decipher it (R268, R286). -/
def openedGroup (t : Nat) (g : RxGroup) (c : CphTrib) : List Byte :=
  let h := usedHeader g c
  match rxEpoch h.2.1 c with
  | some (e, _) =>
    if h.1 && !c.rebuildRx then
      zeroBlocks g.mismatched (gcmDecrypt e.key (groupIv e.salt h.2.2.2) (groupAad t (cobHeader true h.2.1 h.2.2.1 h.2.2.2))
        (groupText g.cipher))
    else []
  | none => []
/-- The group is released to the demapper, or nothing of it is: a failed group that was held goes whole (R269, R284, R285). -/
def releaseGroup (out : List Byte) (g : RxGroup) (c : CphTrib) : CphTrib :=
  { c with rxGroup := out, rxBips := if out = [] then [] else groupBips g.bips (groupText g.cipher) out }
/-- A group that is not checked: the next one checked must bring a valid HCRC; the boundary at which cut-through resumes passes (R283,
R285). -/
def skipGroup (c : CphTrib) : CphTrib := { c with waitHcrc := true, savForce := c.savForce && c.dauth }

/-- A group that passes: its counter is accepted, dAUTH ends, a next epoch becomes current (R279, R282, R285). The group that is still
held when the first one passes ends SAV_FORCE with its own check: cut-through resumes at the boundary between the two. -/
def groupPasses (t : Nat) (g : RxGroup) (s : State) : State :=
  let c := releaseGroup (openedGroup t g (s.cphTrib t)) g (s.cphTrib t)
  let h := usedHeader g c
  let adopt := (rxEpoch h.2.1 c).map (fun x => x.2) == some true
  let c1 := { c with dauth := false, savForce := c.dauth, waitHcrc := false, rxPrev := some h.2 }
  if adopt then
    let s1 := modCphTrib t (fun _ => { c1 with
      rxCur := c.rxNext, rxNext := none, rxLast := some h.2.2.2, rxNextLast := none, faultRx := false }) s
    match c.rxNext with
    | some e => emit 8 1 (switchedPayload t true e (c.rxLast.getD 0)) s1
    | none => s1
  else modCphTrib t (fun _ => { c1 with rxLast := some h.2.2.2 }) s

/-- A group that fails: raw dAUTH, SAV_FORCE, counts; in cut-through a packet tributary's frames are stopped, each counted when it is
discarded or ends (R282 to R285, R304, R337). -/
def groupFails (t kind cause : Nat) (g : RxGroup) (s : State) : State :=
  let c := s.cphTrib t
  let h := usedHeader g c
  let through := !(c.savUse || c.savForce)
  let cut := through && decide (kind = 4)
  let st := if cut then g.stopped else 0
  let es := if cut then g.escaped else 0
  emit 8 3 (leBytes 2 t ++ leBytes 1 cause ++ leBytes 1 0 ++ leBytes 4 st ++ leBytes 4 es ++ leBytes 8 h.2.2.2)
    (modCphTrib t (fun x => { releaseGroup (if through then openedGroup t g x else []) g x with
      dauth := true, savForce := true
      rxPrev := if c.waitHcrc && !g.hcrcOk then x.rxPrev else some h.2
      waitHcrc := x.waitHcrc && !g.hcrcOk
      authFail := satAdd 0xFFFFFFFF x.authFail 1
      replay := satAdd 0xFFFFFFFF x.replay (b2n (decide (cause = 1)))
      escaped := satAdd 0xFFFFFFFF x.escaped es })
      (if cut then pktAuthFail t g.held s else s))

/-- CPH_RX_GROUP_CHECK (R279, R282 to R287). -/
def execCphRxGroupCheck (trib : Fin 256) (group : RxGroup) (s : State) : Host.Outcome State Fault Refusal :=
  let t := trib.val
  match s.entry t with
  | none => .next s
  | some x =>
    if !x.encrypt then .next s
    else if groupsMasked t s then .next (modCphTrib t skipGroup s)
    else
      let s1 := addTwins t true group.mismatched.length s
      match groupFailure t group (s1.cphTrib t) with
      | some cause => .next (tellFramer t (groupFails t x.kind cause group s1))
      | none => .next (tellFramer t (groupPasses t group (addLife 10 1 s1)))

/-- EPOCH_REBUILD_COMPLETE: the direction resumes (R302). -/
def execEpochRebuildComplete (trib : Fin 256) (receive : Bool) (s : State) : Host.Outcome State Fault Refusal :=
  .next (rebuilt (.epoch trib.val receive) false
    (modCphTrib trib.val (fun c => if receive then { c with rebuildRx := false } else { c with rebuildTx := false }) s))

/-! ### Keys -/

/-- A non-volatile slot is durable before its command answers: the answer waits for the records just created (R289, R469). -/
def durable (vol : Bool) (resp : List Byte) (s : State) : Reply :=
  if vol then .answer resp s
  else
    let k := takeKey s
    .wait k.1 (waitCommit k.1 resp k.2)

/-- The parts of an import blob, which starts at parameter byte 4 (R291). -/
def blobAad (b : List Byte) : List Byte := bytesAt 4 32 b
def blobIv (b : List Byte) : List Byte := bytesAt 16 12 b
def blobWrapped (b : List Byte) : List Byte := bytesAt 36 36 b

/-- CPH_KEY_IMPORT (R281, R289 to R291, R303). -/
def replyCphKeyImport (p : Packet) (s : State) : Reply :=
  let b := p.params
  let k := u16 b 0
  let kek := beNat (bytesAt 14 2 b)
  let usage := beNat (bytesAt 10 2 b)
  let wrap := s.keySlot kek
  let text := gcmDecrypt wrap.key (blobIv b) (blobAad b) (blobWrapped b)
  let vol := bit (u8 b 9) 0
  checked s
    [badParam 0 (decide (1023 < k)), failIf .badState (decide (0 < slotBound k s)), reservedBytes b 2 2,
      failIf .integrity (decide (beNat (bytesAt 4 4 b) ≠ 0x4B424C31)), badParam 8 (decide (u8 b 8 ≠ 1)),
      badParam 9 (decide (1 < u8 b 9)), badParam 10 (decide (31 < usage)), failIf .denied (!usageOk usage),
      badParam 12 (decide (beNat (bytesAt 12 2 b) ≠ k)), badParam 14 (decide (1023 < kek)),
      failIf .denied (!wrap.loaded || !bit wrap.usage 4), reservedBytes b 28 8,
      failIf .integrity (decide (gcmTag wrap.key (blobIv b) (blobAad b) (blobWrapped b) ≠ bytesAt 72 16 b)),
      failIf .denied ((s.keySlot k).history.contains (kcvOf (keyOf text))), failIf .tempWindow (!vol && !s.flashOk)]
    (durable (vol && !(s.keySlot k).lasting) (kcvOf (keyOf text)) (importKey k vol usage text s))
def execCphKeyImport (p : Packet) (s : State) : Host.Outcome State Fault Refusal :=
  .next (runCommand (modCmd 0x0801 88) replyCphKeyImport p s)

/-- CPH_KEY_AGREE (R290, R292, R303). -/
def replyCphKeyAgree (p : Packet) (s : State) : Reply :=
  let b := p.params
  let k := u16 b 0
  let point := bytesAt 4 97 b
  let vol := bit (u8 b 2) 0
  let text := derive (keyOf (Config.agreeSecret point)) labelKek (bytesAt 1 32 point) 288
  let kcv := kcvOf (keyOf text)
  let head := bytesAt 0 97 Config.agreePoint ++ leBytes 3 0 ++ kcv
  checked s
    [badParam 0 (decide (1023 < k)), failIf .badState (decide (0 < slotBound k s)), badParam 2 (decide (1 < u8 b 2)),
      reservedBytes b 3 1, badParam 4 (decide (u8 b 4 ≠ 4) || !onCurve point), reservedBytes b 101 3,
      failIf .denied ((s.keySlot k).history.contains kcv), failIf .tempWindow (!vol && !s.flashOk)]
    (durable (vol && !(s.keySlot k).lasting) (head ++ bytesAt 0 96 (Config.attestSign (sha384 (head ++ point))))
      (logSlot (s.keySlot k) k (modKeySlot k (loadKey vol 16 text) s)))
def execCphKeyAgree (p : Packet) (s : State) : Host.Outcome State Fault Refusal :=
  .next (runCommand (modCmd 0x0802 104) replyCphKeyAgree p s)

/-- CPH_KEY_ERASE: an empty slot is a no-op (R290, R293). -/
def replyCphKeyErase (p : Packet) (s : State) : Reply :=
  let b := p.params
  let k := u16 b 0
  checked s
    [badParam 0 (decide (1023 < k)), failIf .badState (decide (0 < slotBound k s)), reservedBytes b 2 2]
    (.ok (if (s.keySlot k).loaded then logSlot (s.keySlot k) k (modKeySlot k retireKey s) else s))
def execCphKeyErase (p : Packet) (s : State) : Host.Outcome State Fault Refusal :=
  .next (runCommand (modCmd 0x0803 4) replyCphKeyErase p s)

/-- CPH_KEY_INFO (R303). -/
def replyCphKeyInfo (p : Packet) (s : State) : Reply :=
  let b := p.params
  let k := u16 b 0
  let x := s.keySlot k
  checked s [badParam 0 (decide (1023 < k)), reservedBytes b 2 2]
    (.answer (leBytes 4 (slotStatus k s) ++ (if x.loaded then kcvOf x.key else leBytes 8 0) ++ leBytes 8 x.invocation) s)
def execCphKeyInfo (p : Packet) (s : State) : Host.Outcome State Fault Refusal :=
  .next (runCommand (readCmd 0x0804 4) replyCphKeyInfo p s)

/-! ### Epochs -/

/-- A slot may be bound to a direction (R281, R289). -/
def slotUsable (k : Nat) (receive : Bool) (s : State) : Bool :=
  let x := s.keySlot k
  x.loaded && (if receive then bit x.usage 1 && !slotTxBound k s else bit x.usage 0 && !x.txUsed && decide (slotBound k s = 0))

/-- CPH_EPOCH_SET (R276, R281, R294, R295, R303). -/
def replyCphEpochSet (p : Packet) (s : State) : Reply :=
  let b := p.params
  let t := u16 b 0
  let receive := decide (u8 b 2 = 1)
  let derived := decide (u8 b 3 = 1)
  let k := u16 b 4
  let limit := u64 b 8
  let host := bytesAt 32 32 b
  let root := s.keySlot k
  checked s
    [badParam 0 (decide (255 < t)), failIf .badState (!((s.entry t).map (fun x => x.encrypt)).getD false),
      badParam 2 (decide (1 < u8 b 2)), badParam 3 (decide (1 < u8 b 3)), badParam 4 (decide (1023 < k)),
      failIf .badState (if derived then !(root.loaded && bit root.usage 3) else !slotUsable k receive s),
      badParam 6 (decide (u16 b 6 = 0)), badLen 8 (!receive && decide (limit = 0)), badParam 8 (!receive && decide (limit < 2 ^ 21)),
      badParam 16 (receive && derived && decide (u64 b 16 = 0)),
      failIf .tempWindow (derived && !receive && !dctrReady s)]
    (let s1 := if derived && !receive then nextDctr s else s
     let dctr := if derived then (if receive then u64 b 16 else s1.cph.dctr) else 0
     let serial := if receive then u64 b 24 else s.dev.serial.toNat
     let material := deriveTrib root.key host serial dctr t
     let e : Epoch := if derived then ⟨none, k, host, dctr, serial, keyOf material, saltOf material, u16 b 6, limit, false⟩
       else ⟨some k, k, host, 0, serial, root.key, root.salt, u16 b 6, limit, false⟩
     let s2 := if !derived && !receive then bindSlot k s1 else s1
     let r := installEpoch t receive e s2
     .answer (leBytes 1 (b2n r.2) ++ leBytes 7 0 ++ leBytes 8 dctr ++ kcvOf e.key) r.1)
def execCphEpochSet (p : Packet) (s : State) : Host.Outcome State Fault Refusal :=
  .next (runCommand (modCmd 0x0805 64) replyCphEpochSet p s)

/-- CPH_EPOCH_SWITCH (R278, R303). -/
def replyCphEpochSwitch (p : Packet) (s : State) : Reply :=
  let b := p.params
  let t := u16 b 0
  let c := s.cphTrib t
  match c.txNext with
  | none => if 255 < t then .failAt .badParam 0 s else .fail .badState s
  | some e =>
    checked s
      [badParam 0 (decide (255 < t)), reservedBytes b 2 2, badParam 4 (todAhead (u48 b 4) (u32 b 12) 1000 s), reservedBytes b 10 2,
        badParam 12 (decide (1000000000 ≤ u32 b 12)), failIf .busy c.switchAt.isSome]
      (.later t 8 1 (switchedPayload t false e (c.txCtr.getD 0))
        (fun u => modCphTrib t (fun x => { x with switchAt := some (u48 b 4, u32 b 12) }) u))
def execCphEpochSwitch (p : Packet) (s : State) : Host.Outcome State Fault Refusal :=
  .next (runCommand (modCmd 0x0806 16) replyCphEpochSwitch p s)

/-- CPH_TRIB_SET (R285, R303). -/
def replyCphTribSet (p : Packet) (s : State) : Reply :=
  let b := p.params
  let t := u16 b 0
  checked s
    [badParam 0 (decide (255 < t)), failIf .badState (!((s.entry t).map (fun x => x.encrypt)).getD false),
      badParam 2 (decide (1 < u8 b 2)), reservedBytes b 3 1]
    (.ok (modCphTrib t (fun c => { c with sav := bit (u8 b 2) 0 }) s))
def execCphTribSet (p : Packet) (s : State) : Host.Outcome State Fault Refusal :=
  .next (runCommand (modCmd 0x0807 4) replyCphTribSet p s)

/-- CPH_TRIB_GET (R303). -/
def replyCphTribGet (p : Packet) (s : State) : Reply :=
  let b := p.params
  let t := u16 b 0
  let c := s.cphTrib t
  checked s [badParam 0 (decide (255 < t)), reservedBytes b 2 2]
    (.answer (leBytes 4 (tribCipherStatus t s) ++ leBytes 8 (c.txCtr.getD 0) ++ leBytes 8 ((c.txCur.map (fun e => e.limit)).getD 0)
      ++ leBytes 8 (c.rxLast.getD 0) ++ leBytes 2 ((c.txCur.map (fun e => e.keyRef)).getD 0)
      ++ leBytes 2 ((c.rxCur.map (fun e => e.keyRef)).getD 0)) s)
def execCphTribGet (p : Packet) (s : State) : Host.Outcome State Fault Refusal :=
  .next (runCommand (readCmd 0x0808 4) replyCphTribGet p s)

/-! ### Jobs -/

/-- CPH_JOB_SUBMIT (R295 to R298, R303). -/
def replyCphJobSubmit (p : Packet) (s : State) : Reply :=
  let b := p.params
  let op := u8 b 0
  let derived := decide (u8 b 2 = 1)
  let k := u16 b 4
  let id := u16 b 6
  let slot := s.keySlot k
  let enc := encryptType op
  checked s
    [badParam 0 (decide (op = 0) || decide (6 < op)), badParam 1 (decide (3 < u8 b 1)), badParam 2 (decide (1 < u8 b 2)),
      badParam 3 (decide (1 < u8 b 3)), badParam 4 (decide (1023 < k)),
      failIf .badState (!slot.loaded || !bit slot.usage (if derived then 3 else 2)), badParam 6 (s.job id).isSome,
      badLen 24 (decide (u64 b 24 = 0) && (decide (op = 3) || decide (op = 4))), badParam 24 (decide (4294967296 < u64 b 24)),
      badParam 40 (decide (65536 < u32 b 40)), badParam 112 (derived && (enc != decide (u64 b 112 = 0))), reservedBytes b 120 8,
      failIf .noResource (decide (32 ≤ s.cph.jobs.length)), failIf .tempWindow (derived && enc && !dctrReady s)]
    (.later id 8 6 (leBytes 2 id ++ leBytes 38 0) (fun u =>
      let u1 := if derived && enc then nextDctr u else u
      let dctr := if derived then (if enc then u1.cph.dctr else u64 b 112) else 0
      let u2 := modKeySlot k (fun x => { x with invocation := x.invocation + 1 }) u1
      let key := if derived then keyOf (deriveJob slot.key (bytesAt 80 32 b) u.dev.serial.toNat dctr) else slot.key
      let j : Job := ⟨id, b, u8 b 1, key, (u2.keySlot k).invocation, dctr, 0, false, false, none, []⟩
      { u2 with cph := { u2.cph with jobs := u2.cph.jobs ++ [j] } }))
def execCphJobSubmit (p : Packet) (s : State) : Host.Outcome State Fault Refusal :=
  .next (runCommand (modCmd 0x0809 128) replyCphJobSubmit p s)

/-- The IV of a job: formed by the device for encrypt-type operations (R297, R298). -/
def jobIv (j : Job) : List Byte :=
  let op := u8 j.desc 0
  if op = 1 then bytesAt 44 4 j.desc ++ beBytes 8 j.invocation
  else if op = 3 then bytesAt 44 4 j.desc ++ beBytes 8 j.invocation ++ beBytes 4 1
  else if op = 2 then bytesAt 48 12 j.desc else bytesAt 48 16 j.desc

/-- The output bytes and the tag of a finished job (R297, R298). -/
def jobResult (j : Job) (e : JobEnd) : List Byte × List Byte :=
  let op := u8 j.desc 0
  let iv := jobIv j
  if op = 1 then
    let ct := gcmEncrypt j.key iv e.aad e.input
    (ct, gcmTag j.key iv e.aad ct)
  else if op = 2 then (gcmDecrypt j.key iv e.aad e.input, gcmTag j.key iv e.aad e.input)
  else if op = 3 ∨ op = 4 then (aesCtr j.key iv e.input, List.replicate 16 0)
  else ([], cmac j.key e.input)

/-- The output of a job goes to its destination while the link moves data: from the bytes of earlier parts up to byte `n` (R296, R297). -/
def writeOutput (j : Job) (e : JobEnd) (n : Nat) (s : State) : State :=
  let part := (((jobResult j e).1).take n).drop j.processed
  if part = [] ∨ s.hif.dmaUp = false then s else hostWrite (u64 j.desc 16) part s

/-- The descriptor for the rest of a job: source and destination stand after the bytes of this part (R300). -/
def restDesc (j : Job) (done : Nat) : List Byte :=
  bytesAt 0 8 j.desc ++ leBytes 8 (u64 j.desc 8 + done) ++ leBytes 8 (u64 j.desc 16 + done) ++ bytesAt 24 104 j.desc

/-- STATE of a context (R299): the descriptor for the rest, the bytes processed, the next counter block, the GHASH or CMAC chain of the
bytes processed, and the lengths of additional data and text. DESIGN CHOICE: the order and widths, and the zeros after them (log 52). A
CTR job's chain is zero, so that a clear context holds none. -/
def contextState (j : Job) (e : JobEnd) : List Byte :=
  let op := u8 j.desc 0
  let n := e.processed
  let done := e.input.take n
  let iv := jobIv j
  let counter := if op ≤ 2 then gcmCounter (preCounter 0 iv) (n / 16 + 1) else if op ≤ 4 then (beNat iv + n / 16) % 2 ^ 128 else 0
  let chain := if op = 1 then gcmState j.key e.aad (gcmEncrypt j.key iv e.aad done)
    else if op = 2 then gcmState j.key e.aad done
    else if op ≤ 4 then 0 else cbcState (roundKeys j.key) (blocksOf done)
  bytesAt 0 192 (restDesc j (n - j.processed) ++ leBytes 8 n ++ beBytes 16 counter ++ beBytes 16 chain ++ leBytes 8 e.aad.length
    ++ leBytes 8 n)

/-- CTX_TAG over bytes 0 to 231, under the context key of a Kindling (R299). DESIGN CHOICE: in a wrapped context STATE is the text of the
invocation and what stands before it additional data; in a clear one all of it is additional data (log 52). -/
def contextTag (boot : Nat) (bytes : List Byte) : List Byte :=
  let wrapped := decide (u8 bytes 5 = 1)
  gcmTag (Config.contextKey boot) (bytesAt 24 12 bytes) (bytesAt 0 (if wrapped then 40 else 232) bytes)
    (if wrapped then bytesAt 40 192 bytes else [])

/-- The 256 bytes of a saved context (R299). -/
def contextBytes (form exportNo : Nat) (j : Job) (e : JobEnd) (s : State) : List Byte :=
  let iv := bytesAt 0 12 (Config.wrapIv exportNo)
  let front := leBytes 4 0x43585431 ++ leBytes 1 1 ++ leBytes 1 form ++ leBytes 2 j.id ++ leBytes 8 exportNo
    ++ leBytes 8 (Config.bootId s.cph.boots) ++ iv ++ bytesAt 0 4 (kcvOf j.key)
  let state := contextState j e
  let head := front ++ (if form = 1 then gcmEncrypt (Config.contextKey s.cph.boots) iv front state else state)
  head ++ contextTag s.cph.boots head ++ leBytes 8 0

/-- A job saved at its block boundary: its output so far and its context go to host memory and its event says PARTIAL (R299). -/
def saveJob (form addr : Nat) (j : Job) (e : JobEnd) (s : State) : State :=
  let no := s.cph.exportNo + 1
  let bytes := contextBytes form no j e s
  let done := e.processed - j.processed
  let saved : SavedCtx := ⟨no, { j with
    desc := restDesc j done, processed := e.processed, save := none, written := j.written ++ [(u64 j.desc 16, done)] }, bytes, false⟩
  jobDone j .partly e.processed [] (hostWrite addr bytes (writeOutput j e e.processed
    { s with cph := { s.cph with exportNo := no, saved := s.cph.saved.filter (fun x => x.job.id ≠ j.id) ++ [saved] } }))

/-- A job that fails: its output up to byte `n`, with what earlier parts wrote, is zero-filled (R288, R298). -/
def zeroFill (j : Job) (n : Nat) (s : State) : State :=
  if 4 < u8 j.desc 0 then s
  else (j.written ++ [(u64 j.desc 16, n - j.processed)]).foldl (fun u x =>
    if x.2 = 0 then u else hostWrite x.1 (List.replicate x.2 0) u) s

/-- CPH_JOB_COMPLETE (R288, R296, R298, R299, R302). A job reads and writes host memory, so it goes on only while the link moves
data (R59, R60); a cancelled one ends all the same. -/
def execCphJobComplete (job : Fin 65536) (end_ : JobEnd) (s : State) : Host.Outcome State Fault Refusal :=
  match s.job job.val with
  | none => .next s
  | some j =>
    if j.cancel then .next (jobDone j .aborted end_.processed [] (writeOutput j end_ end_.processed s))
    else if !s.hif.dmaUp then .next s
    else match j.save with
      | some (form, addr) => .next (saveJob form addr j end_ s)
      | none =>
        if end_.contextError then .next (jobDone j .integrity end_.processed [] (writeOutput j end_ end_.processed s))
        else if (runningJob s).map (fun x => x.id) ≠ some j.id then .next s
        else if end_.mismatch then
          .next (logRecord 0x0033 0 (leBytes 2 j.id) (jobDone j .integrity end_.processed [] (zeroFill j (u64 j.desc 24) s)))
        else
          let r := jobResult j end_
          let len := u64 j.desc 24
          let checks := decide (u8 j.desc 0 = 2) || decide (u8 j.desc 0 = 6)
          if checks && decide (bytesAt 0 16 r.2 ≠ bytesAt 64 16 j.desc) then .next (jobDone j .integrity len r.2 (zeroFill j len s))
          else .next (jobDone j .ok len r.2 (writeOutput j end_ len s))

/-- CPH_JOB_CANCEL (R303). -/
def replyCphJobCancel (p : Packet) (s : State) : Reply :=
  let b := p.params
  checked s [badParam 0 (s.job (u16 b 0)).isNone, reservedBytes b 2 2]
    (.ok (modJob (u16 b 0) (fun j => { j with cancel := true }) s))
def execCphJobCancel (p : Packet) (s : State) : Host.Outcome State Fault Refusal :=
  .next (runCommand (modCmd 0x080A 4) replyCphJobCancel p s)

/-- CPH_CTX_SAVE (R299, R303). -/
def replyCphCtxSave (p : Packet) (s : State) : Reply :=
  let b := p.params
  let form := u8 b 2
  match s.job (u16 b 0) with
  | none => .failAt .badParam 0 s
  | some j =>
    let clearOk := bit (u8 j.desc 3) 0 && (decide (u8 j.desc 0 = 3) || decide (u8 j.desc 0 = 4))
    checked s
      [badParam 2 (decide (form = 0) || decide (2 < form)), failIf .denied (decide (form = 2) && !clearOk), reservedBytes b 3 1,
        badParam 4 (decide (u64 b 4 % 8 ≠ 0))]
      (.ok (modJob (u16 b 0) (fun x => { x with save := some (form, u64 b 4) }) s))
def execCphCtxSave (p : Packet) (s : State) : Host.Outcome State Fault Refusal :=
  .next (runCommand (modCmd 0x080B 12) replyCphCtxSave p s)

/-- The saved context that host bytes restore: right tag, this Kindling, the latest export of its JOB_ID, not yet
restored (R300). -/
def contextFor (bytes : List Byte) (s : State) : Option SavedCtx :=
  if bytesAt 232 16 bytes ≠ contextTag s.cph.boots (bytesAt 0 232 bytes) then none
  else s.cph.saved.find? (fun x => x.exportNo = u64 bytes 8 && decide (x.job.id = u16 bytes 6) && !x.used
    && decide (u64 bytes 16 = Config.bootId s.cph.boots % 2 ^ 64))

/-- The key that the slot of a job gives now: its own, or for a derived job the one derived from it again (R294, R300). -/
def contextKey (j : Job) (s : State) : BitVec 256 :=
  let slot := s.keySlot (u16 j.desc 4)
  match j.slot with
  | some _ => slot.key
  | none => keyOf (deriveJob slot.key (bytesAt 80 32 j.desc) s.dev.serial.toNat j.dctr)

/-- CPH_CTX_RESTORE: the context is read from host memory (R300, R303). -/
def replyCphCtxRestore (p : Packet) (s : State) : Reply :=
  let b := p.params
  match contextFor p.hostData s with
  | none => .fail .integrity s
  | some x =>
    let j := x.job
    let keep := (s.keySlot (u16 j.desc 4)).loaded && decide (kcvOf (contextKey j s) = kcvOf j.key)
    checked s [failIf .badState (!keep || (s.job j.id).isSome), failIf .noResource (decide (32 ≤ s.cph.jobs.length))]
      (.later j.id 8 6 (jobPayload j 0 []) (fun u =>
        let d := bytesAt 0 8 j.desc ++ (if u64 b 8 = 0 then bytesAt 8 8 j.desc else bytesAt 8 8 b)
          ++ (if u64 b 16 = 0 then bytesAt 16 8 j.desc else bytesAt 16 8 b) ++ bytesAt 24 104 j.desc
        { u with cph := { u.cph with
          jobs := u.cph.jobs ++ [{ j with desc := d, restored := true, cancel := false }]
          saved := u.cph.saved.map (fun y => if y.exportNo = x.exportNo then { y with used := true } else y) } }))
def execCphCtxRestore (p : Packet) (s : State) : Host.Outcome State Fault Refusal :=
  .next (runCommand (modCmd 0x080C 24) replyCphCtxRestore p s)

end Sys2Proof.Machine
end

