-- ==== Sys2Proof/Machine/ClnOps.lean ====
section
/-! DEFINITION. Client interfaces and lanes: generations, faults, link state, loops (chapter 12). -/

namespace Sys2Proof.Machine

def State.cif (s : State) (c : Nat) : Cif := vecGet Cif.reset s.cln.cifs c
def State.lane (s : State) (l : Nat) : Lane := vecGet Lane.reset s.cln.lanes l
def modCif (c : Nat) (f : Cif → Cif) (s : State) : State := { s with cln := { s.cln with cifs := vecMod s.cln.cifs c f } }
def modLane (l : Nat) (f : Lane → Lane) (s : State) : State := { s with cln := { s.cln with lanes := vecMod s.cln.lanes l f } }

/-- The interface that uses a lane (R349). -/
def laneCif (l : Nat) (s : State) : Option Nat :=
  (List.range 32).find? (fun c => decide ((s.cif c).typ ≠ 0) && decide (c ≤ l) && decide (l < c + (s.cif c).lanes))

/-- The lane generation of a TYPE, rate and lane count; none where R350 has no such combination. -/
def generation (typ rate lanes : Nat) : Option Nat :=
  if typ = 1 ∨ typ = 2 then
    (([(0, 1, 1), (0, 2, 2), (0, 4, 3), (1, 1, 0), (1, 2, 1), (1, 4, 2), (2, 2, 0), (2, 4, 1), (2, 8, 2), (3, 4, 0), (3, 8, 1),
      (4, 8, 0)] : List (Nat × Nat × Nat)).find? (fun x => x.1 = rate && x.2.1 = lanes)).map (fun x => x.2.2)
  else if typ = 3 then (if rate = 0 ∧ lanes = 2 then some 5 else if rate = 0 ∧ lanes = 4 then some 4 else none)
  else if typ = 4 then
    (([(0, 4, 4), (1, 2, 5), (2, 4, 5), (3, 8, 5)] : List (Nat × Nat × Nat)).find? (fun x => x.1 = rate && x.2.1 = lanes)).map
      (fun x => x.2.2)
  else none

/-- The RS-FEC an Ethernet combination allows (R350). -/
def fecAllowed (typ rate lanes fec : Nat) : Bool :=
  decide (3 ≤ typ) || (if rate = 0 ∧ lanes = 4 then decide (fec ≤ 2) else decide (fec = 2))

/-- What synthesiser B must run at for an interface: 0 none; else its generation, FlexO lanes at a rate of their own
(R347, R348). -/
def synthKey (x : Cif) : Nat := if x.typ = 0 ∨ x.gen < 3 then 0 else 2 * x.gen + b2n (decide (x.typ = 4))
/-- The octets an interface touches (R348). -/
def octets (c lanes : Nat) : List Nat := (List.range 4).filter (fun q => decide (c < 8 * q + 8) && decide (8 * q < c + lanes))
/-- A new interface needs a second rate on synthesiser B (R348). -/
def synthClash (c : Nat) (x : Cif) (s : State) : Bool :=
  decide (synthKey x ≠ 0) && (List.range 32).any (fun d =>
    decide (d ≠ c) && decide (synthKey (s.cif d) ≠ 0) && decide (synthKey (s.cif d) ≠ synthKey x)
      && (octets c x.lanes).any (fun q => (octets d (s.cif d).lanes).contains q))

/-- 100G instances of a FlexO rate (R350, R352). -/
def flexoInstances (rate : Nat) : Nat := [1, 1, 2, 4].getD rate 0
/-- A FlexO member breaks its group: another FOIC type, a position taken, or more than 1.6 Tb/s (R352). -/
def flexoBad (c : Nat) (x : Cif) (s : State) : Bool :=
  let others := (List.range 32).filter (fun d => decide (d ≠ c) && decide ((s.cif d).typ = 4) && decide ((s.cif d).group = x.group))
  decide (x.typ = 4) && (others.any (fun d => decide ((s.cif d).rate ≠ x.rate) || decide ((s.cif d).position = x.position))
    || decide (16 < (others.length + 1) * flexoInstances x.rate))

/-- A lane is powered: an interface uses it and the datapaths are up (R349, R376). -/
def laneOn (l : Nat) (s : State) : Bool := s.cln.powered && (laneCif l s).isSome
/-- A lane is faulted (R355): a near-end loop supplies it with its own signal (R357). -/
def Lane.faulted (x : Lane) : Bool := (x.loop = 0 || decide (x.loop = 3)) && (!x.signal || !x.cdr || x.timedOut)
/-- A lane's loop or pattern takes its interface down (R357). -/
def Lane.diverted (x : Lane) : Bool := decide (x.loop = 3) || x.gen || x.check
/-- The faulted lanes of an interface as a mask (R378, R379). -/
def faultMask (c : Nat) (s : State) : Nat :=
  packBits ((List.range (s.cif c).lanes).map (fun i => (s.lane (c + i)).faulted))
def anyLane (c : Nat) (f : Lane → Bool) (s : State) : Bool := (List.range (s.cif c).lanes).any (fun i => f (s.lane (c + i)))

/-- CLN_CIF_CHANGED (R378). -/
def cifEvent (c cause : Nat) (s : State) : State :=
  emit 10 1 (leBytes 1 c ++ leBytes 1 (b2n (s.cif c).up) ++ leBytes 1 cause ++ leBytes 1 (faultMask c s)) s

/-- An interface goes down: event, ports, and the framer of an OTN client; only high errors (cause 5) leave it aligned
(R355, R356). -/
def cifDown (c cause : Nat) (s : State) : State :=
  let s1 := modCif c (fun x => { x with aligned := x.aligned && decide (cause = 5), hiErr := x.hiErr && decide (cause = 5) }) s
  if !(s.cif c).up then s1
  else pktRefresh (apsRefresh (cifEvent c cause (modCif c (fun x => { x with
    up := false, rxLf := false, rxRf := false, downCnt := sat32 x.downCnt 1 }) s1)))

/-- Lanes of an OTN interface that are faulted or diverted show loss of signal (R223, R355). -/
def cifLos (c : Nat) (s : State) : State :=
  if (s.unit (cifKey c)).otn = 0 then s
  else modUnit (cifKey c) (fun u => { u with los := anyLane c Lane.faulted s || anyLane c Lane.diverted s }) s

/-- The payload an OTN interface carries: 1 OTU4, 2 FlexO (R244). -/
def otnOf (typ : Nat) : Nat := if typ = 3 then 1 else if typ = 4 then 2 else 0

/-- The m of the OTUCm that a FlexO group carries: one slice per 100G instance (R213, R352). -/
def flexoWidth (c : Nat) (s : State) : Nat := (flexoMembers c s).length * flexoInstances (s.cif c).rate

/-- A configured interface matches what a plan entry maps from it (R247, R251, check 8): SUB 1 to 10m on a FlexO client (R248). -/
def cifFits (c kind container slotCount sub : Nat) (s : State) : Bool :=
  let x := s.cif c
  if kind = 1 then
    decide (x.typ = 2) && (if container = 3 then decide (x.rate = 0)
      else decide (slotCount = [0, 40, 80, 160, 320].getD x.rate 0) && decide (x.rate ≠ 0))
  else if kind = 2 then decide (x.typ = 3)
  else if kind = 3 then decide (x.typ = 4) && decide (sub ≤ 10 * flexoWidth c s)
  else true

/-- What R31 removes is removed at a unit's frame boundary outside MAINTENANCE, and at the first one after the device left it; the unit
is its scope × 256 and its number. -/
def tidyDue (unit : Nat) (s : State) : Bool := decide (s.dev.mode ≠ .maintenance) || s.dev.tidy.contains unit
/-- Open every loop and stop every pattern of an interface, or of a lane of no interface; an interface whose lanes turn out faulted
goes down (R31, R355 to R357). -/
def clearLoops (c : Nat) (s : State) : State :=
  let lanes := if (s.cif c).typ ≠ 0 then (List.range (s.cif c).lanes).map (fun i => c + i)
    else if (laneCif c s).isNone then [c] else []
  let s1 := modCif c (fun x => { x with loop := 0 }) (lanes.foldl (fun u l =>
    modLane l (fun x => { x with loop := 0, prbs := 0, gen := false, check := false }) u) s)
  if (s.cif c).typ = 0 then s1
  else
    let s2 := cifLos c s1
    if anyLane c Lane.faulted s2 then cifDown c 6 s2 else s2

/-- A frame boundary of an interface: loops and patterns are removed after MAINTENANCE, and in QUIESCE its ingress stops
admitting (R31, R341). -/
def clnCifBoundary (c : Nat) (s : State) : State :=
  let s1 := if tidyDue (512 + c) s then clearLoops c s else s
  if s.dev.mode = .quiesce then modPort (256 + c) (fun x => { x with stopped := true }) s1 else s1

/-- The lanes of an interface start without signal when it is configured or powered; a SyncE output that follows a lane whose clock
goes is squelched (R104, R353, R376). -/
def startLanes (c : Nat) (s : State) : State :=
  (List.range (s.cif c).lanes).foldl (fun u i =>
    let v := modLane (c + i) (fun x => { x with
      signal := false, cdr := false, trained := false, timedOut := false, inForce := x.taps, loop := 0, prbs := 0, gen := false, check := false
      pcsLane := 0 }) u
    if (u.lane (c + i)).cdr then synceSquelch (c + i) v else v) s

/-- Power-up and power-down of the client lanes (R376). -/
def clnUp (s : State) : State :=
  let s1 := { s with cln := { s.cln with powered := true } }
  (List.range 32).foldl (fun u c =>
    if (u.cif c).typ = 0 then u
    else
      let v := startLanes c u
      if otnOf (v.cif c).typ = 0 then v else cifFramerUp true c (otnOf (v.cif c).typ) true v) s1
def clnDown (s : State) : State :=
  let s1 := (List.range 32).foldl (fun u c => startLanes c (clearLoops c (cifDown c 0 u))) s
  { s1 with cln := { s1.cln with
    powered := false
    cifs := vecMap (fun _ x => { x with aligned := false, hiErr := false }) s1.cln.cifs } }

end Sys2Proof.Machine
end

