-- ==== Sys2Proof/Machine/PlkOps.lean ====
section
/-! DEFINITION. The peer link: lanes, stripe, capacity and shedding, transfer, blocks (chapter 12). -/

namespace Sys2Proof.Machine

/-- Taps as a lane command carries them from byte 2, and their checks (R354). -/
def tapsOf (b : List Byte) : Taps := ⟨s8 b 2, s8 b 3, s8 b 4, s8 b 5, s8 b 6⟩
def tapChecks (b : List Byte) : List Check :=
  let t := tapsOf b
  let side := fun (v : Int) => decide (v < -24) || decide (24 < v)
  [badParam 2 (side t.c3), badParam 3 (side t.c2), badParam 4 (side t.c1), badParam 5 (decide (t.c0 < 32) || decide (64 < t.c0)),
    badParam 6 (side t.p1),
    badParam 2 (decide (64 < t.c3.natAbs + t.c2.natAbs + t.c1.natAbs + t.c0.natAbs + t.p1.natAbs))]

def State.peerLane (s : State) (l : Nat) : PeerLane := vecGet PeerLane.reset s.plk.lanes l
def modPeer (l : Nat) (f : PeerLane → PeerLane) (s : State) : State := { s with plk := { s.plk with lanes := vecMod s.plk.lanes l f } }

/-- A mask of the 16 lanes that satisfy a test. -/
def laneMask (f : PeerLane → Bool) (p : Plk) : Nat := packBits ((List.range 16).map (fun l => f (vecGet PeerLane.reset p.lanes l)))
/-- Lanes set in a mask. -/
def laneCount (v : Half) : Nat := ((List.range 16).filter (fun l => v.getLsbD l)).length

/-- PLK_STATUS.STATE (R373, R380). -/
def PlkLink.code : PlkLink → Nat
  | .off => 0 | .acquire => 1 | .deskew => 2 | .hello => 3 | .up => 4

/-! ### Transfer (R257, R367 to R370) -/

/-- Transfer capacity in slots (R369). -/
def plkCapacity (n : Nat) : Nat := n * 190000 / 5241
/-- The working TRIB of a cross-device entry, and this device owns the group. -/
def peerGroup (t : Nat) (x : PlanEntry) : Nat := if x.protection then x.partner else t
/-- The cross-device entries of the plan in force, as working TRIB and entry, in ascending order (R368). -/
def peerEntries (s : State) : List (Nat × (Nat × PlanEntry)) :=
  ((s.map.plan.filter (fun x => x.2.peer)).foldl (fun t x => tabInsert t (peerGroup x.1 x.2) x) ([] : Tab (Nat × PlanEntry)))
/-- Transfer demand in slots (R369). -/
def plkDemand (s : State) : Nat := (s.map.plan.filter (fun x => x.2.peer)).foldl (fun n x => n + x.2.slotCount) 0

/-- Groups in ascending order while they fit; the rest are shed (R369). -/
def shedBeyond (cap : Nat) : Nat → List (Nat × (Nat × PlanEntry)) → List Nat
  | _, [] => []
  | used, x :: xs =>
    if used + x.2.2.slotCount ≤ cap then shedBeyond cap (used + x.2.2.slotCount) xs else (x :: xs).map (fun y => y.1)

/-- Transfer runs (R368, R371, R375). -/
def xferRuns (s : State) : Bool :=
  decide (s.plk.state = .up) && s.plk.xferEn && s.plk.peerXfer && decide (s.plk.loop = 0) && !s.plk.loopedFar
/-- The peer link is configured for tributary transfer (R251, check 7; R368). -/
def peerTransferReady (s : State) : Bool := s.plk.en && s.plk.xferEn

/-- Shedding follows the capacity of the transmit STRIPE while the link is powered, whether transfer runs or not (R369, R378). -/
def plkShed (s : State) : State :=
  let cap := plkCapacity (laneCount s.plk.txStripe)
  let shed := if s.plk.powered then shedBeyond cap 0 (peerEntries s) else []
  if shed = s.plk.shed then s
  else
    let slots := ((peerEntries s).filter (fun x => shed.contains x.1)).foldl (fun n x => n + x.2.2.slotCount) 0
    emit 11 3 (leBytes 2 slots ++ leBytes 2 shed.length ++ leBytes 2 (plkDemand s) ++ leBytes 2 cap)
      { s with plk := { s.plk with shed := shed } }

/-- What the peer link tells protection: SF and SD of an owned group's protection path, and at 0x100 + TRIB the loss of
the peer path of a protection tributary sent for the other device (R255, R257, R369, R370). -/
def peerReport (s : State) : Tab Nat :=
  (s.map.plan.filter (fun x => x.2.peer)).foldl (fun t x =>
    let w := peerGroup x.1 x.2
    let lost := !xferRuns s || s.plk.shed.contains w
    if x.2.protection then tabSet 0 t (0x100 + x.1) (b2n lost)
    else
      tabSet 0 t w (if lost then 1 else
        match s.plk.apsRx.find? (fun e => e.1 = w) with
        | some e => e.2.toNat % 4
        | none => 1)) []

/-- APS entries that differ from what was last sent are due (R370). -/
def apsBits (t : Nat) (s : State) : Nat := b2n (pathSf t s) + 2 * b2n (sdRequest t s)
def apsOwed (s : State) : List (Nat × Nat) :=
  ((peerEntries s).filter (fun x => x.2.2.protection)).map (fun x => (x.1, apsBits x.2.1 s))
def plkApsDue (s : State) : State :=
  let changed := (apsOwed s).filter (fun x => (s.plk.apsSent.find? (fun e => e.1 = x.1)).map (fun e => e.2) ≠ some x.2)
  { s with plk := { s.plk with apsDue := s.plk.apsDue ++ (changed.map (fun x => x.1)).filter (fun w => !s.plk.apsDue.contains w) } }

/-- Everything that follows the peer link: shedding, protection requests, APS entries. -/
def plkRefresh (s : State) : State :=
  let s1 := plkShed s
  plkApsDue (apsRefresh { s1 with map := { s1.map with peerReq := peerReport s1 } })

/-! ### Link state (R372, R373) -/

/-- Move the link to a state (R378). -/
def setPlk (st : PlkLink) (cause : Nat) (s : State) : State :=
  if s.plk.state = st then s
  else plkRefresh (emit 11 1 (leBytes 1 s.plk.state.code ++ leBytes 1 st.code ++ leBytes 1 cause) { s with plk := { s.plk with state := st } })

/-- The local ALIVE mask (R374). -/
def localAlive (p : Plk) : Half := BitVec.ofNat 16 (laneMask (fun x => x.alive) p)
/-- The STRIPE to transmit (R374). -/
def stripeNow (p : Plk) : Half := localAlive p &&& p.remoteAlive &&& p.mask

/-- Bring-up and loss as far as the lanes decide them (R372, R373). -/
def plkProgress (s : State) : State :=
  let p := s.plk
  let locked := decide (laneMask (fun x => x.mkrLock) p ≠ 0)
  match p.state with
  | .off => s
  | .acquire =>
    if (List.range 16).any (fun l => p.mask.getLsbD l && (s.peerLane l).mkrLock && (s.peerLane l).dfe) then setPlk .deskew 0 s else s
  | .deskew =>
    if !locked then setPlk .acquire 3 s
    else if p.txStripe ≠ 0 ∧ p.rxStripe = p.txStripe then setPlk .hello 0 s else s
  | .hello => if !locked then setPlk .acquire 3 s else s
  | .up =>
    if !locked then setPlk .acquire 3 s
    else if laneCount p.txStripe < p.minLanes then setPlk .hello 2 s else s

/-- PLK_LANES_CHANGED (R378). -/
def lanesEvent (s : State) : State :=
  emit 11 2 (leBytes 2 (localAlive s.plk).toNat ++ leBytes 2 s.plk.remoteAlive.toNat ++ leBytes 2 s.plk.txStripe.toNat
    ++ leBytes 2 (plkCapacity (laneCount s.plk.txStripe))) s

/-- A lane is marked not alive; it then needs 64 good markers (R374). -/
def markDead (x : PeerLane) : PeerLane := { x with alive := false, readmit := x.readmit || x.alive, goodRun := 0 }

/-- The marker words of a lane (R362). -/
def markerA (lane : Nat) (alive : Half) : Long :=
  BitVec.ofNat 64 (0xC69A3B5E * 2 ^ 32 + lane * 2 ^ 28 + 2 ^ 24 + alive.toNat * 2 ^ 8 + 0xA5)
/-- MCRC over word A and word B [63:16] (R362). -/
def markerCrc (a : Long) (high : Nat) : Nat := crc16 (beBytes 8 a.toNat ++ beBytes 6 (high / 2 ^ 16))
def markerB (lane : Nat) (alive stripe : Half) (count : Nat) : Long :=
  let high := stripe.toNat * 2 ^ 48 + 0xA5 * 2 ^ 40 + (count % 2 ^ 24) * 2 ^ 16
  BitVec.ofNat 64 (high + markerCrc (markerA lane alive) high)

/-- A marker's fields (R362). -/
def markerAlive (m : MarkerIn) : Half := BitVec.ofNat 16 (bits m.a.toNat 23 8)
def markerStripe (m : MarkerIn) : Half := BitVec.ofNat 16 (bits m.b.toNat 63 48)
def markerCount (m : MarkerIn) : Nat := bits m.b.toNat 39 16
/-- SYNC, a valid MCRC and the lane's own number (R363). -/
def markerValid (lane : Nat) (m : MarkerIn) : Bool :=
  decide (bits m.a.toNat 63 32 = 0xC69A3B5E) && decide (bits m.a.toNat 31 28 = lane)
    && decide (markerCrc m.a m.b.toNat = bits m.b.toNat 15 0)
/-- The symbols of a marker period, and of the skew that deskew tolerates: 64 ns (R361, R364). -/
def periodSymbols : Nat := 540672
def skewSymbols : Nat := 6800
/-- Symbols behind the earliest lane's marker of the same COUNT (R364). -/
def behind (m : MarkerIn) (firsts : List (Nat × Nat)) : Nat :=
  match firsts.find? (fun x => x.1 = markerCount m) with
  | some x => m.symbol - x.2
  | none => 0
/-- The earliest markers of the two latest COUNTs (R364). -/
def noteFirst (m : MarkerIn) (firsts : List (Nat × Nat)) : List (Nat × Nat) :=
  if firsts.any (fun x => decide (x.1 = markerCount m)) then firsts.map (fun x => if x.1 = markerCount m then (x.1, min x.2 m.symbol) else x)
  else (markerCount m, m.symbol) :: firsts.take 1

/-- What a lane finds where it seeks or expects a marker; `late` says that it stands more than 64 ns behind the earliest lane (R363,
R364, R374). A locked lane looks only one period after the marker before. -/
def markerStep (lane : Nat) (late : Bool) (m : MarkerIn) (x : PeerLane) : PeerLane :=
  let valid := markerValid lane m
  let due := decide (m.symbol = x.foundAt + periodSymbols)
  if !x.mkrLock then
    if valid && x.found && due then
      { x with mkrLock := true, foundAt := m.symbol, errRun := 0, goodRun := 1, deskewed := !late, alive := !late && !x.readmit }
    else if valid then { x with found := true, foundAt := m.symbol } else x
  else if !due then x
  else if valid then
    if late then markDead { x with errRun := 0, deskewed := false, foundAt := m.symbol }
    else
      let n := min 64 (x.goodRun + 1)
      let ok := !x.readmit || decide (64 ≤ n)
      { x with
        errRun := 0, deskewed := true, goodRun := n, alive := x.alive || ok, readmit := x.readmit && !ok, foundAt := m.symbol }
  else
    let n := x.errRun + 1
    let y := { x with errRun := n, goodRun := 0, mkrErr := sat32 x.mkrErr 1, foundAt := m.symbol }
    if 8 ≤ n then { markDead y with mkrLock := false, found := false, deskewed := false, errRun := 0 }
    else if 3 ≤ n then markDead y else y

/-- The link starts or stops with PLK_CFG.EN and the datapaths (R372, R376). -/
def plkReset (p : Plk) : Plk :=
  { p with
    lanes := vecMap (fun _ x => { PeerLane.reset with taps := x.taps, txInv := x.txInv, rxInv := x.rxInv, rxFreeze := x.rxFreeze
                                                      held := x.held, mkrErr := x.mkrErr, stuff := x.stuff
                                                      txReg := x.txReg, rxReg := x.rxReg, sent := x.sent }) p.lanes
    txRow := 0, rxRow := 0
    remoteAlive := 0, txStripe := 0, rxStripe := 0, rxFrom := none, firsts := [], loopedFar := false, helloReady := false
    peerXfer := false, apsRx := [], apsDue := [], apsSent := [], txSeq := [], rxSeq := [], credit := [], framePos := []
    rxBytes := [], rxFrames := [], aliveMirror := 0, stripeMirror := 0, xferMirror := 0 }
/-- The link goes to a state with nothing locked; a STRIPE that ends is a change of it (R372, R374). -/
def plkAnew (st : PlkLink) (cause : Nat) (s : State) : State :=
  let s1 := setPlk st cause { s with plk := { plkReset s.plk with creditAt := s.tim.now, rxSince := s.tim.now } }
  if s.plk.txStripe = 0 then s1 else lanesEvent s1
def plkStart (cause : Nat) (s : State) : State :=
  if s.plk.powered && s.plk.en && decide (s.plk.state = .off) then plkAnew .acquire cause s else s
def plkStop (cause : Nat) (s : State) : State := plkRefresh (plkAnew .off cause s)
def plkUp (s : State) : State := plkRefresh (plkStart 5 { s with plk := { s.plk with powered := true } })
def plkDown (s : State) : State :=
  let s1 := plkStop 5 s
  plkRefresh { s1 with plk := { s1.plk with powered := false, loop := 0 } }

/-- A loop is closed or opened on all lanes; any loop ends transfer, and a near-end serial loop, closed or opened, changes what the
receivers hear: the link is brought up anew (R372, R375). -/
def plkSetLoop (n : Nat) (s : State) : State :=
  let s1 := { s with plk := { s.plk with loop := n } }
  if s.plk.powered && s.plk.en && decide (n ≠ s.plk.loop ∧ (n = 1 ∨ s.plk.loop = 1)) then plkRefresh (plkAnew .acquire 4 s1)
  else plkRefresh (if n ≠ 0 ∧ s.plk.state = .up then setPlk .hello 4 s1 else s1)

/-! ### Blocks (R366, R367) -/

/-- The 128 bytes of a block, and the next SEQ of its TYPE and CHAN (R366). -/
def blockBytes (typ fs chan len seq : Nat) (payload : List Byte) : List Byte :=
  let head := beBytes 6 (typ * 2 ^ 44 + fs * 2 ^ 40 + chan * 2 ^ 32 + len * 2 ^ 24 + seq)
  let body := bytesAt 0 120 payload
  head ++ beBytes 2 (crc16 (head ++ body)) ++ body
/-- The 16 words of a block, and the bytes of words, the most significant byte first (R5, R366). -/
def blockWords (b : List Byte) : List Long := (List.range 16).map (fun i => BitVec.ofNat 64 (beNat (bytesAt (8 * i) 8 b)))
def wordsBytes (ws : List Long) : List Byte := ws.flatMap (fun w => beBytes 8 w.toNat)

/-- The lanes of a STRIPE in ascending order (R365). -/
def stripeLanes (v : Half) : List Nat := (List.range 16).filter (fun l => v.getLsbD l)
/-- A lane sends a data word, scrambled, and stuffs its symbols (R359, R360). -/
def PeerLane.send (w : Long) (x : PeerLane) : PeerLane :=
  let r := laneScramble x.txReg (wordBits w)
  let symbols := laneLevels r.2
  let run := stuffAfter x.runLevel x.runLength symbols
  { x with
    txReg := r.1, sent := bitsWord r.2, runLevel := run.1, runLength := run.2
    stuffNow := x.stuffNow + ((stuffSymbols x.runLevel x.runLength symbols).length - symbols.length) }
/-- A marker period starts on a lane: its marker words go out, the symbols stuffed in the period before are counted, and the run starts
at zero (R360 to R362). -/
def PeerLane.mark (lane : Nat) (alive stripe : Half) (count : Nat) (x : PeerLane) : PeerLane :=
  { x with
    markA := markerA lane alive, markB := markerB lane alive stripe count
    stuff := sat32 x.stuff x.stuffNow, stuffNow := 0, runLevel := 0, runLength := 0 }
/-- A lane receives a scrambled word (R359): the lane, and the data word. -/
def PeerLane.receive (w : Long) (x : PeerLane) : PeerLane × Long :=
  let r := laneDescramble x.rxReg (wordBits w)
  ({ x with rxReg := r.1 }, bitsWord r.2)
/-- The permitted lanes outside STRIPE send a zero word: every permitted lane before a STRIPE is agreed (R365, R372). -/
def sendZeros (p : Plk) : Plk :=
  { p with lanes := vecMap (fun l x => if p.mask.getLsbD l && !p.txStripe.getLsbD l then x.send 0 else x) p.lanes }
/-- The next word of the stream goes to the next lane of the row; with a row full, the lanes outside STRIPE have sent a zero word
(R359, R365). -/
def sendWord (p : Plk) (w : Long) : Plk :=
  let ls := stripeLanes p.txStripe
  let p1 := { p with lanes := vecMod p.lanes (ls.getD p.txRow 16) (PeerLane.send w), txRow := p.txRow + 1 }
  if ls.length ≤ p1.txRow then sendZeros { p1 with txRow := 0 } else p1
/-- A lane outside the received STRIPE has received the zero word of a row: its register advances as the far scrambler's does (R359,
R365). -/
def PeerLane.receiveZero (x : PeerLane) : PeerLane := { x with rxReg := (laneScramble x.rxReg (wordBits 0)).1 }
def receiveZeros (p : Plk) : Plk :=
  { p with lanes := vecMap (fun l x => if p.rxStripe.getLsbD l then x else x.receiveZero) p.lanes }
/-- The next word of the received stream is descrambled by the next lane of its row (R359, R365). -/
def receiveWord (a : Plk × List Long) (w : Long) : Plk × List Long :=
  let ls := stripeLanes a.1.rxStripe
  let l := ls.getD a.1.rxRow 16
  let r := (vecGet PeerLane.reset a.1.lanes l).receive w
  let p := { a.1 with lanes := vecMod a.1.lanes l (fun _ => r.1), rxRow := a.1.rxRow + 1 }
  (if ls.length ≤ p.rxRow then receiveZeros { p with rxRow := 0 } else p, a.2 ++ [r.2])
/-- The words of a received block pass the descramblers of their lanes (R359, R365). -/
def receiveWords (ws : List Long) (s : State) : State :=
  let r := ws.foldl receiveWord (s.plk, [])
  { s with plk := { r.1 with rxBlock := wordsBytes r.2 } }

/-! ### Received blocks (R366, R367, R370, R371) -/

/-- The fields of a block's header (R366). -/
def blockType (b : List Byte) : Nat := u8 b 0 / 16
def blockChan (b : List Byte) : Nat := u8 b 1
def blockLen (b : List Byte) : Nat := u8 b 2
def blockSeq (b : List Byte) : Nat := beNat (bytesAt 4 2 b)
/-- BCRC over header bits [63:16] and the payload is right (R366). -/
def blockRight (b : List Byte) : Bool := decide (crc16 (bytesAt 0 6 b ++ bytesAt 8 120 b) = beNat (bytesAt 6 2 b))

/-- FLAGS.FS of a block's header (R366). -/
def blockFs (b : List Byte) : Bool := bit (u8 b 0) 0
/-- The first byte of the APS/PCC field in an ODU frame, row 4, columns 5 to 8. PRESUMED: G.709's place, and its MFAS in byte 7 (log 51). -/
def pccPlace : Nat := 3 * 3824 + 4
/-- Bytes of an ODU arrive: the APS/PCC field is taken from the frames at the multiframe position for the ODU path (R261, R366). -/
def PeerFrame.take (fs : Bool) (data : List Byte) (f : PeerFrame) : PeerFrame :=
  match (if fs then some 0 else f.pos) with
  | Option.none => f
  | some q =>
    let odu := if q ≤ 6 ∧ 6 < q + data.length then decide (u8 data (6 - q) % 8 = 0) else f.odu
    let part := (if q ≤ pccPlace then [] else f.part) ++ (data.drop (pccPlace - q)).take (pccPlace + 4 - max q pccPlace)
    ⟨some ((q + data.length) % 15296), odu, part, if odu ∧ part.length = 4 then part else f.pcc⟩
/-- A TRIB block: a gap in SEQ is counted, and its bytes go to its channel; after a gap the next frame start is waited for (R366,
R367). -/
def takeTrib (b : List Byte) (s : State) : State :=
  let chan := blockChan b
  let gap := match s.plk.rxSeq.find? (fun e => e.1 = chan) with
    | some e => decide (e.2 ≠ blockSeq b)
    | none => false
  { s with plk := { s.plk with
    blkLost := sat32 s.plk.blkLost (b2n gap)
    rxSeq := tabInsert s.plk.rxSeq chan ((blockSeq b + 1) % 65536)
    rxBytes := tabInsert s.plk.rxBytes chan (tabGet 0 s.plk.rxBytes chan + min 120 (blockLen b))
    rxFrames := tabInsert s.plk.rxFrames chan
      (let f := tabGet PeerFrame.none s.plk.rxFrames chan
       (if gap then { f with pos := Option.none } else f).take (blockFs b) ((b.drop 8).take (blockLen b))) } }
/-- The ODU rate of a channel as its bytes give it since the link started, in bit/s (R367). -/
def recoveredRate (chan : Nat) (s : State) : Nat :=
  8 * tabGet 0 s.plk.rxBytes chan * 10 ^ 12 / (s.tim.now - s.plk.rxSince)
/-- An APS block: SF and SD of the groups it names (R370). -/
def takeAps (b : List Byte) (s : State) : State :=
  plkRefresh { s with plk := { s.plk with
    apsRx := (List.range (min 30 (blockLen b / 4))).foldl (fun t i =>
      tabInsert t (beNat (bytesAt (8 + 4 * i) 2 b)) (BitVec.ofNat 8 (u8 b (10 + 4 * i)) &&& 3)) s.plk.apsRx } }
/-- A HELLO block: the device's own serial means a loop at the far end; another's brings the link up (R371 to R373). -/
def takeHello (b : List Byte) (s : State) : State :=
  let serial := BitVec.ofNat 64 (beNat (bytesAt 8 8 b))
  if serial = s.dev.serial then
    let s1 := { s with plk := { s.plk with loopedFar := true } }
    if s.plk.state = .up then setPlk .hello 4 s1 else plkRefresh s1
  else
    let s1 := { s with plk := { s.plk with
      loopedFar := false, peerSerial := serial, peerXfer := bit (u8 b 17) 0, peerDemand := beNat (bytesAt 18 2 b) } }
    if s1.plk.state = .hello ∧ u8 b 16 = 1 ∧ s1.plk.minLanes ≤ laneCount s1.plk.txStripe then setPlk .up 0 s1 else plkRefresh s1
/-- The receive block layer takes a block: one with a wrong BCRC or of a reserved TYPE is discarded and counted (R366). -/
def takeBlock (b : List Byte) (s : State) : State :=
  if !blockRight b then { s with plk := { s.plk with blkCrc := sat32 s.plk.blkCrc 1 } }
  else match blockType b with
    | 0 => s
    | 1 => takeTrib b s
    | 2 => takeAps b s
    | 3 => takeHello b s
    | _ => { s with plk := { s.plk with blkBad := sat32 s.plk.blkBad 1 } }
/-- A block comes from the lanes; with the near-end parallel loop closed the block layer hears its own transmitter instead (R359,
R375). -/
def receiveBlock (ws : List Long) (s : State) : State :=
  let u := receiveWords ws s
  if s.plk.powered && s.plk.en then (if s.plk.loop = 2 then u else takeBlock u.plk.rxBlock u) else s

/-- A block is formed and sent over the lanes (R359, R365, R366), or straight into the receive block layer (R375). -/
def sendBlock (typ fs chan : Nat) (payload : List Byte) (s : State) : State :=
  let k := typ * 256 + chan
  let seq := tabGet 0 s.plk.txSeq k
  let b := blockBytes typ fs chan payload.length seq payload
  let s1 := { s with plk := { (blockWords b).foldl sendWord s.plk with
    lastBlock := b
    txSeq := tabSet 0 s.plk.txSeq k ((seq + 1) % 65536) } }
  if s.plk.loop = 2 then takeBlock b { s1 with plk := { s1.plk with rxBlock := b } } else s1

/-- Channels whose transfer runs (R368, R369). -/
def xferChannels (s : State) : List (Nat × PlanEntry) :=
  if xferRuns s then ((peerEntries s).filter (fun x => !s.plk.shed.contains x.1)).map (fun x => (x.1, x.2.2)) else []
/-- Credit accrues at the ODU rate of the channel, 122,368 bits a frame period, in units of 10⁻⁶ bit (R271, R367). -/
def accrue (s : State) : State :=
  let dt := s.tim.now - s.plk.creditAt
  { s with plk := { s.plk with
    creditAt := s.tim.now
    credit := (xferChannels s).map (fun x => (x.1, tabGet 0 s.plk.credit x.1
      + (dt * (122368 * 10 ^ 6) / framePeriod x.2.container x.2.slotCount : Nat))) } }

/-- The bytes of a channel that one block takes: at most 120, and none of the next ODU frame, which starts a block of its own (R366,
R367). -/
def blockTake (b : TribBlock) (p : Plk) : Nat :=
  let room := if b.start then 15296 else match p.framePos.find? (fun x => x.1 = b.chan) with
    | some x => 15296 - x.2
    | none => 15296
  min 120 (min room b.data.length)
/-- The block starts an ODU frame (R366). -/
def blockStarts (b : TribBlock) (p : Plk) : Bool :=
  b.start || ((p.framePos.find? (fun x => x.1 = b.chan)).map (fun x => decide (x.2 = 0))).getD false
/-- A TRIB block goes out: its credit is spent, and the place in its frame moves on (R367). -/
def sendTrib (b : TribBlock) (s : State) : State :=
  let n := blockTake b s.plk
  let pos := if b.start then some 0 else (s.plk.framePos.find? (fun x => x.1 = b.chan)).map (fun x => x.2)
  let s1 := sendBlock 1 (b2n (blockStarts b s.plk)) b.chan (b.data.take n) s
  { s1 with plk := { s1.plk with
    credit := s1.plk.credit.map (fun x => if x.1 = b.chan then (x.1, x.2 - (8000000 * n : Nat)) else x)
    framePos := match pos with
      | some q => tabInsert s1.plk.framePos b.chan ((q + n) % 15296)
      | none => s1.plk.framePos } }

/-! ### The mirrors of PLK_ALIVE, PLK_STRIPE and PLK_XFER (R380) -/

/-- A marker updates the three words whole. -/
def plkMirror (s : State) : State :=
  { s with plk := { s.plk with
    aliveMirror := (localAlive s.plk).toNat + 65536 * s.plk.remoteAlive.toNat
    stripeMirror := s.plk.txStripe.toNat + 65536 * s.plk.rxStripe.toNat
    xferMirror := plkDemand s % 1024 + 65536 * plkCapacity (laneCount s.plk.txStripe) } }

end Sys2Proof.Machine
end

