-- ==== Sys2Proof/Machine/ClientLanes.lean ====
section
/-! DEFINITION. The meanings of group 0x0A: client interfaces and lanes (chapter 12). -/

namespace Sys2Proof.Machine

/-- A lane of an interface faults: the interface goes down, SyncE is squelched (R104, R355). -/
def laneFaults (l cause : Nat) (s : State) : State :=
  let s1 := synceSquelch l s
  match laneCif l s1 with
  | some c => cifDown c cause (cifLos c s1)
  | none => s1

/-- CLN_LANE_FAULT (R355, R378). -/
def execClnLaneFault (lane : Fin 32) (signalLost : Bool) (s : State) : Host.Outcome State Fault Refusal :=
  if !laneOn lane.val s then .next s
  else .next (laneFaults lane.val (if signalLost then 1 else 2) (modLane lane.val (fun x => { x with
    signal := x.signal && !signalLost, cdr := false, trained := false }) s))

/-- CLN_TRAINING_TIMEOUT: only a lane with TRAIN set that has not trained (R355). -/
def execClnTrainingTimeout (lane : Fin 32) (s : State) : Host.Outcome State Fault Refusal :=
  let x := s.lane lane.val
  if laneOn lane.val s = false ∨ x.train = false ∨ x.trained = true then .next s
  else
    let s1 := modLane lane.val (fun y => { y with timedOut := true }) s
    match laneCif lane.val s1 with
    | some c => .next (cifDown c 3 (cifLos c s1))
    | none => .next s1

/-- Training ends: the taps it chose replace those set; which they are is open, so they are free (R354). -/
def trainLane (l : Nat) (s : State) : State :=
  if (s.lane l).train && !(s.lane l).trained then
    let f := takeFree s
    let tap := Config.trainedTap f.1
    modLane l (fun x => { x with trained := true, inForce := ⟨tap 0, tap 1, tap 2, tap 3, tap 4⟩ }) f.2
  else s
/-- CLN_LANE_CLEAN: the lane has signal and CDR lock, trained where TRAIN is set; raw dLOS ends with the last fault (R223, R354,
R355). -/
def execClnLaneClean (lane : Fin 32) (s : State) : Host.Outcome State Fault Refusal :=
  if !laneOn lane.val s then .next s
  else
    let s1 := modLane lane.val (fun x => { x with signal := true, cdr := true, timedOut := false }) (trainLane lane.val s)
    .next (match laneCif lane.val s1 with
      | some c => cifLos c s1
      | none => s1)

/-- CLN_CIF_UP: every lane is clean and the interface has realigned (R355, R356). -/
def execClnCifUp (cif : Fin 32) (pcsLanes : List Nat) (s : State) : Host.Outcome State Fault Refusal :=
  let c := cif.val
  let x := s.cif c
  if s.cln.powered = false ∨ x.typ = 0 ∨ x.up = true ∨ anyLane c Lane.faulted s = true ∨ anyLane c Lane.diverted s = true then .next s
  else
    let s1 := (List.range x.lanes).foldl (fun u i => modLane (c + i) (fun y => { y with pcsLane := pcsLanes.getD i 0 % 32 }) u) s
    let s2 := cifEvent c 0 (modCif c (fun y => { y with up := true, aligned := true, hiErr := false }) s1)
    let s3 := if otnOf x.typ = 0 then s2 else cifFramerUp false c (otnOf x.typ) false s2
    .next (pktRefresh (apsRefresh s3))

/-- PCS_ALIGNMENT_LOST: the lanes stay clean, the interface goes down; an OTN framer has lost alignment (R356). -/
def execPcsAlignmentLost (cif : Fin 32) (cause : AlignLoss) (s : State) : Host.Outcome State Fault Refusal :=
  let c := cif.val
  if !(s.cif c).up then .next s
  else
    let high := decide (cause = .highErrors)
    let s1 := modCif c (fun x => { x with aligned := x.aligned && high, hiErr := high }) s
    let s2 := if otnOf (s.cif c).typ = 0 then s1 else modUnit (cifKey c) (fun u => u.restart (u.otn - 1)) s1
    .next (cifDown c (if high then 5 else 4) s2)

/-- LOCAL_FAULT_RECEIVED: fault signalling of an Ethernet interface (R351, R379). -/
def execLocalFaultReceived (cif : Fin 32) (localFault remoteFault : Bool) (s : State) : Host.Outcome State Fault Refusal :=
  let x := s.cif cif.val
  if x.up = false ∨ 3 ≤ x.typ then .next s
  else .next (modCif cif.val (fun y => { y with rxLf := localFault, rxRf := remoteFault }) s)

/-- An Ethernet interface answers received Local Fault with Remote Fault (R351). -/
def Cif.sendsRemoteFault (x : Cif) : Bool := decide (x.typ = 1 ∨ x.typ = 2) && x.up && x.rxLf

/-- The counters of an interface outlive its configuration (R379). -/
def keepCounts (y x : Cif) : Cif :=
  { x with downCnt := y.downCnt, fecCorr := y.fecCorr, fecUncorr := y.fecUncorr, fecSym := y.fecSym, pcsErr := y.pcsErr }

/-- CLN_CIF_SET removes an interface: down, its port gone, its lanes off (R353). -/
def cifRemove (c : Nat) (s : State) : State :=
  let s1 := startLanes c (cifDown c 0 s)
  let s2 := modCif c (fun x => keepCounts x Cif.reset) s1
  pktRefresh (if otnOf (s.cif c).typ = 0 then apsRefresh s2 else cifFramerDown c s2)

/-- CLN_CIF_SET configures an interface, which starts from link down (R353). -/
def cifConfigure (c : Nat) (x : Cif) (s : State) : State :=
  let s1 := startLanes c (modCif c (fun y => keepCounts y x) s)
  let s2 := if otnOf x.typ = 0 then s1
    else if s.cln.powered then cifFramerUp false c (otnOf x.typ) true s1
    else modUnit (cifKey c) (fun u => { u with otn := otnOf x.typ, los := true }) s1
  pktRefresh (apsRefresh s2)

/-- CLN_CIF_SET (R348 to R353, R377). -/
def replyClnCifSet (p : Packet) (s : State) : Reply :=
  let b := p.params
  let c := u8 b 0
  let n := u8 b 1
  let typ := u8 b 2
  let gen := generation typ (u8 b 3) n
  let x : Cif := { Cif.reset with lanes := n, typ := typ, rate := u8 b 3, fec := if typ ≤ 2 then u8 b 4 else 0, gen := gen.getD 0
                                  group := if typ = 4 then u8 b 5 else 0, position := if typ = 4 then u8 b 6 else 0 }
  let busy := cifNamed c s || decide ((s.cif c).loop ≠ 0) || anyLane c (fun l => decide (l.loop ≠ 0) || l.gen || l.check) s
  checked s [badParam 0 (decide (31 < c)), badParam 1 (typ ≠ 0 && n ≠ 1 && n ≠ 2 && n ≠ 4 && decide (n ≠ 8)),
      badParam 0 (typ ≠ 0 && decide (c % n ≠ 0)), badParam 2 (decide (4 < typ)), badParam 3 (decide (4 < u8 b 3)),
      badParam 4 (decide (2 < u8 b 4)), badParam 5 (decide (15 < u8 b 5)), badParam 6 (decide (15 < u8 b 6)), failIf .badState busy]
    (if typ = 0 then .ok (cifRemove c s)
    else
      checked s
        [badParam 3 gen.isNone,
          badParam 4 (!fecAllowed typ (u8 b 3) n (u8 b 4)), badParam 6 (flexoBad c x s), failIf .badState ((List.range n).any (fun i => (laneCif (c + i) s).isSome)),
          failIf .noResource (synthClash c x s)]
        (.ok (cifConfigure c x s)))
def execClnCifSet (p : Packet) (s : State) : Host.Outcome State Fault Refusal :=
  .next (runCommand (modCmd 0x0A01 8) replyClnCifSet p s)

/-- CLN_LANE_SET (R354, R377). -/
def replyClnLaneSet (p : Packet) (s : State) : Reply :=
  let b := p.params
  let l := u8 b 0
  let f := u8 b 1
  let gen := (laneCif l s).map (fun c => (s.cif c).gen)
  checked s ([badParam 0 (decide (31 < l)), badParam 1 (decide (15 < f)),
      badParam 1 (bit f 2 && !(decide (gen = some 0) || decide (gen = some 1)))] ++ tapChecks b ++ [reservedBytes b 7 1])
    (.ok (modLane l (fun x => { x with
      taps := tapsOf b, inForce := if x.trained && bit f 2 then x.inForce else tapsOf b
      held := if x.rxFreeze && bit f 3 then x.held else none, txInv := bit f 0, rxInv := bit f 1, train := bit f 2, rxFreeze := bit f 3
      trained := x.trained && bit f 2, timedOut := x.timedOut && bit f 2 }) s))
def execClnLaneSet (p : Packet) (s : State) : Host.Outcome State Fault Refusal :=
  .next (runCommand (modCmd 0x0A02 8) replyClnLaneSet p s)

/-- A loop or pattern is put on a lane, and its interface follows (R357). -/
def divertLane (l : Nat) (f : Lane → Lane) (s : State) : State :=
  let s1 := modLane l f s
  match laneCif l s1 with
  | some c => let s2 := cifLos c s1
              if anyLane c Lane.diverted s2 || anyLane c Lane.faulted s2 then cifDown c 6 s2 else s2
  | none => s1

/-- The loop of an interface ends with the last loop on its lanes (R353, R357). -/
def loopEnds (l : Nat) (s : State) : State :=
  match laneCif l s with
  | some c => if anyLane c (fun x => decide (x.loop ≠ 0)) s then s else modCif c (fun x => { x with loop := 0 }) s
  | none => s

/-- CLN_LOOP (R357, R377). -/
def replyClnLoop (p : Packet) (s : State) : Reply :=
  let b := p.params
  let unit := u8 b 1
  let put := fun (x : Lane) => { x with loop := u8 b 2 }
  checked s [badParam 0 (decide (1 < u8 b 0)), badParam 1 (decide (31 < unit)), badParam 2 (decide (3 < u8 b 2)), reservedBytes b 3 1,
      failIf .badState (if u8 b 0 = 0 then (laneCif unit s).isNone else decide ((s.cif unit).typ = 0))]
    (if u8 b 0 = 0 then .ok (loopEnds unit (divertLane unit put s))
    else .ok ((List.range (s.cif unit).lanes).foldl (fun u i => divertLane (unit + i) put u)
      (modCif unit (fun x => { x with loop := u8 b 2 }) s)))
def execClnLoop (p : Packet) (s : State) : Host.Outcome State Fault Refusal :=
  .next (runCommand { modCmd 0x0A03 4 with maintenance := true } replyClnLoop p s)

/-- CLN_PRBS (R357, R377): pattern 0 stops generator and checker. -/
def replyClnPrbs (p : Packet) (s : State) : Reply :=
  let b := p.params
  let l := u8 b 0
  let pat := u8 b 1
  let nrz := ((laneCif l s).map (fun c => decide ((s.cif c).gen = 3) || decide ((s.cif c).gen = 4))).getD false
  checked s [badParam 0 (decide (31 < l)), badParam 1 (decide (3 < pat) || (decide (2 ≤ pat) && nrz)), badParam 2 (decide (3 < u8 b 2)),
      reservedBytes b 3 1]
    (.ok (divertLane l (fun x => { x with
      prbs := pat, gen := decide (pat ≠ 0) && bit (u8 b 2) 0, check := decide (pat ≠ 0) && bit (u8 b 2) 1 }) s))
def execClnPrbs (p : Packet) (s : State) : Host.Outcome State Fault Refusal :=
  .next (runCommand { modCmd 0x0A04 4 with maintenance := true } replyClnPrbs p s)

/-- CLN_CIF_CFG, CLN_CIF_STATUS and CLN_LANE_STATUS (R379). -/
def cifCfgWord (x : Cif) : Nat :=
  x.lanes + x.typ * 2 ^ 4 + x.rate * 2 ^ 8 + x.fec * 2 ^ 12 + x.gen * 2 ^ 16 + x.group * 2 ^ 24 + x.position * 2 ^ 28
def cifStatusWord (c : Nat) (s : State) : Nat :=
  let x := s.cif c
  packBits [x.up, x.aligned, x.hiErr, x.rxLf, x.rxRf] + 256 * (if s.cln.powered then faultMask c s else 0)
def laneStatusWord (x : Lane) : Nat := packBits [x.signal, x.cdr, x.trained] + x.loop * 2 ^ 4 + x.prbs * 2 ^ 6 + x.pcsLane * 2 ^ 8

/-- CLN_CIF_GET (R377). -/
def replyClnCifGet (p : Packet) (s : State) : Reply :=
  let b := p.params
  let c := u8 b 0
  checked s [badParam 0 (decide (31 < c)), reservedBytes b 1 3, failIf .badState (decide ((s.cif c).typ = 0))]
    (.answer (leBytes 4 (cifCfgWord (s.cif c)) ++ leBytes 4 (cifStatusWord c s) ++ (List.range 8).flatMap (fun i =>
      leBytes 4 (if i < (s.cif c).lanes then laneStatusWord (s.lane (c + i)) else 0))) s)
def execClnCifGet (p : Packet) (s : State) : Host.Outcome State Fault Refusal :=
  .next (runCommand (readCmd 0x0A05 4) replyClnCifGet p s)

end Sys2Proof.Machine
end

