-- ==== Sys2Proof/Machine/FecCode.lean ====
section
/-! DEFINITION. The Skeon code as arithmetic (R183 to R189): check structure, accumulation, outer BCH code, bit order, LLRs. -/

namespace Sys2Proof.Machine

/-- The shift s(i, c) (R184). -/
def skeonShift (i c : Nat) : Nat := (c * (17 + 40 * i) + 61 * i) % 640

/-- The information bits of check j of position t: (position, bit of the position) (R183, R184). -/
def checkInfo (t j : Nat) : List (Nat × Nat) :=
  (List.range 3).flatMap (fun i => ((List.range 20).filter (fun c => (c + i) % 4 = j / 640)).map (fun c =>
    ((t + 16 - i) % 16, 640 * c + (j % 640 + skeonShift i c) % 640)))

/-- σ(t, j): the XOR of the information bits of a check (R185). -/
def sigma (info : Nat → Nat → Bool) (t j : Nat) : Bool := (checkInfo t j).foldl (fun a e => a ^^ info e.1 e.2) false

/-- q(t, j): parity by accumulation (R185). -/
def parityBit (info : Nat → Nat → Bool) (t : Nat) : Nat → Bool
  | 0 => sigma info t 0
  | j + 1 => parityBit info t j ^^ sigma info t (j + 1)

/-- Where parity q(t, j) lies in its position (R183). -/
def parityPlace (j : Nat) : Nat := 640 * (20 + j / 640) + j % 640

/-- A check is satisfied (R184). -/
def checkHolds (info parity : Nat → Nat → Bool) (t j : Nat) : Bool :=
  !(sigma info t j ^^ parity t j ^^ (decide (1 ≤ j) && parity t (j - 1)))

/-- Order position m carries bit n of position t (R187). -/
def orderBit (m : Nat) : Nat × Nat := ((m % 16 + 16 - m / 16 % 16) % 16, m / 16)

/-- Multiply by α in GF(2¹⁶) with field polynomial x¹⁶ + x¹² + x³ + x + 1 (R186). -/
def gfDouble (a : BitVec 16) : BitVec 16 := if a.getLsbD 15 then (a <<< 1) ^^^ 0x100B else a <<< 1

/-- The product in GF(2¹⁶), by shift and add over the first `n` bits of `b`. -/
def gfMulAux (a b : BitVec 16) : Nat → BitVec 16
  | 0 => 0
  | n + 1 => gfDouble (gfMulAux a b n) ^^^ (if b.getLsbD (15 - n) then a else 0)
def gfMul (a b : BitVec 16) : BitVec 16 := gfMulAux a b 16

/-- α to a power. -/
def gfPow : Nat → BitVec 16
  | 0 => 1
  | n + 1 => gfDouble (gfPow n)

/-- Multiply a polynomial (lowest coefficient first) by x + r. -/
def polyTimesRoot (r : BitVec 16) (p : List (BitVec 16)) : List (BitVec 16) :=
  (List.zipWith (fun a b => a ^^^ b) (0 :: p) ((p.map (gfMul r)) ++ [0]))

/-- The squares r, r², r⁴, …: the conjugates of r. -/
def conjugates : Nat → BitVec 16 → List (BitVec 16)
  | 0, _ => []
  | n + 1, r => r :: conjugates n (gfMul r r)

/-- The minimal polynomial of αᵏ for odd k (degree 16) (R186). -/
def minimalPoly (k : Nat) : List (BitVec 16) := (conjugates 16 (gfPow k)).foldl (fun p r => polyTimesRoot r p) [1]

/-- Product of binary polynomials, lowest coefficient first. -/
def polyMul (a b : List Bool) : List Bool :=
  (List.range (a.length + b.length - 1)).map (fun n =>
    (List.range a.length).foldl (fun acc i => acc ^^ (a.getD i false && decide (i ≤ n) && b.getD (n - i) false)) false)

/-- The generator of degree 128: the least common multiple for α¹, α³, …, α¹⁵ (R186). -/
def bchGenerator : List Bool :=
  [1, 3, 5, 7, 9, 11, 13, 15].foldl (fun g k => polyMul g ((minimalPoly k).map (fun c => c ≠ 0))) [true]

/-- One bit through the division by the generator: the remainder register, highest coefficient first (R186). -/
def bchStep (gen : List Bool) (r : List Bool) (b : Bool) : List Bool :=
  let fb := r.headD false ^^ b
  let sh := r.drop 1 ++ [false]
  if fb then List.zipWith (fun a c => a ^^ c) sh (gen.reverse.drop 1) else sh

/-- The 128 check bits of a payload: the remainder of x¹²⁸ m(x), bit 12,672 first (R186). -/
def bchRemainder (payload : List Bool) : List Bool := payload.foldl (bchStep bchGenerator) (List.replicate 128 false)

/-- The hard decision of an LLR code: 0 for a positive code, else 1 (R189). -/
def hardDecision (l : Int) : Bool := decide (l ≤ 0)

/-- The DSP saturates an LLR at ±31; −32 is not used (R189). -/
def llrSaturate (l : Int) : Int := max (-31) (min 31 l)

end Sys2Proof.Machine
end

