-- ==== Sys2Proof/Machine/FecOps.lean ====
section
/-! DEFINITION. The decoder pool: limits, ceiling, assignment, retirement (chapter 07). -/

namespace Sys2Proof.Machine

def State.core (s : State) (k : Nat) : Core := vecGet Core.reset s.fec.cores k
def modCore (k : Nat) (f : Core → Core) (s : State) : State :=
  { s with fec := { s.fec with cores := vecMod s.fec.cores k f } }
def State.fecEngine (s : State) (e : Nat) : FecEngine := vecGet FecEngine.reset s.fec.engines e
def modFecEngine (e : Nat) (f : FecEngine → FecEngine) (s : State) : State :=
  { s with fec := { s.fec with engines := vecMod s.fec.engines e f } }

/-- The coded demand of an engine in Mb/s, and D (R193). -/
def demand (e : Nat) (s : State) : Nat := if modePowered s.dev.mode then codedRate (s.engine e).sel else 0
def totalDemand (s : State) : Nat := demand 0 s + demand 1 s

/-- Active cores: N (R193, R212). -/
def activeCores (s : State) : Nat := (s.fec.cores.toList.filter (fun c => !c.retired && !c.retest)).length

/-- min(24, floor(3.125 × n × 1,024 / D)), unlimited at D = 0 (R194). -/
def fitFor (n d : Nat) : Nat := if d = 0 then 24 else min 24 (3200000 * n / d)
def fitLimit (s : State) : Nat := fitFor (activeCores s) (totalDemand s)
def marginLimit (s : State) : Nat := fitFor (activeCores s - s.fec.reserveUse) (totalDemand s)

/-- The ceiling in force: the least of the four values, never less than 2; 0 while powered down (R194, R212). -/
def ceilingForce (s : State) : Nat :=
  if s.fec.powered then max 2 (min (min s.fec.ceilUse s.fec.thmLimit) (min (fitLimit s) (marginLimit s))) else 0

/-- Which limit binds: 0 configured, 1 throttle, 2 fit, 3 margin (R211). -/
def bindingLimit (s : State) : Nat :=
  let c := ceilingForce s
  if s.fec.ceilUse ≤ c then 0 else if s.fec.thmLimit ≤ c then 1 else if fitLimit s ≤ c then 2 else 3

/-- The decoder latency in ns at a ceiling (R191). -/
def decoderLatency (ofec : Bool) (c : Nat) : Nat := if ofec then 400 + 200 * c else 320 + 240 * c
/-- The family of an engine's profile (R182). -/
def engineOfec (e : Nat) (s : State) : Bool := profileOfec (s.engine e).sel.profile

/-- FEC_CEILING_CHANGED with the previous report as old (R211). -/
def reportCeiling (s : State) : State :=
  let c := ceilingForce s
  emit 5 2 (leBytes 1 s.fec.reported ++ leBytes 1 c ++ leBytes 1 (bindingLimit s) ++ leBytes 1 0
      ++ leBytes 2 (decoderLatency false c))
    { s with fec := { s.fec with reported := c, pacing := true } }

/-- The ceiling may have changed: report it unless a pacing interval runs (R211). -/
def ceilingCheck (s : State) : State :=
  if s.fec.powered ∧ ceilingForce s ≠ s.fec.reported ∧ ¬ s.fec.pacing then reportCeiling s else s

/-- OVERLOAD follows the fit limit (R198). -/
def overloadCheck (s : State) : State :=
  let ovr := s.fec.powered && decide (fitLimit s < 2)
  if ovr = s.fec.overload then s
  else if ovr then
    emit 5 3 (leBytes 1 1 ++ leBytes 3 0 ++ leBytes 4 0) { s with fec := { s.fec with overload := true, overloadPoison := 0 } }
  else
    emit 5 3 (leBytes 1 0 ++ leBytes 3 0 ++ leBytes 4 s.fec.overloadPoison) { s with fec := { s.fec with overload := false } }

/-- The limits are recomputed (R195, R198, R211). -/
def fecRecompute (s : State) : State := overloadCheck (ceilingCheck s)

/-- The FEC_CORES record (R200, R202, R464). -/
def logCores (s : State) : State :=
  logRecord 0x0020 0 (leBytes 6 (packBits (s.fec.cores.toList.map (fun c => c.retired)))
    ++ leBytes 6 (packBits (s.fec.cores.toList.map (fun c => c.cause)))) s

/-- Mark a block lost (R192). -/
def poisonBlock (id : Nat) (s : State) : State :=
  { s with fec := { s.fec with blocks := s.fec.blocks.map (fun b => if b.id = id then { b with poison := true, stage := .atDeadline } else b) } }

/-- The engine block loaded behind the one a core decodes, if any: no rule says when or which, so a free value picks none or
one of the waiting blocks (R200, log 14). -/
def loadedBehind (s : State) : Option Nat × State :=
  let waiting := (s.fec.blocks.filter (fun b => b.stage = .waiting && !b.poison)).map (fun b => b.id)
  let f := takeFree s
  (waiting[f.1 % (waiting.length + 1)]?, f.2)
/-- Retire a core at once, flagging the engine blocks it holds: the one it decodes and the one loaded behind (R200). -/
def retireCore (k : Nat) (afterError : Bool) (s : State) : State :=
  let next := loadedBehind s
  let held := (s.core k).block.toList ++ next.1.toList
  let s1 := held.foldl (fun u id => poisonBlock id u) next.2
  let s2 := modCore k (fun c => { c with retired := true, cause := afterError, block := none, kat := false, katAfterError := false }) s1
  let n := activeCores s2
  fecRecompute (logCores (emit 5 1 (leBytes 1 k ++ leBytes 1 (b2n afterError) ++ leBytes 1 n ++ leBytes 1 (ceilingForce s2)
    ++ leBytes 1 held.length ++ leBytes 1 0 ++ leBytes 2 (n * 1024)) s2))

/-- R201: an uncorrectable error in a core's message memory ends its block with POISON and sends a known-answer block. -/
def coreMemoryError (k : Nat) (s : State) : State :=
  let s1 := (s.core k).block.toList.foldl (fun u id => poisonBlock id u) s
  if (s.core k).retired then s1
  else modCore k (fun c => { c with block := none, kat := true, katAfterError := true }) s1

/-- Iterations of the last 10 µs (R197). -/
def recentUses (s : State) : List PoolUse := s.fec.uses.filter (fun u => decide (s.tim.now < u.ps + 10000000))
/-- A sum over an engine's iterations of the last 10 µs. -/
def useSum (f : PoolUse → Nat) (e : Nat) (s : State) : Nat :=
  ((recentUses s).filter (fun u => u.engine = e)).foldl (fun a u => a + f u) 0
/-- Bits of iterations an engine has used in the last 10 µs (R197). -/
def recentUse (e : Nat) (s : State) : Nat := useSum (fun u => u.bits) e s
/-- An engine's share of the capacity over 10 µs, in bits of iterations (R19, R193). -/
def shareBits (e : Nat) (s : State) : Nat := activeCores s * 10240000 * demand e s / totalDemand s
/-- Of an iteration's bits, those still within the engine's share of the last 10 µs; the rest is borrowed (R212, log 88). -/
def ownBits (b : CodeBlock) (s : State) : Nat := min b.bits (shareBits b.engine s - useSum (fun u => u.own) b.engine s)

/-- The use is within the engine's share of the capacity: N × 1,024 Gb·it/s × rate / D over 10 µs (R19, R193, R197). -/
def withinShare (e : Nat) (s : State) : Bool :=
  decide (recentUse e s * totalDemand s ≤ activeCores s * 10240000 * demand e s)

/-- The block is of the first kind: its engine is within its share (R197). -/
def firstKind (s : State) (b : CodeBlock) : Bool := withinShare b.engine s

/-- The waiting block to be served next: first kind before second, earliest deadline first (R197). -/
def better (s : State) (a b : CodeBlock) : Bool :=
  if firstKind s a = firstKind s b then decide (a.deadline < b.deadline) || (decide (a.deadline = b.deadline) && decide (a.id < b.id))
  else firstKind s a
def nextWaiting (s : State) : Option CodeBlock :=
  (s.fec.blocks.filter (fun b => b.stage = .waiting && !b.poison)).foldl (fun best b =>
    match best with
    | some x => if better s b x then some b else some x
    | none => some b) none

def modBlock (id : Nat) (f : CodeBlock → CodeBlock) (s : State) : State :=
  { s with fec := { s.fec with blocks := s.fec.blocks.map (fun b => if b.id = id then f b else b) } }
def State.block (s : State) (id : Nat) : Option CodeBlock := s.fec.blocks.find? (fun b => b.id = id)

/-- One iteration time of a block in ps: Skeon 240 ns, oFEC 200 ns (R191). -/
def iterationPs (ofec : Bool) : Nat := if ofec then 200000 else 240000

/-- The stop rule after an iteration (R190). -/
def afterIteration (s : State) (b : CodeBlock) : CodeBlock :=
  let n := b.iters + 1
  let b1 := { b with iters := n }
  if (b.zeroAt.map (fun z => decide (z ≤ n))).getD false then { b1 with stage := .converged }
  else if b.ceiling ≤ n then { b1 with stage := .atCeiling }
  else if b.deadline < s.tim.now + iterationPs (engineOfec b.engine s) then { b1 with stage := .atDeadline }
  else b1

/-- A core ends its current iteration: the block advances, and a block that stops or is lost frees the core (R190). -/
def endIteration (k : Nat) (s : State) : State :=
  match (s.core k).block with
  | none => s
  | some id =>
    if (s.core k).kat then s
    else
      match s.block id with
      | none => modCore k (fun c => { c with block := none }) s
      | some b =>
        if b.stage ≠ .running then modCore k (fun c => { c with block := none }) s
        else
          let own := ownBits b s
          let b1 := afterIteration s b
          let s1 := modBlock id (fun _ => b1) { s with fec := { s.fec with uses := ⟨s.tim.now, b.engine, b.bits, own⟩ :: recentUses s } }
          let s2 := modFecEngine (1 - b.engine) (fun x => { x with live := { x.live with lent := x.live.lent + (b.bits - own) } })
            (modFecEngine b.engine (fun x => { x with live := { x.live with borrowed := x.live.borrowed + (b.bits - own) } }) s1)
          if b1.stage = .running then s2 else modCore k (fun c => { c with block := none }) s2

/-- A core takes a block: a zero syndrome ends it after 0 iterations, a deadline that leaves no time for one ends it there, and
any other block starts its next iteration (R190). -/
def serveBlock (k : Nat) (b : CodeBlock) (s : State) : State :=
  if b.zeroAt = some 0 then modBlock b.id (fun x => { x with stage := .converged }) s
  else if b.deadline < s.tim.now + iterationPs (engineOfec b.engine s) then modBlock b.id (fun x => { x with stage := .atDeadline }) s
  else modCore k (fun y => { y with block := some b.id }) (modBlock b.id (fun x => { x with stage := .running }) s)

/-- Give a free core the next waiting block (R197). -/
def assignCore (k : Nat) (s : State) : State :=
  let c := s.core k
  if c.retired || c.retest || c.kat || c.block.isSome then s
  else
    match nextWaiting s with
    | none => s
    | some b => serveBlock k b s

/-- A core running a block of the second kind yields it when a block of the first kind waits; one whose block is paused by a
known-answer block has nothing to yield (R197, R199). -/
def yieldCore (k : Nat) (s : State) : State :=
  if (s.core k).kat then s else
  match (s.core k).block with
  | none => s
  | some id =>
    match s.block id, nextWaiting s with
    | some b, some w =>
      if !firstKind s b && firstKind s w && decide (b.stage = .running) then
        serveBlock k w (modCore k (fun c => { c with block := none }) (modBlock id (fun x => { x with stage := .waiting }) s))
      else s
    | _, _ => s

/-- Discard the blocks of an engine in flight (R206, R207). -/
def discardBlocks (keep : CodeBlock → Bool) (s : State) : State :=
  let gone := (s.fec.blocks.filter (fun b => !keep b)).map (fun b => b.id)
  { s with fec := { s.fec with
    blocks := s.fec.blocks.filter keep
    cores := vecMap (fun _ c => { c with block := c.block.filter (fun id => !gone.contains id) }) s.fec.cores } }

/-- The thresholds of the family in force (R205). -/
def thresholds (e : Nat) (s : State) : FecThr :=
  if engineOfec e s then (s.fecEngine e).ofec else (s.fecEngine e).skeon

/-- A profile switch instant reaches the pool (R207). -/
def fecSwitch (e : Nat) (s : State) : State :=
  fecRecompute (modFecEngine e (fun x => { x with winBlocks := 0, winBits := 0, winCorrected := 0, winUncorr := 0 })
    (discardBlocks (fun b => b.engine ≠ e) s))

/-- The pool powers down: every block in flight is discarded, and OVERLOAD clears with its event (R198, R206, R211, R212). -/
def poolDown (s : State) : State :=
  let s1 := discardBlocks (fun _ => false) s
  overloadCheck { s1 with fec := { s1.fec with
    powered := false, pacing := false, reported := 0, uses := []
    cores := vecMap (fun _ c => { c with kat := false, katAfterError := false }) s1.fec.cores } }

/-- The datapaths power up: what FEC_CFG_SET and FEC_THR_SET stored in STANDBY takes effect (R208). -/
def fecUp (s : State) : State :=
  { s with fec := { s.fec with
    windowUse := s.fec.windowCfg
    engines := vecMap (fun _ x => { x with skeon := x.skeonNext, ofec := x.ofecNext }) s.fec.engines } }

/-- A retest runs only in STANDBY: outside it the core powers down untested and the command ends ABORTED (R202, log 88). -/
def endRetest (s : State) : State :=
  abortDeferred (fun d => d.opcode = 0x0505)
    { s with fec := { s.fec with cores := vecMap (fun _ c => { c with retest := false }) s.fec.cores } }

end Sys2Proof.Machine
end

