-- ==== Sys2Proof/Machine/Housekeeping.lean ====
section
/-! DEFINITION. The SAR converters and the meanings of their rows of group 0x0C (chapter 13). -/

namespace Sys2Proof.Machine

def State.sar (s : State) (k : Nat) : Sar := vecGet Sar.reset s.mon.sars k
def modSar (k : Nat) (f : Sar → Sar) (s : State) : State :=
  { s with mon := { s.mon with sars := vecMod s.mon.sars k f } }

/-- OFFSET and GAIN of a channel: set by command, else fused (R399). -/
def corrOf (k ch : Nat) (s : State) : Int × Int :=
  match (s.sar k).corr.find? (fun c => c.1 = ch) with
  | some c => c.2
  | none => (Config.hkaOffset k ch, Config.hkaGain k ch)

/-- n/d rounded to the nearest integer, halves away from zero (R399). -/
def roundHalf (n : Int) (d : Nat) : Int :=
  let q := ((2 * n.natAbs + d) / (2 * d) : Nat)
  if n < 0 then -(q : Int) else q

/-- R399: the corrected code of `n` conversions summing to `sum`. -/
def correctedCode (sum n : Nat) (offset gain : Int) : Nat :=
  (max 0 (min 4095 (roundHalf ((16 * (sum : Int) - offset * n) * (32768 + gain)) (16 * n * 32768)))).toNat

/-- The scale of a channel, as its inverse (R395). -/
def inverseScale (ch : Nat) : Nat := if ch ≤ 8 ∨ ch = 15 then 1 else if ch ≤ 12 then 2 else 4
/-- Microvolts at the input (R399). -/
def microvolts (ch code : Nat) : Nat := (2 * code * 1250000 * inverseScale ch + 4096) / 8192

/-- One finished result (R399, R400). -/
structure HkaDone where
  chan : Nat
  shift : Nat
  code : Nat
  raw : Nat
  ovr : Bool
  bad : Bool
deriving DecidableEq, Repr

/-- Form the result of a completed average. -/
def formResult (k : Nat) (a : Average) (s : State) : HkaDone :=
  let ovr := a.high || a.low
  let c := corrOf k a.entry.chan s
  { chan := a.entry.chan, shift := a.entry.shift, raw := (2 * a.sum + a.n) / (2 * a.n), ovr
    code := if a.high then 0xFFF else if a.low then 0 else correctedCode a.sum a.n c.1 c.2
    bad := (s.sar k).suspect || (s.sar k).rebuilding.contains a.entry.chan }

/-- Flags of R406 without PHASE. -/
def hkaFlags (d : HkaDone) (system gap : Bool) : Nat := packBits [false, d.ovr, d.bad, system, gap]

/-- Write the result register and count an over-range result (R400, R412). -/
def putResult (k : Nat) (d : HkaDone) (s : State) : State :=
  modSar k (fun x =>
    let old := tabGet (⟨0, false, false, false, 0⟩ : HkaResult) x.results d.chan
    { x with
      results := tabInsert x.results d.chan ⟨d.code, d.ovr, true, d.bad, (old.count + 1) % 65536⟩
      ovrCnt := satAdd 0xFFFFFFFF x.ovrCnt (b2n d.ovr)
      ovrFirst := if d.ovr && decide (x.ovrSecond = 0) then d.chan else x.ovrFirst
      ovrSecond := x.ovrSecond + b2n d.ovr }) s

/-- An HKA ring entry (R406). -/
def hkaEntryBytes (k : Nat) (d : HkaDone) (system : Bool) (s : State) (phase gap : Bool) : List Byte :=
  leBytes 1 k ++ leBytes 1 d.chan ++ leBytes 1 (b2n phase + hkaFlags d system gap) ++ leBytes 1 d.shift ++ leBytes 2 d.code
    ++ leBytes 2 d.raw ++ leBytes 4 (microvolts d.chan d.code) ++ leBytes 6 s.tim.seconds ++ leBytes 2 0
    ++ leBytes 4 s.tim.nanoseconds ++ leBytes 8 0

/-! ### Cross-check (R401) -/

/-- HKA_XCHK as an event. -/
def xchkEvent (raised : Bool) (s : State) : State :=
  emit 12 4 (leBytes 1 (b2n raised) ++ leBytes 1 (b2n (s.sar 0).suspect + 2 * b2n (s.sar 1).suspect) ++ leBytes 2 s.mon.xchk0
    ++ leBytes 2 s.mon.xchk1) s
/-- A code lies more than 16 from 3,277 (R401). -/
def suspectCode (code : Nat) : Bool := decide (16 < ((code : Int) - 3277).natAbs)
/-- Both SARs have converted channel 15 in this millisecond: compare (R401). -/
def crossCheck (s : State) : State :=
  let a := s.sar 0
  let b := s.sar 1
  if !(a.refSeen && b.refSeen) then s
  else
    let ra := tabGet (⟨0, false, false, false, 0⟩ : HkaResult) a.results 15
    let rb := tabGet (⟨0, false, false, false, 0⟩ : HkaResult) b.results 15
    let s1 := modSar 1 (fun x => { x with refSeen := false }) (modSar 0 (fun x => { x with refSeen := false })
      { s with mon := { s.mon with xchk0 := ra.code, xchk1 := rb.code } })
    if a.calInMs || b.calInMs then s1
    else if ra.ovr || rb.ovr || decide (s.mon.xchkTol < ((ra.code : Int) - rb.code).natAbs) then
      let n := s.mon.mismatches + 1
      let s2 := { s1 with mon := { s1.mon with mismatches := n, matches_ := 0 } }
      if n < 3 ∨ s.mon.xchkFail = true then s2
      else
        let s3 := modSar 1 (fun x => { x with suspect := suspectCode rb.code }) (modSar 0 (fun x => { x with suspect := suspectCode ra.code }) s2)
        xchkEvent true { s3 with mon := { s3.mon with xchkFail := true } }
    else
      let n := s.mon.matches_ + 1
      let s2 := { s1 with mon := { s1.mon with mismatches := 0, matches_ := n } }
      if n < 3 ∨ s.mon.xchkFail = false then s2
      else
        let s3 := modSar 1 (fun x => { x with suspect := false }) (modSar 0 (fun x => { x with suspect := false }) s2)
        xchkEvent false { s3 with mon := { s3.mon with xchkFail := false } }

/-! ### What comes next (R396, R403) -/

/-- The channel of the next injected, system or regular conversion. -/
def nextChannel (x : Sar) (w : SarWork) : Nat :=
  match w with
  | .injected => match x.injected with
    | i :: _ => match i.avg with
      | some a => a.entry.chan
      | none => (i.left.head?.map (fun e => e.chan)).getD 0
    | [] => 0
  | .system => match x.sysAvg with
    | some a => a.entry.chan
    | none => x.sysDue.headD 0
  | .regular => match x.regAvg with
    | some a => a.entry.chan
    | none => (x.seqLeft.head?.map (fun e => e.chan)).getD 0
  | _ => 0

/-- A conversion of this kind comes next, behind a settling conversion where R400 asks for one. -/
def settleThen (x : Sar) (w : SarWork) : Sar :=
  match x.settleFrom with
  | some c => if c = nextChannel x w then { x with work := w } else { x with work := .settling }
  | none => { x with work := w }

/-- Start the next sequence when its start fell due during the last one (R397). -/
def startSeq (x : Sar) : Sar :=
  let q := x.seqNext.getD x.seq
  { x with seq := q, seqNext := none, seqDue := false, seqLeft := if q.en then q.entries else [] }

/-- Urgent requests go ahead of the non-urgent ones still pending, which keep their order (R396, R398). -/
def urgentFirst (l : List Inject) : List Inject := l.filter (fun x => x.urgent) ++ l.filter (fun x => !x.urgent)

/-- The choice at a conversion boundary (R396, R402, R403). A calibration that waits lets the requests go first that were pending when
it was requested, and a retry every request; an urgent one that arrives meanwhile goes first too (DEDUCED from R396 and R398, log 62). -/
def sarNext (now : Nat) (x0 : Sar) : Sar :=
  let x1 := { x0 with injected := urgentFirst x0.injected }
  let x := if x1.seqDue && x1.seqLeft.isEmpty && x1.regAvg.isNone then startSeq x1 else x1
  if !x.started then x
  else match x.cal with
    | .running => { x with work := .idle }
    | .waiting =>
      if x.injected.any (fun i => i.urgent || i.ahead || decide (x.calOrigin = 2)) then { x with work := .injected }
      else if x.settleFrom.isSome then { x with work := .settling }
      else { x with work := .idle, cal := .running, calStart := now, calInMs := true, calAbort := false }
    | .none =>
      if !x.injected.isEmpty then settleThen x .injected
      else if x.sysAvg.isSome || !x.sysDue.isEmpty then settleThen x .system
      else if x.regAvg.isSome || !x.seqLeft.isEmpty then settleThen x .regular
      else { x with work := .idle }

/-- An idle SAR takes what has become due; one that converts goes on (R396). -/
def sarKick (k : Nat) (s : State) : State :=
  if (s.sar k).work = .idle then modSar k (sarNext s.tim.now) s else s
def sarStep (k : Nat) (s : State) : State := modSar k (sarNext s.tim.now) s

/-- A conversion joins an average (R399, R400). -/
def Average.add (a : Average) (raw : Nat) (ovr : Option Bool) : Average :=
  { a with n := a.n + 1, sum := a.sum + raw, high := a.high || decide (ovr = some true), low := a.low || decide (ovr = some false) }
def Average.full (a : Average) : Bool := decide (2 ^ a.entry.shift ≤ a.n)
def Average.start (e : HkaEntry) : Average := ⟨e, 0, 0, false, false⟩

/-- The settling still due after a conversion: an over-range one asks for it, one in range leaves it (R400). -/
def settleAfter (due : Option Nat) (ch : Nat) (ovr : Option Bool) : Option Nat := if ovr.isSome then some ch else due

/-- One injected result in a response (R410). -/
def injectedBytes (d : HkaDone) : List Byte :=
  leBytes 1 d.chan ++ leBytes 1 (hkaFlags d false false) ++ leBytes 2 d.code ++ leBytes 4 (microvolts d.chan d.code)

/-- A conversion of the front injected request (R398, R410). -/
def doneInjected (k raw : Nat) (ovr : Option Bool) (s : State) : State :=
  match (s.sar k).injected with
  | [] => s
  | i :: rest =>
    match i.avg.orElse (fun _ => i.left.head?.map Average.start) with
    | none => modSar k (fun x => { x with injected := rest }) s
    | some a0 =>
      let a := a0.add raw ovr
      let s1 := modSar k (fun x => { x with settleFrom := settleAfter x.settleFrom a.entry.chan ovr }) s
      if !a.full then modSar k (fun x => { x with injected := { i with avg := some a } :: rest }) s1
      else
        let d := formResult k a s
        let i1 := { i with avg := none, left := i.left.drop 1, done := i.done + 1, results := i.results ++ injectedBytes d }
        let s2 := putResult k d s1
        if i1.left = [] then
          finishWaiting i.key .ok (leBytes 1 i1.done ++ leBytes 3 0 ++ leBytes 6 s.tim.seconds ++ leBytes 2 0
              ++ leBytes 4 s.tim.nanoseconds ++ i1.results)
            (modSar k (fun x => { x with injected := rest }) s2)
        else modSar k (fun x => { x with injected := i1 :: rest }) s2

/-- The core rail as measured: the system result of channel 8 of SAR0, of SAR1 when SAR0 is suspect (R433). -/
def takeRail (k : Nat) (d : HkaDone) (s : State) : State :=
  if d.chan = 8 ∧ ((k = 0 ∧ (s.sar 0).suspect = false) ∨ (k = 1 ∧ (s.sar 0).suspect = true)) then
    { s with thm := { s.thm with measured := d.code * 1250 / 4096 } }
  else s

/-- A system conversion (R396, R401). -/
def doneSystem (k raw : Nat) (ovr : Option Bool) (s : State) : State :=
  let x := s.sar k
  match x.sysAvg.orElse (fun _ => x.sysDue.head?.map (fun c => Average.start ⟨c, 2⟩)) with
  | none => s
  | some a0 =>
    let a := a0.add raw ovr
    let s1 := modSar k (fun y => { y with settleFrom := settleAfter y.settleFrom a.entry.chan ovr, sysAvg := some a }) s
    if !a.full then s1
    else
      let d := formResult k a s
      let s2 := takeRail k d (putResult k d (modSar k (fun y => { y with
        sysAvg := none, sysDue := y.sysDue.drop 1, refSeen := y.refSeen || decide (a.entry.chan = 15) }) s1))
      let s3 := if x.seq.ringSys then writeRing (16 + k) (hkaEntryBytes k d true s) s2 else s2
      if a.entry.chan = 15 then crossCheck s3 else s3

/-- A regular conversion (R397). -/
def doneRegular (k raw : Nat) (ovr : Option Bool) (s : State) : State :=
  let x := s.sar k
  match x.regAvg.orElse (fun _ => x.seqLeft.head?.map Average.start) with
  | none => s
  | some a0 =>
    let a := a0.add raw ovr
    let s1 := modSar k (fun y => { y with settleFrom := settleAfter y.settleFrom a.entry.chan ovr, regAvg := some a }) s
    if !a.full then s1
    else
      let d := formResult k a s
      writeRing (16 + k) (hkaEntryBytes k d false s)
        (putResult k d (modSar k (fun y => { y with regAvg := none, seqLeft := y.seqLeft.drop 1 }) s1))

/-- HKA_CONVERSION_DONE (R396, R399 to R401, R406): the result, then the choice of the next conversion. -/
def execHkaConversionDone (sar : Fin 2) (raw : Nat) (ovr : Option Bool) (s : State) : Host.Outcome State Fault Refusal :=
  let k := sar.val
  match (s.sar k).work with
  | .idle => .next s
  | .settling => .next (sarStep k (modSar k (fun x => { x with settleFrom := none }) s))
  | .injected => .next (sarStep k (doneInjected k raw ovr s))
  | .system => .next (sarStep k (doneSystem k raw ovr s))
  | .regular => .next (sarStep k (doneRegular k raw ovr s))

/-- A millisecond begins on one SAR: channels 8 to 15 are due (R396). -/
def systemDue (k : Nat) (s : State) : State :=
  if !(s.sar k).started then s
  else
    sarKick k (modSar k (fun x => { x with
      sysDue := x.sysDue ++ [8, 9, 10, 11, 12, 13, 14, 15].filter (fun c => !x.sysDue.contains c)
      refSeen := false, calInMs := decide (x.cal = .running) }) s)

/-- One millisecond in the units of the time counter. -/
def unitsPerMs : Nat := 512000000000000000
/-- The clock runs to the next millisecond of device time that has had no tick; the tick is marked. -/
def toTick (s : State) : State :=
  let due := (s.mon.lastTick / unitsPerMs + 1) * unitsPerMs
  if s.tim.tod < due then advanceToUnits due s else s
def markTick (s : State) : State := { s with mon := { s.mon with lastTick := s.tim.tod } }
/-- HKA_SYSTEM_TICK: device time reaches its next millisecond (R396). -/
def execHkaSystemTick (s : State) : Host.Outcome State Fault Refusal :=
  .next (systemDue 1 (systemDue 0 (markTick (toTick s))))

/-- HKA_SEQ_PERIOD_START (R397). -/
def execHkaSeqPeriodStart (sar : Fin 2) (s : State) : Host.Outcome State Fault Refusal :=
  let k := sar.val
  let x := s.sar k
  if !x.seq.en then .next s
  else if x.seqLeft.isEmpty && x.regAvg.isNone then .next (sarKick k (modSar k startSeq s))
  else .next (modSar k (fun y => { y with seqDue := true, overrun := true }) s)

/-! ### Calibration (R402, R403) -/

/-- A calibration is requested; it starts as soon as nothing stands in its way. -/
def calBegin (k origin : Nat) (s : State) : State :=
  sarKick k (modSar k (fun x => { x with
    cal := .waiting, calOrigin := origin, calAbort := false, injected := x.injected.map (fun i => { i with ahead := true }) }) s)

/-- HKA_CAL_DONE (R411), completing the command that asked for the calibration. -/
def calReport (k : Nat) (st : Status) (s : State) : State :=
  let x := s.sar k
  let pay := leBytes 1 k ++ leBytes 1 st.code ++ leBytes 1 x.calOrigin ++ leBytes 1 0 ++ leBytes 4 ((s.tim.now - x.calStart) / 1000000)
  if x.calOrigin = 0 then completeOr 0x0C07 k st 12 3 pay s else emit 12 3 pay s

/-- HKA_CAL_TIMER (R402). -/
def execHkaCalTimer (sar : Fin 2) (s : State) : Host.Outcome State Fault Refusal :=
  let k := sar.val
  if s.mon.calPeriod = 0 ∨ (s.sar k).started = false ∨ (s.sar k).cal ≠ .none then .next s
  else .next (calBegin k 1 s)

/-- HKA_CAL_COMPLETE: the trims are replaced (R402). -/
def execHkaCalComplete (sar : Fin 2) (s : State) : Host.Outcome State Fault Refusal :=
  let k := sar.val
  if (s.sar k).cal ≠ .running then .next s
  else
    let s1 := calReport k .ok s
    let s2 := modSar k (fun x => { x with cal := .none, calValid := true, trims := some s.tim.now, calAbort := false })
      { s1 with mon := { s1.mon with calDone := satAdd 0xFFFF s1.mon.calDone 1 } }
    .next (sarStep k s2)

/-- HKA_CAL_STEP_ABORT: the current step has ended with an urgent request waiting; a retry follows (R403). -/
def execHkaCalStepAbort (sar : Fin 2) (s : State) : Host.Outcome State Fault Refusal :=
  let k := sar.val
  if (s.sar k).cal ≠ .running ∨ (s.sar k).calAbort = false then .next s
  else
    let s1 := calReport k .aborted s
    let s2 := modSar k (fun x => { x with cal := .waiting, calOrigin := 2, calAbort := false })
      { s1 with mon := { s1.mon with calAborted := satAdd 0xFFFF s1.mon.calAborted 1 } }
    .next (sarStep k s2)

/-- The SARs start at Kindling phase 6: calibration, fused corrections, system conversions; those that an application reset left
running go on as they are (R402, R408). -/
def hkaStart (s : State) : State :=
  let go := fun k (u : State) => if (u.sar k).started then u
    else calBegin k 3 (modSar k (fun x => { x with started := true, corr := [] }) u)
  go 1 (go 0 s)

/-! ### Commands (R410) -/

/-- Entries of two bytes from an offset. -/
def parseEntries (b : List Byte) (off : Nat) : Nat → List HkaEntry
  | 0 => []
  | n + 1 => ⟨u8 b off, u8 b (off + 1)⟩ :: parseEntries b (off + 2) n
/-- The first entry with a channel above 15 or a shift above 7, as a check. -/
def hkaEntryChecks : Nat → List HkaEntry → List Check
  | _, [] => []
  | off, e :: es => badParam off (15 < e.chan) :: badParam (off + 1) (7 < e.shift) :: hkaEntryChecks (off + 2) es

/-- A sequence is set: one that is running, or whose last entry is in progress, keeps it for the next start (R397, R410). -/
def setSeq (q : SeqCfg) (x : Sar) : Sar :=
  if !q.en then stopSeq q x
  else if x.seq.en || !x.seqLeft.isEmpty || x.regAvg.isSome then
    { x with seqNext := some q, seqDue := x.seqDue || !x.seq.en, overrun := false }
  else startSeq { x with seqNext := some q, overrun := false }

/-- HKA_SEQ_SET: in force at the next sequence start; a stopped sequence starts at once (R397, R410). -/
def replyHkaSeqSet (p : Packet) (s : State) : Reply :=
  let b := p.params
  let k := u8 b 0
  let n := u8 b 2
  let es := parseEntries b 8 n
  let q : SeqCfg := ⟨bit (u8 b 1) 0, bit (u8 b 1) 1, u32 b 4, es⟩
  checked s ([badParam 0 (1 < k), badParam 1 (3 < u8 b 1), badLen 2 (n = 0), badParam 2 (16 < n), reservedBytes b 3 1,
      badLen 4 (q.period = 0), badParam 4 (q.period < 10 ∨ 1000000 < q.period)] ++ hkaEntryChecks 8 es)
    (.ok (sarKick k (modSar k (setSeq q) s)))
def execHkaSeqSet (p : Packet) (s : State) : Host.Outcome State Fault Refusal :=
  .next (runCommand { modCmd 0x0C05 0 with lenOk := fun ps => decide (ps.length = 8 + 2 * u8 ps 2) } replyHkaSeqSet p s)

/-- Conversions still pending on a SAR, averages counted in full (R398). -/
def pendingConversions (x : Sar) : Nat :=
  (x.injected.map (fun i => (i.left.map (fun e => 2 ^ e.shift)).foldl (· + ·) 0 - (i.avg.map (fun a => a.n)).getD 0)).foldl (· + ·) 0

/-- HKA_INJECT: joins behind the requests pending, the conversion in progress completes; answered when its last conversion ends (R398, R403, R410). -/
def replyHkaInject (p : Packet) (s : State) : Reply :=
  let b := p.params
  let k := u8 b 0
  let n := u8 b 2
  let es := parseEntries b 4 n
  let urgent := bit (u8 b 1) 0
  let want := (es.map (fun e => 2 ^ e.shift)).foldl (· + ·) 0
  checked s ([badParam 0 (1 < k), badParam 1 (1 < u8 b 1), badLen 2 (n = 0), badParam 2 (4 < n), reservedBytes b 3 1]
      ++ hkaEntryChecks 4 es ++ [failIf .noResource (4 < pendingConversions (s.sar k) + want)])
    (let kk := takeKey s
     .wait kk.1 (sarKick k (modSar k (fun x => { x with
        injected := x.injected ++ [⟨kk.1, urgent, false, es, none, 0, []⟩]
        calAbort := x.calAbort || (urgent && decide (x.cal = .running)) }) kk.2)))
def execHkaInject (p : Packet) (s : State) : Host.Outcome State Fault Refusal :=
  .next (runCommand { readCmd 0x0C06 0 with lenOk := fun ps => decide (ps.length = 4 + 2 * u8 ps 2) } replyHkaInject p s)

/-- HKA_CAL (R402, R403, R410). -/
def replyHkaCal (p : Packet) (s : State) : Reply :=
  let b := p.params
  let k := u8 b 0
  checked s [badParam 0 (1 < k), reservedBytes b 1 3, failIf .busy ((s.sar k).cal ≠ .none)]
    (.later k 12 3 (leBytes 1 k ++ leBytes 1 13 ++ leBytes 6 0) (calBegin k 0))
def execHkaCal (p : Packet) (s : State) : Host.Outcome State Fault Refusal :=
  .next (runCommand (modCmd 0x0C07 4) replyHkaCal p s)

/-- HKA_CORR_SET: from the next result (R399, R410). -/
def replyHkaCorrSet (p : Packet) (s : State) : Reply :=
  let b := p.params
  let off := s16 b 2
  let gain := s16 b 4
  checked s [badParam 0 (1 < u8 b 0), badParam 1 (15 < u8 b 1), badParam 2 (2048 < off.natAbs), badParam 4 (4096 < gain.natAbs),
      reservedBytes b 6 2]
    (.ok (modSar (u8 b 0) (fun x => { x with corr := tabInsert x.corr (u8 b 1) (off, gain) }) s))
def execHkaCorrSet (p : Packet) (s : State) : Host.Outcome State Fault Refusal :=
  .next (runCommand (modCmd 0x0C08 8) replyHkaCorrSet p s)

/-- HKA_CFG_SET (R401, R402, R410). -/
def replyHkaCfgSet (p : Packet) (s : State) : Reply :=
  let b := p.params
  checked s [badLen 0 (u8 b 0 = 0), badParam 0 (64 < u8 b 0), badParam 1 (240 < u8 b 1), reservedBytes b 2 2]
    (.ok { s with mon := { s.mon with xchkTol := u8 b 0, calPeriod := u8 b 1 } })
def execHkaCfgSet (p : Packet) (s : State) : Host.Outcome State Fault Refusal :=
  .next (runCommand (modCmd 0x0C09 4) replyHkaCfgSet p s)

/-- An application reset ends a calibration asked for by command without new trims (R73, R402). -/
def hkaAppReset (s : State) : State :=
  let stop := fun k u => if (u.sar k).cal ≠ .none ∧ (u.sar k).calOrigin = 0
    then sarStep k (modSar k (fun x => { x with cal := .none, calAbort := false }) u) else u
  stop 1 (stop 0 s)

end Sys2Proof.Machine
end

