-- ==== Sys2Proof/Machine/MapOps.lean ====
section
/-! DEFINITION. The map plan: entries, checks, application, power (R246 to R254, R263). -/

namespace Sys2Proof.Machine

/-! ### Entries (R248) -/

/-- The 96 bytes of a TRIB's entry; an unused tributary's other bytes read 0. -/
def entryBytes (t : Nat) (x : Option PlanEntry) : List Byte :=
  match x with
  | none => leBytes 2 t ++ leBytes 94 0
  | some y =>
    leBytes 2 t ++ leBytes 1 y.kind ++ leBytes 1 y.engine ++ leBytes 1 y.cif ++ leBytes 1 y.sub ++ leBytes 1 y.container
      ++ leBytes 1 (packBits [y.encrypt, y.protected_, y.protection, y.peer]) ++ leBytes 2 y.slotCount ++ leBytes 2 y.partner
      ++ leBytes 20 0 ++ leBytes 64 y.slots.toNat

/-- The entry in 96 bytes, absent for KIND 0. -/
def parseEntry (b : List Byte) : Option PlanEntry :=
  if u8 b 2 = 0 then none
  else
    let f := u8 b 7
    some ⟨u8 b 2, u8 b 3, u8 b 4, u8 b 5, u8 b 6, bit f 0, bit f 1, bit f 2, bit f 3, u16 b 8, u16 b 10,
      BitVec.ofNat 512 (leNat (bytesAt 32 64 b))⟩

/-- The checks on the encodings of one loaded entry at a parameter offset (R248, R264). -/
def entryChecks (off : Nat) (b : List Byte) : List Check :=
  let kind := u8 b 2
  let cif := u8 b 4
  let used := decide (kind ≠ 0)
  [badParam off (decide (255 < u16 b 0)), badParam (off + 2) (decide (4 < kind)),
    badParam (off + 3) (used && decide (1 < u8 b 3)),
    badParam (off + 4) (used && (if kind = 4 then decide (cif ≠ 0xFF) else decide (32 ≤ cif) && decide (cif ≠ 0xFE))),
    badParam (off + 5) (used && (if kind = 3 then decide (u8 b 5 = 0) || decide (160 < u8 b 5) else decide (u8 b 5 ≠ 0))),
    badParam (off + 6) (used && decide (4 < u8 b 6)), badParam (off + 7) (used && decide (15 < u8 b 7)),
    badParam (off + 10) (used && bit (u8 b 7) 1 && decide (255 < u16 b 10)),
    badParam (off + 12) (used && decide (leNat (bytesAt 12 20 b) ≠ 0))]

/-- The CRC-32C over the 256 entries of a plan in TRIB order (R250). -/
def planCrc (plan : List (Nat × PlanEntry)) : Nat :=
  crc32c ((List.range 256).flatMap (fun t => entryBytes t (planFind plan t)))

/-! ### The checks of a commit (R247, R251) -/

/-- The slots a KIND and container may take (R247); none where the combination is not supported. -/
def slotsAllowed (kind container n : Nat) : Option Bool :=
  if kind = 1 ∧ container = 3 then some (decide (n = 20))
  else if kind = 1 ∧ container = 4 then some (n = 40 || n = 80 || n = 160 || n = 320)
  else if kind = 2 ∧ container = 3 then some (decide (n = 20))
  else if kind = 3 ∧ container ≤ 3 then some (decide (n = [1, 2, 2, 20].getD container 0))
  else if kind = 4 ∧ container = 4 then some (decide (1 ≤ n) && decide (n ≤ 480))
  else none

/-- Bits set in a slot map. -/
def slotBits (v : BitVec 512) : Nat := ((List.range 512).filter (fun i => v.getLsbD i)).length

/-- The slot limit of an engine: the lower of the current slot count and that of a pending or stored profile (R176, R251). -/
def slotLimit (e : Nat) (s : State) : Nat :=
  let x := s.engine e
  min (profileSlots x.sel.profile) (profileSlots (((x.change.map (fun c => c.sel)).or x.stored).getD x.sel).profile)

/-- Two entries of one group: protected and each other's partner. -/
def sameGroup (t : Nat) (x : PlanEntry) (u : Nat) (y : PlanEntry) : Bool :=
  x.protected_ && y.protected_ && !x.peer && !y.peer && decide (x.partner = u) && decide (y.partner = t)

/-- Check 5: two entries take the same client source. -/
def sameSource (x y : PlanEntry) : Bool :=
  decide (x.cif < 32) && decide (x.cif = y.cif) && (decide (x.kind ≠ 3) || decide (y.kind ≠ 3) || decide (x.sub = y.sub))

/-- Check 6: a partner on this device does not match; one whose own partner is on the peer device names a different partner. -/
def partnerBad (plan : List (Nat × PlanEntry)) (t : Nat) (x : PlanEntry) : Bool :=
  x.protected_ && !x.peer &&
    match planFind plan x.partner with
    | none => true
    | some y => !y.protected_ || y.peer || decide (y.partner ≠ t) || y.protection == x.protection || decide (y.kind ≠ x.kind)
        || decide (y.container ≠ x.container) || decide (y.slotCount ≠ x.slotCount) || decide (y.engine = x.engine)

/-- The first failing check of an entry, with its status (R251). -/
def entryFails (plan : List (Nat × PlanEntry)) (t : Nat) (x : PlanEntry) (s : State) : Option (Nat × Status) :=
  let others := plan.filter (fun y => y.1 ≠ t)
  let allowed := slotsAllowed x.kind x.container x.slotCount
  if 2 ^ slotLimit x.engine s ≤ x.slots.toNat then some (1, .badParam)
  else if others.any (fun y => y.2.engine = x.engine && decide (y.2.slots &&& x.slots ≠ 0)) then some (2, .badParam)
  else if x.slotCount ≠ slotBits x.slots ∨ allowed = some false then some (3, .badParam)
  else if allowed = none then some (4, .badParam)
  else if others.any (fun y => sameSource x y.2 && !sameGroup t x y.1 y.2) then some (5, .badParam)
  else if partnerBad plan t x then some (6, .badParam)
  else if (x.peer && !peerTransferReady s) || (decide (x.cif = 0xFE) && !x.peer) then some (7, .badState)
  else if decide (x.cif < 32) && !cifFits x.cif x.kind x.container x.slotCount x.sub s then some (8, .badState)
  else if x.encrypt && s.dev.variantN then some (9, .denied)
  else none

/-- The first failing TRIB of a plan, in TRIB order (R251). -/
def planFails (plan : List (Nat × PlanEntry)) (s : State) : Option (Nat × (Nat × Status)) :=
  plan.findSome? (fun x => (entryFails plan x.1 x.2 s).map (fun r => (x.1, r)))

/-! ### Applying a plan (R252, R253, R263) -/

/-- A tributary ends: its demapper, cipher contexts and packet port end with it (R253). -/
def tribEnd (t : Nat) (s : State) : State :=
  let s1 := pktTribEnd t (cphTribEnd t s)
  modTrib t (fun _ => startStatus (((s.entry t).map (fun x => x.kind)).getD 0)) (unitOff (tribKey t) s1)

/-- A tributary starts: client replacement until its demapper locks (R253). -/
def tribStart (t : Nat) (x : PlanEntry) (s : State) : State :=
  let s1 := modTrib t (fun _ => startStatus x.kind) (modUnit (tribKey t) (fun u => { u with force := u.cfg }) (unitOff (tribKey t) s))
  pktTribStart t x (cphTribStart t x s1)

/-- The TRIBs whose entry differs between two plans. -/
def changedTribs (old new : List (Nat × PlanEntry)) : List Nat :=
  (List.range 256).filter (fun t => decide (planFind old t ≠ planFind new t))

/-- The plan in force becomes `new`: unchanged entries are untouched (R253, R263). -/
def installPlan (new : List (Nat × PlanEntry)) (s : State) : State :=
  let old := s.map.plan
  let ch := changedTribs old new
  let s1 := (ch.filter (fun t => (planFind old t).isSome)).foldl (fun u t => tribEnd t u) s
  let s2 := { s1 with
    map := { s1.map with plan := new, groups := regroup old new s1.map.groups }
    frm := { s1.frm with pm := s1.frm.pm.filter (fun x =>
      decide (x.1 / 256 ≠ 2) || ((planFind new (x.1 % 256)).isSome && !ch.contains (x.1 % 256))) } }
  let s3 := ch.foldl (fun u t => match planFind new t with
    | some x => tribStart t x u
    | none => u) s2
  pktRefresh (plkRefresh s3)

/-- The plan after an engine has taken its part of a new one. -/
def mergePlan (e : Nat) (old new : List (Nat × PlanEntry)) : List (Nat × PlanEntry) :=
  (new.filter (fun x => x.2.engine = e)).foldl (fun t x => tabInsert t x.1 x.2) (old.filter (fun x => x.2.engine ≠ e))

/-- MAP_PLAN_COMMITTED (R266). -/
def committedPayload (id : Word) (st : Status) (n sec ns : Nat) : List Byte :=
  leBytes 4 id.toNat ++ leBytes 1 st.code ++ leBytes 1 0 ++ leBytes 2 n ++ leBytes 6 sec ++ leBytes 2 0 ++ leBytes 4 ns

/-- Both engines follow the plan: the commit completes (R252, R266). -/
def planCommitted (p : PendingPlan) (s : State) : State :=
  completeOr 0x0703 0 .ok 7 1 (committedPayload p.id .ok p.changed.length s.tim.seconds s.tim.nanoseconds)
    { s with map := { s.map with planId := p.id, pending := none } }

/-- A pending commit is cancelled before its instant (R254). -/
def planAbort (s : State) : State :=
  match s.map.pending with
  | none => s
  | some p =>
    completeOr 0x0703 0 .aborted 7 1 (committedPayload p.id .aborted 0 0 0) { s with map := { s.map with pending := none } }

/-- An engine reset or a lost line reference cancels a commit whose instant is not reached (R254). -/
def planAbortEarly (s : State) : State :=
  match s.map.pending with
  | some p => if todPast p.seconds p.nanoseconds s then s else planAbort s
  | none => s

/-- One engine follows the pending plan: its tributaries change, the PT and MSI it sends with them, and with both engines done the
commit completes (R222, R252, R253). -/
def applyPart (e : Nat) (p : PendingPlan) (s : State) : State :=
  let new := mergePlan e s.map.plan p.plan
  let ch := changedTribs s.map.plan new
  let p1 := { p with done0 := p.done0 || decide (e = 0), done1 := p.done1 || decide (e = 1)
                     changed := p.changed ++ ch.filter (fun t => !p.changed.contains t) }
  let s2 := ch.foldl (fun u t => sendStructure 1 t u) (sendStructure 0 e (installPlan new s))
  let s3 := { s2 with map := { s2.map with pending := some p1 } }
  if p1.done0 && p1.done1 then planCommitted p1 s3 else s3
/-- An engine between its switch instant and its transmitter's boundary applies at that boundary a plan that took effect at or
after the instant (R252). -/
def joinsSwitch (e : Nat) (p : PendingPlan) (s : State) : Bool :=
  match (s.engine e).change with
  | none => false
  | some c => c.started && !c.txDone && decide (c.startTod ≤ p.since)
/-- The committed plan that waits for an engine's switch boundary is applied there (R252). -/
def applyAtSwitch (e : Nat) (s : State) : State :=
  match s.map.pending with
  | none => s
  | some p =>
    if joinsSwitch e p s && decide (p.since ≤ s.tim.tod) && !(if e = 0 then p.done0 else p.done1) then applyPart e p s else s

/-- The datapaths power up: a stored plan takes effect, every tributary starts, groups start on working with NR, or under the LO or FS
in force; an MS accepted in STANDBY is dropped (R252, R263). -/
def mapUp (s : State) : State :=
  let s1 := match s.map.stored with
    | some x => installPlan x.2 { s with map := { s.map with planId := x.1, stored := none } }
    | none => s
  let s2 := s1.map.plan.foldl (fun u x => tribStart x.1 x.2 u) s1
  { s2 with map := { s2.map with groups := s2.map.groups.map (fun x => (x.1, apsDecide s2.tim.now false false (apsDown x.2))) } }

/-- The datapaths power down (R253, R263): a commit not yet applied is cancelled. -/
def mapDown (s : State) : State :=
  let s1 := planAbort s
  { s1 with map := { s1.map with groups := s1.map.groups.map (fun x => (x.1, apsDown x.2)), tribs := [] } }

end Sys2Proof.Machine
end

