-- ==== Sys2Proof/Machine/RegBase.lean ====
section
/-! DEFINITION. How a register word is put together from its fields, and the crossing classes of R26. -/

namespace Sys2Proof.Machine

/-- A word from its fields: the lowest bit, the width and the value of each (R6). -/
def pack : List (Nat × Nat × Nat) → Nat
  | [] => 0
  | (lo, w, v) :: fs => v % 2 ^ w * 2 ^ lo + pack fs

/-- The whole word as a mask, and the upper half. -/
def allBits : Nat := 0xFFFFFFFF
def highHalf : Nat := 0xFFFF0000

/-- Index `i` of a register array at `base` with a stride, when `off` lies in it. -/
def arrayIndex (base stride count off : Nat) : Option Nat :=
  if base ≤ off ∧ off < base + stride * count ∧ (off - base) % stride = 0 then some ((off - base) / stride) else none

/-- The low and the high word of a wide value (R29). -/
def lowWord (v : Nat) : Nat := v % 2 ^ 32
def highWord (v : Nat) : Nat := v / 2 ^ 32 % 2 ^ 32

end Sys2Proof.Machine
end

