-- ==== Sys2Proof/Machine/ThmControl.lean ====
section
/-! DEFINITION. The throttle ladder and the adaptive-voltage loop (chapter 14). -/

namespace Sys2Proof.Machine

def modThm (f : Thm → Thm) (s : State) : State := { s with thm := f s.thm }

/-! ### The ladder (R420 to R422) -/

/-- C of an engine (R166). -/
def nlcStages (e : Nat) (s : State) : Nat := (s.engine e).nlc.stages
/-- B: the least of the configured, fit and margin limits (R420). -/
def baseLimit (s : State) : Nat := min s.fec.ceilCfg (min (fitLimit s) (marginLimit s))
/-- Rungs a and b: those that slow an engine. -/
def rateRungs (s : State) : List Nat := [1, 2].filter (fun r => decide ((s.engine 0).eqForce.rate < r ∨ (s.engine 1).eqForce.rate < r))
/-- Enabled channels that are not fast-SOP channels. -/
def throttledChans (s : State) : List Nat := (List.range 16).filter (fun c => !isFsop c s && (s.chan c).cfg.en)
/-- Rungs c and d. -/
def monRungs (s : State) : List Nat :=
  let cs := throttledChans s
  (if cs.any (fun c => decide ((s.chan c).cfg.dexp < 8)) then [1] else []) ++ (if cs ≠ [] then [2] else [])
/-- Rungs of steps 1 to 4. -/
def step1Rungs (s : State) : Nat := min 8 (max (nlcStages 0 s) (nlcStages 1 s))
def step2Rungs (s : State) : Nat := baseLimit s - s.thm.fecFloor
def step3Rungs (s : State) : Nat := (rateRungs s).length + (monRungs s).length
def step4Rungs (s : State) : Nat := if s.pkt.ports.any (fun x => x.2.cfg.throttleOk) then 4 else 0
def rungCount (t : Thm) : Nat := t.step1 + t.step2 + t.step3 + t.step4

/-- The last of the first `n` entries of a list, 0 for none. -/
def lastOf (n : Nat) (l : List Nat) : Nat := (l.take n).getLastD 0

/-- Apply rungs 1 to L in the blocks that own them (R18, R420, R421). -/
def pushLevel (s : State) : State :=
  let t := s.thm
  let j := min (t.level - t.step1) t.step2
  let q := t.level - t.step1 - t.step2
  let rates := rateRungs s
  let mons := monRungs s
  let s1 := { s with
    dsp := throttleDsp (min t.level t.step1) (lastOf q rates) s.dsp
    fec := { s.fec with thmLimit := if j = 0 then 24 else baseLimit s - j }
    pkt := { s.pkt with step := min 4 (q - t.step3) } }
  fecRecompute (monThrottle (lastOf (q - rates.length) mons) s1)

/-- Account the time spent with L above 0 (R422, R474). -/
def accThrottle (s : State) : State :=
  match s.thm.throttleFrom with
  | none => s
  | some from0 =>
    let d := s.tim.now - from0
    let total := s.log.partThrottle + d
    { s with
      thm := { s.thm with throttlePs := s.thm.throttlePs + d, throttleFrom := some s.tim.now }
      log := { s.log with
        partThrottle := total % 1000000000
        life := vecMod s.log.life 3 (fun v => satAdd (2 ^ 64 - 1) v (total / 1000000000)) } }

/-- THM_LEVEL_CHANGED, at most once per 100 ms (R422, R436). -/
def levelEvent (s : State) : State :=
  let t := s.thm
  if t.pacing || decide (t.level = t.reported) then s
  else
    emit 13 1 (leBytes 1 t.reported ++ leBytes 1 t.level ++ leBytes 1 (rungCount t) ++ leBytes 1 (b2n t.exhausted)
      ++ leBytesInt 2 t.hottest ++ leBytes 1 t.hotSensor) { s with thm := { t with reported := t.level, pacing := true } }

/-- The ladder may act (R422). -/
def ladderActive (m : Mode) : Bool := decide (m = .service) || decide (m = .maintenance)

/-- The level at a sample (R420 to R422): limited to NR, up at once, down one rung once a millisecond has passed since its last change,
which a limit at this very sample is. -/
def levelAfter (t : Thm) (now : Nat) (active : Bool) (nr tgt tgtUp : Nat) : Nat :=
  let l := min t.level nr
  if !active then 0
  else if l < tgt then tgt
  else if l = t.level ∧ tgtUp < l ∧ t.lastChange + 1000000000 ≤ now then l - 1
  else l

/-- Recompute the list, set the level and apply it (R420 to R422). -/
def ladder (s : State) : State :=
  let s0 := accThrottle (modThm (fun t => { t with
    step1 := step1Rungs s, step2 := step2Rungs s, step3 := step3Rungs s, step4 := step4Rungs s }) s)
  let nr := rungCount s0.thm
  let hot := s0.thm.hottest
  let tgt := targetLevel s0 nr hot
  let act := ladderActive s0.dev.mode
  let l := levelAfter s0.thm s0.tim.now act nr tgt (targetLevel s0 nr (hot + 8))
  let full := act && decide (l = nr) && decide (tgt = nr)
    && decide (16 * ((s0.thm.thrStart : Int) + s0.thm.span) ≤ hot)
  let s1 := modThm (fun t => { t with
    lastChange := if l = t.level then t.lastChange else s0.tim.now
    level := l, exhausted := full
    throttleFrom := if l = 0 then none else some s0.tim.now }) s0
  pushLevel (if l = s0.thm.level then s1 else levelEvent s1)
/-- Outside SERVICE and MAINTENANCE the level is 0 at once (R422). -/
def ladderMode (s : State) : State :=
  if ladderActive s.dev.mode || decide (s.thm.level = 0) then s else ladder s

/-- The milliseconds of the last second with L above 0 (R437), at the second boundary. -/
def thmSecond (s : State) : Nat × State :=
  let s1 := accThrottle s
  (min 1000 (s1.thm.throttlePs / 1000000000), modThm (fun t => { t with throttlePs := 0 }) s1)

/-! ### Adaptive voltage (R430 to R433), in VID codes of 2.5 mV above 500 mV -/

/-- PWR_AVS_FLOOR as a code, rounded up to the step. -/
def floorCode (t : Thm) : Nat := (10 * t.floor - 5000 + 24) / 25
/-- The target the loop asks for (R430). -/
def loopTarget (t : Thm) : Nat := min 120 (max t.v (floorCode t))
/-- The loop may move the target (R433). -/
def avsMoves (s : State) : Bool := s.thm.avsRunning && decide (s.dev.mode ≠ .ember) && decide (s.dev.mode ≠ .lockout)

/-- Set the target, with SEQ and PWR_AVS_CHANGED (R432, R436). -/
def setTarget (code cause : Nat) (s : State) : State :=
  if code = s.thm.target then s
  else
    let s1 := modThm (fun t => { t with target := code, seq := (t.seq + 1) % 256 }) s
    emit 13 6 (leBytes 2 (targetMv s1) ++ leBytes 2 s1.thm.floor ++ leBytes 1 s1.thm.seq ++ leBytes 1 cause) s1

/-- Release a fixed target (R31, R435). -/
def avsRelease (s : State) : State :=
  if s.thm.fixed = none then s
  else
    let s1 := modThm (fun t => { t with fixed := none }) s
    if avsMoves s1 then setTarget (loopTarget s1.thm) 2 s1 else s1

/-- v, the run of evaluations above 6 %, and AT_MAX after an evaluation with margin m in tenths of a percent (R430). -/
def avsLoop (m : Nat) (t : Thm) : Thm :=
  if m < 30 then { t with v := min 120 (t.v + 4), lowRun := 0, atMax := decide (t.v = 120) }
  else if m ≤ 60 then { t with lowRun := 0, atMax := false }
  else if t.lowRun + 1 < 100 then { t with lowRun := t.lowRun + 1, atMax := false }
  else { t with v := max 60 (t.v - 1), lowRun := 0, atMax := false }

/-- Cause of a change of target: 3 limited at the maximum, 1 the floor, 0 the loop (R436). -/
def avsCause (m : Nat) (old new : Thm) : Nat :=
  if m < 30 ∧ 116 < old.v then 3 else if old.v = new.v ∨ loopTarget new ≠ new.v then 1 else 0

/-- The loop at one evaluation. -/
def avsStep (m : Nat) (s : State) : State :=
  if !avsMoves s then s
  else
    let s1 := modThm (avsLoop m) s
    if s1.thm.fixed.isSome then s1 else setTarget (loopTarget s1.thm) (avsCause m s.thm s1.thm) s1

/-- PWR_AVS_FAULT. -/
def avsFaultEvent (raised : Bool) (s : State) : State :=
  emit 13 7 (leBytes 1 (b2n raised) ++ leBytes 1 0 ++ leBytes 2 (targetMv s) ++ leBytes 2 s.thm.measured)
    (modThm (fun t => { t with fault := raised, faultRun := 0, clearRun := 0 }) s)
/-- R433: the measured rail against the target, each millisecond. -/
def avsCheck (s : State) : State :=
  if !s.thm.avsRunning then s
  else
    let off := decide (150 < ((10 * s.thm.measured : Int) - (5000 + 25 * s.thm.target : Nat)).natAbs)
    let s1 := modThm (fun t => { t with
      faultRun := if off then t.faultRun + 1 else 0, clearRun := if off then 0 else t.clearRun + 1 }) s
    if !s1.thm.fault && decide (10 ≤ s1.thm.faultRun) then avsFaultEvent true s1
    else if s1.thm.fault && decide (100 ≤ s1.thm.clearRun) then avsFaultEvent false s1
    else s1

/-! ### The mirrors (R437) -/

/-- THM_STATUS, THM_LIMITS, THM_LADDER, PWR_AVS_STATUS without the strap, and PWR_AVS_CODE as a sample or an evaluation gives them. -/
def thmStatus (s : State) : Nat :=
  let t := s.thm
  pack [(0, 6, t.level), (8, 6, rungCount t), (16, 1, b2n t.fast), (18, 1, b2n t.exhausted), (19, 1, b2n t.flashOk),
    (20, 1, b2n (ladderActive s.dev.mode))]
def avsStatus (s : State) : Nat :=
  let t := s.thm
  pack [(0, 10, targetMv s), (16, 10, t.measured), (28, 1, b2n t.atMax), (29, 1, b2n t.fault), (30, 1, b2n t.fixed.isSome)]
def thmMirror (s : State) : State :=
  modThm (fun t => { t with
    statusMirror := thmStatus s, limitsMirror := pack [(0, 8, t.thrStart), (8, 8, t.span), (16, 8, t.tripLimit)]
    ladderMirror := pack [(0, 4, t.step1), (8, 5, t.step2), (16, 3, t.step3), (20, 3, t.step4)] }) s
def avsMirror (s : State) : State :=
  modThm (fun t => { t with
    avsMirror := avsStatus s, floorMirror := t.floor, codeMirror := pack [(0, 8, t.target), (8, 8, t.seq)] }) s

end Sys2Proof.Machine
end

