-- ==== Sys2Proof/Machine/DevOps.lean ====
section
/-! DEFINITION. Device modes: power-up and power-down, mode changes, trips, LOCKOUT and resets (chapters 02, 14, 17). -/

namespace Sys2Proof.Machine

/-! ### Modes (R30 to R34) -/

/-- DEV_MODE.MODE (R30). -/
def Mode.code : Mode → Nat
  | .kindling => 0 | .standby => 1 | .calibrate => 2 | .service => 3 | .maintenance => 4 | .quiesce => 5 | .ember => 6 | .lockout => 7
/-- The mode a DEV_MODE_SET names (R30, R53). -/
def modeOf (n : Nat) : Option Mode :=
  if n = 1 then some .standby else if n = 2 then some .calibrate else if n = 3 then some .service
  else if n = 4 then some .maintenance else if n = 5 then some .quiesce else none

/-- The transitions that DEV_MODE_SET may request (R32). -/
def commanded (old new : Mode) : Bool :=
  match old, new with
  | .standby, .calibrate | .calibrate, .standby | .standby, .service | .service, .maintenance | .maintenance, .service
  | .service, .quiesce | .maintenance, .quiesce | .quiesce, .service => true
  | _, _ => false
/-- Those that complete at once (R53). -/
def immediate (old new : Mode) : Bool :=
  match old, new with
  | .service, .maintenance | .maintenance, .service => true
  | _, _ => false

/-- READY is low in KINDLING and LOCKOUT; outputs are squelched unless the datapaths carry traffic (R30, R54, R424). -/
def setMode (m : Mode) (s : State) : State :=
  { s with
    dev := { s.dev with mode := m }
    pins := { s.pins with ready := !(decide (m = .kindling) || decide (m = .lockout)), squelched := !modePowered m } }

/-! ### Power (R141, R206, R253, R342, R376, R455) -/

/-- The datapaths power up (STANDBY to SERVICE). -/
def powerUp (s : State) : State :=
  let s0 := groupUp 1 (groupUp 0 (miPower 2 (fecUp (installProfile 1 (installProfile 0 s)))))
  let s1 := if s0.tim.line0 || s0.tim.line1 then framerUp 1 (framerUp 0 s0) else s0
  pktRefresh (plkUp (mapUp (pktUp (clnUp s1))))
/-- Converters and DSP power up alone (STANDBY to CALIBRATE). -/
def powerCalibrate (s : State) : State := groupUp 1 (groupUp 0 (miPower 1 s))

/-- A calibration that has not finished ends aborted (R138). -/
def stopForeground (g : Nat) (s : State) : State := if (s.group g).state = .foreground then fgFinish g true s else s

/-- The datapaths stop: powered down, or clocks gated in EMBER and LOCKOUT. -/
def powerDown (goal : GroupState) (cause : Nat) (s : State) : State :=
  let s1 := engineOff 1 cause (engineOff 0 cause s)
  let s2 := groupDown 1 goal (groupDown 0 goal (stopForeground 1 (stopForeground 0 s1)))
  let s3 := framerDown (poolDown s2)
  pktDown (clnDown (plkDown (mapDown s3)))
/-- Into STANDBY: the memories lose their contents too (R455), and Snapshot copies go (R26). -/
def powerOff (s : State) : State :=
  let s1 := miPower 0 (powerDown .off 5 s)
  { s1 with snap := s1.snap.filter (fun x => decide (x.1 < 0x100000)), dev := { s1.dev with tidy := [] } }

/-- The units that have frame boundaries: engines, tributaries of the plan and client interfaces, by scope × 256 + unit. -/
def allUnits (s : State) : List Nat := [0, 1] ++ s.map.plan.map (fun x => 256 + x.1) ++ (List.range 32).map (fun c => 512 + c)
/-- Out of MAINTENANCE: every unit is to be tidied at its next frame boundary, and what R31 removes that has no frame boundary of its
own goes now: the peer-link loop, pending flips, a fixed AVS target. -/
def leaveMaintenance (s : State) : State :=
  plkSetLoop 0 (miDropFlips (avsRelease { s with dev := { s.dev with tidy := allUnits s } }))

/-- Ports that stopped admitting in QUIESCE admit again (R45). -/
def resumePorts (s : State) : State :=
  pktRefresh { s with pkt := { s.pkt with ports := s.pkt.ports.map (fun x => (x.1, { x.2 with stopped := false })) } }

/-! ### The drain of QUIESCE (R45, R46) -/

/-- DEV_QUIESCED (R56). -/
def quiesced (d : Drain) (frames tiles : Nat) (s : State) : State :=
  emit 0 2 (leBytes 4 frames ++ leBytes 4 tiles ++ leBytes 4 ((s.tim.now - d.startPs) / 1000000)) s

/-- What the mode change does to the blocks, the new mode being in force. -/
def modeEffect (old new : Mode) (s : State) : State :=
  let s0 := if old = .maintenance ∧ new ≠ .maintenance then leaveMaintenance s
    else if old = .standby ∧ new ≠ .standby then endRetest s else s
  match new with
  | .standby => if old = .kindling then { s0 with thm := { s0.thm with avsRunning := true } } else powerOff s0
  | .calibrate => powerCalibrate s0
  | .service | .maintenance =>
    if old = .standby then powerUp s0
    else if old = .quiesce then plkRefresh (resumePorts { s0 with dev := { s0.dev with drain := none } })
    else s0
  | .quiesce =>
    plkRefresh (pktRefresh { s0 with dev := { s0.dev with
      drain := some ⟨(s0.dev.changing.map (fun c => c.timeoutMs)).getD 0, s0.tim.now⟩, drainFrames := 0, drainTiles := 0 } })
  | .ember => powerDown .off 5 { s0 with
      atTrip := ⟨some ⟨s.cnv, s.dsp, s.fec, s.frm, s.map, s.cph, s.pkt, s.cln, s.plk, s.mon⟩⟩ }
  | .lockout => cphClearEpochs (powerDown .off 5 s0)
  | .kindling => s0

/-- The payload of DEV_MODE_CHANGED (R56). -/
def modePayload (old new : Mode) (st : Status) : List Byte := leBytes 1 old.code ++ leBytes 1 new.code ++ leBytes 1 st.code ++ leBytes 1 0
/-- The event of a mode change: it completes the DEFERRED command, ABORTED when hardware overtook it (R34, R56). -/
def modeEvent (old new : Mode) (st : Status) (s : State) : State :=
  let pay := modePayload old new st
  let s1 := { s with dev := { s.dev with changing := none } }
  if s.dev.changing.isSome then completeOr 0x0001 0 st 0 1 pay s1 else emit 0 1 pay s1

/-- Take a mode: its effects, a COUNTERS record and DEV_MODE_CHANGED (R32, R56, R472). -/
def enterMode (m : Mode) (st : Status) (s : State) : State :=
  let old := s.dev.mode
  let s1 := ladderMode (modeEffect old m (setMode m s))
  modeEvent old m st (logCounters (orderlyMode m) s1)
/-- A transition that hardware makes: a DEFERRED change in progress ends ABORTED (R34). -/
def hardwareMode (m : Mode) (s : State) : State := enterMode m (if s.dev.changing.isSome then .aborted else .ok) s

/-- Drop what the Woodpile holds and go to STANDBY (R46). -/
def endDrain (s : State) : State :=
  match s.dev.drain with
  | none => s
  | some d =>
    let frames := s.pkt.frames.length
    let tiles := (tilesInUse s.pkt).length
    let s1 := flushFrames (fun _ => true) countDown s
    let s2 := quiesced d frames tiles { s1 with dev := { s1.dev with drain := none, drainFrames := frames, drainTiles := tiles } }
    hardwareMode .standby s2
/-- A drain timeout of 0 ends the drain at entry (R46). -/
def afterEntry (s : State) : State :=
  if s.dev.mode = .quiesce ∧ (s.dev.drain.map (fun d => d.timeoutMs)) = some 0 then endDrain s else s

/-! ### LOCKOUT and EMBER (R32, R54, R424) -/

/-- Enter LOCKOUT with its cause and failing address (R54). -/
def enterLockout (cause address : Nat) (s : State) : State :=
  if s.dev.mode = .lockout then s
  else
    let s1 := { s with dev := { s.dev with
      lockoutCause := cause, acHeld := true, drain := none, appReset := none, waitHost := false
      lockout := ⟨s.tim.seconds, BitVec.ofNat 32 address, s.dev.chain⟩ } }
    logRecord 0x0003 0 (leBytes 4 cause ++ leBytes 4 address)
      (hardwareMode .lockout (abortDeferred (fun d => d.opcode = 0x0002) s1))

/-- A trip squelches and gates the datapaths; LOCKOUT stays (R33, R424). An application reset that was fetching its image again
goes on after cooling, still against the hash measured at Kindling (R43; log 23). -/
def enterEmber (s : State) : State :=
  if s.dev.mode = .lockout then s
  else if s.dev.mode = .ember then s
  else hardwareMode .ember { s with dev := { s.dev with
    drain := none, appReset := if s.dev.phase = 5 then s.dev.appReset else none } }

/-! ### Application and engine resets (R42 to R44) -/

/-- Commands that have started and not answered complete ABORTED (R42, R73). -/
def abortInflight (s : State) : State :=
  (s.hif.inflight).foldl (fun u f => finish f .aborted 0xFFFF [] u)
    { s with hif := { s.hif with inflight := [], transfers := [] } }

/-- The datapath blocks return to reset, keeping what the TC holds: calibration, retired cores, keys, retired tiles (R42). -/
def datapathReset (s : State) : State :=
  let s1 := miPower 0 s
  { s1 with
    snap := s1.snap.filter (fun x => decide (x.1 < 0x100000)), latched := s1.latched.filter (fun x => decide (x.1 < 0x100000))
    cnv := { groups := vecMap (fun _ x => restoreGroup x) s1.cnv.groups, fg := [] }
    dsp := Dsp.reset
    fec := { Fec.reset with
      cores := vecMap (fun _ c => { c with block := none, kat := false, katAfterError := false, retest := false }) s1.fec.cores
      reserve := s1.fec.reserve, reserveUse := s1.fec.reserve }
    frm := Frm.reset
    map := Map.reset
    cph := cphAppReset s1.cph
    pkt := { Pkt.reset with statsSecond := 0 }
    cln := Cln.reset
    plk := Plk.reset
    mon := monAppReset s1.mon }

/-- Every lease ends by reset, cause 2 (R84). -/
def endLeases (s : State) : State :=
  s.hif.leases.foldl (fun u l => emit 1 3 (leBytes 4 l.id.toNat ++ leBytes 1 2) u) { s with hif := { s.hif with leases := [] } }

/-- The datapaths stop for an application reset: the mode they see is KINDLING already (R30). -/
def resetPower (s : State) : State :=
  let s1 := powerDown .off 5 { s with dev := { s.dev with mode := .kindling } }
  { s1 with dev := { s1.dev with mode := s.dev.mode } }
/-- An application reset may begin: not in KINDLING, EMBER or LOCKOUT, which R32 leaves by their own transitions (R43). -/
def resetAllowed (m : Mode) : Bool := !(decide (m = .kindling) || decide (m = .ember) || decide (m = .lockout))
/-- What an application reset does to the device beside its mode: commands end ABORTED, leases end, the datapaths and their
configuration go, and what the TC holds stays (R42, R73). -/
def resetContents (s : State) : State :=
  let s1 := logCounters true s
  let s2 := if modePowered s1.dev.mode || decide (s1.dev.mode = .calibrate) then resetPower s1 else s1
  let s3 := (List.range 14).foldl (fun u k => scrubAbort k u) (hkaAppReset s2)
  let s4 := abortInflight (abortDeferred (fun d => d.opcode ≠ 0x0002 ∧ d.opcode ≠ 0x0001) s3)
  let s5 := datapathReset { (endLeases s4) with
    tim := { s4.tim with snapshots := [], ptpSends := [] }
    log := { s4.log with
      exporting := none
      refresh := s4.log.refresh.map (fun r => { r with byCommand := false })
      plan := s4.log.plan.map (fun p => { p with byCommand := false }) } }
  { s5 with dev := { s5.dev with engineReset := Vector.replicate 2 false, imageLoad := none, tidy := [], acStopped := Vector.replicate 4 false } }
/-- The cause bits with exactly one set (R55). -/
def oneCause (n : Nat) : ResetCause := ⟨decide (n = 0), decide (n = 1), decide (n = 2), decide (n = 3), decide (n = 4)⟩
/-- DEV_APP_RESET_DONE, completing a DEV_APP_RESET that started it (R56). -/
def appResetDone (causeBit : Nat) (s : State) : State := completeOr 0x0002 0 .ok 0 3 (leBytes 1 (2 ^ causeBit) ++ leBytes 3 0) s
/-- An application reset in KINDLING, EMBER or LOCKOUT, which R32 leaves by their own transitions: its effects without a change of
mode. In EMBER it is over at once; ACs that run in phase 6 of KINDLING begin that phase again; ACs held in reset run nothing
(R42, R59; log 11). -/
def resetInPlace (causeBit : Nat) (s : State) : State :=
  let s1 := resetContents (abortDeferred (fun d => d.opcode = 0x0002) s)
  match s.dev.mode with
  | .ember => appResetDone causeBit { s1 with dev := { s1.dev with cause := oneCause causeBit } }
  | .kindling =>
    if s.dev.acHeld then s1
    else { s1 with dev := { s1.dev with
      appReset := some { (s.dev.appReset.getD ⟨causeBit, false, false⟩) with causeBit := causeBit } } }
  | _ => s1

/-- An application reset begins (R35, R42, R43, R472): the cause bit it will report, whether it is the automatic restart. -/
def startAppReset (causeBit : Nat) (automatic : Bool) (s : State) : State :=
  let s5 := resetContents s
  hardwareMode .kindling { s5 with dev := { s5.dev with
    phase := 6, acHeld := false, drain := none, appReset := some ⟨causeBit, automatic, automatic⟩, resumeDue := false } }


/-- Phase 6 is over: STANDBY, or EMBER while a trip or its latch is active (R36, R43, R489). -/
def finishBoot (s : State) : State :=
  let s1 := { s with dev := { s.dev with phase := 7, loadGo := false, waitHost := false } }
  let s2 := if s1.thm.trip || s1.thm.latched then enterEmber s1 else hardwareMode .standby s1
  match s.dev.appReset with
  | none => s2
  | some a =>
    appResetDone a.causeBit
      { s2 with dev := { s2.dev with
        appReset := none, cause := oneCause a.causeBit, resumeDue := a.automatic && s2.dev.resume && decide (s2.dev.mode = .standby) } }

/-- Leave EMBER by an application reset (R32, R425 to R427): the pin rises, the flash wakes, the record goes to the Logbook. -/
def leaveEmber (causeBit : Nat) (automatic : Bool) (s : State) : State :=
  let r := s.thm.record
  let s1 := { s with
    thm := { s.thm with trip := false, following := false, recordDue := false }
    pins := { s.pins with thermTripN := true } }
  let s2 := flashWake s1
  let s3 := if s.thm.recordDue then
      logRecord 0x0004 0 (leBytes 6 r.seconds ++ leBytes 2 0 ++ leBytes 4 r.nanoseconds ++ leBytesInt 2 r.peak ++ leBytes 1 r.sensor
        ++ leBytes 1 (packBits [r.valid, decide (r.cause = 1), r.flashWait])) s2
    else s2
  if s.dev.phase < 6 then
    hardwareMode .kindling { s3 with dev := { s3.dev with
      appReset := s3.dev.appReset.map (fun _ => ⟨causeBit, automatic, automatic⟩) } }
  else startAppReset causeBit automatic s3

/-- An engine reset: the engine stops, keeps its profile and calibration, and starts again (R44). -/
def startEngineReset (e : Nat) (s : State) : State :=
  let s1 := planAbortEarly { s with dev := { s.dev with engineReset := vecMod s.dev.engineReset e (fun _ => true) } }
  let s2 := discardBlocks (fun b => b.engine ≠ e) (engineOff e 5 s1)
  let s3 := groupUp e (groupDown e .off (stopForeground e s2))
  pktRefresh (plkRefresh (framerRestart e s3))
/-- The DSP has locked: an engine reset completes (R44, R56). -/
def engineReady (e : Nat) (s : State) : State :=
  if vecGet false s.dev.engineReset e then
    pktRefresh (plkRefresh (completeOr 0x0003 e .ok 0 4 (leBytes 1 e ++ leBytes 3 0)
      { s with dev := { s.dev with engineReset := vecMod s.dev.engineReset e (fun _ => false) } }))
  else s

/-! ### Warm and cold reset (R42, R489, R503) -/

/-- RESET_N or PWR_OK low: everything but the always-on domain, the flash and the fuses is lost; a page program under way
finishes (R42, R489). -/
def warmReset (s : State) : State :=
  let l := s.log
  let l1 := match l.work, l.queue with
    | .program true b, r :: _ => commit { r with blockB := some b } (countPage (setBlock b (fun x => { x with pages := x.pages + 1 }) l))
    | .program false b, _ => countPage (setBlock b (fun x => { x with pages := x.pages + 1 }) l)
    | _, _ => cutShort l
  { State.reset with
    dev := { Dev.reset with
      cause := oneCause 1, svnMinTc := s.dev.svnMinTc, svnMinAc := s.dev.svnMinAc, variantN := s.dev.variantN
      serial := s.dev.serial, slotAValid := s.dev.slotAValid, slotBValid := s.dev.slotBValid }
    hif := { Hif.reset with perstLow := s.hif.perstLow }
    tim := { Tim.reset with
      now := s.tim.now, kindlingStart := s.tim.now, tod := s.tim.tod, highestLatched := s.tim.highestLatched
      lastLatch := s.tim.lastLatch, stepped := s.tim.stepped, valid := s.tim.valid
      servo := if s.tim.servo = .freerun then .freerun else .holdover
      line0 := s.tim.line0, line1 := s.tim.line1, client := s.tim.client, pcie := s.tim.pcie
      fecOnLine1 := s.tim.fecOnLine1, clientFallback := s.tim.clientFallback
      source := s.tim.source, freqAdj := s.tim.freqAdj, ptpTimeout := s.tim.ptpTimeout, learned := s.tim.learned, onShadow := true }
    cph := { Cph.reset with boots := s.cph.boots + 1, bound := s.cph.bound }
    thm := { s.thm with
      level := 0, step1 := 0, step2 := 0, step3 := 0, step4 := 0, exhausted := false, reported := 0, pacing := false
      throttleFrom := none, throttlePs := 0, avsRunning := false, v := 120, target := 120, lowRun := 0, atMax := false, fixed := none
      fault := false, faultRun := 0, clearRun := 0, margin := 0, measured := 0, floor := 650
      seq := if s.thm.target = 120 then s.thm.seq else (s.thm.seq + 1) % 256
      record := { s.thm.record with flashWait := s.thm.record.flashWait || (s.thm.trip && programming s) }
      statusMirror := 0, limitsMirror := 0x760A64, ladderMirror := 0, avsMirror := 0x320, floorMirror := 0x28A, codeMirror := 0x78 }
    mi := miReset s.mi
    log := { Log.reset with
      blocks := l1.blocks, blockSeq := l1.blockSeq, records := l1.records, kept := l1.kept, seq := l1.seq, asleep := l1.asleep || s.thm.trip
      discarded := l1.discarded, lastLife := l1.lastLife, unreadLife := l1.unreadLife, dctrCeiling := l1.dctrCeiling
      lifeSpill := l1.lifeSpill, sparesOut := l1.sparesOut, refreshLife := l1.refreshLife, refreshSeconds := l1.refreshSeconds
      refreshCount := l1.refreshCount, budgetPages := l1.budgetPages, budgetFrom := l1.budgetFrom }
    pins := { s.pins with resetN := false, ready := false, squelched := true }
    freeCount := s.freeCount
    pending := s.pending }

/-- Loss of the always-on supply: a cold reset, which also loses the always-on state (R42, R489). -/
def coldReset (s : State) : State :=
  let w := warmReset { s with log := cutShort s.log }
  { w with
    dev := { w.dev with cause := oneCause 0 }
    tim := Tim.reset
    thm := Thm.reset
    log := { w.log with lastLife := 0, unreadLife := 0, asleep := false }
    pins := { w.pins with pwrOk := false, vddAon := false, thermTripN := true } }

end Sys2Proof.Machine
end

