-- ==== Sys2Proof/Machine/CoherentDsp.lean ====
section
/-! DEFINITION. The meanings of group 0x04: coherent DSP and line profiles (chapter 06). -/

namespace Sys2Proof.Machine

/-- What waits for the next block of a powered group: the converters' words and trims, a computed filter, and the recomputation
that a new swing starts (R132, R133, R140, R170). -/
def convertersBlock (e : Nat) (s : State) : State :=
  if !((s.group e).powered && (s.group e).clockLocked) then s
  else
    let swings := fun (u : State) => (u.group e).dacs.toList.map (fun d => d.inForce.swing)
    let s1 := modEngine e (fun y => { y with txForce := y.txReady.getD y.txForce, txReady := none }) (cnvBlock e s)
    if swings s1 = swings s then s1 else startTxpd e s1

/-- A value or a return to CD_ACQ that DSP_CD_SET left to this block (R155). -/
def cdBlock (e : Nat) (s : State) : State :=
  let x := s.engine e
  let s1 := modEngine e (fun y => { y with
    cdEst := y.cdNext.getD y.cdEst, cdStart := y.cdNext.getD y.cdStart
    cdFresh := if y.cdNext.isSome then false else y.cdFresh, cdNext := none, cdRestart := false }) s
  if x.cdRestart && x.live then pktRefresh (toCdAcq e 3 s1) else s1

/-- DSP_BLOCK_BOUNDARY: pending Next block writes of the engine and its converters take effect; measurements are
taken; residual dispersion is tracked while LOCKED; monitor chains take what has been set (R18, R132, R140, R149, R154 to R156,
R165, R178, R387). -/
def execDspBlockBoundary (engine : Fin 2) (meas : DspMeasure) (s : State) : Host.Outcome State Fault Refusal :=
  let e := engine.val
  let x := s.engine e
  let s0 := convertersBlock e s
  if x.state = .off then .next s0
  else
    let s1 := modEngine e (fun y => { y with
      eqForce := y.eq, rxForce := y.rx, nlcInUse := y.nlcReady, nlcBase := y.nlc.stages, nlcCut := s.dsp.nlcDrop, rateCut := s.dsp.rateLimit
      cdEst := if y.state = .locked then clampInt (y.cdStart - 500) (y.cdStart + 500) (y.cdEst + meas.cdShift) else y.cdEst
      meas := meas, skewEst := meas.skewEst
      snrSumX := y.snrSumX + meas.snrX, snrSumY := y.snrSumY + meas.snrY, snrCount := y.snrCount + 1
      slips := satAdd 0xFFFFFFFF y.slips meas.slips
      pilotErr := satAdd 0xFFFFFFFF y.pilotErr meas.pilotErrors
      clips := satAdd 0xFFFFFFFF y.clips meas.clipped
      fast := y.fast.map (fun f => { f with peak := max f.peak meas.sopRate }) }) s0
    .next (monBlock e (cdBlock e (if x.fastExit then fastExitNow e s1 else s1)))

/-- DSP_LOS_DECLARED (R173). -/
def execDspLosDeclared (engine : Fin 2) (s : State) : Host.Outcome State Fault Refusal :=
  let x := s.engine engine.val
  .next (if x.state ≠ .off ∧ ¬ x.dlos then
      pktRefresh (setLock engine.val .noSignal true 1 (modEngine engine.val (fun y => { y with regaining := false }) s))
    else s)

/-- DSP_LOS_CLEARED: acquisition starts at CD_ACQ (R172, R173). -/
def execDspLosCleared (engine : Fin 2) (s : State) : Host.Outcome State Fault Refusal :=
  .next (if (s.engine engine.val).dlos then toCdAcq engine.val 1 s else s)

/-- DSP_CD_FILTER_SET: the bulk filter is set; a new fixed value is taken, else the estimate is kept (R154, R172). -/
def execDspCdFilterSet (engine : Fin 2) (s : State) : Host.Outcome State Fault Refusal :=
  let x := s.engine engine.val
  .next (if x.state = .cdAcq ∧ ¬ x.searching then
      setLock engine.val .clockAcq false 0 (modEngine engine.val (fun y => { y with
        cdEst := if y.cdFresh ∧ ¬ y.cd.search then y.cd.value else y.cdEst
        cdStart := if y.cdFresh ∧ ¬ y.cd.search then y.cd.value else y.cdEst
        cdFresh := if y.cd.search then y.cdFresh else false }) s)
    else s)

/-- DSP_CLOCK_ACQUIRED (R172, R177). -/
def execDspClockAcquired (engine : Fin 2) (s : State) : Host.Outcome State Fault Refusal :=
  let st := (s.engine engine.val).state
  .next (if st = .clockAcq ∨ st = .switching then pktRefresh (setLock engine.val .eqAcq false 0 s) else s)

/-- DSP_EQ_PRECONVERGED (R172). -/
def execDspEqPreconverged (engine : Fin 2) (s : State) : Host.Outcome State Fault Refusal :=
  .next (if (s.engine engine.val).state = .eqAcq then setLock engine.val .sync false 0 s else s)

/-- DSP_SYNC_WORD_FOUND: LOCKED; a profile change and an engine reset complete (R44, R172, R177). -/
def execDspSyncWordFound (engine : Fin 2) (s : State) : Host.Outcome State Fault Refusal :=
  let e := engine.val
  if (s.engine e).state ≠ .sync then .next s
  else
    let s1 := setLock e .locked false 0 (modEngine e (fun y => { y with acqRetry := 0, failedReacq := 0, regaining := false }) s)
    let s2 := match (s1.engine e).change with
      | some c => if c.started then profileDone e .ok s1 else s1
      | none => s1
    .next (pktRefresh (plkRefresh (engineReady e (framerRestart e s2))))

/-- DSP_ACQ_STAGE_TIMEOUT: back to CD_ACQ with ACQ_RETRY counted (R154, R172, R174). DESIGN CHOICE: the failed reacquisitions of R154
are counted since LOCKED and not since the last search, and a SYNC that does not regain lock within its 1 ms is none (log 46). -/
def execDspAcqStageTimeout (engine : Fin 2) (s : State) : Host.Outcome State Fault Refusal :=
  let e := engine.val
  let x := s.engine e
  .next (if x.live ∧ x.state ≠ .locked then
      pktRefresh <| toCdAcq e 0 (modEngine e (fun y => { y with
        acqRetry := satAdd 0xFF y.acqRetry 1
        failedReacq := if y.regaining then y.failedReacq else y.failedReacq + 1 }) s)
    else s)

/-- DSP_SYNC_LOST: LOCKED is left for SYNC (R174). -/
def execDspSyncLost (engine : Fin 2) (s : State) : Host.Outcome State Fault Refusal :=
  .next (if (s.engine engine.val).state = .locked then
      setLock engine.val .sync false 2 (modEngine engine.val (fun y => { y with regaining := true }) s)
    else s)

/-- The candidate of a scan that is nearest to a dispersion: `n` steps to either side of `mid` (R154). -/
def scanNearest (mid : Int) (step n : Nat) (v : Int) : Int := mid + step * clampInt (-n) n (roundDiv (v - mid) step)
/-- The search finds a dispersion: it scans the centre ± half-width at 1,000 ps/nm, and refines the best candidate at 50 and then at
10 ps/nm (R154). DESIGN CHOICE: the coarse candidates lie at whole steps from the centre, a refinement reaches half a step of the one
before to either side, and nothing outside the half-width is tried (log 46). -/
def searchFinds (cd : CdCfg) (v : Int) : Bool :=
  decide ((v - cd.value).natAbs ≤ cd.halfWidth)
    && decide (scanNearest (scanNearest (scanNearest cd.value 1000 (cd.halfWidth / 1000) v) 50 10 v) 10 2 v = v)
/-- DSP_CD_SEARCH_COMPLETE: in CD_ACQ, where alone a search scans, the result is adopted, or the search reports TIMEOUT; a dispersion
that the scan does not try is none (R154, R173, R180). -/
def execDspCdSearchComplete (engine : Fin 2) (found : Option Int) (s : State) : Host.Outcome State Fault Refusal :=
  let e := engine.val
  let x := s.engine e
  if !x.searching || decide (x.state ≠ .cdAcq) then .next s
  else
    match found.filter (searchFinds x.cd) with
    | some v =>
      .next (pktRefresh (setLock e .clockAcq false 0 (searchDone e .ok v (modEngine e (fun y => { y with
        cdEst := v, cdStart := v, cdFound := true, cdFresh := false }) s))))
    | none => .next (searchDone e .timeout x.cdEst (modEngine e (fun y => { y with cdFresh := false }) s))

/-- An entry into fast-SOP mode, with its event at most once per 100 ms (R158, R159, R161). -/
def fastEnter (e source : Nat) (s : State) : State :=
  let x := s.engine e
  let since := x.entriesSince + 1
  let due := match x.lastEntryEvent with
    | some t => decide (t + pace100 ≤ s.tim.now)
    | none => true
  let s1 := modEngine e (fun y => { y with
    fast := some ⟨source, s.tim.now + y.eqForce.hold * 1000000000, y.meas.sopRate⟩
    lastSource := source
    entries := satAdd 0xFFFF y.entries 1
    entriesSince := if due then 0 else since
    lastEntryEvent := if due then some s.tim.now else y.lastEntryEvent }) s
  if due then
    emit 4 3 (leBytes 1 e ++ leBytes 1 1 ++ leBytes 1 source ++ leBytes 1 0 ++ leBytes 2 since ++ leBytes 2 0) s1
  else s1

/-- FASTSOP_ENTRY: the request is taken at the block boundary, restarts the hold, or is ignored and counted; after the hold's end
it is a new entry (R158 to R160). -/
def execFastsopEntry (engine : Fin 2) (s : State) : Host.Outcome State Fault Refusal :=
  let e := engine.val
  let x := s.engine e
  match x.fastRequest with
  | none => .next s
  | some src =>
    let s1 := modEngine e (fun y => { y with fastRequest := none }) s
    let inChange := (x.change.map (fun c => c.started)).getD false
    if !x.eqForce.fsopEn || decide (x.state ≠ .locked) || inChange then
      .next (modEngine e (fun y => { y with ignored := satAdd 0xFFFF y.ignored 1 }) s1)
    else if x.fast.isSome && !x.fastExit then
      .next (modEngine e (fun y => { y with fast := y.fast.map (fun f =>
        { f with holdEnd := s.tim.now + y.eqForce.hold * 1000000000 }) }) s1)
    else .next (fastEnter e src (fastExitNow e s1))

/-- FASTSOP_HOLD_EXPIRY: at the next block boundary, back to the normal rate in force (R159). -/
def execFastsopHoldExpiry (engine : Fin 2) (s : State) : Host.Outcome State Fault Refusal :=
  .next (modEngine engine.val (fun x => { x with fastExit := x.fast.isSome }) s)

/-- NLC_COMPUTE_COMPLETE: the coefficients are ready for the next block (R165). -/
def execNlcComputeComplete (engine : Fin 2) (s : State) : Host.Outcome State Fault Refusal :=
  .next (modEngine engine.val (fun x =>
    if x.nlcComputing then { x with nlcComputing := false, nlcReady := x.nlc.stages } else x) s)

/-- TXPD_RECOMPUTE_COMPLETE: the new filter is ready for the next block, and reported (R169, R170, R180). Which
lanes the boost limit binds follows from the response and MAX_BOOST (`boostMask`), so what the row says of them is not read. -/
def execTxpdRecomputeComplete (engine : Fin 2) (_boostLimited : BitVec 4) (s : State) : Host.Outcome State Fault Refusal :=
  let e := engine.val
  if !(s.engine e).recomputing then .next s
  else
    let f := txWanted e s
    let st : Status := if boostMask e f = 0 then .ok else .partly
    .next (completeOr 0x0406 e st 4 5 (leBytes 1 e ++ leBytes 1 st.code ++ leBytes 1 (boostMask e f) ++ leBytes 1 0)
      (modEngine e (fun x => { x with recomputing := false, txReady := some f }) s))

/-- The engine switches now: the receiver and the decoder pool take the new profile (R177, R207); the encoder and the framer follow
at the transmitter's boundary. -/
def switchNow (e : Nat) (s : State) : State := pktRefresh (plkRefresh (fecSwitch e (startSwitch e s)))
/-- PROFILE_SWITCH_INSTANT: device time reaches the instant (R177). -/
def execProfileSwitchInstant (engine : Fin 2) (s : State) : Host.Outcome State Fault Refusal :=
  match (s.engine engine.val).change with
  | some c =>
    if c.started then .next s
    else .next (switchNow engine.val (advanceToTod c.seconds c.nanoseconds s))
  | none => .next s

/-- PROFILE_TX_BOUNDARY: the transmitter, the encoder and the framer change, and the framer restarts; the MSI sent takes the new slots
(R177, R218, R222, R238). -/
def execProfileTxBoundary (engine : Fin 2) (s : State) : Host.Outcome State Fault Refusal :=
  match (s.engine engine.val).change with
  | some c =>
    if c.started && !c.txDone then .next (pktRefresh (plkRefresh (sendStructure 0 engine.val (framerRestart engine.val (switchTx engine.val (applyAtSwitch engine.val s)))))) else .next s
  | none => .next s

/-- PROFILE_SWITCH_TIMEOUT: not LOCKED 2 s after the instant (R177). -/
def execProfileSwitchTimeout (engine : Fin 2) (s : State) : Host.Outcome State Fault Refusal :=
  match (s.engine engine.val).change with
  | some c =>
    if c.started ∧ (s.engine engine.val).state ≠ .locked then .next (profileDone engine.val .timeout s) else .next s
  | none => .next s

/-- The datapaths are powered (R30). -/
def powered (s : State) : Bool :=
  decide (s.dev.mode = .service) || decide (s.dev.mode = .maintenance) || decide (s.dev.mode = .quiesce)

/-- DSP_PROFILE_SET: the tests of R176 hold in every mode (R147, R176 to R178). -/
def replyDspProfileSet (p : Packet) (s : State) : Reply :=
  let e := u8 p.params 0
  let sel : ProfileSel := ⟨u8 p.params 1, u8 p.params 2, u8 p.params 3⟩
  let sec := u48 p.params 4
  let ns := u32 p.params 12
  let x := s.engine e
  checked s [badParam 0 (1 < e), badParam 1 (7 < sel.profile),
      badParam 2 (2 < sel.pilot ∨ ¬ pilotAllowed sel.profile sel.pilot), badParam 3 (sel.rolloff = 0 ∨ 20 < sel.rolloff),
      badParam 4 (todAhead sec ns 1000 s), reservedBytes p.params 10 2, badParam 12 (999999999 < ns)]
    (if sel = x.sel ∧ x.change.isNone ∧ s.dev.mode ≠ .standby then .ok s
    else checked s [failIf .badState (decide (s.dev.mode ≠ .standby) && !s.lineRef e),
        failIf .badState (profileSlots sel.profile < planSlots e s), failIf .badState (cdRange sel.profile < x.cdEst.natAbs),
        failIf .busy x.change.isSome]
      (if s.dev.mode = .standby then .ok (modEngine e (fun y => { y with stored := some sel }) s) else .later e 4 2 (leBytes 1 e ++ leBytes 1 x.sel.profile ++ leBytes 1 13 ++ leBytes 5 0) (fun u =>
        let v := modEngine e (fun y => { y with change := some ⟨sel, sec, ns, false, 0, 0, false⟩ }) u
        if todPast sec ns u then switchNow e v else v)))
def execDspProfileSet (p : Packet) (s : State) : Host.Outcome State Fault Refusal :=
  .next (runCommand (modCmd 0x0401 16) replyDspProfileSet p s)

/-- The dispersion range that DSP_CD_SET must fit: of the profile in force, and of a pending or stored one (R155). -/
def cdLimit (x : Engine) : Nat :=
  min (cdRange x.sel.profile) (cdRange (((x.change.map (fun c => c.sel)).or x.stored).getD x.sel).profile)

/-- A locked engine goes back to CD_ACQ, one that is acquiring does so at the next block, and one without signal keeps what was set
for its next acquisition (R155). -/
def cdAgain (e : Nat) (s : State) : State :=
  if (s.engine e).state = .locked then pktRefresh (toCdAcq e 3 s)
  else modEngine e (fun y => { y with cdRestart := y.live }) s
/-- DSP_CD_SET: a search is DEFERRED while the datapaths are powered, that of an engine still OFF as well; its scan waits for the next
acquisition (R154, R155, R178). -/
def replyDspCdSet (p : Packet) (s : State) : Reply :=
  let e := u8 p.params 0
  let search := decide (u8 p.params 1 = 1)
  let cd : CdCfg := ⟨search, s32 p.params 4, u32 p.params 8, u32 p.params 12⟩
  let x := s.engine e
  let reach := cd.value.natAbs + (if search then cd.halfWidth else 0)
  let hold := !search && decide (x.state = .locked) && decide ((cd.value - x.cdEst).natAbs ≤ 500)
    && decide (((cd.carrier : Int) - x.cd.carrier).natAbs ≤ 1000)
  let stored := modEngine e (fun y => { y with cd := cd, cdFound := false, cdFresh := true, cdNext := none })
  checked s [badParam 0 (1 < e), badParam 1 (1 < u8 p.params 1), reservedBytes p.params 2 2,
      badParam 4 (cdLimit x < reach), badParam 8 (search ∧ 400000 < cd.halfWidth),
      badParam 12 (cd.carrier < 184000000 ∨ 197000000 < cd.carrier), failIf .busy x.searching]
    (if hold then .ok (modEngine e (fun y => { y with cdNext := some cd.value }) (stored s))
    else if search ∧ modePowered s.dev.mode = true then
      .later e 4 4 (leBytes 1 e ++ leBytes 1 13 ++ leBytes 2 0 ++ leBytesInt 4 x.cdEst) (fun u =>
        cdAgain e (modEngine e (fun y => { y with searching := true, searchByCommand := true }) (stored u)))
    else .ok (cdAgain e (stored s)))
def execDspCdSet (p : Packet) (s : State) : Host.Outcome State Fault Refusal :=
  .next (runCommand (modCmd 0x0402 16) replyDspCdSet p s)

/-- DSP_EQ_SET (R156 to R159, R178). -/
def replyDspEqSet (p : Packet) (s : State) : Reply :=
  let e := u8 p.params 0
  let eq : EqCfg := ⟨u8 p.params 1, u8 p.params 2, bit (u8 p.params 3) 0, u16 p.params 4⟩
  checked s [badParam 0 (1 < e), badParam 1 (eq.taps % 2 = 0 ∨ eq.taps < 15 ∨ 63 < eq.taps), badParam 2 (3 < eq.rate),
      badParam 3 (1 < u8 p.params 3), badLen 4 (eq.hold = 0), badParam 4 (1000 < eq.hold), reservedBytes p.params 6 2]
    (.ok (modEngine e (fun x => { x with eq := eq }) s))
def execDspEqSet (p : Packet) (s : State) : Host.Outcome State Fault Refusal :=
  .next (runCommand (modCmd 0x0403 8) replyDspEqSet p s)

/-- DSP_NLC_SET: with 0 stages the link description is kept and not checked; coefficients of an earlier write that no block has taken
never are (R27, R165, R178). -/
def replyDspNlcSet (p : Packet) (s : State) : Reply :=
  let e := u8 p.params 0
  let n : NlcCfg := ⟨u8 p.params 1, u16 p.params 2, u16 p.params 4, u16 p.params 6, u16 p.params 8, u16 p.params 10,
    s16 p.params 12⟩
  let on := decide (0 < n.stages)
  checked s [badParam 0 (1 < e), badParam 1 (8 < n.stages), badLen 2 (on && decide (n.spans = 0)),
      badParam 2 (on && decide (250 < n.spans)), badParam 4 (on && (decide (n.spanLength < 100) || decide (1500 < n.spanLength))),
      badParam 6 (on && (decide (n.dispersion < 100) || decide (2500 < n.dispersion))),
      badParam 8 (on && (decide (n.gamma < 500) || decide (3000 < n.gamma))),
      badParam 10 (on && (decide (n.attenuation < 140) || decide (300 < n.attenuation))),
      badParam 12 (on && decide (1000 < n.power.natAbs)), reservedBytes p.params 14 2]
    (.ok (modEngine e (fun x => { x with
      nlc := if on then n else { x.nlc with stages := 0 }, nlcComputing := true, nlcReady := x.nlcInUse }) s))
def execDspNlcSet (p : Packet) (s : State) : Host.Outcome State Fault Refusal :=
  .next (runCommand (modCmd 0x0404 16) replyDspNlcSet p s)

/-- Four signed 16-bit values from an offset. -/
def fourS16 (ps : List Byte) (off : Nat) : List Int := (List.range 4).map (fun i => s16 ps (off + 2 * i))

/-- DSP_RX_SET (R152, R173, R178). -/
def replyDspRxSet (p : Packet) (s : State) : Reply :=
  let e := u8 p.params 0
  let rx : RxCfg := ⟨u16 p.params 2, u16 p.params 4, fourS16 p.params 8⟩
  checked s ([badParam 0 (1 < e), reservedBytes p.params 1 1, badParam 2 (rx.losSet < 8 ∨ 511 < rx.losSet),
      badParam 4 (rx.losClear ≤ rx.losSet ∨ 512 < rx.losClear), reservedBytes p.params 6 2]
      ++ (List.range 4).map (fun l => badParam (8 + 2 * l) (10000 < (s16 p.params (8 + 2 * l)).natAbs)))
    (.ok (modEngine e (fun x => { x with rx := rx }) s))
def execDspRxSet (p : Packet) (s : State) : Host.Outcome State Fault Refusal :=
  .next (runCommand (modCmd 0x0405 16) replyDspRxSet p s)

/-- All 64 points of all four lanes are staged (R170). -/
def respComplete (x : Engine) : Bool := decide (x.respStaged.length = 256)

/-- DSP_TX_SET: a filter of an earlier write that no block has taken never is (R27, R169, R170, R178). -/
def replyDspTxSet (p : Packet) (s : State) : Reply :=
  let e := u8 p.params 0
  let f := u8 p.params 1
  let tx : TxCfg := ⟨bit f 0, u8 p.params 2, u8 p.params 3, fourS16 p.params 4, s16 p.params 12, s16 p.params 14,
    s16 p.params 16, s16 p.params 18⟩
  let x := s.engine e
  let store := fun (u : State) => modEngine e (fun y =>
    let y1 := { y with tx := tx, txReady := none }
    if bit f 1 then { y1 with respHost := true, respApplied := y.respStaged, respStaged := [] }
    else if bit f 2 then { y1 with respHost := false, respApplied := [], respStaged := [] } else y1) u
  checked s ([badParam 0 (1 < e), badParam 1 (8 ≤ f ∨ (bit f 1 ∧ bit f 2)), badParam 2 (15 < tx.maxBoost),
      badParam 3 (80 < tx.drive)]
      ++ (List.range 4).map (fun l => badParam (4 + 2 * l) (10000 < (s16 p.params (4 + 2 * l)).natAbs))
      ++ [badParam 12 (100 < tx.xGain.natAbs), badParam 14 (1000 < tx.xPhase.natAbs), badParam 16 (100 < tx.yGain.natAbs),
        badParam 18 (1000 < tx.yPhase.natAbs), reservedBytes p.params 20 4,
        failIf .badState (bit f 1 && !respComplete x), failIf .busy (x.recomputing && decide (s.dev.mode ≠ .standby))])
    (if s.dev.mode = .standby then .ok (store s)
    else .later e 4 5 (leBytes 1 e ++ leBytes 1 13 ++ leBytes 2 0) (fun u => startTxpd e (store u)))
def execDspTxSet (p : Packet) (s : State) : Host.Outcome State Fault Refusal :=
  .next (runCommand (modCmd 0x0406 24) replyDspTxSet p s)

/-- DSP_TX_RESP_LOAD (R170, R178). -/
def replyDspTxRespLoad (p : Packet) (s : State) : Reply :=
  let e := u8 p.params 0
  let lane := u8 p.params 1
  let first := u8 p.params 2
  let count := u8 p.params 3
  checked s ([badParam 0 (1 < e), badParam 1 (3 < lane), badParam 2 (63 < first), badLen 3 (count = 0),
      badLen 3 (fromBmc p && decide (54 < count)), badLen 3 (p.params.length ≠ 8 + 4 * count), badParam 3 (64 < first + count), reservedBytes p.params 4 4]
      ++ (List.range count).flatMap (fun n => [badParam (8 + 4 * n) (2000 < (s16 p.params (8 + 4 * n)).natAbs),
        badParam (10 + 4 * n) (18000 < (s16 p.params (10 + 4 * n)).natAbs)]))
    (.ok (modEngine e (fun x => { x with respStaged := (List.range count).foldl (fun t n =>
      tabInsert t (lane * 64 + first + n) (s16 p.params (8 + 4 * n), s16 p.params (10 + 4 * n))) x.respStaged }) s))
def execDspTxRespLoad (p : Packet) (s : State) : Host.Outcome State Fault Refusal :=
  .next (runCommand { modCmd 0x0407 0 with lenOk := fun ps => 8 ≤ ps.length } replyDspTxRespLoad p s)

/-- DSP_FASTSOP_FORCE (R158, R159, R178). -/
def replyDspFastsopForce (p : Packet) (s : State) : Reply :=
  let e := u8 p.params 0
  let enter := decide (u8 p.params 1 = 1)
  let x := s.engine e
  checked s [badParam 0 (1 < e), badParam 1 (1 < u8 p.params 1), reservedBytes p.params 2 2,
      failIf .badState (enter && (!x.eqForce.fsopEn || decide (x.state ≠ .locked)))]
    (.ok (if enter then fastRequest e 1 s
      else if x.fast.isSome then modEngine e (fun y => { y with fastExit := true }) s else s))
def execDspFastsopForce (p : Packet) (s : State) : Host.Outcome State Fault Refusal :=
  .next (runCommand (modCmd 0x0408 4) replyDspFastsopForce p s)

/-- DSP_TEST_PATTERN (R31, R178). -/
def replyDspTestPattern (p : Packet) (s : State) : Reply :=
  let e := u8 p.params 0
  checked s [badParam 0 (1 < e), badParam 1 (3 < u8 p.params 1), reservedBytes p.params 2 2,
      badParam 4 (160000 < (s32 p.params 4).natAbs), failIf .badState ((s.engine e).state = .off)]
    (.ok (modEngine e (fun x => { x with test := u8 p.params 1, tone := s32 p.params 4 }) s))
def execDspTestPattern (p : Packet) (s : State) : Host.Outcome State Fault Refusal :=
  .next (runCommand { modCmd 0x0409 8 with maintenance := true } replyDspTestPattern p s)

/-- The 48-byte quality record (R179). -/
def qualityRecord (e : Nat) (s : State) : List Byte :=
  let x := s.engine e
  leBytes 1 x.state.code ++ leBytes 1 x.sel.profile ++ leBytes 1 (packBits [x.dlos, x.dlol, x.fast.isSome])
    ++ leBytes 1 (nlcForce x) ++ leBytes 2 x.snrX ++ leBytes 2 x.snrY ++ leBytesInt 4 x.cdEst
    ++ leBytes 2 x.meas.dgd ++ leBytes 2 x.meas.pdl ++ leBytesInt 4 x.meas.cfo ++ leBytesInt 4 x.meas.clk
    ++ leBytes 4 x.meas.sopRate ++ leBytes 1 (rateForce x) ++ leBytes 1 x.eqForce.taps ++ leBytes 2 0
    ++ leBytes 6 s.tim.seconds ++ leBytes 2 0 ++ leBytes 4 s.tim.nanoseconds ++ leBytes 4 0

/-- DSP_QUALITY_GET (R178, R179). -/
def replyDspQualityGet (p : Packet) (s : State) : Reply :=
  let e := u8 p.params 0
  checked s [badParam 0 (1 < e), reservedBytes p.params 1 3, failIf .badState ((s.engine e).state = .off)]
    (.answer (qualityRecord e s) s)
def execDspQualityGet (p : Packet) (s : State) : Host.Outcome State Fault Refusal :=
  .next (runCommand (readCmd 0x040A 4) replyDspQualityGet p s)

end Sys2Proof.Machine
end

