-- ==== Sys2Proof/Machine/Converters.lean ====
section
/-! DEFINITION. The meanings of group 0x03: line converters and blind calibration (chapter 05). -/

namespace Sys2Proof.Machine

/-- The step of an ADC is in the given phase. -/
def stepIn (x : Adc) (ph : StepPhase) : Bool := x.phase = ph && x.stepPos.isSome

/-- CNV_STEP_START: every ADC with a spare starts ALIGN at the next position (R121, R122, R126, R144). -/
def execCnvStepStart (group : Fin 2) (s : State) : Host.Outcome State Fault Refusal :=
  let x := s.group group.val
  if (x.state = .running ∧ x.cfg.bgEn ∨ x.state = .refresh) ∧ x.adcs.toList.all (fun y => y.stepPos.isNone) then
    .next (modGroup group.val (fun y => { y with
      pos := (y.pos + 1) % 64
      adcs := vecMap (fun _ z => if z.degraded then z else { z with stepPos := some y.pos, phase := .align }) y.adcs }) s)
  else .next s

/-- CNV_SPARE_SETTLED: ALIGN ends and MATCH begins (R121). -/
def execCnvSpareSettled (group : Fin 2) (s : State) : Host.Outcome State Fault Refusal :=
  .next (modGroup group.val (fun y => { y with
    adcs := vecMap (fun _ z => if stepIn z .align then { z with phase := .matching } else z) y.adcs }) s)

/-- MATCH has passed: the slice leaves the data path and its analogue trims are set from its latest accepted window (R121). -/
def beginTrim (x : Adc) : Adc :=
  match x.stepPos with
  | some p => { modSlice p (fun z => { z with trims := z.accepted.getD z.trims, leftPath := true }) x with
      trimsBefore := some (x.slice p).trims }
  | none => x
/-- CNV_MATCH_DONE: the spare swaps in, fails, or the step is abandoned (R121, R123 to R126). -/
def execCnvMatchDone (group : Fin 2) (adc : Fin 4) (stats : PairStats) (s : State) : Host.Outcome State Fault Refusal :=
  let x := (s.group group.val).adc adc.val
  if !stepIn x .matching then .next s
  else if pairAbandoned stats then .next (modAdc group.val adc.val (fun y => countRefreshFail (endStep y)) s)
  else if pairPasses stats then
    .next (modAdc group.val adc.val (fun y => beginTrim { y with phase := .trim, spareFails := 0 }) s)
  else .next (spareFailure group.val adc.val s)

/-- CNV_TRIM_DONE: the new coefficients are checked and the slice rejoins for VERIFY, or the trim fails (R121, R124, R125). -/
def execCnvTrimDone (group : Fin 2) (adc : Fin 4) (selfTest : Bool) (s : State) : Host.Outcome State Fault Refusal :=
  let x := (s.group group.val).adc adc.val
  match x.stepPos with
  | none => .next s
  | some p =>
    if x.phase ≠ .trim then .next s
    else
      let z := x.slice p
      let c := z.accepted.getD z.coef
      if selfTest && coefAbsolute c && (z.firstStep || coefChange z.coef c) then
        .next (modAdc group.val adc.val (fun y => { y with phase := .verify, candidate := some c }) s)
      else .next (sliceFailure group.val adc.val p s)

/-- CNV_VERIFY_DONE: the slice swaps back with its new coefficients, or the failure counts (R121, R123, R125, R126). While
NO_SIGNAL is 1 no coefficient changes (R120), nor while BG_EN is 0 (R144). DESIGN CHOICE: with BG_EN at 0 a refresh still sweeps, and a step still passes or fails, but no
coefficient follows (log 45). -/
def execCnvVerifyDone (group : Fin 2) (adc : Fin 4) (stats : PairStats) (s : State) : Host.Outcome State Fault Refusal :=
  let x := (s.group group.val).adc adc.val
  match x.stepPos with
  | none => .next s
  | some p =>
    if x.phase ≠ .verify then .next s
    else if pairAbandoned stats then .next (modAdc group.val adc.val (fun y => countRefreshFail (endStep y)) s)
    else if pairPasses stats then
      .next (modAdc group.val adc.val (fun y => endStep (modSlice p (fun z => { z with
        coef := if y.noSignal || !(s.group group.val).cfg.bgEn then z.coef else y.candidate.getD z.coef, fails := 0 }) { y with trimsBefore := none })) s)
    else .next (sliceFailure group.val adc.val p s)

/-- The first accepted window of a powered-up group starts its power-up refresh, or RUNNING in CALIBRATE (R141). -/
def groupSeeded (g : Nat) (s : State) : State :=
  if (s.group g).state = .seeding ∧ (s.group g).clockLocked then
    if autoRefreshMode s then startRefresh g 3 s else modGroup g (fun x => { x with state := .running }) s
  else s

/-- An accepted window of a degraded ADC updates OFFSET and GAIN in place, or fails (R127, R128). DESIGN CHOICE: an update that fails
during a refresh is no failed position of that refresh (R135; log 45). -/
def inPlace (g a n : Nat) (c : Coef) (s : State) : State :=
  let x := (s.group g).adc a
  let z := x.slice n
  let new : Coef := ⟨c.offset, c.gain, z.coef.skew⟩
  if z.failed then s
  else if coefAbsolute new && coefChange z.coef new then
    modAdc g a (modSlice n (fun y => { y with coef := new, fails := 0 })) s
  else
    let s1 := modAdc g a (fun y => { modSlice n (fun w => { w with fails := w.fails + 1 }) y with
      plausFail := satAdd 0xFFFFFFFF y.plausFail 1 }) s
    if 3 ≤ (((s1.group g).adc a).slice n).fails then
      let s2 := modAdc g a (fun y => { modSlice n (fun w => { w with failed := true }) y with
        failedCnt := satAdd 15 y.failedCnt 1 }) s1
      logUnit g a (emit 3 4 (unitPayload g a n s2) s2)
    else s1

/-- A window is accepted: NO_SIGNAL clears, the estimates are kept, and in degraded calibration used (R119, R120, R127). -/
def windowAccepted (g a n : Nat) (c : Coef) (s : State) : State :=
  let x := (s.group g).adc a
  let s1 := modAdc g a (fun y => { modSlice n (fun z => { z with accepted := some c, discards := 0 }) y with
    noSignal := false }) s
  let s2 := if x.noSignal then emit 3 5 (leBytes 1 g ++ leBytes 1 a ++ leBytes 1 1) s1 else s1
  let s3 := if x.degraded && (s.group g).cfg.bgEn then inPlace g a n c s2 else s2
  groupSeeded g s3

/-- CNV_STATS_WINDOW_DONE: a window is discarded or accepted (R117 to R120, R127, R128). Only a slice in the data path
accumulates, and a window it has left part-way is dropped (R119). DESIGN CHOICE: a window discarded for over-range neither
counts among the 16 of R120 nor breaks their run, and a window that is over-range and without signal as well counts as over-range
only (R118, R120; log 45). -/
def execCnvStatsWindowDone (group : Fin 2) (adc : Fin 4) (slice : Fin 65) (stats : WindowStats) (s : State) :
    Host.Outcome State Fault Refusal :=
  let x := (s.group group.val).adc adc.val
  let s0 := modAdc group.val adc.val (fun y => { modSlice slice.val (fun z => { z with leftPath := false }) y with
    overRange := satAdd 0xFFFFFFFF y.overRange stats.overRange }) s
  if !(s.group group.val).clockLocked || !inPath x slice.val then .next s
  else if (x.slice slice.val).leftPath then .next s0
  else if 4096 < stats.excluded then
    .next (modAdc group.val adc.val (fun y => { y with discardOvr := satAdd 0xFFFF y.discardOvr 1 }) s0)
  else if stats.rms < 16 * 64 then
    let s1 := modAdc group.val adc.val (fun y => { modSlice slice.val (fun z => { z with discards := z.discards + 1 }) y with
      discardNoSig := satAdd 0xFFFF y.discardNoSig 1 }) s0
    let y := (s1.group group.val).adc adc.val
    if 16 ≤ (y.slice slice.val).discards ∧ ¬ y.noSignal then
      .next (emit 3 5 (leBytes 1 group.val ++ leBytes 1 adc.val ++ leBytes 1 0)
        (modAdc group.val adc.val (fun w => { w with noSignal := true }) s1))
    else .next s1
  else .next (windowAccepted group.val adc.val slice.val (windowEstimate stats) s0)

/-- CNV_REFRESH_INTERVAL: MAX_INTERVAL has passed (R134). -/
def execCnvRefreshInterval (group : Fin 2) (s : State) : Host.Outcome State Fault Refusal :=
  let x := s.group group.val
  if autoRefreshMode s && x.cfg.refreshEn && decide (x.state = .running) then .next (startRefresh group.val 1 s)
  else .next s

/-- The ADCs whose block a completed refresh files: they passed and are not degraded (R127, R130, R135). -/
def refreshFiles (x : Group) : List Nat :=
  (List.range 4).filter (fun a => !(x.adc a).degraded && decide ((x.adc a).refreshFails = 0))

/-- CNV_REFRESH_COMPLETE: blocks are filed, the event raised, a waiting configuration applied, and the temperature trigger
evaluated again (R130, R135, R136). -/
def execCnvRefreshComplete (group : Fin 2) (s : State) : Host.Outcome State Fault Refusal :=
  let g := group.val
  let x := s.group g
  match x.refresh with
  | none => .next s
  | some r =>
    let t := groupTemp g s
    let files := refreshFiles x
    let s1 := files.foldl (fun u a => fileBlock g (setOf t) a (captureBlock g .refresh (adcWords (x.adc a)) s) u) s
    let clean := x.adcs.toList.all (fun y => decide (y.refreshFails = 0) && !y.refreshLost)
    let st : Status := if clean then .ok else .partly
    let s2 := modGroup g (fun y => { y with
      state := .running, refresh := none, pos := 0
      cfg := y.cfgNext.getD y.cfg, cfgNext := none
      info := ⟨t, setOf t, r.trigger, !clean, some s.tim.now⟩ }) s1
    let s3 := refreshDone g r.trigger st (refreshFailures x) (if files.isEmpty then 0xFF else setOf t) s2
    .next (if autoRefreshMode s3 && (s3.group g).cfg.refreshEn && decide (16 * (s3.group g).cfg.deltaT ≤ (t - r.startTemp).natAbs)
      then startRefresh g 0 s3 else s3)

/-- An attempt of a foreground calibration at a position: as a visit of the rotation, while the ADC has its spare; a slice fails only
after MATCH has passed, which is a pass of the spare (R125, R126, R137). -/
def fgAttempt (g a : Nat) (u : State) (x : Fin 64 × AttemptEnd) : State :=
  if ((u.group g).adc a).degraded then u
  else match x.2 with
    | .passed => modAdc g a (fun y => { modSlice x.1.val (fun z => { z with fails := 0 }) y with spareFails := 0 }) u
    | .spareFailed => spareFailure g a u
    | .sliceFailed => sliceFailure g a x.1.val (modAdc g a (fun y => { y with spareFails := 0 }) u)
    | .abandoned => u
/-- What a foreground calibration measured on one ADC: its attempts, its words and trims, and the block of its temperature filed
(R137, R146). A degraded ADC keeps its analogue trims as they stand (R127); DESIGN CHOICE: so does one that becomes degraded in this
calibration (log 45). -/
def fgStoreAdc (g : Nat) (t : Int) (old : State) (e : FgAdc × Nat) (u : State) : State :=
  let u1 := e.1.attempts.foldl (fgAttempt g e.2) u
  let u2 := modAdc g e.2 (fun y => { y with slices := vecMap (fun n z =>
    { z with coef := e.1.words.getD n z.coef, trims := if y.degraded then z.trims else e.1.words.getD n z.trims }) y.slices }) u1
  fileBlock g (setOf t) e.2 (captureBlock g .foreground e.1.words old) u2
/-- What it measured on one DAC: its block, its characterisation and the record of it (R137, R139). -/
def fgStoreDac (g : Nat) (t : Int) (old : State) (e : FgDac × Nat) (u : State) : State :=
  let u1 := fileBlock g (setOf t) (4 + e.2) (captureBlock g .foreground e.1.trims old) u
  logRecord 0x0013 (g * 4 + e.2) (leBytesInt 2 e.1.skew ++ leBytesInt 2 t
    ++ e.1.points.flatMap (fun x => leBytesInt 2 x.1 ++ leBytesInt 2 x.2)) (modGroup g (fun y => { y with
    dacs := vecMod y.dacs e.2 (fun d => { d with char := ⟨false, e.1.skew, t, e.1.points⟩ }) }) u1)
/-- CNV_FG_CAL_COMPLETE: blocks and characterisations are filed and handed to the DSP; the last one moves CALIBRATE to STANDBY
(R137, R139, R170). DESIGN CHOICE: the new blocks are interpolated at once, whatever the zone has moved (R132; log 45). -/
def execCnvFgCalComplete (group : Fin 2) (adcs : List FgAdc) (dacs : List FgDac) (s : State) :
    Host.Outcome State Fault Refusal :=
  let g := group.val
  if (s.group g).state ≠ .foreground then .next s
  else
    let t := groupTemp g s
    let s1 := (adcs.zipIdx.take 4).foldl (fun u e => fgStoreAdc g t s e u) s
    let s2 := (dacs.zipIdx.take 4).foldl (fun u e => fgStoreDac g t s e u) s1
    let s3 := startTxpd g (modGroup g (fun y => applyInterp g false t { y with state := .running, loop := false }) s2)
    let s4 := fgFinish g false s3
    .next (if s4.cnv.fg.isEmpty && decide (s4.dev.mode = .calibrate) then enterMode .standby .ok s4 else s4)

/-- CNV_SLICE_CLOCK_LOCKED: coefficients and trims are seeded by interpolation, and the engine leaves OFF; a command may have
moved the group out of SEEDING before; the DSP takes the newest DAC records (R131, R132, R139, R141, R173). -/
def execCnvSliceClockLocked (group : Fin 2) (s : State) : Host.Outcome State Fault Refusal :=
  let x := s.group group.val
  if x.state = .seeding ∨ (x.powered ∧ x.clockLocked = false) then
    let s1 := txTake group.val
      (modGroup group.val (fun x => applyInterp group.val true (groupTemp group.val s) { x with clockLocked := true }) s)
    .next (if modePowered s.dev.mode then engineStart group.val s1 else s1)
  else .next s

/-- CNV_TSET_SAVE_DUE: the 24-hour limit of a block ends and the latest block is saved (R133). -/
def execCnvTsetSaveDue (group : Fin 2) (set : Fin 8) (converter : Fin 8) (s : State) : Host.Outcome State Fault Refusal :=
  if (s.group group.val).saveDue.contains (set.val * 8 + converter.val) then
    .next (saveBlock group.val set.val converter.val s)
  else .next s

/-- CNV_FG_CAL (R137, R144). -/
def replyCnvFgCal (p : Packet) (s : State) : Reply :=
  let mask := u8 p.params 0
  let named := (List.range 2).filter (fun g => bit mask g)
  checked s [badLen 0 (mask = 0), badParam 0 (4 ≤ mask),
      reservedBytes p.params 1 3, failIf .badState (named.any (fun g => !s.lineRef g)),
      failIf .busy (named.any (fun g => (s.group g).state = .foreground))]
    (.later mask 3 1 (leBytes 1 0 ++ leBytes 1 (if bit mask 0 then 13 else 0xFF) ++ leBytes 1 (if bit mask 1 then 13 else 0xFF)
        ++ leBytes 5 0)
      (fun u =>
        let v := named.foldl (fun w g => modGroup g (fun x => { x with
          state := .foreground, loop := true, adcs := vecMap (fun _ z => endStep z) x.adcs }) w) u
        { v with cnv := { v.cnv with fg := v.cnv.fg ++ [⟨mask, 0, 0, v.tim.now⟩] } }))
def execCnvFgCal (p : Packet) (s : State) : Host.Outcome State Fault Refusal :=
  .next (runCommand (modCmd 0x0301 4) replyCnvFgCal p s)

/-- CNV_REFRESH (R134, R136, R144). -/
def replyCnvRefresh (p : Packet) (s : State) : Reply :=
  let g := u8 p.params 0
  checked s [badParam 0 (1 < g), reservedBytes p.params 1 3,
      failIf .badState (!(s.group g).powered), failIf .busy (s.group g).refresh.isSome]
    (.later g 3 2 (leBytes 1 g ++ leBytes 1 2 ++ leBytes 1 13 ++ leBytes 1 0 ++ leBytes 2 0 ++ leBytes 1 0xFF)
      (startRefresh g 2))
def execCnvRefresh (p : Packet) (s : State) : Host.Outcome State Fault Refusal :=
  .next (runCommand (modCmd 0x0302 4) replyCnvRefresh p s)

/-- CNV_CFG_SET: at once, or when a refresh in progress ends (R136, R144). -/
def replyCnvCfgSet (p : Packet) (s : State) : Reply :=
  let g := u8 p.params 0
  let cfg : CnvCfg := ⟨u8 p.params 1, u8 p.params 2, bit (u8 p.params 3) 0, bit (u8 p.params 3) 1, u16 p.params 4⟩
  checked s [badParam 0 (1 < g), badParam 1 (cfg.deltaT = 0 ∨ 15 < cfg.deltaT),
      badParam 2 (cfg.maxInterval = 0 ∨ 10 < cfg.maxInterval), badParam 3 (4 ≤ u8 p.params 3),
      badParam 4 (cfg.period = 0 ∨ 100 < cfg.period), reservedBytes p.params 6 2]
    (.ok (modGroup g (fun x => if x.refresh.isSome then { x with cfgNext := some cfg } else { x with cfg := cfg }) s))
def execCnvCfgSet (p : Packet) (s : State) : Host.Outcome State Fault Refusal :=
  .next (runCommand (modCmd 0x0303 8) replyCnvCfgSet p s)

/-- CNV_TSET_READ (R144). DESIGN CHOICE: a count beyond the block itself names byte 5, and first + count beyond it byte 4 (log 36). -/
def replyCnvTsetRead (p : Packet) (s : State) : Reply :=
  let g := u8 p.params 0
  let set := u8 p.params 1
  let conv := u8 p.params 2
  let first := u8 p.params 4
  let count := u8 p.params 5
  let b := (s.group g).block set conv
  let size := if conv < 4 then 65 else 64
  checked s [badParam 0 (1 < g), badParam 1 (7 < set), badParam 2 (7 < conv), reservedBytes p.params 3 1,
      badLen 5 (count = 0), badLen 5 (fromBmc p && decide (52 < count)), badParam 5 (size < count), badParam 4 (size < first + count),
      reservedBytes p.params 6 2]
    (.answer (leBytes 1 (packBits [b.valid, b.origin = .factory, b.origin = .foreground]) ++ leBytes 1 0
      ++ leBytesInt 2 b.temp ++ leBytes 6 b.seconds ++ leBytes 2 0 ++ leBytes 1 first ++ leBytes 1 count ++ leBytes 2 0
      ++ (List.range count).flatMap (fun n => leBytes 4 (coefWord (blockWord g set conv (first + n) b)))) s)
def execCnvTsetRead (p : Packet) (s : State) : Host.Outcome State Fault Refusal :=
  .next (runCommand (readCmd 0x0304 8) replyCnvTsetRead p s)

/-- CNV_TSET_CLEAR: the named sets become invalid; the factory blocks of sets 2 and 6 reappear; the TC records it (R144). No copy of
a cleared block is restored after it; the 24 hours of its last save run on (R133). -/
def clearSets (mask : Nat) (x : Group) : Group :=
  let keep := fun (k : Nat) => !bit mask (k / 8)
  let left := x.blocks.filter (fun e => keep e.1)
  let back := (factoryBlocks.filter (fun e => bit mask (e.1 / 8)))
  { x with
    blocks := back.foldl (fun t e => tabInsert t e.1 e.2) left
    saved := x.saved.map (fun e => if keep e.1 then e
      else (e.1, e.2.1, if e.1 / 8 = 2 ∨ e.1 / 8 = 6 then TempBlock.factory (e.1 / 8) else TempBlock.invalid))
    saveDue := x.saveDue.filter keep }
def replyCnvTsetClear (p : Packet) (s : State) : Reply :=
  let g := u8 p.params 0
  let mask := u8 p.params 1
  checked s [badParam 0 (1 < g), badLen 1 (mask = 0), reservedBytes p.params 2 2]
    (.ok (logRecord 0x0012 0 (leBytes 1 g ++ leBytes 1 mask) (modGroup g (clearSets mask) s)))
def execCnvTsetClear (p : Packet) (s : State) : Host.Outcome State Fault Refusal :=
  .next (runCommand (modCmd 0x0305 4) replyCnvTsetClear p s)

/-- CNV_DAC_CHAR_READ (R139, R144). -/
def replyCnvDacCharRead (p : Packet) (s : State) : Reply :=
  let g := u8 p.params 0
  let d := u8 p.params 1
  let first := u8 p.params 2
  let count := u8 p.params 3
  let c := (vecGet Dac.reset (s.group g).dacs d).char
  checked s [badParam 0 (1 < g), badParam 1 (3 < d), badParam 2 (63 < first), badLen 3 (count = 0),
      badLen 3 (fromBmc p && decide (52 < count)), badParam 3 (64 < first + count)]
    (.answer (leBytes 1 (packBits [true, c.factory]) ++ leBytes 1 0 ++ leBytesInt 2 (dacSkewOf g d c) ++ leBytesInt 2 c.temp
      ++ leBytes 1 first ++ leBytes 1 count
      ++ (List.range count).flatMap (fun n => leBytesInt 2 (charPoint g d (first + n) c).1
        ++ leBytesInt 2 (charPoint g d (first + n) c).2)) s)
def execCnvDacCharRead (p : Packet) (s : State) : Host.Outcome State Fault Refusal :=
  .next (runCommand (readCmd 0x0306 4) replyCnvDacCharRead p s)

/-- CNV_LOOP: close or open the group's loopback; the engine loses lock and reacquires (R143). -/
def replyCnvLoop (p : Packet) (s : State) : Reply :=
  let g := u8 p.params 0
  let close := u8 p.params 1 = 1
  checked s [badParam 0 (1 < g), badParam 1 (1 < u8 p.params 1), reservedBytes p.params 2 2,
      failIf .badState (!(s.group g).powered)]
    (.ok (if (s.group g).loop = close then s
      else pktRefresh (reacquire g 2 (modGroup g (fun x => { x with loop := close }) s))))
def execCnvLoop (p : Packet) (s : State) : Host.Outcome State Fault Refusal :=
  .next (runCommand { modCmd 0x0307 4 with maintenance := true } replyCnvLoop p s)

end Sys2Proof.Machine
end

