-- ==== Sys2Proof/Machine/LogPlan.lean ====
section
/-! DEFINITION. Record pages, the export, the ageing history and the margin plan (chapter 16). -/

namespace Sys2Proof.Machine

/-! ### Pages and export (R462, R480) -/

/-- The 256 bytes of a record page, copy A or copy B (R462). -/
def LogRecord.page (r : LogRecord) (copyB : Bool) : List Byte :=
  let body := leBytes 2 r.type ++ leBytes 1 (b2n copyB) ++ leBytes 1 (packBits [r.timeInvalid, r.queued, r.moved, r.injected])
    ++ leBytes 8 r.seq ++ leBytes 6 r.seconds ++ leBytes 2 r.payload.length ++ leBytes 4 r.nanoseconds ++ leBytes 4 r.life
    ++ leBytes 1 r.frag ++ leBytes 1 r.frags ++ leBytes 2 r.item ++ bytesAt 0 220 r.payload
  body ++ leBytes 4 (crc32c body)

/-- The live records an export covers (R480). -/
def exported (x : Export) (l : Log) : List LogRecord :=
  l.records.filter (fun r => decide (x.first ≤ r.seq ∧ r.seq < x.upTo ∧ (x.filter = 0 ∨ r.type = x.filter)))

/-- The copy of a record that an export writes: A unless its CRC fails, then B; none when both fail (R480). -/
def exportCopy (failed : List (Nat × Bool)) (r : LogRecord) : Option (LogRecord × Bool) :=
  if !failed.contains (r.seq, false) then some (r, false) else if !failed.contains (r.seq, true) then some (r, true) else none

/-- The signed header (R480). -/
def exportHeader (rs : List LogRecord) (pages : List Byte) (s : State) : List Byte :=
  let first := (rs.head?.map (fun r => r.seq)).getD 0
  let last := (rs.getLast?.map (fun r => r.seq)).getD 0
  let gaps := if rs = [] then 0 else last + 1 - first - rs.length
  let head := leBytes 4 0x4C424558 ++ leBytes 1 1 ++ leBytes 3 0 ++ leBytes 8 s.dev.serial.toNat ++ leBytes 8 first ++ leBytes 8 last
    ++ leBytes 4 rs.length ++ leBytes 4 gaps ++ leBytes 6 s.tim.seconds ++ leBytes 2 0 ++ digestBytes (sha384 pages)
  head ++ bytesAt 0 96 (Config.attestSign (sha384 head)) ++ leBytes 64 0

/-- An export ends with the records it has written, each in the copy taken, and its header. -/
def exportEnd (x : Export) (copies : List (LogRecord × Bool)) (st : Status) (s : State) : State :=
  let rs := copies.map (fun r => r.1)
  let pages := copies.flatMap (fun r => r.1.page r.2)
  let s1 := if s.hif.dmaUp then hostWrite x.address (exportHeader rs pages s ++ pages) s else s
  completeOr 0x0F01 0 st 15 3 (leBytes 1 st.code ++ leBytes 3 0 ++ leBytes 4 rs.length
      ++ leBytes 8 ((rs.getLast?.map (fun r => r.seq)).getD 0))
    { s1 with log := { s1.log with exporting := none } }

/-- A trip ends the export PARTIAL, after as many records as it had written (R480). -/
def exportTrip (s : State) : State :=
  match s.log.exporting with
  | none => s
  | some x =>
    let f := takeFree s
    exportEnd x (((exported x s.log).take (min f.1 (x.bytes / 256 - 1))).map (fun r => (r, false))) .partly f.2

/-! ### The ageing history, as its records hold it (R476) -/

/-- Live AGEING_DAY and AGEING_MONTH payloads, oldest first. -/
def payloads (type : Nat) (l : Log) : List (List Byte) := (l.records.filter (fun r => r.type = type)).map (fun r => r.payload)
/-- The last `n` of a list. -/
def lastN {α : Type} (n : Nat) (l : List α) : List α := l.drop (l.length - n)
/-- FEC_BER over SF threshold in 10⁻⁶, rounded down. -/
def ratioOf (ber sf : Nat) : Nat := if sf = 0 then 0 else ber * 1000000 / sf
/-- The shift d of a monitor in 0.001 %: the slowing of its stressed oscillator against its reference since BIRTH, from the ratios of
the two counts in 10⁻⁶ (R475). -/
def shiftOf (baseline ratio : Nat) : Int := ((baseline : Int) - ratio) * 100000 / baseline
/-- Fields of an AGEING_DAY payload: greatest shift, least target in 0.1 mV, ratio per engine. -/
def dayShift (b : List Byte) : Int := (maxInt ((List.range 16).map (fun m => s16 b (2 * m)))).getD 0
def dayTarget (b : List Byte) : Nat := u16 b 56
def dayRatio (e : Nat) (b : List Byte) : Nat := ratioOf (u32 b (62 + 9 * e)) (u32 b (66 + 9 * e))
/-- The ratio of an AGEING_MONTH payload. -/
def monthRatio (e : Nat) (b : List Byte) : Nat := u32 b (4 + 4 * e)

/-! ### The plan (R477 to R479) -/

def sumInt : List Int → Int
  | [] => 0
  | x :: xs => x + sumInt xs
/-- Seconds of a service year. -/
def yearSeconds : Nat := 31557600
/-- `n · 2 · (10·F − Vmin) + S`, the left side of the comparison that decides a floor F in mV. -/
def floorSide (f vmin n : Nat) (sum : Int) : Int := 2 * n * (10 * (f : Int) - vmin) + sum
/-- `side ≥ sum · (num/den)^(1/4)`, exactly. -/
def reaches (side sum : Int) (num den : Nat) : Bool :=
  if 0 ≤ sum then decide (0 ≤ side) && decide (sum ^ 4 * num ≤ side ^ 4 * den)
  else decide (0 ≤ side) || decide (side ^ 4 * den ≤ sum ^ 4 * num)
/-- The AVS floor in mV: the least multiple of 5 that meets the projection, never falling (R478). -/
def planFloorOf (prev vmin n : Nat) (sum : Int) (life : Nat) : Nat :=
  let cands := ((List.range 31).map (fun i => 650 + 5 * i)).filter (fun f => decide (prev ≤ f))
  (cands.find? (fun f => reaches (floorSide f vmin n sum) sum (life + yearSeconds) life)).getD 800
/-- The floor projected for year 15 exceeds 780 mV; and that projection in mV, rounded down. -/
def eolAbove (vmin n : Nat) (sum : Int) (life : Nat) : Bool :=
  !reaches (floorSide 780 vmin n sum) sum (15 * yearSeconds) life
def eolFloor (vmin n : Nat) (sum : Int) (life : Nat) : Nat :=
  ((List.range 1200).filter (fun i => decide (0 < i) && (decide (10 * i ≤ vmin) ||
    !reaches (floorSide i vmin n sum) sum (15 * yearSeconds) life))).length
/-- The FEC reserve (R478). -/
def planReserveOf (retired life : Nat) : Nat :=
  if retired = 0 ∨ 15 * yearSeconds ≤ life ∨ life = 0 then 0
  else min 8 ((retired * (15 * yearSeconds - life) + life - 1) / life)
/-- The least-squares line through the ratios, 12 months ahead (R478); with fewer than 12 months, through those there are. -/
def lineAhead (ys : List Nat) : Nat :=
  let k : Nat := ys.length
  let sx : Nat := (List.range k).foldl (· + ·) 0
  let sxx : Nat := ((List.range k).map (fun i => i * i)).foldl (· + ·) 0
  let sy : Nat := ys.foldl (· + ·) 0
  let sxy : Nat := (ys.zipIdx.map (fun p => p.1 * p.2)).foldl (· + ·) 0
  let den : Int := k * sxx - sx * sx
  if k = 0 then 0
  else if den = 0 then sy / k
  else (((sy : Int) * den + ((k : Int) * sxy - sx * sy) * (k * (k - 1 + 12) - sx)) / (k * den)).toNat
/-- One profile step down (R478). -/
def stepDown (p : Nat) : Option Nat := [some 1, some 2, some 3, some 4, some 7, some 6, none, none].getD p none
/-- The advice for an engine. -/
def adviceOf (profile r p : Nat) : Option Nat := if 700000 ≤ r ∨ 900000 ≤ p then stepDown profile else none

/-- The results of the plan (R478). -/
def planResults (dry byCommand : Bool) (s : State) : PlanRun :=
  let days := payloads 0x51 s.log
  let months := lastN 12 (payloads 0x52 s.log)
  let week := lastN 7 days
  let sum := sumInt (week.map dayShift)
  let n := week.length
  let vmin := (lastN 365 days).foldl (fun m b => min m (dayTarget b)) 8000
  let life := vecGet 0 s.log.life 0
  let retired := (s.fec.cores.toList.filter (fun c => c.retired)).length
  let r := fun e => ((lastN 30 days).map (dayRatio e)).foldl max 0
  let p := fun e => lineAhead (months.map (monthRatio e))
  let prof := fun e => (s.engine e).sel.profile
  { dry, byCommand, year := life / yearSeconds
    floor := planFloorOf s.thm.floor vmin n sum life
    reserve := planReserveOf retired life
    eol := eolFloor vmin n sum life
    warn := eolAbove vmin n sum life
    given0 := prof 0, given1 := prof 1
    advice0 := adviceOf (prof 0) (r 0) (p 0), advice1 := adviceOf (prof 1) (r 1) (p 1)
    ratio0 := r 0, ratio1 := r 1, ahead0 := p 0, ahead1 := p 1, seq := s.log.seq }

/-- The payload of a PLAN record: results, then inputs. -/
def planPayload (p : PlanRun) (s : State) : List Byte :=
  leBytes 1 p.year ++ leBytes 1 1 ++ leBytes 2 p.floor ++ leBytes 1 p.reserve ++ leBytes 1 (b2n p.warn) ++ leBytes 2 p.eol
    ++ leBytes 4 p.ratio0 ++ leBytes 4 p.ratio1 ++ leBytes 4 p.ahead0 ++ leBytes 4 p.ahead1
    ++ leBytes 1 (p.advice0.getD 255) ++ leBytes 1 (p.advice1.getD 255) ++ leBytes 2 s.thm.floor
    ++ leBytes 8 (vecGet 0 s.log.life 0)

/-- LOG_PLAN_DONE (R482). -/
def planDone (st floor reserve : Nat) (floorChanged reserveChanged : Bool) (s : State) : State :=
  completeOr 0x0F04 0 .ok 15 1
    (leBytes 1 st ++ leBytes 1 (vecGet 0 s.log.life 0 / yearSeconds) ++ leBytes 2 floor ++ leBytes 1 reserve
      ++ leBytes 1 (packBits [floorChanged, reserveChanged])) s

/-- The plan runs: too few records, or results, with a PLAN record to commit unless it is dry (R477, R479). -/
def planStart (dry byCommand : Bool) (s : State) : State :=
  if (payloads 0x51 s.log).length < 30 then
    planDone 2 s.log.planFloor s.log.planReserve false false { s with log := { s.log with
      planStatus := if dry then s.log.planStatus else 2, planDue := dry && s.log.planDue } }
  else
    let r := planResults dry byCommand s
    let s1 := { s with log := { s.log with plan := some r, planDue := dry && s.log.planDue } }
    if dry then s1 else logRecord 0x0053 0 (planPayload r s) s1
/-- A plan that waited for the window, or behind another, runs when that ends (R477). -/
def planWaiting (s : State) : State :=
  if s.log.planDue && s.log.plan.isNone && s.thm.flashOk then planStart false false s else s

/-- LOG_PROFILE_ADVICE and the standing advice (R478, R482, R483). -/
def adviceStep (e given : Nat) (adv : Option Nat) (r p : Nat) (s : State) : State :=
  match adv with
  | none => { s with log := { s.log with advice := vecMod s.log.advice e (fun a => { a with valid := false, ratio := r }) } }
  | some a =>
    emit 15 2 (leBytes 1 e ++ leBytes 1 given ++ leBytes 1 a ++ leBytes 1 0 ++ leBytes 2 (min 65535 (r / 1000))
        ++ leBytes 2 (min 65535 (p / 1000)))
      { s with log := { s.log with advice := vecMod s.log.advice e (fun _ => ⟨true, given, a, r⟩) } }

/-- Both registers from the results (R479). -/
def planApply (p : PlanRun) (s : State) : State :=
  let s1 := { s with
    thm := { s.thm with floor := p.floor }
    fec := { s.fec with reserve := p.reserve }
    log := { s.log with plan := none, planYear := p.year, planStatus := 1, planFloor := p.floor, planReserve := p.reserve, eolWarn := p.warn } }
  let s2 := planDone 1 p.floor p.reserve (decide (p.floor ≠ s.thm.floor)) (decide (p.reserve ≠ s.fec.reserve)) s1
  let s3 := adviceStep 1 p.given1 p.advice1 p.ratio1 p.ahead1 (adviceStep 0 p.given0 p.advice0 p.ratio0 p.ahead0 s2)
  if p.warn then emit 15 6 (leBytes 2 p.eol) s3 else s3

/-- Kindling phase 4: the floor and the reserve of the newest PLAN record (R479). -/
def planRestore (s : State) : State :=
  match (payloads 0x53 s.log).getLast? with
  | none => s
  | some b => { s with
    thm := { s.thm with floor := u16 b 2 }
    fec := { s.fec with reserve := u8 b 4, reserveUse := u8 b 4 }
    log := { s.log with planYear := u8 b 0, planStatus := 1, planFloor := u16 b 2, planReserve := u8 b 4, eolWarn := bit (u8 b 5) 0 } }

/-- The standing advice of an engine: until its profile changes (R483). -/
def adviceStands (e : Nat) (s : State) : Bool :=
  let a := vecGet ⟨false, 0, 0, 0⟩ s.log.advice e
  a.valid && decide ((s.engine e).sel.profile = a.given)

end Sys2Proof.Machine
end

