-- ==== Sys2Proof/Machine/Resume.lean ====
section
/-! DEFINITION. What Kindling restores from the Logbook, and what the AC re-applies after a restart from EMBER (chapters 02, 16). -/

namespace Sys2Proof.Machine

/-! ### Kindling phase 4 (R463, R470, R473, R479) -/

/-- Take back what one STATE item holds. DESIGN CHOICE: the 24 hours of a block's last save start again at its restoration (R133;
log 45). -/
def restoreItem (item : Nat) (k : Kept) (s : State) : State :=
  match k with
  | .none => s
  | .opKeys ks => { s with dev := { s.dev with opKeys := Vector.ofFn (fun i => ks.getD i.val none) } }
  | .cnvUnit rep sp failed => modAdc (item / 4) (item % 4) (fun a => { a with
      replaced := rep, degraded := rep.isSome || sp, spareRetired := sp, failedCnt := (failed.filter (fun f => f)).length
      slices := vecMap (fun n z => { z with failed := failed.getD n false }) a.slices }) s
  | .cnvTset b => modGroup (item / 64) (fun g => { g with
      blocks := tabInsert g.blocks (item % 64) b, saved := tabInsert g.saved (item % 64) (s.tim.now, b) }) s
  | .dacChar c => modGroup (item / 4) (fun g => { g with dacs := vecMod g.dacs (item % 4) (fun y => { y with char := c }) }) s
  | .fecCores cs => { s with fec := { s.fec with cores := vecMap (fun n c => { c with
      retired := (cs.getD n (false, false)).1, cause := (cs.getD n (false, false)).2 }) s.fec.cores } }
  | .keySlot x => modKeySlot item (fun y => { x with
      history := y.history, txUsed := x.txUsed || s.cph.bound.contains (item, x.key) }) s
  | .kcvHist h => modKeySlot item (fun y => { y with history := h }) s
  | .dctr c => { s with cph := { s.cph with dctr := c }, log := { s.log with dctrCeiling := c } }
  | .cinders es => { s with mi := { s.mi with cinders := s.mi.cinders ++ es.map (fun e => { e with persisted := true }) } }
  | .counters vs orderly =>
    let l := { s.log with life := Vector.ofFn (fun i => vs.getD i.val 0), unclean := !orderly }
    { s with log := if orderly then l else { l with life := vecMod l.life 5 (fun n => satAdd (2 ^ 64 - 1) n 1) } }
  | .plan _ _ => s

/-- The Logbook is replayed: the newest item of every TYPE and ITEM stands. DESIGN CHOICE: the blocks that a CNV_TSET_CLEAR made
invalid come back with their CNV_TSET items, since R464 makes the record of the clear no STATE item (log 45). -/
def replayLog (s : State) : State :=
  let s0 := { s with
    mi := { s.mi with cinders := [] }
    log := { s.log with ready := true, unclean := false } }
  let s1 := s0.log.kept.foldl (fun u x => restoreItem (x.1 % 65536) x.2 u) s0
  let s2 := addLife 0 s1.log.unreadLife { s1 with log := { s1.log with unreadLife := 0 } }
  addLife 4 1 (planRestore s2)

/-! ### The automatic resume (R35, R301) -/

def resumeDac (old y : Dac) : Dac := { y with written := old.written, inForce := old.written }
def resumeGroup (old x : Group) : Group :=
  { x with cfg := old.cfgNext.getD old.cfg, dacs := vecMap (fun d y => resumeDac (vecGet Dac.reset old.dacs d) y) x.dacs }
def resumeEngine (old : Engine) : Engine :=
  { Engine.reset with
    stored := some old.sel, cd := old.cd, cdFresh := true, eq := old.eq, rx := old.rx, nlc := old.nlc, nlcReady := old.nlcReady
    tx := old.tx, respHost := old.respHost, respStaged := old.respStaged, respApplied := old.respApplied }
def resumeFec (old x : Fec) : Fec :=
  { x with
    ceilCfg := old.ceilCfg, windowCfg := old.windowCfg
    engines := vecMap (fun e y =>
      let o := vecGet FecEngine.reset old.engines e
      { y with skeon := o.skeonNext, ofec := o.ofecNext, skeonNext := o.skeonNext, ofecNext := o.ofecNext }) x.engines }
def resumeFrm (old : Frm) : Frm :=
  { Frm.reset with
    units := old.units.map (fun u => (u.1, { FrmUnit.reset with otn := u.2.otn, cfg := u.2.cfg, force := u.2.cfg }))
    sesThr := old.sesThr, dayOffset := old.dayOffset, tca := old.tca }
def resumeAps (g : ApsGroup) : ApsGroup :=
  { ApsGroup.new g.partner g.peer with revertive := g.revertive, bidir := g.bidir, holdoff := g.holdoff, wtrSeconds := g.wtrSeconds }
def resumeMap (old : Map) : Map :=
  { Map.reset with stored := some (old.planId, old.plan), groups := old.groups.map (fun x => (x.1, resumeAps x.2)) }
def resumeGates (s : State) (g : Gates) : Gates :=
  let r := reanchor s g
  { Gates.reset with staged := g.staged, pending := match r.restart with
      | some l => some l
      | none => r.pending }
def resumePkt (old : Pkt) (s : State) : Pkt :=
  { s.pkt with
    ports := old.ports.map (fun x => (x.1, { Port.reset with cfg := x.2.cfg, gates := resumeGates s x.2.gates }))
    rules := old.rules, entities := old.entities }
def resumeCln (old : Cln) : Cln :=
  { Cln.reset with
    cifs := vecMap (fun _ x => { Cif.reset with
      lanes := x.lanes, typ := x.typ, rate := x.rate, fec := x.fec, gen := x.gen, group := x.group, position := x.position }) old.cifs
    lanes := vecMap (fun _ x => { Lane.reset with
      taps := x.taps, txInv := x.txInv, rxInv := x.rxInv, train := x.train, rxFreeze := x.rxFreeze, pcsLane := x.pcsLane }) old.lanes }
def resumePlk (old : Plk) : Plk :=
  { Plk.reset with
    en := old.en, xferEn := old.xferEn, minLanes := old.minLanes, mask := old.mask
    lanes := vecMap (fun _ x => { PeerLane.reset with taps := x.taps, txInv := x.txInv, rxInv := x.rxInv, rxFreeze := x.rxFreeze }) old.lanes }
def resumeMon (old x : Mon) : Mon :=
  { x with
    chans := vecMap (fun c y => let o := vecGet Chan.reset old.chans c
      { y with stored := o.stored, force := o.cfg }) x.chans
    fsops := vecMap (fun e y =>
      { y with next := some (vecGet Fsop.reset old.fsops e).wanted }.put) x.fsops
    rings := vecMap (fun n y =>
      let o := vecGet DmaRing.reset old.rings n
      if o.enabled then { DmaRing.reset with enabled := true, base := o.base, size := o.size, phase := true } else y) x.rings
    xchkTol := old.xchkTol, calPeriod := old.calPeriod
    sars := vecMap (fun k y =>
      let o := vecGet Sar.reset old.sars k
      { y with seqNext := some (o.seqNext.getD o.seq), corr := o.corr }) x.sars }

/-- The configuration in force at the trip is applied again; transmit epochs are derived again. -/
def resumeConfig (d : Datapath) (s : State) : State :=
  let s1 := { s with
    cnv := { s.cnv with groups := vecMap (fun g x => resumeGroup (vecGet Group.reset d.cnv.groups g) x) s.cnv.groups }
    dsp := { s.dsp with engines := vecMap (fun _ x => resumeEngine x) d.dsp.engines }
    fec := resumeFec d.fec s.fec
    frm := resumeFrm d.frm
    map := resumeMap d.map
    pkt := resumePkt d.pkt s
    cln := resumeCln d.cln
    plk := resumePlk d.plk
    mon := resumeMon d.mon s.mon }
  cphResume d.cph s1

end Sys2Proof.Machine
end

