-- ==== Sys2Proof/Machine/Device.lean ====
section
/-! DEFINITION. The meanings of the device rows of group 0x00: power, Kindling, modes, resets and their commands (chapters 02, 17). -/

namespace Sys2Proof.Machine

def modDev (f : Dev → Dev) (s : State) : State := { s with dev := f s.dev }

/-! ### Power and reset pins (R42, R486, R489) -/

/-- VDD_AON comes within tolerance: AVS_SEL is sampled and THERM_TRIP_N released. -/
def execAonPowerUp (avsSel : Bool) (s : State) : Host.Outcome State Fault Refusal :=
  if s.pins.pwrOk then .next s
  else .next { s with pins := { s.pins with vddAon := true, avsSel := avsSel, vidMode := avsSel, thermTripN := !s.thm.trip } }
/-- VDD_AON falls below 1.62 V: a cold reset. -/
def execAonPowerLoss (s : State) : Host.Outcome State Fault Refusal := if s.pins.vddAon then .next (coldReset s) else .next s
/-- RESET_N low for 10 µs or more: a warm reset. -/
def execResetNLow (s : State) : Host.Outcome State Fault Refusal := if s.pins.resetN then .next (warmReset s) else .next s
/-- PWR_OK falls: exactly as RESET_N low. -/
def execPwrOkLow (s : State) : Host.Outcome State Fault Refusal :=
  if !s.pins.pwrOk then .next s
  else
    let w := warmReset s
    .next { w with pins := { w.pins with pwrOk := false } }

/-! ### Kindling (R36 to R41) -/

/-- Kindling is in a phase. -/
def inPhase (n : Nat) (s : State) : Bool := decide (s.dev.mode = .kindling) && s.pins.resetN && decide (s.dev.phase = n)

/-- The time domain restarts (R503). -/
def restartTime (t : Tim) : Tim :=
  { t with
    kindlingStart := t.now, onShadow := false, quiet := true
    servo := if t.source = .host then (if t.client || !t.onShadow then .freerun else .holdover)
      else if t.servo = .freerun then .freerun else .holdover }
/-- PWR_OK and RESET_N are both high: straps are sampled and phase 1 begins. -/
def execKindlingStart (bootSel : Bool) (mgmtAddr : BitVec 2) (suppliesOk : Bool) (s : State) : Host.Outcome State Fault Refusal :=
  if s.pins.vddAon = false ∨ s.pins.resetN = true then .next s
  else .next { s with
    pins := { s.pins with
      resetN := true, pwrOk := true, bootSel := bootSel, bootHost := bootSel, mgmtAddr := mgmtAddr, suppliesInRange := suppliesOk }
    dev := { s.dev with phase := 1, suppliesOk := suppliesOk }
    tim := restartTime s.tim }

def execSupplyGroupsWithinRange (s : State) : Host.Outcome State Fault Refusal :=
  if inPhase 1 s then
    .next { s with pins := { s.pins with suppliesInRange := true }, dev := { s.dev with suppliesOk := true } }
  else .next s
def execSupplyCheckTimeout (s : State) : Host.Outcome State Fault Refusal :=
  if inPhase 1 s && !s.dev.suppliesOk then .next (enterLockout 7 0 s) else .next s
def execFuseCheckDone (ok : Bool) (s : State) : Host.Outcome State Fault Refusal :=
  if inPhase 1 s && s.dev.suppliesOk then
    (if ok then .next (modDev (fun d => { d with phase := 2 }) s) else .next (enterLockout 1 0 s))
  else .next s
/-- With BOOT_SEL high, phase 3 waits for the host (R38). -/
def execTcRamTestDone (ok : Bool) (s : State) : Host.Outcome State Fault Refusal :=
  if inPhase 2 s then
    (if ok then .next (modDev (fun d => { d with phase := 3, waitHost := s.pins.bootHost, fetched := false }) s)
     else .next (enterLockout 2 0 s))
  else .next s

/-- GO is written while the device waits: a length of zero or above 3,251,056 is refused (R38, R39). At any other time GO has
no effect and its bit stays 0: DESIGN CHOICE, the spec says nothing of it (log 26). -/
def loadGo (s : State) : State :=
  if !s.dev.waitHost then s
  else
    let bad := decide (s.dev.loadLen = 0) || decide (3251056 < s.dev.loadLen.toNat)
    modDev (fun d => { d with loadErr := bad, waitHost := bad, loadGo := !bad, fetched := false }) s
def execDevLoadCtrlGo (s : State) : Host.Outcome State Fault Refusal := .next (loadGo s)

/-- An image fetch completes; GO clears (R36, R55). -/
def fetchDone (n : Nat) (s : State) : State :=
  if inPhase n s && !s.dev.waitHost then modDev (fun d => { d with fetched := true, loadGo := false }) s else s
def execTcImageFetchDone (s : State) : Host.Outcome State Fault Refusal := .next (fetchDone 3 s)
def execAcImageFetchDone (s : State) : Host.Outcome State Fault Refusal := .next (fetchDone 5 s)

/-- One extension of the chain (R51). -/
def extendChain (m : List Byte) (s : State) : State :=
  modDev (fun d => { d with chain := sha384 (digestBytes d.chain ++ m), measurements := d.measurements + 1 }) s

/-- The length of a signature under an algorithm (R40). -/
def sigLen (alg : Nat) : Nat := if alg = 1 then 2672 else 96
/-- The fields of an image header (R40): TYPE, SIG_ALG, SIGNER, BODY_LEN, SVN, BODY_HASH and SIG_LEN. -/
def hdrType (h : List Byte) : Nat := u8 h 4
def hdrAlg (h : List Byte) : Nat := u8 h 5
def hdrSigner (h : List Byte) : Nat := u8 h 6
def hdrBodyLen (h : List Byte) : Nat := u32 h 8
def hdrSvn (h : List Byte) : Nat := u32 h 12
def hdrBodyHash (h : List Byte) : Digest := BitVec.ofNat 384 (leNat (bytesAt 16 48 h))
def hdrSigLen (h : List Byte) : Nat := u32 h 64
/-- The largest body of a TYPE (R40). -/
def bodyLimit (type : Nat) : Nat := if type = 1 then 98304 else 3145728
/-- A header is 256 bytes whose MAGIC, TYPE, SIG_ALG, lengths and reserved bytes are as R40 says. -/
def headerOk (h : List Byte) : Bool :=
  decide (h.length = 256) && decide (u32 h 0 = 0x50584946) && (decide (hdrType h = 1) || decide (hdrType h = 2))
    && (decide (hdrAlg h = 1) || decide (hdrAlg h = 2)) && decide (u8 h 7 = 0)
    && decide (hdrBodyLen h ≠ 0) && decide (hdrBodyLen h % 4 = 0) && decide (hdrBodyLen h ≤ bodyLimit (hdrType h))
    && decide (hdrSigLen h = sigLen (hdrAlg h)) && decide (leNat (bytesAt 68 188 h) = 0)
/-- Header, body and signature, in bytes (R40). -/
def imageLength (h : List Byte) : Nat := 256 + hdrBodyLen h + hdrSigLen h
/-- The next multiple of 4,096, where the AC image of a bundle begins (R38, R40). -/
def padded (n : Nat) : Nat := (n + 4095) / 4096 * 4096
/-- The common checks of an image (R40, R41). -/
def imageSound (i : ImageIn) : Bool := headerOk i.header && i.bodyOk && i.signatureOk
def imageOf (i : ImageIn) : Image :=
  ⟨hdrSigner i.header, hdrSvn i.header, hdrBodyHash i.header, imageLength i.header, i.version⟩
/-- A TC image is accepted only with SIGNER 0 and its SVN minimum (R41). -/
def tcAccepted (i : ImageIn) (s : State) : Bool :=
  imageSound i && decide (hdrType i.header = 1) && decide (hdrSigner i.header = 0) && decide (s.dev.svnMinTc ≤ hdrSvn i.header)
/-- SIGNER 0, or an enrolled operator key (R41). -/
def signerOk (i : ImageIn) (s : State) : Bool :=
  let n := hdrSigner i.header
  decide (n = 0) || (decide (1 ≤ n ∧ n ≤ 4) && (vecGet none s.dev.opKeys (n - 1)).isSome)
/-- The length of a host-loaded bundle agrees with its two headers (R38): the AC image begins at the next multiple of 4,096 bytes
after the TC image and ends the bundle. It is tested when the second header is read (log 26). -/
def bundleOk (i : ImageIn) (s : State) : Bool :=
  !s.pins.bootHost
    || decide (s.dev.loadLen.toNat = padded ((s.dev.tcImage.map (fun t => t.length)).getD 0) + imageLength i.header)
def acAccepted (i : ImageIn) (s : State) : Bool :=
  imageSound i && decide (hdrType i.header = 2) && signerOk i s && decide (s.dev.svnMinAc ≤ hdrSvn i.header) && bundleOk i s

/-- The TC image is checked: M1 to M3, slot B after slot A, or LOCKOUT (R36, R37, R51). -/
def execTcImageCheckDone (image : ImageIn) (s : State) : Host.Outcome State Fault Refusal :=
  if !(inPhase 3 s && s.dev.fetched) then .next s
  else if tcAccepted image s then
    .next (modDev (fun d => { d with phase := 4, fetched := false, slotB := d.tryingB, tcImage := some (imageOf image) })
      (extendChain (digestBytes (hdrBodyHash image.header)) (extendChain Config.tcRomVersion
        (extendChain (digestBytes (sha384 (fuseRecord s.dev.variantN s.dev.svnMinTc s.dev.svnMinAc))) s))))
  else if !s.pins.bootHost && !s.dev.tryingB then .next (modDev (fun d => { d with tryingB := true, fetched := false }) s)
  else .next (enterLockout 3 0 s)

/-- The enrolled key list as measured and recorded: the algorithm and the 97 bytes of each slot's key in turn, zeros for an empty
slot. DESIGN CHOICE: R50 and R51 give it no layout (log 27). -/
def keyListBytes (ks : Vector (Option OpKey) 4) : List Byte :=
  ks.toList.flatMap (fun k => match k with
    | some x => [x.alg] ++ bytesAt 0 97 x.key
    | none => leBytes 98 0)
/-- Trust phase: the Logbook is replayed, keys are read, M4 is extended, a reservation is made (R36, R463, R470). -/
def execTrustPhaseDone (s : State) : Host.Outcome State Fault Refusal :=
  if !inPhase 4 s then .next s
  else
    let s1 := replayLog s
    let s2 := extendChain (digestBytes (sha384 (keyListBytes s1.dev.opKeys))) s1
    .next (flashKick (reserveDctr (modDev (fun d => { d with phase := 5, fetched := false }) s2)))

/-- The BOOT record (R464). -/
def bootRecord (s : State) : State :=
  let c := s.dev.cause
  logRecord 0x0002 0 (leBytes 1 (packBits [c.cold, c.warm, c.app, c.wdog, c.emberRestart]) ++ leBytes 1 (b2n s.dev.slotB)
    ++ digestBytes s.dev.chain ++ leBytes 1 (b2n s.log.unclean)) s
/-- The AC image is checked: M5 and the release of the ACs, or the device waits for the host (R36, R39). In an application
reset it must have the BODY_HASH measured at Kindling (R43), and the chain is not extended (R51). DESIGN CHOICE: an AC image of
the boot flash that fails sets WAIT_HOST as one of the host does, and slot B is not tried, since R37 has the TC ROM try slot B
and the ROM checks the TC image alone (log 26). -/
def execAcImageCheckDone (image : ImageIn) (s : State) : Host.Outcome State Fault Refusal :=
  if !(inPhase 5 s && s.dev.fetched) then .next s
  else
    let go := fun (u : State) => hkaStart (modDev (fun d => { d with phase := 6, fetched := false, acHeld := false }) u)
    let wait := modDev (fun d => { d with waitHost := true, fetched := false }) s
    if s.dev.appReset.isSome then
      (if (s.dev.kindledAc.map (fun m => m.bodyHash)) = some (hdrBodyHash image.header) ∧ image.bodyOk = true then
        .next (go (modDev (fun d => { d with acImage := d.kindledAc }) s))
       else .next wait)
    else if acAccepted image s then
      .next (go (bootRecord (extendChain (digestBytes (hdrBodyHash image.header))
        (modDev (fun d => { d with acImage := some (imageOf image), kindledAc := some (imageOf image) }) s))))
    else .next wait

/-- The self-test ends (R36, R489). -/
def execSelftestDone (s : State) : Host.Outcome State Fault Refusal :=
  if inPhase 6 s && s.dev.appReset.isNone then .next (finishBoot s) else .next s
/-- An application reset has re-checked the AC image held in SRAM and run phase 6; else the image is fetched again (R43). -/
def execAppResetComplete (imageOk : Bool) (s : State) : Host.Outcome State Fault Refusal :=
  if !(inPhase 6 s && s.dev.appReset.isSome) then .next s
  else if imageOk then .next (finishBoot s)
  else .next (modDev (fun d => { d with phase := 5, fetched := false, acHeld := true }) s)

/-! ### Modes and watchdogs (R34, R46, R49) -/

def execModeChangeComplete (s : State) : Host.Outcome State Fault Refusal :=
  match s.dev.changing with
  | some c => .next (afterEntry (enterMode c.target .ok s))
  | none => .next s
def execQuiesceDrainComplete (s : State) : Host.Outcome State Fault Refusal :=
  if s.dev.mode = .quiesce ∧ tilesInUse s.pkt = [] then .next (endDrain s) else .next s
def execQuiesceDrainTimeout (s : State) : Host.Outcome State Fault Refusal :=
  if s.dev.mode = .quiesce then .next (endDrain s) else .next s

/-- An AC misses its watchdog for 100 ms: a record and an application reset, in KINDLING and EMBER without a change of mode (R32,
R49; log 11). ACs that are held in reset serve no watchdog. -/
def execAcWatchdogExpiry (ac : Fin 4) (s : State) : Host.Outcome State Fault Refusal :=
  if s.dev.acHeld then .next s
  else
    let s1 := logRecord 0x0007 0 (leBytes 1 ac.val) s
    .next (if resetAllowed s.dev.mode then startAppReset 3 false s1 else resetInPlace 3 s1)
/-- The TC misses its watchdog for 10 ms (R49). -/
def execTcWatchdogExpiry (s : State) : Host.Outcome State Fault Refusal :=
  if s.pins.resetN then .next (enterLockout 6 0 s) else .next s

/-- The AC re-applies what was in force at the trip and moves the device to SERVICE (R35). While a commanded change is in
progress it waits, since the device executes one mode change at a time (R34; log 23). -/
def execAcResumeAfterEmber (s : State) : Host.Outcome State Fault Refusal :=
  if s.dev.resumeDue = false ∨ s.dev.mode ≠ .standby ∨ s.dev.changing.isSome = true then .next s
  else
    let s1 := modDev (fun d => { d with resumeDue := false }) s
    match s1.atTrip.saved with
    | some d => .next (enterMode .service .ok (resumeConfig d { s1 with atTrip := ⟨none⟩ }))
    | none => .next s1

/-! ### Image loads (R53) -/

/-- How an image load ends. -/
def loadStatus (i : ImageIn) (target : Nat) (s : State) : Status :=
  let h := i.header
  if !imageSound i || !signerOk i s || (decide (hdrType h = 1) && decide (hdrSigner h ≠ 0)) then .integrity
  else if hdrType h = 1 ∧ target = 0 then .denied
  else if hdrSvn h < (if hdrType h = 1 then s.dev.svnMinTc else s.dev.svnMinAc) then .denied
  else .ok
/-- DEV_IMAGE_LOADED (R56). -/
def imageLoaded (i : ImageIn) (target : Nat) (st : Status) (s : State) : State :=
  completeOr 0x0005 0 st 0 6 (leBytes 1 target ++ leBytes 1 (hdrType i.header) ++ leBytes 1 st.code ++ leBytes 1 0 ++ leBytes 4 (hdrSvn i.header))
    (modDev (fun d => { d with imageLoad := none }) s)
/-- COMMIT_SVN raises the fused minimum, never lowers it. -/
def commitSvn (i : ImageIn) (s : State) : State :=
  let v := hdrSvn i.header
  modDev (fun d => if hdrType i.header = 1 then { d with svnMinTc := max d.svnMinTc v } else { d with svnMinAc := max d.svnMinAc v }) s
/-- An accepted AC image is to run: by an application reset at once, or by the next one where none may begin (R43, R53). -/
def runImage (i : ImageIn) (s : State) : State :=
  let s1 := modDev (fun d => { d with acImage := some (imageOf i) }) s
  if resetAllowed s.dev.mode then startAppReset 2 false s1 else s1
/-- The image is verified and written or run. -/
def execImageLoadComplete (image : ImageIn) (s : State) : Host.Outcome State Fault Refusal :=
  match s.dev.imageLoad with
  | none => .next s
  | some x =>
    let st := loadStatus image x.target s
    if st ≠ .ok then .next (imageLoaded image x.target st s)
    else
      let s1 := if x.commitSvn then commitSvn image s else s
      let s2 := logRecord 0x0006 0 (leBytes 1 x.target ++ leBytes 1 (hdrType image.header) ++ leBytes 4 (hdrSvn image.header)
        ++ digestBytes (hdrBodyHash image.header)) s1
      let s3 := if hdrType image.header = 2 then extendChain (digestBytes (hdrBodyHash image.header)) s2 else s2
      let s4 := imageLoaded image x.target .ok s3
      if x.target = 0 then .next (runImage image s4)
      else .next (modDev (fun d => if x.target = 1 then { d with slotAValid := true } else { d with slotBValid := true }) s4)

/-! ### Commands (R53) -/

def replyDevModeSet (p : Packet) (s : State) : Reply :=
  let b := p.params
  match modeOf (u8 b 0) with
  | none => .failAt .badParam 0 s
  | some m =>
    checked s [failIf .badState (!commanded s.dev.mode m), reservedBytes b 1 1, badParam 2 (60000 < u16 b 2),
        failIf .busy s.dev.changing.isSome]
      (if immediate s.dev.mode m then Reply.ok (enterMode m .ok s)
       else .later 0 0 1 (modePayload s.dev.mode m .aborted) (fun u => modDev (fun d => { d with changing := some ⟨m, u16 b 2⟩, drain := none }) u))
def execDevModeSet (p : Packet) (s : State) : Host.Outcome State Fault Refusal :=
  .next (runCommand (modCmd 0x0001 4) replyDevModeSet p s)

def replyDevAppReset (_p : Packet) (_s : State) : Reply :=
  .later 0 0 3 (leBytes 1 4 ++ leBytes 3 0) (startAppReset 2 false)
def execDevAppReset (p : Packet) (s : State) : Host.Outcome State Fault Refusal :=
  .next (runCommand (modCmd 0x0002 0) replyDevAppReset p s)

/-- In a mode whose engines are not powered the reset is a no-op. -/
def replyDevEngineReset (p : Packet) (s : State) : Reply :=
  let e := u8 p.params 0
  let powered := modePowered s.dev.mode || decide (s.dev.mode = .calibrate)
  checked s [badParam 0 (1 < e), reservedBytes p.params 1 3, failIf .busy (powered && vecGet false s.dev.engineReset e)]
    (if powered then
      .later e 0 4 (leBytes 1 e ++ leBytes 3 0) (startEngineReset e)
     else Reply.ok s)
def execDevEngineReset (p : Packet) (s : State) : Host.Outcome State Fault Refusal :=
  .next (runCommand (modCmd 0x0003 4) replyDevEngineReset p s)

/-- The latch is released and the restart begins; the release is recorded (R428, R464). -/
def replyDevEmberRelease (_p : Packet) (s : State) : Reply :=
  checked s [failIf .badState (!(s.thm.latched && s.thm.coolMet))]
    (Reply.ok (leaveEmber 2 false (logRecord 0x0003 0 (leBytes 4 s.thm.record.cause ++ leBytes 4 s.thm.record.sensor)
      { s with thm := { s.thm with latched := false } })))
def execDevEmberRelease (p : Packet) (s : State) : Host.Outcome State Fault Refusal :=
  .next (runCommand (modCmd 0x0004 0) replyDevEmberRelease p s)

def replyDevImageLoad (p : Packet) (s : State) : Reply :=
  let b := p.params
  let target := u8 b 12
  checked s [badLen 8 (u32 b 8 = 0), badParam 12 (2 < target), badParam 13 (1 < u8 b 13), reservedBytes b 14 2,
      failIf .busy (s.dev.imageLoad.isSome || hasDeferred 0x0001 0 s), failIf .tempWindow (decide (target ≠ 0) && !s.thm.flashOk)]
    (.later 0 0 6 (leBytes 1 target ++ leBytes 1 0 ++ leBytes 1 13 ++ leBytes 5 0)
      (fun u => modDev (fun d => { d with imageLoad := some ⟨target, bit (u8 b 13) 0⟩ }) u))
def execDevImageLoad (p : Packet) (s : State) : Host.Outcome State Fault Refusal :=
  .next (runCommand (modCmd 0x0005 16) replyDevImageLoad p s)

/-- The signature of an authorising slot verifies over SHA-384 of bytes 0 to 111 (R50). -/
def authorised (b : List Byte) (auth : Nat) (s : State) : Bool :=
  match vecGet none s.dev.opKeys auth with
  | some k => decide (auth < 4) && Config.verify k.alg k.key (sha384 (bytesAt 0 112 b)) (b.drop 116)
  | none => false
/-- The signature's length fits the authorising key, which R53 makes part of the command's PARAM_LEN. -/
def authLenOk (b : List Byte) (auth : Nat) (s : State) : Bool :=
  if auth = 255 then decide (b.length = 116)
  else match vecGet none s.dev.opKeys auth with
    | some k => decide (b.length = 116 + sigLen k.alg.toNat)
    | none => decide (b.length = 212) || decide (b.length = 2788)
/-- An authorised enrolment into a slot that holds a key puts the new key in its place: DESIGN CHOICE, R50 forbids none (log 27). -/
def replyDevOpkey (p : Packet) (s : State) : Reply :=
  let b := p.params
  let op := u8 b 0
  let slot := u8 b 1
  let alg := u8 b 4
  let auth := u8 b 112
  let first := decide (op = 1) && decide (auth = 255)
  let none0 := s.dev.opKeys.toList.all (fun k => k.isNone)
  checked s [failIf .badLength (!authLenOk b auth s), badParam 0 (op ≠ 1 ∧ op ≠ 2), badParam 1 (3 < slot), reservedBytes b 2 2, badParam 4 (op = 1 ∧ alg ≠ 1 ∧ alg ≠ 2),
      reservedBytes b 5 3, badParam 8 (op = 1 ∧ alg = 2 ∧ u8 b 8 ≠ 4), badParam 64 (op = 1 ∧ alg = 1 ∧ leNat (bytesAt 64 41 b) ≠ 0),
      reservedBytes b 105 7, badParam 112 (3 < auth ∧ auth ≠ 255), reservedBytes b 113 3,
      failIf .denied (first && !(none0 && decide (s.dev.mode = .standby))), failIf .integrity (!first && !authorised b auth s)]
    (let keys := vecMod s.dev.opKeys slot (fun _ => if op = 1 then some ⟨BitVec.ofNat 8 alg, bytesAt 8 97 b⟩ else none)
     if keys = s.dev.opKeys then Reply.ok s
     else
       let s1 := modDev (fun d => { d with opKeys := keys }) s
       Reply.ok (logRecord 0x0008 0 (keyListBytes keys) (extendChain (digestBytes (sha384 (keyListBytes keys))) s1)))
def execDevOpkey (p : Packet) (s : State) : Host.Outcome State Fault Refusal :=
  .next (runCommand { modCmd 0x0006 0 with
    lenOk := fun b => decide (b.length = 116) || decide (b.length = 212) || decide (b.length = 2788) } replyDevOpkey p s)

def replyDevAttestQuote (p : Packet) (s : State) : Reply :=
  let head := digestBytes s.dev.chain ++ bytesAt 0 32 p.params ++ leBytes 8 s.tim.seconds
    ++ leBytes 4 ((s.dev.acImage.map (fun i => i.svn)).getD 0) ++ leBytes 4 s.dev.measurements
  Reply.answer (head ++ bytesAt 0 96 (Config.attestSign (sha384 head))) s
def execDevAttestQuote (p : Packet) (s : State) : Host.Outcome State Fault Refusal :=
  .next (runCommand (readCmd 0x0007 32) replyDevAttestQuote p s)

def replyDevAttestCert (p : Packet) (s : State) : Reply :=
  let off := u16 p.params 0
  let n := u16 p.params 2
  let cert := Config.attestCert
  checked s [badParam 0 (cert.length < off), badLen 2 (decide (n = 0) || decide ((if fromBmc p then 222 else 4062) < n))]
    (Reply.answer (leBytes 2 cert.length ++ (cert.drop off).take n) s)
def execDevAttestCert (p : Packet) (s : State) : Host.Outcome State Fault Refusal :=
  .next (runCommand (readCmd 0x0008 4) replyDevAttestCert p s)

def replyDevLockoutDiag (_p : Packet) (s : State) : Reply :=
  Reply.answer (leBytes 4 s.dev.lockoutCause ++ leBytes 8 s.dev.lockout.seconds ++ leBytes 4 s.dev.lockout.address.toNat
    ++ digestBytes s.dev.lockout.chain) s
def execDevLockoutDiag (p : Packet) (s : State) : Host.Outcome State Fault Refusal :=
  .next (runCommand (readCmd 0x0009 0) replyDevLockoutDiag p s)

end Sys2Proof.Machine
end

