-- ==== Sys2Proof/Machine/Framing.lean ====
section
/-! DEFINITION. The meanings of group 0x06: framing, defects and performance monitoring (chapter 08). -/

namespace Sys2Proof.Machine

/-! ### History records (R241, R242, R245) -/

/-- The 56 bytes of a history record (R241). -/
def Bin.record (b : Bin) (isOpen : Bool) : List Byte :=
  leBytes 6 b.start ++ leBytes 1 (packBits [b.valid, b.suspect, isOpen && b.valid, b.nearUnavail, b.farUnavail]) ++ leBytes 1 0
    ++ leBytes 4 b.seconds ++ leBytes 8 b.near.bbe ++ leBytes 4 b.near.es ++ leBytes 4 b.near.ses ++ leBytes 4 b.near.uas
    ++ leBytes 8 b.far.bbe ++ leBytes 4 b.far.es ++ leBytes 4 b.far.ses ++ leBytes 4 b.far.uas ++ leBytes 4 0

/-- Bin 0 to 18 of a unit (R241). -/
def historyRecord (u : PmUnit) (n : Nat) : List Byte :=
  if n = 0 then u.cur15.record true
  else if n ≤ 16 then (u.prev15.getD (n - 1) Bin.never).record false
  else if n = 17 then u.cur24.record true else u.prev24.record false

/-- Units of a history kind: 0 engine SM, 1 engine PM, 2 tributary PM, 3 CIF SM. -/
def kindSize (kind : Nat) : Nat := if kind ≤ 1 then 2 else if kind = 2 then 256 else 32

/-- The unit is monitored (R232). -/
def monitored (kind unit : Nat) (s : State) : Bool :=
  if kind ≤ 1 then decide (unit < 2)
  else if kind = 2 then (s.entry unit).isSome
  else decide (unit < 32) && decide ((s.unit (cifKey unit)).otn ≠ 0)

/-- FRM_PM_SEL_WRITE: reserved values keep the field (R8), and the selected record is copied (R245). -/
def execFrmPmSelWrite (writer : Writer) (value : Word) (s : State) : Host.Outcome State Fault Refusal :=
  match writer with
  | .host | .ac | .tc =>
    let v := value.toNat
    let old := s.frm.sel.toNat
    let kind := bits v 1 0
    let bin := if bits v 12 8 ≤ 18 then bits v 12 8 else bits old 12 8
    let unit := if bits v 31 24 < kindSize kind then bits v 31 24 else bits old 31 24
    .next { s with frm := { s.frm with
      sel := BitVec.ofNat 32 (kind + 2 ^ 8 * bin + 2 ^ 24 * unit)
      selData := historyRecord (s.pmUnit (kind * 256 + unit)) bin } }

/-! ### Frames and boundaries -/

/-- After a frame, the defects that take no time are declared and cleared, as one change (R224, R229). -/
def afterFrame (scope unit : Nat) (s : State) : State := pktRefresh (declareDefects scope unit 0 s)
/-- The differential delay of a protection group, measured from frame alignment (R260). -/
def takeDelay (t : Nat) (frame : FrameIn) (s : State) : State :=
  match frame.delay, s.apsGroup t with
  | some d, some g => setApsGroup t { g with delay := d } s
  | _, _ => s

/-- FRM_FRAME_RECEIVED: alignment, multiframe and overhead of one frame, and the defects that follow it at once (R213, R217 to
R224, R230, R231, R260). -/
def execFrmFrameReceived (scope : Fin 3) (unit : Fin 256) (frame : FrameIn) (s : State) : Host.Outcome State Fault Refusal :=
  let n := unit.val
  if scope.val = 0 then
    if 2 ≤ n ∨ (s.engine n).state ≠ .locked then .next s
    else
      .next (afterFrame 0 n (modUnit (engineKey n) (unitFrame (s.unit (engineKey n)).flexoSync (engineCounts n s) frame) s))
  else if scope.val = 1 then
    match s.entry n with
    | none => .next s
    | some x =>
      if (s.engine x.engine).state ≠ .locked ∨ engineAligned x.engine s = false then .next s
      else
        .next (afterFrame 1 n (takeDelay n frame (modUnit (tribKey n) (tribFrame (engineCounts x.engine s) frame) s)))
  else
    let u := s.unit (cifKey n)
    if 32 ≤ n ∨ u.otn = 0 then .next s
    else .next (afterFrame 2 n (modUnit (cifKey n) (unitFrame (cifFed n s) true
      { frame with rsUncorr := if u.otn = 1 then frame.rsUncorr else 0 }) s))

/-- Next frame configuration of a unit; a transmitted TTI changes where MFAS [5:0] is 0 (R26, R220). -/
def UnitCfg.take (mfas : Nat) (cfg force : UnitCfg) : UnitCfg :=
  if mfas % 64 = 0 then cfg
  else { cfg with sm := { cfg.sm with tx := force.sm.tx }, pm := { cfg.pm with tx := force.pm.tx } }

/-- A boundary in the framer: written configuration takes effect, insertions end outside MAINTENANCE (R26, R31). -/
def unitBoundary (scope unit mfas : Nat) (s : State) : State :=
  let s1 := modUnit (scope * 256 + unit) (fun u => { u with
    force := u.cfg.take mfas u.force
    inserts := if tidyDue (scope * 256 + unit) s then [] else u.inserts }) s
  afterDefects scope unit s1

/-- A line frame boundary outside MAINTENANCE, or the first after it, removes the engine's test pattern, error injection and converter
loop (R31). -/
def engineTidy (e : Nat) (s : State) : State :=
  if !tidyDue e s then s
  else
    let s1 := modEngine e (fun x => { x with test := 0, tone := 0 }) (modFecEngine e (fun x => { x with inject := 0 }) s)
    if (s1.group e).loop then reacquire e 2 (modGroup e (fun x => { x with loop := false }) s1) else s1

/-- A unit has been tidied since the device left MAINTENANCE (R31). -/
def tidied (unit : Nat) (s : State) : State := { s with dev := { s.dev with tidy := s.dev.tidy.filter (fun k => k ≠ unit) } }

/-- FRAME_BOUNDARY: Next frame writes, replacement signals and pending actions of an engine, tributary or client take
effect, and the unit sends its overhead (R26, R31, R45, R220, R221, R240, R249, R255, R261, R504). -/
def execFrameBoundary (scope : Fin 3) (unit : Fin 256) (mfas : Nat) (s : State) : Host.Outcome State Fault Refusal :=
  let n := unit.val
  if scope.val = 0 then
    if 2 ≤ n ∨ modePowered s.dev.mode = false then .next s
    else .next (tidied n (sendOverhead 0 n (pktRefresh (unitBoundary 0 n mfas (engineTidy n s)))))
  else if scope.val = 1 then
    match s.entry n with
    | none => .next s
    | some _ =>
      if modePowered s.dev.mode then
        let s1 := if s.dev.mode = .quiesce then modPort n (fun y => { y with stopped := true }) s else s
        .next (tidied (256 + n) (sendOverhead 1 n (pktRefresh (tribBoundary n (cphTribBoundary n (unitBoundary 1 n mfas s1))))))
      else .next s
  else if 32 ≤ n then .next s
  else
    let s1 := clnCifBoundary n (unitBoundary 2 n mfas s)
    .next (tidied (512 + n)
      (sendOverhead 2 n (pktRefresh ((s1.map.plan.filter (fun x => x.2.cif = n)).foldl (fun u x => tribBoundary x.1 u) s1))))

/-- DEFECT_DECLARED: the codes whose raw condition holds are declared, with their consequences (R224, R226 to R229). -/
def execDefectDeclared (scope : Fin 3) (unit : Fin 256) (codes : BitVec 21) (s : State) : Host.Outcome State Fault Refusal :=
  .next (pktRefresh (declareDefects scope.val unit.val codes s))

/-- DEFECT_CLEARED (R224, R229). -/
def execDefectCleared (scope : Fin 3) (unit : Fin 256) (codes : BitVec 21) (s : State) : Host.Outcome State Fault Refusal :=
  .next (pktRefresh (clearDefects scope.val unit.val codes s))

/-- DEFECT_PACING_END: the changes of the interval are reported; without any the pacing ends (R243). -/
def execDefectPacingEnd (scope : Fin 3) (unit : Fin 256) (s : State) : Host.Outcome State Fault Refusal :=
  let k := scope.val * 256 + unit.val
  let u := s.unit k
  if !u.pacing then .next s
  else if u.changed = 0 then .next (modUnit k (fun v => { v with pacing := false }) s)
  else .next (reportDefects k s)

/-! ### Commands (R240) -/

/-- The units a command names: one, or every unit of its scope for 0xFFFF. -/
def namedUnits (size unit : Nat) : List Nat := if unit = 0xFFFF then List.range size else [unit]

/-- Store Next frame configuration of units of a scope. -/
def writeCfg (scope : Nat) (units : List Nat) (f : UnitCfg → UnitCfg) (s : State) : State :=
  units.foldl (fun v n => modUnit (scope * 256 + n) (fun u => { u with cfg := f u.cfg }) v) s

/-- FRM_DEFECT_CFG_SET (R224, R225, R240). -/
def replyFrmDefectCfgSet (p : Packet) (s : State) : Reply :=
  let b := p.params
  let scope := u8 b 0
  let code := u8 b 1
  let unit := u16 b 2
  let set := u16 b 4
  let clear := u16 b 6
  let windows := decide (code = 8) || decide (code = 9)
  let deg := decide (code = 7) || decide (code = 15)
  checked s
    [badParam 0 (decide (2 < scope)), badParam 1 (!(scopeCodes scope).contains code),
      badParam 2 (decide (unit ≠ 0xFFFF) && decide (scopeSize scope ≤ unit)),
      badLen 4 (windows && decide (set = 0)),
      badParam 4 (if windows then decide (255 < set) else if deg then decide (set = 0) || decide (10000 < set) else decide (10000 < set)),
      badLen 6 (windows && decide (clear = 0)),
      badParam 6 (if windows then decide (255 < clear) else if deg then decide (clear < 2) || decide (10 < clear) else decide (10000 < clear))]
    (.ok (writeCfg scope (namedUnits (scopeSize scope) unit) (fun c => { c with times := tabInsert c.times code (set, clear) }) s))
def execFrmDefectCfgSet (p : Packet) (s : State) : Host.Outcome State Fault Refusal :=
  .next (runCommand (modCmd 0x0601 8) replyFrmDefectCfgSet p s)

/-- A layer of FRM_TTI_SET names a scope and a layer of its unit. -/
def ttiScope (layer : Nat) : Nat := if layer ≤ 1 then 0 else layer - 1
def ttiIsSm (layer : Nat) : Bool := decide (layer = 0) || decide (layer = 3)
def ttiOf (c : UnitCfg) (layer : Nat) : TtiCfg := if ttiIsSm layer then c.sm else c.pm
/-- The unit of a layer exists: its tributary in the plan, its CIF carrying OTN (R240). -/
def ttiPresent (layer unit : Nat) (s : State) : Bool :=
  if layer ≤ 1 then true else if layer = 2 then (s.entry unit).isSome else decide ((s.unit (cifKey unit)).otn ≠ 0)

/-- FRM_TTI_SET (R220, R240). -/
def replyFrmTtiSet (p : Packet) (s : State) : Reply :=
  let b := p.params
  let layer := u8 b 0
  let unit := u16 b 2
  let fl := u8 b 4
  let new := fun (c : TtiCfg) => TtiCfg.mk (u8 b 1) (bit fl 0) (if bit fl 1 then bytesAt 8 64 b else c.tx)
    (if bit fl 2 then bytesAt 72 64 b else c.exp)
  checked s
    [badParam 0 (decide (3 < layer)), badParam 1 (decide (3 < u8 b 1)), badParam 2 (decide (scopeSize (ttiScope layer) ≤ unit)),
      failIf .badState (!ttiPresent layer unit s), badParam 4 (decide (7 < fl)), reservedBytes b 5 3]
    (.ok (writeCfg (ttiScope layer) [unit] (fun c =>
      if ttiIsSm layer then { c with sm := new c.sm } else { c with pm := new c.pm }) s))
def execFrmTtiSet (p : Packet) (s : State) : Host.Outcome State Fault Refusal :=
  .next (runCommand (modCmd 0x0602 136) replyFrmTtiSet p s)

/-- FRM_TTI_GET (R240). -/
def replyFrmTtiGet (p : Packet) (s : State) : Reply :=
  let b := p.params
  let layer := u8 b 0
  let unit := u16 b 2
  let u := s.unit (ttiScope layer * 256 + unit)
  let c := ttiOf u.cfg layer
  let l := if ttiIsSm layer then u.sm else u.pm
  checked s
    [badParam 0 (decide (3 < layer)), reservedBytes b 1 1, badParam 2 (decide (scopeSize (ttiScope layer) ≤ unit)),
      failIf .badState (!ttiPresent layer unit s)]
    (.answer (leBytes 1 (packBits [l.tti.value.isSome, u.declared.getLsbD (if ttiIsSm layer then 4 else 13)]) ++ leBytes 1 c.mode
      ++ leBytes 1 (b2n c.timAct) ++ leBytes 1 0 ++ bytesAt 0 64 (l.tti.value.getD []) ++ bytesAt 0 64 c.exp ++ bytesAt 0 64 c.tx) s)
def execFrmTtiGet (p : Packet) (s : State) : Host.Outcome State Fault Refusal :=
  .next (runCommand (readCmd 0x0603 4) replyFrmTtiGet p s)

/-- FRM_CA_SET (R227, R240). -/
def replyFrmCaSet (p : Packet) (s : State) : Reply :=
  let b := p.params
  checked s [badParam 0 (decide (1 < u8 b 0)), badParam 1 (decide (7 < u8 b 1)), reservedBytes b 2 2]
    (.ok (writeCfg 0 [u8 b 0] (fun c => { c with ca := u8 b 1 }) s))
def execFrmCaSet (p : Packet) (s : State) : Host.Outcome State Fault Refusal :=
  .next (runCommand (modCmd 0x0604 4) replyFrmCaSet p s)

/-- A change of DAY_OFFSET closes the current bins with SUSPECT and opens new ones (R240, R242). -/
def changeDayOffset (offset : Nat) (s : State) : State :=
  if offset = s.frm.dayOffset then s
  else
    let was := s.frm.start15.isSome
    let s1 := close24 true (close15 true s)
    let s2 := { s1 with frm := { s1.frm with dayOffset := offset, since := s1.tim.seconds } }
    if was then openBins ((s2.frm.waiting.head?.map (fun x => x.label)).getD s2.tim.seconds) s2 else s2

/-- FRM_PM_CFG_SET (R240). -/
def replyFrmPmCfgSet (p : Packet) (s : State) : Reply :=
  let b := p.params
  checked s [badParam 0 (decide (u8 b 0 = 0) || decide (100 < u8 b 0)), reservedBytes b 1 3, badParam 4 (decide (86399 < u32 b 4))]
    (.ok (changeDayOffset (u32 b 4) { s with frm := { s.frm with sesThr := u8 b 0 } }))
def execFrmPmCfgSet (p : Packet) (s : State) : Host.Outcome State Fault Refusal :=
  .next (runCommand (modCmd 0x0605 8) replyFrmPmCfgSet p s)

/-- FRM_PM_READ (R240, R241). -/
def replyFrmPmRead (p : Packet) (s : State) : Reply :=
  let b := p.params
  let kind := u8 b 0
  let first := u8 b 1
  let unit := u16 b 2
  let n := u8 b 4
  checked s
    [badParam 0 (decide (3 < kind)), badParam 1 (decide (18 < first)), badParam 2 (decide (kindSize kind ≤ unit) || !monitored kind unit s),
      badLen 4 (decide (n = 0) || (fromBmc p && decide (3 < n))), badParam 4 (decide (19 < first + n)), reservedBytes b 5 3]
    (.answer (leBytes 1 n ++ leBytes 7 0 ++ (List.range n).flatMap (fun i => historyRecord (s.pmUnit (kind * 256 + unit)) (first + i))) s)
def execFrmPmRead (p : Packet) (s : State) : Host.Outcome State Fault Refusal :=
  .next (runCommand (readCmd 0x0606 8) replyFrmPmRead p s)

/-- A cleared bin: zero counts, and SUSPECT while it is current (R240). -/
def Bin.zeroed (b : Bin) : Bin :=
  { b with seconds := 0, near := Errors.zero, far := Errors.zero, suspect := true }

/-- FRM_PM_CLEAR of one record. -/
def clearPm (mask : Nat) (u : PmUnit) : PmUnit :=
  { u with
    cur15 := if bit mask 0 then u.cur15.zeroed else u.cur15
    cur24 := if bit mask 1 then u.cur24.zeroed else u.cur24
    prev15 := if bit mask 2 then u.prev15.map Bin.zeroed else u.prev15
    prev24 := if bit mask 2 then u.prev24.zeroed else u.prev24 }

/-- FRM_PM_CLEAR (R240, R242). -/
def replyFrmPmClear (p : Packet) (s : State) : Reply :=
  let b := p.params
  let kind := u8 b 0
  let mask := u8 b 1
  let unit := u16 b 2
  let size := if kind = 0xFF then 256 else kindSize kind
  checked s
    [badParam 0 (decide (3 < kind) && decide (kind ≠ 0xFF)), badParam 1 (decide (7 < mask)),
      badParam 2 (decide (unit ≠ 0xFFFF) && decide (size ≤ unit))]
    (.ok { s with frm := { s.frm with pm := s.frm.pm.map (fun x =>
      if (kind = 0xFF ∨ x.1 / 256 = kind) ∧ (unit = 0xFFFF ∨ x.1 % 256 = unit) then (x.1, clearPm mask x.2) else x) } })
def execFrmPmClear (p : Packet) (s : State) : Host.Outcome State Fault Refusal :=
  .next (runCommand (modCmd 0x0607 4) replyFrmPmClear p s)

/-- FRM_TCA_SET (R235, R240). -/
def replyFrmTcaSet (p : Packet) (s : State) : Reply :=
  let b := p.params
  checked s [badParam 0 (decide (3 < u8 b 0)), badParam 1 (decide (1 < u8 b 1)), reservedBytes b 2 2]
    (.ok { s with frm := { s.frm with tca := tabInsert s.frm.tca (u8 b 0 * 2 + u8 b 1) ((List.range 8).map (fun i => u32 b (4 + 4 * i))) } })
def execFrmTcaSet (p : Packet) (s : State) : Host.Outcome State Fault Refusal :=
  .next (runCommand (modCmd 0x0608 36) replyFrmTcaSet p s)

/-- FRM_MAINT_INSERT: insertions of a unit in MAINTENANCE; action 0 removes them (R31, R240). -/
def replyFrmMaintInsert (p : Packet) (s : State) : Reply :=
  let b := p.params
  let scope := u8 b 0
  let action := u8 b 1
  let unit := u16 b 2
  let rate := u32 b 4
  checked s
    [badParam 0 (decide (2 < scope)), badParam 1 (decide (5 < action) || (decide (scope = 2) && decide (1 ≤ action ∧ action ≤ 3))),
      badParam 2 (decide (scopeSize scope ≤ unit)), badParam 4 (decide (action = 5) && (decide (rate = 0) || decide (1000000 < rate)))]
    (.ok (modUnit (scope * 256 + unit) (fun u => { u with
      inserts := if action = 0 then [] else tabInsert u.inserts action (if action = 5 then rate else 0) }) s))
def execFrmMaintInsert (p : Packet) (s : State) : Host.Outcome State Fault Refusal :=
  .next (runCommand { modCmd 0x0609 8 with maintenance := true } replyFrmMaintInsert p s)

end Sys2Proof.Machine
end

