-- ==== Sys2Proof/Machine/RegDev.lean ====
section
/-! DEFINITION. The register words of the DEV, HIF and TIM windows and of BAR2, by offset (R55, R63, R91, R112). -/

namespace Sys2Proof.Machine

/-! ### DEV (R55) -/

def bootStatus (d : Dev) : Nat :=
  pack [(0, 3, d.phase), (3, 1, b2n d.slotB), (4, 1, b2n d.waitHost), (5, 1, b2n d.loadErr)]
def causeWord (c : ResetCause) : Nat := packBits [c.cold, c.warm, c.app, c.wdog, c.emberRestart]

/-- The live word at an offset of the DEV window. -/
def devWord (off : Nat) (s : State) : Nat :=
  let d := s.dev
  if off = 0x0 then pack [(0, 3, d.mode.code), (3, 1, b2n d.changing.isSome)]
  else if off = 0x4 then
    packBits [s.thm.trip, s.thm.latched, d.variantN, d.opKeys.toList.any (fun k => k.isSome)]
  else if off = 0x8 then bootStatus d
  else if off = 0xC then causeWord d.cause
  else if off = 0x10 then b2n d.resume
  else if off = 0x14 then pack [(0, 16, d.dropHost), (16, 16, d.dropAc)]
  else if off = 0x18 then d.lockoutCause
  else if off = 0x20 then lowWord d.loadAddr.toNat
  else if off = 0x24 then highWord d.loadAddr.toNat
  else if off = 0x28 then d.loadLen.toNat
  else if off = 0x2C then b2n d.loadGo
  else if 0x40 ≤ off ∧ off < 0x70 then d.chain.toNat / 2 ^ (8 * (off - 0x40)) % 2 ^ 32
  else if off = 0x70 then pack [(0, 16, d.svnMinTc), (16, 16, d.svnMinAc)]
  else 0

/-- DEV_RESET_CAUSE is W1C. -/
def clearCause (v : Nat) (c : ResetCause) : ResetCause :=
  ⟨c.cold && !bit v 0, c.warm && !bit v 1, c.app && !bit v 2, c.wdog && !bit v 3, c.emberRestart && !bit v 4⟩
/-- Replace the low or the high word of a 64-bit value. -/
def putLow (x : Long) (v : Nat) : Long := BitVec.ofNat 64 (x.toNat / 2 ^ 32 * 2 ^ 32 + v % 2 ^ 32)
def putHigh (x : Long) (v : Nat) : Long := BitVec.ofNat 64 (v % 2 ^ 32 * 2 ^ 32 + x.toNat % 2 ^ 32)

/-- A write to the DEV window by any writer (R10, R38, R55). -/
def devWrite (off v : Nat) (s : State) : State :=
  if off = 0xC then modDev (fun d => { d with cause := clearCause v d.cause }) s
  else if off = 0x10 then modDev (fun d => { d with resume := bit v 0 }) s
  else if off = 0x20 then modDev (fun d => { d with loadAddr := putLow d.loadAddr v }) s
  else if off = 0x24 then modDev (fun d => { d with loadAddr := putHigh d.loadAddr v }) s
  else if off = 0x28 then modDev (fun d => { d with loadLen := BitVec.ofNat 32 v }) s
  else if off = 0x2C then (if bit v 0 then loadGo s else s)
  else s

/-! ### HIF (R91) -/

def linkWord (h : Hif) : Nat :=
  pack [(0, 3, h.linkGen), (4, 4, h.linkWidth), (8, 1, b2n (decide (h.linkGen ≠ 0) && (decide (h.linkGen < 5) || decide (h.linkWidth < 8))))]
def errWord (h : Hif) : Nat := pack [(0, 8, h.badAccess), (8, 8, h.badDb), (16, 8, h.badFetch), (24, 8, h.badCrc)]

/-- The live word at an offset of the HIF window. -/
def hifWord (off : Nat) (s : State) : Nat :=
  let h := s.hif
  if off = 0x0 then 0x48481F6C
  else if off = 0x4 then linkWord h
  else if off = 0x8 then packBits [h.q0En, h.eqEn]
  else if off = 0xC then
    packBits [(s.queue 0).enabled, h.events.enabled, h.cfgErrQ0, h.cfgErrEq, !s.activeLeases.isEmpty]
  else if off = 0x10 then lowWord h.q0SqBase.toNat
  else if off = 0x14 then highWord h.q0SqBase.toNat
  else if off = 0x18 then lowWord h.q0CqBase.toNat
  else if off = 0x1C then highWord h.q0CqBase.toNat
  else if off = 0x20 then pack [(0, 16, h.q0SqSize.toNat), (16, 16, h.q0CqSize.toNat)]
  else if off = 0x30 then lowWord h.eqBaseReg.toNat
  else if off = 0x34 then highWord h.eqBaseReg.toNat
  else if off = 0x38 then h.eqSizeReg.toNat
  else if off = 0x3C then h.events.lost
  else if off = 0x40 then h.evtMask.toNat
  else if off = 0x44 then errWord h
  else if off = 0x48 then packBits ((List.range 16).map (fun n => (s.queue n).enabled))
  else if off = 0x50 then lowWord s.arrival
  else if off = 0x54 then h.arrivalHi.toNat
  else if off = 0x60 then pack [(0, 7, 0x58 + s.pins.mgmtAddr.toNat), (8, 2, h.mgmt.state), (16, 6, h.mgmt.buffer.length)]
  else 0
/-- A read clears HIF_EQ_LOST and HIF_ERR_CNT. -/
def hifClear (off : Nat) (s : State) : State :=
  if off = 0x3C then { s with hif := { s.hif with events := { s.hif.events with lost := 0 } } }
  else if off = 0x44 then { s with hif := { s.hif with badAccess := 0, badDb := 0, badFetch := 0, badCrc := 0 } }
  else s
/-- A write to the HIF window but HIF_CTRL. Bits [5:0] of a base stand as written and are checked at the enable (R62). -/
def hifWrite (off v : Nat) (s : State) : State :=
  let h := s.hif
  let put := fun x : Hif => { s with hif := x }
  if off = 0x10 then put { h with q0SqBase := putLow h.q0SqBase v }
  else if off = 0x14 then put { h with q0SqBase := putHigh h.q0SqBase v }
  else if off = 0x18 then put { h with q0CqBase := putLow h.q0CqBase v }
  else if off = 0x1C then put { h with q0CqBase := putHigh h.q0CqBase v }
  else if off = 0x20 then put { h with q0SqSize := BitVec.ofNat 16 v, q0CqSize := BitVec.ofNat 16 (v / 2 ^ 16) }
  else if off = 0x30 then put { h with eqBaseReg := putLow h.eqBaseReg v }
  else if off = 0x34 then put { h with eqBaseReg := putHigh h.eqBaseReg v }
  else if off = 0x38 then put { h with eqSizeReg := BitVec.ofNat 16 v }
  else if off = 0x40 then put { h with evtMask := BitVec.ofNat 16 v }
  else s

/-! ### BAR2: the MSI-X table and pending bits (R61, R63) -/

def msixWord (off : Nat) (h : Hif) : Nat :=
  if 0x1000 ≤ off ∧ off < 0x1400 then
    let v := (off - 0x1000) / 16
    if off % 16 = 12 then b2n (h.msixMask.getLsbD v) else (vecGet 0 h.msixTable (3 * v + off % 16 / 4)).toNat
  else if off = 0x2000 then lowWord h.msixPending.toNat
  else if off = 0x2004 then highWord h.msixPending.toNat
  else 0
/-- A write to the table; a vector unmasked with its bit pending sends its message. -/
def msixWrite (off v : Nat) (s : State) : State :=
  let h := s.hif
  if 0x1000 ≤ off ∧ off < 0x1400 then
    let n := (off - 0x1000) / 16
    if off % 16 = 12 then
      let one := BitVec.ofNat 64 (2 ^ n)
      if bit v 0 then { s with hif := { h with msixMask := h.msixMask ||| one } }
      else
        let s1 := { s with hif := { h with msixMask := h.msixMask &&& ~~~one, msixPending := h.msixPending &&& ~~~one } }
        if h.msixPending.getLsbD n then signalVector n s1 else s1
    else { s with hif := { h with msixTable := vecMod h.msixTable (3 * n + off % 16 / 4) (fun _ => BitVec.ofNat 32 v) } }
  else s

/-! ### TIM (R112) -/

def Servo.code : Servo → Nat
  | .freerun => 0 | .acquiring => 1 | .locked => 2 | .holdover => 3
def TimeSource.code : TimeSource → Nat
  | .host => 0 | .pps => 1 | .ptp => 2
def timStatus (t : Tim) : Nat :=
  pack [(0, 2, t.servo.code), (2, 1, b2n t.valid), (3, 2, t.source.code), (5, 1, b2n (decide (t.slew ≠ 0))),
    (6, 1, b2n (decide (1000 ≤ t.learned.length)))]
def refStatus (t : Tim) : Nat := packBits [t.line0, t.line1, t.client, t.pcie, t.fecOnLine1, t.clientFallback]
def synceWord (x : SyncE) : Nat := pack [(0, 5, x.lane), (5, 1, b2n x.en), (6, 2, x.freq), (8, 1, b2n x.squelched)]

/-- The live word at an offset of the TIM window. -/
def timWord (off : Nat) (s : State) : Nat :=
  let t := s.tim
  if off = 0x0 then lowWord t.seconds
  else if off = 0x4 then t.latchedHi
  else if off = 0x8 then t.latchedNs
  else if off = 0xC then t.latchedFrac
  else if off = 0x10 then timStatus t
  else if off = 0x14 then unsignedOf 32 t.freqAdj
  else if off = 0x18 then refStatus t
  else if off = 0x1C then unsignedOf 32 t.ppsOffset
  else if off = 0x20 then t.ppsWidth
  else if off = 0x24 then unsignedOf 32 t.ppsDelay
  else if off = 0x28 then synceWord (vecGet ⟨0, false, 0, false⟩ t.synce 0)
  else if off = 0x2C then synceWord (vecGet ⟨0, false, 0, false⟩ t.synce 1)
  else if off = 0x30 then b2n t.irreg
  else if off = 0x34 then t.latchLen
  else if off = 0x38 then t.ptpLost
  else if off = 0x3C then t.ring.tail
  else if off = 0x40 then t.ring.head
  else 0
/-- TIM_PPS_OFFSET is copied at the boundary; TIM_LATCH_INFO and TIM_LATCH_LEN change there alone. -/
def timSecondOffsets : List Nat := [0x1C]
def timSecondMask (off : Nat) : Nat := if off = 0x1C then allBits else 0
/-- A read clears TIM_PTP_LOST. -/
def timClear (off : Nat) (s : State) : State :=
  if off = 0x38 then { s with tim := { s.tim with ptpLost := 0 } } else s
/-- A write to a SyncE output: a reserved FREQ keeps the previous one (R8). DESIGN CHOICE: an output switched to a lane without
clock is squelched at once, and one switched to a lane with clock, or disabled, is driven again at once and reports nothing (R104,
log 42). -/
def synceWrite (n v : Nat) (s : State) : State :=
  let x := vecGet ⟨0, false, 0, false⟩ s.tim.synce n
  let lane := bits v 4 0
  let y : SyncE := { lane, en := bit v 5, freq := if bits v 7 6 ≤ 1 then bits v 7 6 else x.freq
                     squelched := if bit v 5 then (if x.en ∧ x.lane = lane then x.squelched else !(s.lane lane).cdr) else false }
  let s1 := { s with tim := { s.tim with synce := vecMod s.tim.synce n (fun _ => y) } }
  if y.squelched && !(x.en && x.squelched && decide (x.lane = lane)) then synceEvent n y s1 else s1
/-- A write to the TIM window (R8, R97, R106, R112). -/
def timWrite (off v : Nat) (s : State) : State :=
  let t := s.tim
  if off = 0x20 then 
    (if bits v 8 0 ≤ 500 then { s with tim := { t with ppsWidth := bits v 8 0, ppsOut := t.ppsOut && decide (bits v 8 0 ≠ 0) } } else s)
  else if off = 0x24 then
    let d := signed 32 v
    if -1000000 ≤ d ∧ d ≤ 1000000 then { s with tim := { t with ppsDelay := d } } else s
  else if off = 0x28 then synceWrite 0 v s
  else if off = 0x2C then synceWrite 1 v s
  else if off = 0x40 then (if v < t.ring.size then { s with tim := { t with ring := { t.ring with head := v } } } else s)
  else s

end Sys2Proof.Machine
end

