-- ==== Sys2Proof/Machine/SoftFec.lean ====
section
/-! DEFINITION. The meanings of group 0x05: soft-decision FEC and the decoder pool (chapter 07). -/

namespace Sys2Proof.Machine

/-- FEC_BLOCK_ARRIVAL: a block enters the pool with its deadline; Next block writes take effect (R191, R194, R196). -/
def execFecBlockArrival (engine : Fin 2) (bits : Nat) (zeroAt : Option Nat) (s : State) : Host.Outcome State Fault Refusal :=
  if !s.fec.powered || decide ((s.engine engine.val).state ≠ .locked) then .next s
  else
    let s1 := fecRecompute { s with fec := { s.fec with ceilUse := s.fec.ceilCfg, reserveUse := s.fec.reserve } }
    let c := ceilingForce s1
    let ofec := engineOfec engine.val s1
    let b : CodeBlock := ⟨s1.fec.nextBlock, engine.val, if ofec then bits else 245760, c,
      s1.tim.now + 1000 * decoderLatency ofec c, zeroAt, 0, .waiting, false⟩
    .next { s1 with fec := { s1.fec with blocks := s1.fec.blocks ++ [b], nextBlock := s1.fec.nextBlock + 1 } }

/-- FEC_ITERATION_BOUNDARY: cores end an iteration, take waiting blocks, and yield to the first kind (R190, R197). -/
def execFecIterationBoundary (s : State) : Host.Outcome State Fault Refusal :=
  let s1 := (List.range 48).foldl (fun u k => endIteration k u) s
  let s2 := (List.range 48).foldl (fun u k => assignCore k u) s1
  .next ((List.range 48).foldl (fun u k => yieldCore k u) s2)

/-- The counts of one delivered block (R192, R203, R209). -/
def countBlock (b : CodeBlock) (poison uncorr : Bool) (r : DecodeResult) (x : FecEngine) : FecEngine :=
  let v := x.live
  let limited := decide (b.stage ≠ .converged)
  { x with
    winBlocks := x.winBlocks + 1
    winBits := x.winBits + b.bits
    winCorrected := x.winCorrected + (if poison then 0 else r.corrected)
    winUncorr := x.winUncorr + b2n uncorr
    live := { v with
      blocks := v.blocks + 1
      conv := if !poison && !limited then v.conv.modify b.iters (· + 1) else v.conv
      ceil := v.ceil + b2n (!poison && decide (b.stage = .atCeiling))
      deadline := v.deadline + b2n (!poison && limited && decide (b.stage ≠ .atCeiling))
      uncorr := satAdd 0xFFFFFFFF v.uncorr (b2n uncorr)
      outerWords := v.outerWords + (if poison then 0 else r.outerWords)
      outerBits := v.outerBits + (if poison then 0 else r.outerBits)
      poison := v.poison + b2n poison
      corrected := v.corrected + (if poison then 0 else r.corrected)
      iterations := v.iterations + b.iters } }

/-- The first iteration of a block has started: it is in a core, or has stopped there after one (R198). -/
def startedFirst (b : CodeBlock) : Bool := decide (0 < b.iters) || decide (b.stage = .running) || decide (b.stage = .converged)
/-- FEC_BLOCK_DELIVERY: the block is delivered with its flags and counted; in overload one whose first iteration could not start is
poisoned (R192, R198, R203, R209). -/
def execFecBlockDelivery (block : Nat) (result : DecodeResult) (s : State) : Host.Outcome State Fault Refusal :=
  match s.block block with
  | none => .next s
  | some b =>
    let starved := s.fec.overload && !startedFirst b && !b.poison
    let poison := b.poison || starved
    let uncorr := poison || result.uncorrected
    let s1 := modFecEngine b.engine (countBlock b poison uncorr result)
      (lifeBlock (if poison then 0 else result.corrected) (discardBlocks (fun x => x.id ≠ block) s))
    .next (countFill b.engine result.fillErr (countUncorr b.engine uncorr
      { s1 with fec := { s1.fec with overloadPoison := s1.fec.overloadPoison + b2n starved } }))

/-- FEC_KAT_DUE: an active core is sent its known-answer block (R199). -/
def execFecKatDue (core : Fin 48) (s : State) : Host.Outcome State Fault Refusal :=
  let c := s.core core.val
  .next (if s.fec.powered && !c.retired && !c.retest then modCore core.val (fun x => { x with kat := true }) s else s)

/-- FEC_KAT_COMPLETE: a pass is counted; a failure retires the core (R199 to R201). -/
def execFecKatComplete (core : Fin 48) (passed : Bool) (s : State) : Host.Outcome State Fault Refusal :=
  let c := s.core core.val
  if !c.kat then .next s
  else if passed then
    .next (modCore core.val (fun x => { x with kat := false, katAfterError := false, katPass := satAdd 0xFFFF x.katPass 1 }) s)
  else .next (retireCore core.val c.katAfterError s)

/-- FEC_WINDOW_END: the estimate is formed and the SD and SF bits pass to the framer (R203 to R205). -/
def execFecWindowEnd (engine : Fin 2) (s : State) : Host.Outcome State Fault Refusal :=
  let e := engine.val
  let x := s.fecEngine e
  let t := thresholds e s
  if !s.fec.powered then .next s
  else if x.winBlocks = 0 then
    .next (modFecEngine e (fun y => { y with noBlocks := true, skeon := y.skeonNext, ofec := y.ofecNext }) s)
  else
    let sat := decide (x.winBlocks < 100 * x.winUncorr)
    let ber := if sat then 1000000000 else x.winCorrected * 1000000000 / x.winBits
    .next (frmWindow e (decide (t.sd ≤ ber)) (decide (t.sf ≤ ber)) (modFecEngine e (fun y => { y with
      noBlocks := false, sat := sat, ber := ber, sd := decide (t.sd ≤ ber), sf := decide (t.sf ≤ ber)
      winBlocks := 0, winBits := 0, winCorrected := 0, winUncorr := 0
      skeon := y.skeonNext, ofec := y.ofecNext
      live := { y.live with
        sdWindows := y.live.sdWindows + b2n (decide (t.sd ≤ ber))
        sfWindows := y.live.sfWindows + b2n (decide (t.sf ≤ ber)) } }) s))

/-- FEC_CEILING_PACING_END: report if the ceiling differs from the last value reported (R211). -/
def execFecCeilingPacingEnd (s : State) : Host.Outcome State Fault Refusal :=
  .next (ceilingCheck { s with fec := { s.fec with pacing := false } })

/-- CORE_RETEST_COMPLETE: 1,000 passes return the core to the pool (R202). -/
def execCoreRetestComplete (core : Fin 48) (passed : Nat) (s : State) : Host.Outcome State Fault Refusal :=
  if !(s.core core.val).retest then .next s
  else
    let ok := decide (1000 ≤ passed)
    let s1 := modCore core.val (fun c => { c with retest := false, retired := !ok, katPass := satAdd 0xFFFF c.katPass passed }) s
    let s2 := if ok then fecRecompute (logCores s1) else s1
    let st : Status := if ok then .ok else .integrity
    .next (completeOr 0x0505 core.val st 5 4 (leBytes 1 core.val ++ leBytes 1 st.code ++ leBytes 2 0 ++ leBytes 4 passed) s2)

/-- POOL_SELFCHECK_COMPLETE: failing cores are retired and the pool accepts blocks (R206, R211). -/
def execPoolSelfcheckComplete (failed : BitVec 48) (s : State) : Host.Outcome State Fault Refusal :=
  if !modePowered s.dev.mode || s.fec.powered then .next s
  else
    let s1 := (List.range 48).foldl (fun u k =>
      if (u.core k).retired then u
      else if failed.getLsbD k then retireCore k false u
      else modCore k (fun c => { c with katPass := satAdd 0xFFFF c.katPass 1 }) u) s
    let s2 := { s1 with fec := { s1.fec with powered := true, ceilUse := s1.fec.ceilCfg, reserveUse := s1.fec.reserve, pacing := false } }
    .next (overloadCheck { s2 with fec := { s2.fec with reported := ceilingForce s2 } })

/-- FEC_CFG_SET (R194, R204, R208). -/
def replyFecCfgSet (p : Packet) (s : State) : Reply :=
  let c := u8 p.params 0
  let w := u8 p.params 1
  checked s [badParam 0 (c < 2 ∨ 24 < c), badParam 1 (3 < w), reservedBytes p.params 2 2]
    (.ok { s with fec := { s.fec with ceilCfg := c, windowCfg := w } })
def execFecCfgSet (p : Packet) (s : State) : Host.Outcome State Fault Refusal :=
  .next (runCommand (modCmd 0x0501 4) replyFecCfgSet p s)

/-- FEC_THR_SET: effective at the next window (R205, R208). -/
def replyFecThrSet (p : Packet) (s : State) : Reply :=
  let e := u8 p.params 0
  let t : FecThr := ⟨u32 p.params 4, u32 p.params 8⟩
  checked s [badParam 0 (1 < e), badParam 1 (1 < u8 p.params 1), reservedBytes p.params 2 2,
      badParam 4 (t.sd = 0 ∨ 1000000000 < t.sd), badParam 8 (t.sf < t.sd ∨ 1000000000 < t.sf)]
    (.ok (modFecEngine e (fun x => if u8 p.params 1 = 0 then { x with skeonNext := t } else { x with ofecNext := t }) s))
def execFecThrSet (p : Packet) (s : State) : Host.Outcome State Fault Refusal :=
  .next (runCommand (modCmd 0x0502 12) replyFecThrSet p s)

/-- The 140-byte statistics of the last completed second (R209). -/
def statsRecord (e : Nat) (s : State) : List Byte :=
  let v := (s.fecEngine e).last
  leBytes 6 s.fec.lastSecond ++ leBytes 2 0 ++ leBytes 4 v.blocks ++ leBytes 4 (v.conv.getD 0 0)
    ++ (List.range 25).flatMap (fun n => leBytes 4 (v.conv.getD n 0)) ++ leBytes 4 v.ceil ++ leBytes 4 v.deadline
    ++ leBytes 4 v.uncorr ++ leBytes 4 v.outerWords ++ leBytes 4 v.outerBits ++ leBytes 4 v.poison

/-- FEC_STATS_GET (R208, R209). -/
def replyFecStatsGet (p : Packet) (s : State) : Reply :=
  let e := u8 p.params 0
  checked s [badParam 0 (1 < e), reservedBytes p.params 1 3]
    (.answer (statsRecord e s) s)
def execFecStatsGet (p : Packet) (s : State) : Host.Outcome State Fault Refusal :=
  .next (runCommand (readCmd 0x0503 4) replyFecStatsGet p s)

/-- The bitmap of active cores (R210, R212). -/
def activeMap (s : State) : Nat := packBits (s.fec.cores.toList.map (fun c => s.fec.powered && !c.retired && !c.retest))

/-- Active cores of the powered pool (R210, R212). -/
def activeNow (s : State) : Nat := if s.fec.powered then activeCores s else 0
/-- The 32-byte pool state (R210). -/
def poolRecord (s : State) : List Byte :=
  let c := ceilingForce s
  leBytes 6 (activeMap s) ++ leBytes 1 (activeNow s) ++ leBytes 1 s.fec.reserve ++ leBytes 1 s.fec.ceilCfg ++ leBytes 1 c
    ++ leBytes 1 s.fec.thmLimit ++ leBytes 1 (fitLimit s) ++ leBytes 1 (marginLimit s) ++ leBytes 1 (b2n s.fec.overload)
    ++ leBytes 2 0 ++ leBytes 4 (activeNow s * 1024) ++ leBytes 4 (demand 0 s) ++ leBytes 4 (demand 1 s)
    ++ leBytes 2 (decoderLatency (engineOfec 0 s) c) ++ leBytes 2 (decoderLatency (engineOfec 1 s) c)

/-- FEC_POOL_GET (R208, R210). -/
def replyFecPoolGet (_p : Packet) (s : State) : Reply := .answer (poolRecord s) s
def execFecPoolGet (p : Packet) (s : State) : Host.Outcome State Fault Refusal :=
  .next (runCommand (readCmd 0x0504 0) replyFecPoolGet p s)

/-- FEC_CORE_RETEST (R202, R208). -/
def replyFecCoreRetest (p : Packet) (s : State) : Reply :=
  let k := u8 p.params 0
  checked s [badParam 0 (47 < k), reservedBytes p.params 1 3,
      failIf .badState (!(s.core k).retired), failIf .busy (s.fec.cores.toList.any (fun c => c.retest))]
    (.later k 5 4 (leBytes 1 k ++ leBytes 1 13 ++ leBytes 6 0) (modCore k (fun c => { c with retest := true })))
def execFecCoreRetest (p : Packet) (s : State) : Host.Outcome State Fault Refusal :=
  .next (runCommand (modCmd 0x0505 4) replyFecCoreRetest p s)

/-- FEC_ERR_INJECT (R31, R208). -/
def replyFecErrInject (p : Packet) (s : State) : Reply :=
  let e := u8 p.params 0
  checked s [badParam 0 (1 < e), reservedBytes p.params 1 3, badParam 4 (100000000 < u32 p.params 4),
      failIf .badState ((s.engine e).state = .off)]
    (.ok (modFecEngine e (fun x => { x with inject := u32 p.params 4 }) s))
def execFecErrInject (p : Packet) (s : State) : Host.Outcome State Fault Refusal :=
  .next (runCommand { modCmd 0x0506 8 with maintenance := true } replyFecErrInject p s)

end Sys2Proof.Machine
end

