-- ==== Sys2Proof/Machine/RegFec.lean ====
section
/-! DEFINITION. The register words of the FEC and FRM windows, by offset (R212, R244). -/

namespace Sys2Proof.Machine

/-! ### FEC (R212) -/

/-- A bit per active core of the powered pool, from core `lo`. -/
def coreActiveWord (lo : Nat) (s : State) : Nat :=
  packBits ((List.range 32).map (fun i => s.fec.powered && decide (lo + i < 48) && !(s.core (lo + i)).retired && !(s.core (lo + i)).retest))

/-- A limit equals the ceiling in force and lies below the configured ceiling. -/
def limitBinds (limit : Nat) (s : State) : Bool :=
  s.fec.powered && decide (limit = ceilingForce s) && decide (limit < s.fec.ceilCfg)

def fecLimitsWord (s : State) : Nat :=
  pack [(0, 5, s.fec.thmLimit), (8, 5, fitLimit s), (16, 5, marginLimit s), (24, 1, b2n (limitBinds s.fec.thmLimit s)),
    (25, 1, b2n (limitBinds (fitLimit s) s)), (26, 1, b2n (limitBinds (marginLimit s) s))]

def coreStatWord (c : Core) : Nat :=
  pack [(0, 2, if c.retest then 2 else if c.retired then 1 else 0), (2, 1, b2n c.cause), (16, 16, c.katPass)]

/-- The per-engine words; `x.live` is the running second. -/
def fecEngineWord (e o : Nat) (s : State) : Nat :=
  let x := s.fecEngine e
  let v := x.live
  if o = 0x0 then pack [(0, 1, b2n (engineOfec e s)), (1, 1, b2n x.sd), (2, 1, b2n x.sf), (3, 1, b2n x.sat), (4, 1, b2n x.noBlocks)]
  else if o = 0x4 then (thresholds e s).sd
  else if o = 0x8 then (thresholds e s).sf
  else if o = 0xC then x.ber
  else if o = 0x10 then lowWord v.corrected
  else if o = 0x14 then highWord v.corrected
  else if o = 0x18 then min allBits v.blocks
  else if o = 0x1C then v.uncorr
  else if o = 0x20 then min allBits (v.ceil + v.deadline)
  else if o = 0x24 then (if v.blocks = 0 then 0 else min 0xFFFF (v.iterations * 256 / v.blocks))
  else if o = 0x28 then pack [(0, 16, min 0xFFFF (v.borrowed / 1000000000)), (16, 16, min 0xFFFF (v.lent / 1000000000))]
  else if o = 0x2C then x.inject
  else if o = 0x30 then pack [(0, 16, min 0xFFFF v.sdWindows), (16, 16, min 0xFFFF v.sfWindows)]
  else 0

/-- The live word at an offset of the FEC window. -/
def fecWord (off : Nat) (s : State) : Nat :=
  if off = 0x0 then
    pack [(0, 6, activeNow s), (8, 5, if s.fec.powered then ceilingForce s else 0), (16, 1, b2n s.fec.powered), (17, 1, b2n s.fec.overload)]
  else if off = 0x4 then pack [(0, 5, s.fec.ceilCfg), (8, 2, s.fec.windowCfg)]
  else if off = 0xC then s.fec.reserve
  else if off = 0x10 then coreActiveWord 0 s
  else if off = 0x14 then coreActiveWord 32 s
  else if off = 0x18 then 1024 * activeNow s
  else if off = 0x1C then fecLimitsWord s
  else if off = 0x20 then demand 0 s
  else if off = 0x24 then demand 1 s
  else if 0x40 ≤ off ∧ off < 0xC0 then fecEngineWord ((off - 0x40) / 0x40) ((off - 0x40) % 0x40) s
  else if 0x100 ≤ off ∧ off < 0x1C0 then coreStatWord (s.core ((off - 0x100) / 4))
  else 0

def fecSnapOffsets : List Nat := [0x10, 0x14]
def fecSnapMask (off : Nat) : Nat := if off = 0x10 ∨ off = 0x14 then allBits else 0
def fecSecondAt : List Nat := [0x10, 0x14, 0x18, 0x1C, 0x20, 0x24, 0x28, 0x30]
def fecSecondOffsets : List Nat := (List.range 2).flatMap (fun e => fecSecondAt.map (fun o => 0x40 + 0x40 * e + o))
def fecSecondMask (off : Nat) : Nat :=
  if 0x40 ≤ off ∧ off < 0xC0 ∧ fecSecondAt.contains ((off - 0x40) % 0x40) then allBits else 0

/-- The second boundary in the pool: the completed second becomes what FEC_STATS_GET reports (R209), and a change of the window
length takes effect (R204). -/
def fecSecond (began : Nat) (s : State) : State :=
  { s with fec := { s.fec with
    lastSecond := began
    windowUse := s.fec.windowCfg
    engines := vecMap (fun _ x => { x with last := x.live, live := FecStats.zero }) s.fec.engines } }

/-! ### FRM (R244) -/

def Align.code : Align → Nat
  | .hunt => 0 | .confirm => 1 | .sync => 2 | .off => 3

/-- A bit per unit with any declared defect. -/
def anyWord (key : Nat → Nat) (lo : Nat) (s : State) : Nat :=
  packBits ((List.range 32).map (fun i => decide ((s.unit (key (lo + i))).declared ≠ 0)))

/-- HIST_VALID and CUR_SUSPECT, from the bins of engine 0's SM layer, which is always monitored (log 13). -/
def frmStatusWord (s : State) : Nat :=
  let u := s.pmUnit 0
  pack [(0, 1, b2n (decide ((s.unit (engineKey 0)).align.state ≠ .off))), (1, 1, b2n (decide ((s.unit (engineKey 1)).align.state ≠ .off))),
    (8, 5, (u.prev15.filter (fun b => b.valid)).length), (16, 1, b2n u.cur15.suspect)]

def frmEngineWord (e o : Nat) (s : State) : Nat :=
  let u := s.unit (engineKey e)
  let on := decide (u.align.state ≠ .off)
  let v := u.live
  if o = 0x0 then
    pack [(0, 2, u.alignState.code), (2, 1, b2n u.inIm), (3, 1, b2n (on && profileOfec (s.engine e).txSel.profile)),
      (8, 5, if on then profileCn (s.engine e).txSel.profile else 0)]
  else if o = 0x4 then u.declared.toNat
  else if o = 0x8 then (engineRaw e s).toNat
  else if o = 0xC then u.defSec.toNat
  else if o = 0x10 then v.fasErr
  else if o = 0x14 then v.falseCand
  else if o = 0x18 then v.oof
  else if o = 0x1C then v.smBip
  else if o = 0x20 then v.smBei
  else if o = 0x24 then v.pmBip
  else if o = 0x28 then v.pmBei
  else if o = 0x2C then v.uncorr
  else if o = 0x30 then v.fillErr
  else if o = 0x34 then u.cfg.ca
  else 0

def frmCifWord (c o : Nat) (s : State) : Nat :=
  let u := s.unit (cifKey c)
  if o = 0x0 then pack [(0, 2, u.alignState.code), (2, 1, b2n u.inIm), (4, 2, u.otn)]
  else if o = 0x4 then u.declared.toNat
  else if o = 0x8 then u.defSec.toNat
  else if o = 0xC then u.live.smBip
  else if o = 0x10 then u.live.smBei
  else if o = 0x14 then u.live.rsCorr
  else if o = 0x18 then u.live.rsUncorr
  else 0

def frmTribWord (t : Nat) (s : State) : Nat :=
  (s.unit (tribKey t)).declared.toNat + 2 ^ 24 * b2n (tribSsf t s) + 2 ^ 25 * b2n (tribSsd t s)

/-- A native count as its register shows it: 32 bits, saturating (R230). -/
def count32 (v : Nat) : Nat := min allBits v

/-- The live word at an offset of the FRM window. -/
def frmWord (off : Nat) (s : State) : Nat :=
  if off = 0x0 then frmStatusWord s
  else if off = 0x4 then s.frm.sesThr
  else if off = 0xC then s.frm.dayOffset
  else if off = 0x10 then lowWord (s.frm.start15.getD 0)
  else if off = 0x14 then highWord (s.frm.start15.getD 0)
  else if off = 0x18 then s.frm.sel.toNat
  else if 0x20 ≤ off ∧ off < 0x58 then u32 s.frm.selData (off - 0x20)
  else if 0x80 ≤ off ∧ off < 0xA0 then anyWord tribKey (8 * (off - 0x80)) s
  else if off = 0xA0 then anyWord cifKey 0 s
  else if 0x100 ≤ off ∧ off < 0x300 then count32 (frmEngineWord ((off - 0x100) / 0x100) ((off - 0x100) % 0x100) s)
  else if 0x800 ≤ off ∧ off < 0xC00 then count32 (frmCifWord ((off - 0x800) / 0x20) ((off - 0x800) % 0x20) s)
  else if 0x1000 ≤ off ∧ off < 0x1400 then frmTribWord ((off - 0x1000) / 4) s
  else if 0x1400 ≤ off ∧ off < 0x1C00 then
    let u := s.unit (tribKey ((off - 0x1400) / 8))
    count32 (if (off - 0x1400) % 8 = 0 then u.live.pmBip else u.live.pmBei)
  else if 0x1C00 ≤ off ∧ off < 0x2000 then (s.unit (tribKey ((off - 0x1C00) / 4))).defSec.toNat
  else 0

def frmSnapOffsets : List Nat := [0x108, 0x208]
def frmSnapMask (off : Nat) : Nat := if off = 0x108 ∨ off = 0x208 then allBits else 0
def frmSecondOffsets : List Nat :=
  (List.range 2).flatMap (fun e => (List.range 10).map (fun i => 0x10C + 0x100 * e + 4 * i))
    ++ (List.range 32).flatMap (fun c => (List.range 5).map (fun i => 0x808 + 0x20 * c + 4 * i))
    ++ (List.range 512).map (fun i => 0x1400 + 4 * i) ++ (List.range 256).map (fun t => 0x1C00 + 4 * t)
def frmSecondMask (off : Nat) : Nat :=
  if (0x100 ≤ off ∧ off < 0x300 ∧ 0xC ≤ off % 0x100 ∧ off % 0x100 < 0x34) ∨ (0x800 ≤ off ∧ off < 0xC00 ∧ 8 ≤ off % 0x20 ∧ off % 0x20 < 0x1C)
      ∨ (0x1400 ≤ off ∧ off < 0x2000) then allBits else 0

end Sys2Proof.Machine
end

