-- ==== Sys2Proof/Machine/RegLine.lean ====
section
/-! DEFINITION. The register words of the CNV and DSP windows, by offset (R146, R181). -/

namespace Sys2Proof.Machine

/-! ### CNV (R146) -/

/-- CNV_INTERP: the sets and the weight in force for DAC XI (R132). -/
def interpWord (x : Group) : Nat :=
  match x.interpUse with
  | none => 0
  | some i => pack [(0, 3, i.lower), (4, 3, i.upper), (8, 16, i.weight), (24, 1, b2n i.single)]

/-- One bit per set that has a block with a property. -/
def setBits (x : Group) (f : TempBlock → Bool) : Nat :=
  packBits ((List.range 8).map (fun i => (List.range 8).any (fun c => f (x.block i c))))

def adcStatusWord (a : Adc) : Nat :=
  pack [(0, 7, if a.stepPos.isSome then a.stepPos.getD 0 else 0x7F), (8, 7, a.replaced.getD 0x7F), (15, 1, b2n a.degraded),
    (16, 1, b2n a.spareRetired), (17, 3, match a.phase with
      | .idle => 0 | .align => 1 | .matching => 2 | .trim => 3 | .verify => 4),
    (20, 4, min 15 a.failedCnt), (24, 2, min 2 a.spareFails), (26, 1, b2n a.noSignal)]

/-- CNV_STATUS.STATE (R146). -/
def GroupState.code : GroupState → Nat
  | .off => 0 | .seeding => 1 | .running => 2 | .refresh => 3 | .foreground => 4 | .suspended => 5

def dacCfgWord (c : DacCfg) : Nat := pack [(0, 8, c.swing), (8, 1, b2n c.en)]

/-- A coefficient word of the ADC (R146). -/
def adcCoefWord (x : Group) (off : Nat) : Nat :=
  let c := (off - 0x1000) / 0x200
  let n := (off - 0x1000) % 0x200 / 4
  if n ≤ 64 then
    let z := (x.adc c).slice n
    coefWord z.coef + 2 ^ 31 * b2n z.failed
  else 0
def dacCoefWord (x : Group) (off : Nat) : Nat :=
  let d := (off - 0x2000) / 0x200
  let n := (off - 0x2000) % 0x200 / 4
  if n ≤ 63 then coefWord ((vecGet Dac.reset x.dacs d).trims.getD n Coef.zero) else 0

/-- The live word at an offset of a CNV window. -/
def cnvWord (g off : Nat) (s : State) : Nat :=
  let x := s.group g
  let i := off % 16 / 4
  if off = 0x0 then pack [(0, 3, x.state.code), (3, 1, b2n x.loop)]
  else if off = 0x4 then
    pack [(0, 4, x.cfg.deltaT), (4, 1, b2n x.cfg.bgEn), (5, 1, b2n x.cfg.refreshEn), (8, 8, x.cfg.period), (16, 4, x.cfg.maxInterval)]
  else if off = 0xC then
    pack [(0, 16, unsignedOf 16 x.info.temp), (16, 3, x.info.set), (20, 2, x.info.trigger), (22, 1, b2n x.info.part)]
  else if off = 0x10 then (match x.info.atPs with
    | some t => min 0xFFFF ((s.tim.now - t) / 1000000000000)
    | none => 0)
  else if off = 0x14 then
    pack [(0, 8, setBits x (fun b => b.valid)), (8, 8, setBits x (fun b => b.valid && decide (b.origin = .factory))),
      (16, 8, setBits x (fun b => b.valid && decide (b.origin = .foreground)))]
  else if off = 0x18 then interpWord x
  else if 0x20 ≤ off ∧ off < 0x30 then adcStatusWord (x.adc i)
  else if 0x30 ≤ off ∧ off < 0x40 then (x.adc i).overRange
  else if 0x40 ≤ off ∧ off < 0x50 then (x.adc i).plausFail
  else if 0x50 ≤ off ∧ off < 0x60 then dacCfgWord (vecGet Dac.reset x.dacs i).written
  else if 0x60 ≤ off ∧ off < 0x70 then pack [(0, 16, (x.adc i).discardNoSig), (16, 16, (x.adc i).discardOvr)]
  else if 0x1000 ≤ off ∧ off < 0x1800 then adcCoefWord x off
  else if 0x2000 ≤ off ∧ off < 0x2800 then dacCoefWord x off
  else 0

/-- Snapshot and Second latch offsets of a CNV window. -/
def cnvSnapOffsets : List Nat :=
  (List.range 4).map (fun c => 0x20 + 4 * c)
    ++ (List.range 4).flatMap (fun c => (List.range 65).map (fun n => 0x1000 + 0x200 * c + 4 * n))
    ++ (List.range 4).flatMap (fun d => (List.range 64).map (fun n => 0x2000 + 0x200 * d + 4 * n))
def cnvSnapMask (off : Nat) : Nat :=
  if (0x20 ≤ off ∧ off < 0x30) ∨ (0x1000 ≤ off ∧ off < 0x1800) ∨ (0x2000 ≤ off ∧ off < 0x2800) then allBits else 0
def cnvSecondOffsets : List Nat := (List.range 4).map (fun c => 0x30 + 4 * c)
def cnvSecondMask (off : Nat) : Nat := if 0x30 ≤ off ∧ off < 0x40 then allBits else 0
/-- What a Snapshot field reads before the first snapshot (R26). -/
def cnvSnapReset (off : Nat) : Nat := if 0x20 ≤ off ∧ off < 0x30 then 0x7F7F else 0

/-- A read clears CNV_PLAUS_FAIL and CNV_DISCARD_CNT (R146). -/
def cnvClear (g off : Nat) (s : State) : State :=
  let i := off % 16 / 4
  if 0x40 ≤ off ∧ off < 0x50 then modAdc g i (fun a => { a with plausFail := 0 }) s
  else if 0x60 ≤ off ∧ off < 0x70 then modAdc g i (fun a => { a with discardNoSig := 0, discardOvr := 0 }) s
  else s

/-- A write to CNV_DAC_CFG: a reserved SWING keeps the previous one (R8, R140). -/
def cnvWrite (g off v : Nat) (s : State) : State :=
  if 0x50 ≤ off ∧ off < 0x60 then
    modGroup g (fun x => { x with dacs := vecMod x.dacs (off % 16 / 4) (fun d =>
      { d with written := ⟨if bits v 7 0 ≤ 150 then bits v 7 0 else d.written.swing, bit v 8⟩ }) }) s
  else s

/-! ### DSP (R181) -/

/-- The host's skew as last written, and the total of the filter in force (R27, R169). -/
def txSkewWord (e l : Nat) (s : State) : Nat :=
  let x := s.engine e
  pack [(0, 16, unsignedOf 16 (x.tx.skew.getD l 0)), (16, 16, unsignedOf 16 (totalSkew e l x.txForce))]
/-- The pending or running profile change, or the profile stored in STANDBY (R176). -/
def pendingProfile (x : Engine) : Option Nat :=
  match x.change with
  | some c => some c.sel.profile
  | none => none

def dspStateWord (x : Engine) : Nat :=
  pack [(0, 3, x.state.code), (4, 1, b2n x.dlos), (5, 1, b2n x.dlol), (6, 1, b2n x.cdFound), (8, 8, x.acqRetry)]
def dspProfileWord (x : Engine) : Nat :=
  pack [(0, 3, x.sel.profile), (4, 2, x.sel.pilot), (8, 5, x.sel.rolloff), (16, 3, (pendingProfile x).getD 0),
    (19, 1, b2n (pendingProfile x).isSome)]
/-- DSP_TX_CFG: the filter in force (R170, R181). -/
def dspTxWord (e : Nat) (x : Engine) : Nat :=
  let f := x.txForce
  pack [(0, 1, b2n f.cfg.pdEn), (1, 1, b2n f.respHost), (8, 4, f.cfg.maxBoost), (16, 7, f.cfg.drive), (24, 4, boostMask e f),
    (28, 1, b2n x.recomputing)]
/-- The switch instant of a change that has not started. -/
def switchInstant (x : Engine) : Nat × Nat :=
  match x.change with
  | some c => (c.seconds, c.nanoseconds)
  | none => (0, 0)
/-- HOLD_LEFT in ms, rounded up (R159). -/
def holdLeft (x : Engine) (s : State) : Nat :=
  match x.fast with
  | some f => min 1000 ((f.holdEnd - s.tim.now + 999999999) / 1000000000)
  | none => 0

/-- The live word at an offset of a DSP window. -/
def dspWord (e off : Nat) (s : State) : Nat :=
  let x := s.engine e
  if off = 0x0 then dspStateWord x
  else if off = 0x4 then dspProfileWord x
  else if off = 0xC then pack [(0, 10, x.rx.losSet), (16, 10, x.rx.losClear)]
  else if off = 0x10 then unsignedOf 32 x.cd.value
  else if off = 0x14 then pack [(0, 31, x.cd.halfWidth), (31, 1, b2n x.cd.search)]
  else if off = 0x18 then lowWord x.cd.carrier
  else if off = 0x1C then unsignedOf 32 x.cdEst
  else if off = 0x20 then pack [(0, 6, x.eq.taps), (8, 2, x.eq.rate), (12, 1, b2n x.eq.fsopEn), (16, 10, x.eq.hold)]
  else if off = 0x24 then
    pack [(0, 6, x.eqForce.taps), (8, 2, rateForce x), (12, 1, b2n x.fast.isSome),
      (13, 1, b2n (decide (x.eqForce.rate < x.rateCut)))]
  else if off = 0x28 then
    pack [(0, 4, x.nlc.stages), (8, 4, nlcForce x),
      (16, 1, b2n (decide (nlcLimit x < x.nlcInUse))), (17, 1, b2n x.nlcComputing)]
  else if off = 0x30 then pack [(0, 1, b2n x.fast.isSome), (1, 1, x.lastSource), (16, 10, holdLeft x s)]
  else if off = 0x34 then pack [(0, 16, x.entries), (16, 16, x.ignored)]
  else if off = 0x38 then x.slips
  else if off = 0x3C then x.pilotErr
  else if off = 0x40 then pack [(0, 16, x.snrX), (16, 16, x.snrY)]
  else if off = 0x44 then unsignedOf 32 x.meas.cfo
  else if off = 0x48 then unsignedOf 32 x.meas.clk
  else if off = 0x4C then pack [(0, 16, x.meas.dgd), (16, 16, x.meas.pdl)]
  else if off = 0x50 then lowWord x.meas.sopRate
  else if off = 0x54 then dspTxWord e x
  else if off = 0x58 then x.clips
  else if off = 0x5C then x.test % 4
  else if 0x60 ≤ off ∧ off < 0x70 then txSkewWord e ((off - 0x60) / 4) s
  else if 0x70 ≤ off ∧ off < 0x80 then
    pack [(0, 16, unsignedOf 16 (x.rx.skew.getD ((off - 0x70) / 4) 0)), (16, 16, unsignedOf 16 (x.skewEst.getD ((off - 0x70) / 4) 0))]
  else if off = 0x80 then pack [(0, 16, unsignedOf 16 x.tx.xGain), (16, 16, unsignedOf 16 x.tx.xPhase)]
  else if off = 0x84 then pack [(0, 16, unsignedOf 16 x.tx.yGain), (16, 16, unsignedOf 16 x.tx.yPhase)]
  else if off = 0x88 then lowWord (switchInstant x).1
  else if off = 0x8C then highWord (switchInstant x).1
  else if off = 0x90 then (switchInstant x).2
  else 0

def dspSnapOffsets : List Nat := [0x1C, 0x44, 0x48, 0x4C, 0x50, 0x70, 0x74, 0x78, 0x7C]
/-- EST is the upper half of DSP_RX_SKEW (R181). -/
def dspSnapMask (off : Nat) : Nat :=
  if off = 0x1C ∨ (0x44 ≤ off ∧ off ≤ 0x50) then allBits else if 0x70 ≤ off ∧ off < 0x80 then highHalf else 0
def dspSecondOffsets : List Nat := [0x34, 0x38, 0x3C, 0x40, 0x58]
def dspSecondMask (off : Nat) : Nat := if (0x34 ≤ off ∧ off ≤ 0x40) ∨ off = 0x58 then allBits else 0

end Sys2Proof.Machine
end

