-- ==== Sys2Proof/Machine/Mapping.lean ====
section
/-! DEFINITION. The meanings of group 0x07: tributary mapping and protection (chapter 09). -/

namespace Sys2Proof.Machine

/-- MAP_PLAN_APPLY: an engine takes its part of the committed plan at its frame boundary; between a profile switch instant and
its boundary a plan that took effect since then waits for that boundary (R252, R253). -/
def execMapPlanApply (engine : Fin 2) (s : State) : Host.Outcome State Fault Refusal :=
  let e := engine.val
  match s.map.pending with
  | none => .next s
  | some p =>
    if modePowered s.dev.mode = false ∨ (if e = 0 then p.done0 else p.done1) = true then .next s
    else
      let s1 := advanceToTod p.seconds p.nanoseconds s
      .next (if joinsSwitch e p s1 then s1 else applyPart e p s1)

/-- DEMAPPER_LOCKED: the tributary's demapper locks; its client replacement ends at the next frame boundary (R253, R255, R267). -/
def execDemapperLocked (trib : Fin 256) (s : State) : Host.Outcome State Fault Refusal :=
  let t := trib.val
  match s.entry t with
  | none => .next s
  | some x =>
    if modePowered s.dev.mode = false ∨ pathSf t s = true ∨ engineOut x.engine s = true then .next s
    else
      .next (pktRefresh (modTrib t (fun y => { y with locked := true }) s))

/-- Update a group by its working TRIB. -/
def withGroup (w : Nat) (f : ApsGroup → State → State) (s : State) : State :=
  match s.apsGroup w with
  | some g => f g s
  | none => s

/-- APS_HOLDOFF_EXPIRY: APS acts on the requests still present (R258). -/
def execApsHoldoffExpiry (working : Fin 256) (s : State) : Host.Outcome State Fault Refusal :=
  .next (withGroup working.val (fun g u =>
    if g.holding then
      setApsGroup working.val (apsDecide u.tim.now (workFails g.req) false { g with req := g.raw, holding := false }) u
    else u) s)

/-- APS_WTR_EXPIRY: the selector is to return to working (R259). -/
def execApsWtrExpiry (working : Fin 256) (s : State) : Host.Outcome State Fault Refusal :=
  .next (withGroup working.val (fun g u =>
    if g.wtrEnd.isSome then setApsGroup working.val (apsDecide u.tim.now false true { g with wtrEnd := none }) u else u) s)

/-- APS_SELECTOR_SWITCH: the selector takes the decided path at the ODU frame boundary (R260, R266). -/
def execApsSelectorSwitch (working : Fin 256) (s : State) : Host.Outcome State Fault Refusal :=
  let w := working.val
  .next (withGroup w (fun g u =>
    if g.want = g.sel ∨ modePowered u.dev.mode = false then u
    else
      let hit := decide (5 ≤ g.why) || delayExcess g || g.raw.sfW || g.raw.sfP
      let g1 := { g with sel := g.want, switches := satAdd 0xFFFFFFFF g.switches 1
                         switchesRc := satAdd 0xFFFFFFFF g.switchesRc 1
                         changes := g.changes + 1, hit := g.hit || hit, cause := g.why }
      if g.pacing then setApsGroup w g1 u else apsReport w g1 u) s)

/-- APS_PCC_RECEIVED: the far end's request may govern the selector; its configuration is compared (R261). -/
def execApsPccReceived (working : Fin 256) (far : FarEnd) (s : State) : Host.Outcome State Fault Refusal :=
  .next (withGroup working.val (fun g u =>
    if !g.bidir then u
    else setApsGroup working.val (apsDecide u.tim.now (workFails g.req) false
      { g with farRank := far.rank.val, farProtection := far.protection, mismatchNow := far.differs || far.disagrees }) u) s)

/-- APS_MISMATCH_HELD: MISMATCH follows its condition (R261, R266). -/
def execApsMismatchHeld (working : Fin 256) (s : State) : Host.Outcome State Fault Refusal :=
  .next (withGroup working.val (fun g u =>
    if g.mismatch = g.mismatchNow then u
    else emit 7 3 (leBytes 2 working.val ++ leBytes 1 (b2n g.mismatchNow) ++ leBytes 1 g.farRank)
      (setApsGroup working.val { g with mismatch := g.mismatchNow } u)) s)

/-- APS_PACING_END: the selector changes of the interval are reported (R266). -/
def execApsPacingEnd (working : Fin 256) (s : State) : Host.Outcome State Fault Refusal :=
  .next (withGroup working.val (fun g u =>
    if !g.pacing then u
    else if g.changes = 0 then setApsGroup working.val { g with pacing := false } u
    else apsReport working.val g u) s)

/-- MAP_PLAN_BEGIN (R250). -/
def replyMapPlanBegin (p : Packet) (s : State) : Reply :=
  let b := p.params
  checked s [badParam 0 (decide (1 < u8 b 0)), reservedBytes b 1 3]
    (.ok { s with map := { s.map with staging := some (if u8 b 0 = 1 then s.map.plan else []) } })
def execMapPlanBegin (p : Packet) (s : State) : Host.Outcome State Fault Refusal :=
  .next (runCommand (modCmd 0x0701 4) replyMapPlanBegin p s)

/-- The entries of a MAP_PLAN_LOAD, each with its parameter offset. -/
def loadEntries (b : List Byte) (n : Nat) : List (Nat × List Byte) :=
  (List.range n).map (fun i => (8 + 96 * i, bytesAt (8 + 96 * i) 96 b))

/-- MAP_PLAN_LOAD: the staging check comes first (R250, R264). -/
def replyMapPlanLoad (p : Packet) (s : State) : Reply :=
  let b := p.params
  let n := u8 b 0
  match s.map.staging with
  | none => .fail .badState s
  | some st =>
    checked s ([badLen 0 (decide (n = 0) || decide ((if fromBmc p then 2 else 42) < n)), reservedBytes b 1 7]
        ++ (loadEntries b n).flatMap (fun e => entryChecks e.1 e.2))
      (.ok { s with map := { s.map with staging := some ((loadEntries b n).foldl (fun t e =>
        match parseEntry e.2 with
        | some x => tabInsert t (u16 e.2 0) x
        | none => tabErase t (u16 e.2 0)) st) } })
def execMapPlanLoad (p : Packet) (s : State) : Host.Outcome State Fault Refusal :=
  .next (runCommand { modCmd 0x0702 0 with lenOk := fun b => b.length = 8 + 96 * u8 b 0 } replyMapPlanLoad p s)

/-- MAP_PLAN_COMMIT (R251, R252, R254, R264). -/
def replyMapPlanCommit (p : Packet) (s : State) : Reply :=
  let b := p.params
  let sec := u48 b 8
  let ns := u32 b 16
  match s.map.staging with
  | none => .fail .badState s
  | some plan =>
    checked s [badParam 0 (decide (u32 b 0 = 0)), failIf .integrity (decide (u32 b 4 ≠ planCrc plan)),
        badParam 8 (todAhead sec ns 1000 s), reservedBytes b 14 2, badParam 16 (decide (1000000000 ≤ ns))]
      (match planFails plan s with
      | some (t, (code, st)) => .done st 0xFFFF (leBytes 2 t ++ leBytes 1 code ++ leBytes 1 0) s
      | none =>
        if s.map.pending.isSome then .fail .busy s
        else
          let id := BitVec.ofNat 32 (u32 b 0)
          if s.dev.mode = .standby then
            .answer (leBytes 4 0) { s with map := { s.map with staging := none, stored := some (id, plan) } }
          else
            .laterWith (leBytes 4 0) 0 7 1 (committedPayload id .aborted 0 0 0) (fun u =>
              { u with map := { u.map with staging := none, pending := some ⟨id, sec, ns, max (todOf sec ns) u.tim.tod, plan, false, false, []⟩ } }))
def execMapPlanCommit (p : Packet) (s : State) : Host.Outcome State Fault Refusal :=
  .next (runCommand (modCmd 0x0703 20) replyMapPlanCommit p s)

/-- MAP_PLAN_ABORT (R254, R264). -/
def replyMapPlanAbort (_p : Packet) (s : State) : Reply :=
  match s.map.pending with
  | none => .fail .badState s
  | some c => if todPast c.seconds c.nanoseconds s then .fail .badState s else .ok (planAbort s)
def execMapPlanAbort (p : Packet) (s : State) : Host.Outcome State Fault Refusal :=
  .next (runCommand (modCmd 0x0704 0) replyMapPlanAbort p s)

/-- MAP_PLAN_GET (R264). -/
def replyMapPlanGet (p : Packet) (s : State) : Reply :=
  let b := p.params
  let first := u16 b 2
  let n := u8 b 4
  let plan := if u8 b 0 = 0 then s.map.plan else s.map.staging.getD []
  checked s
    [badParam 0 (decide (1 < u8 b 0)), reservedBytes b 1 1, badParam 2 (decide (255 < first)),
      badLen 4 (decide (n = 0) || decide ((if fromBmc p then 2 else 42) < n)), badParam 4 (decide (256 < first + n)),
      reservedBytes b 5 3]
    (.answer (leBytes 4 (if u8 b 0 = 0 then s.map.planId.toNat else 0) ++ leBytes 4 (planCrc plan) ++ leBytes 1 n ++ leBytes 7 0
      ++ (List.range n).flatMap (fun i => entryBytes (first + i) (planFind plan (first + i)))) s)
def execMapPlanGet (p : Packet) (s : State) : Host.Outcome State Fault Refusal :=
  .next (runCommand (readCmd 0x0705 8) replyMapPlanGet p s)

/-- A group takes its configuration: DNR made revertive starts WTR, WTR made non-revertive enters DNR (R256, R259). -/
def configureGroup (now : Nat) (revertive bidir : Bool) (holdoff wtr : Nat) (g : ApsGroup) : ApsGroup :=
  let g1 := { g with revertive, bidir, holdoff, wtrSeconds := wtr
                     farRank := if bidir then g.farRank else 0, mismatchNow := bidir && g.mismatchNow }
  let g2 := if revertive && g.dnr then { g1 with dnr := false, wtrEnd := some (now + wtr * 1000000000000) }
    else if !revertive && g.wtrEnd.isSome then { g1 with wtrEnd := none, dnr := true } else g1
  apsDecide now false false g2

/-- APS_CFG_SET (R256, R259, R264). -/
def replyApsCfgSet (p : Packet) (s : State) : Reply :=
  let b := p.params
  let w := u16 b 0
  match s.apsGroup w with
  | none => if 255 < w then .failAt .badParam 0 s else .fail .badState s
  | some g =>
    checked s [badParam 2 (decide (3 < u8 b 2)), reservedBytes b 3 1, badParam 4 (decide (100 < u16 b 4)),
        badParam 6 (decide (u16 b 6 < 60) || decide (720 < u16 b 6))]
      (.ok (setApsGroup w (configureGroup s.tim.now (bit (u8 b 2) 0) (bit (u8 b 2) 1) (u16 b 4) (u16 b 6) g) s))
def execApsCfgSet (p : Packet) (s : State) : Host.Outcome State Fault Refusal :=
  .next (runCommand (modCmd 0x0706 8) replyApsCfgSet p s)

/-- An external command (R262): clear ends LO, FS, MS and a running WTR; FS yields to LO, the far end's
included, MS to LO, FS, SF and SD. -/
def externalCommand (now cmd : Nat) (g : ApsGroup) : ApsGroup :=
  if cmd = 0 then apsDecide now false false { g with cmd := 0, wtrEnd := none, lastResult := 0 }
  else if cmd = 2 ∧ (g.cmd = 1 ∨ (g.bidir = true ∧ g.farRank = 7)) then { g with lastResult := 1 }
  else if 3 ≤ cmd ∧ (g.cmd = 1 ∨ g.cmd = 2 ∨ anyFails g.req = true) then { g with lastResult := 1 }
  else apsDecide now false false { g with cmd := cmd, lastResult := 0 }

/-- APS_CMD (R80, R262, R264). -/
def replyApsCmd (p : Packet) (s : State) : Reply :=
  let b := p.params
  let w := u16 b 0
  match s.apsGroup w with
  | none => if 255 < w then .failAt .badParam 0 s else .fail .badState s
  | some g =>
    checked s [badParam 2 (decide (4 < u8 b 2)), reservedBytes b 3 1]
      (.ok (setApsGroup w (externalCommand s.tim.now (u8 b 2) g) s))
def execApsCmd (p : Packet) (s : State) : Host.Outcome State Fault Refusal :=
  .next (runCommand (modCmd 0x0707 4) replyApsCmd p s)

/-- WTR remaining in ms (R265). -/
def wtrLeft (now : Nat) (g : ApsGroup) : Nat := (g.wtrEnd.map (fun t => (t - now) / 1000000000)).getD 0

/-- The 24 bytes of APS_STATUS_GET (R265). -/
def groupStatus (now w : Nat) (g : ApsGroup) : List Byte :=
  leBytes 2 w ++ leBytes 2 g.partner ++ leBytes 1 g.rank
    ++ leBytes 1 (packBits [g.sel, g.peer, g.revertive, g.bidir, bothFailed g.req, delayExcess g, g.mismatch])
    ++ leBytes 1 g.cmd ++ leBytes 1 g.lastResult ++ leBytes 4 (wtrLeft now g) ++ leBytesInt 4 g.delay ++ leBytes 4 g.switches
    ++ leBytes 4 0

/-- APS_STATUS_GET (R264, R265). -/
def replyApsStatusGet (p : Packet) (s : State) : Reply :=
  let b := p.params
  let w := u16 b 0
  match s.apsGroup w with
  | none => if 255 < w then .failAt .badParam 0 s else .fail .badState s
  | some g => checked s [reservedBytes b 2 2] (.answer (groupStatus s.tim.now w g) s)
def execApsStatusGet (p : Packet) (s : State) : Host.Outcome State Fault Refusal :=
  .next (runCommand (readCmd 0x0708 4) replyApsStatusGet p s)

end Sys2Proof.Machine
end

