-- ==== Sys2Proof/Machine/PeerLink.lean ====
section
/-! DEFINITION. The meanings of group 0x0B: the peer link (chapter 12). -/

namespace Sys2Proof.Machine

/-- The peer link runs. -/
def plkRunning (s : State) : Bool := s.plk.powered && s.plk.en

/-- PLK_LANE_CDR_LOCKED (R372). -/
def execPlkLaneCdrLocked (lane : Fin 16) (s : State) : Host.Outcome State Fault Refusal :=
  if plkRunning s then .next (plkProgress (modPeer lane.val (fun x => { x with cdr := true }) s)) else .next s

/-- PLK_DFE_CONVERGED (R372). -/
def execPlkDfeConverged (lane : Fin 16) (s : State) : Host.Outcome State Fault Refusal :=
  if plkRunning s then .next (plkProgress (modPeer lane.val (fun x => { x with dfe := x.cdr }) s)) else .next s

/-- PLK_LANE_LOSS: not alive at once (R374). -/
def execPlkLaneLoss (lane : Fin 16) (s : State) : Host.Outcome State Fault Refusal :=
  if plkRunning s then
    .next (plkProgress (modPeer lane.val (fun x => { markDead x with
      cdr := false, dfe := false, found := false, mkrLock := false, deskewed := false, errRun := 0 }) s))
  else .next s

/-- PLK_MARKER_RECEIVED (R363 to R365, R374, R380). -/
def execPlkMarkerReceived (lane : Fin 16) (marker : MarkerIn) (s : State) : Host.Outcome State Fault Refusal :=
  let l := lane.val
  if plkRunning s && (s.peerLane l).cdr then
    let valid := markerValid l marker
    let gap := behind marker s.plk.firsts
    let known := s.plk.firsts.any (fun x => decide (x.1 = markerCount marker))
    let s1 := modPeer l (markerStep l (decide (skewSymbols < gap)) marker) s
    if valid && (s1.peerLane l).mkrLock && decide ((s1.peerLane l).foundAt = marker.symbol) then
      let first := match s.plk.rxFrom with
        | some (c, k) => decide (c ≠ markerCount marker) || decide (l ≤ k)
        | none => true
      .next (plkMirror (plkProgress { s1 with plk := { s1.plk with
        remoteAlive := markerAlive marker, firsts := noteFirst marker s.plk.firsts
        skew := min 65535 (if known then max s.plk.skew (gap * 8 / 85) else 0)
        rxStripe := if first then markerStripe marker else s1.plk.rxStripe
        rxRow := if first && decide (markerStripe marker ≠ s1.plk.rxStripe) then 0 else s1.plk.rxRow
        rxFrom := if first then some (markerCount marker, l) else s1.plk.rxFrom } }))
    else .next (plkMirror (plkProgress s1))
  else .next s

/-- PLK_MARKER_PERIOD_START: the marker words with COUNT, ALIVE and STRIPE, the symbols stuffed in the period before, capacity and
shedding (R360 to R362, R369, R374, R380). The lanes count what they stuff themselves; in a Yo-yo loop they send what they receive and
no markers of their own (R375). -/
def execPlkMarkerPeriodStart (_stuffed : List Nat) (s : State) : Host.Outcome State Fault Refusal :=
  if plkRunning s then
    let stripe := stripeNow s.plk
    let alive := localAlive s.plk
    let n := (s.plk.count + 1) % 2 ^ 24
    let s1 := { s with plk := { s.plk with
      count := n, txStripe := stripe
      txRow := if stripe = s.plk.txStripe then s.plk.txRow else 0
      lanes := vecMap (fun l x => if s.plk.mask.getLsbD l && decide (s.plk.loop ≠ 3) then x.mark l alive stripe n else x) s.plk.lanes } }
    let s2 := if stripe = s.plk.txStripe then s1 else lanesEvent s1
    .next (plkMirror (plkRefresh (plkProgress s2)))
  else .next s

/-- PLK_BLOCK_TRANSMIT: APS, HELLO, TRIB by credit, IDLE; before a STRIPE is agreed every permitted lane sends scrambled zero words, and
in a Yo-yo loop nothing of this device goes out (R365 to R367, R370 to R372, R375). -/
def execPlkBlockTransmit (ready : List TribBlock) (s : State) : Host.Outcome State Fault Refusal :=
  if !plkRunning s || decide (s.plk.loop = 3) then .next s
  else if s.plk.txStripe = 0 then .next { s with plk := sendZeros s.plk }
  else
    let s1 := accrue (plkApsDue s)
    let owed := (apsOwed s1).filter (fun x => s1.plk.apsDue.contains x.1)
    if owed ≠ [] then
      let now := owed.take 30
      let ids := now.map (fun x => x.1)
      let s2 := sendBlock 2 0 0 (now.flatMap (fun x => beBytes 2 x.1 ++ leBytes 1 x.2 ++ leBytes 1 0)) s1
      .next { s2 with plk := { s2.plk with
        apsDue := (s2.plk.apsDue.filter (fun w => !ids.contains w))
        apsSent := now.foldl (fun t x => tabInsert t x.1 x.2) s2.plk.apsSent } }
    else if s1.plk.helloReady then
      let s2 := sendBlock 3 0 0 (beBytes 8 s1.dev.serial.toNat ++ leBytes 1 1 ++ leBytes 1 (b2n s1.plk.xferEn)
        ++ beBytes 2 (plkDemand s1) ++ leBytes 4 0) s1
      .next { s2 with plk := { s2.plk with helloReady := false, apsDue := [] } }
    else
      let able := ready.filter (fun b => decide (b.data ≠ []) && (xferChannels s1).any (fun x => x.1 = b.chan))
      let best := able.foldl (fun (m : Option TribBlock) b =>
        match m with
        | none => some b
        | some a => if tabGet 0 s1.plk.credit a.chan < tabGet 0 s1.plk.credit b.chan then some b else some a) none
      match best with
      | some b => .next (sendTrib b s1)
      | none => .next (sendBlock 0 0 0 [] s1)

/-- PLK_TRIB_BLOCK_RECEIVED (R366, R367): the channel is the one its header names. -/
def execPlkTribBlockReceived (_chan : Fin 256) (block : BlockIn) (s : State) : Host.Outcome State Fault Refusal :=
  .next (receiveBlock block.words s)

/-- PLK_APS_BLOCK_RECEIVED (R366, R370): the entries are those its payload spells. -/
def execPlkApsBlockReceived (block : BlockIn) (_entries : List (Nat × Byte)) (s : State) : Host.Outcome State Fault Refusal :=
  .next (receiveBlock block.words s)

/-- PLK_HELLO_RECEIVED (R366, R371 to R373). -/
def execPlkHelloReceived (hello : HelloIn) (s : State) : Host.Outcome State Fault Refusal := .next (receiveBlock hello.words s)

/-- PLK_HELLO_TIMER (R371). -/
def execPlkHelloTimer (s : State) : Host.Outcome State Fault Refusal :=
  if plkRunning s then .next { s with plk := { s.plk with helloReady := true } } else .next s

/-- PLK_APS_REFRESH_TIMER: every group's entry is due (R370). -/
def execPlkApsRefreshTimer (s : State) : Host.Outcome State Fault Refusal :=
  if plkRunning s then .next { s with plk := { s.plk with apsDue := (apsOwed s).map (fun x => x.1) } } else .next s

/-- PLK_APS_ENTRY_TIMEOUT: a group without an entry is SF on its protection path (R370). -/
def execPlkApsEntryTimeout (working : Fin 256) (s : State) : Host.Outcome State Fault Refusal :=
  .next (plkRefresh { s with plk := { s.plk with apsRx := s.plk.apsRx.filter (fun e => e.1 ≠ working.val) } })

/-- PLK_HELLO_TIMEOUT (R373). -/
def execPlkHelloTimeout (s : State) : Host.Outcome State Fault Refusal :=
  if s.plk.state = .up then .next (setPlk .hello 1 s) else .next s

/-- PLK_CFG_SET (R372, R377). -/
def replyPlkCfgSet (p : Packet) (s : State) : Reply :=
  let b := p.params
  let mask := BitVec.ofNat 16 (u16 b 2)
  let en := bit (u8 b 0) 0
  checked s [badParam 0 (decide (3 < u8 b 0)), badLen 1 (decide (u8 b 1 = 0)), badParam 2 (decide (mask = 0)),
      badParam 1 (decide (16 < u8 b 1) || decide (laneCount mask < u8 b 1))]
    (let s1 := { s with plk := { s.plk with en := en, xferEn := bit (u8 b 0) 1, minLanes := u8 b 1, mask := mask } }
     if en then .ok (plkRefresh (plkProgress (plkStart 5 s1))) else .ok (plkStop 5 s1))
def execPlkCfgSet (p : Packet) (s : State) : Host.Outcome State Fault Refusal :=
  .next (runCommand (modCmd 0x0B01 4) replyPlkCfgSet p s)

/-- PLK_LANE_SET (R354, R377): TRAIN is reserved. -/
def replyPlkLaneSet (p : Packet) (s : State) : Reply :=
  let b := p.params
  let f := u8 b 1
  checked s ([badParam 0 (decide (15 < u8 b 0)), badParam 1 (decide (15 < f) || bit f 2)] ++ tapChecks b ++ [reservedBytes b 7 1])
    (.ok (modPeer (u8 b 0) (fun x => { x with
      held := if x.rxFreeze && bit f 3 then x.held else none
      taps := tapsOf b, txInv := bit f 0, rxInv := bit f 1, rxFreeze := bit f 3 }) s))
def execPlkLaneSet (p : Packet) (s : State) : Host.Outcome State Fault Refusal :=
  .next (runCommand (modCmd 0x0B02 8) replyPlkLaneSet p s)

/-- PLK_LOOP (R375, R377). -/
def replyPlkLoop (p : Packet) (s : State) : Reply :=
  let b := p.params
  checked s [badParam 0 (decide (3 < u8 b 0)), reservedBytes b 1 3] (.ok (plkSetLoop (u8 b 0) s))
def execPlkLoop (p : Packet) (s : State) : Host.Outcome State Fault Refusal :=
  .next (runCommand { modCmd 0x0B03 4 with maintenance := true } replyPlkLoop p s)

/-- PLK_STATUS, PLK_ALIVE, PLK_STRIPE, PLK_XFER and PLK_SHED_MAP (R380). -/
def plkStatusWord (s : State) : Nat :=
  s.plk.state.code + 8 * b2n (xferRuns s) + 16 * b2n s.plk.loopedFar + 32 * s.plk.loop + 128 * b2n (decide (s.plk.shed ≠ []))
def plkAliveWord (s : State) : Nat := s.plk.aliveMirror
def plkStripeWord (s : State) : Nat := s.plk.stripeMirror
def plkXferWord (s : State) : Nat := s.plk.xferMirror
def plkShedMap (s : State) : Nat := s.plk.shed.foldl (fun n t => n ||| 2 ^ t) 0

/-- PLK_STATUS_GET (R377). -/
def replyPlkStatusGet (_p : Packet) (s : State) : Reply :=
  .answer (leBytes 4 (plkStatusWord s) ++ leBytes 4 (plkAliveWord s) ++ leBytes 4 (plkStripeWord s) ++ leBytes 4 (plkXferWord s)
    ++ leBytes 32 (plkShedMap s) ++ leBytes 8 s.plk.peerSerial.toNat ++ leBytes 8 0) s
def execPlkStatusGet (p : Packet) (s : State) : Host.Outcome State Fault Refusal :=
  .next (runCommand (readCmd 0x0B04 0) replyPlkStatusGet p s)

end Sys2Proof.Machine
end

