-- ==== Sys2Proof/Machine/RegMap.lean ====
section
/-! DEFINITION. The register words of the MAP / APS, CPH, CLN and PLK windows, by offset (R267, R305, R379, R380). -/

namespace Sys2Proof.Machine

/-! ### MAP and APS (R267) -/

def pendingInstant (s : State) : Nat × Nat :=
  match s.map.pending with
  | some p => (p.seconds, p.nanoseconds)
  | none => (0, 0)
/-- MAP_TRIB_STATUS: of a tributary that has no entry, only its client's replacement signal can be on (R253, R267). -/
def tribStatusWord (t : Nat) (s : State) : Nat :=
  let r := s.trib t
  match s.entry t with
  | none => pack [(6, 1, b2n r.clientRepl)]
  | some x => pack [(0, 3, x.kind), (3, 1, x.engine), (4, 1, 1), (5, 1, b2n r.locked), (6, 1, b2n r.clientRepl), (7, 3, r.lineRepl),
      (10, 1, b2n x.encrypt), (11, 1, b2n x.protected_), (12, 1, b2n x.protection), (13, 1, b2n x.peer), (16, 9, x.slotCount)]
def apsStatusWord (w : Nat) (s : State) : Nat :=
  match s.apsGroup w with
  | none => 0
  | some g => pack [(0, 3, g.rank), (3, 1, b2n g.sel), (4, 1, b2n g.req.sfW), (5, 1, b2n g.req.sdW), (6, 1, b2n g.req.sfP),
      (7, 1, b2n g.req.sdP), (8, 1, b2n (bothFailed g.req)), (9, 1, b2n (delayExcess g)), (10, 1, b2n g.mismatch),
      (11, 1, b2n g.wtrEnd.isSome), (12, 3, g.cmd)]

/-- The live word at an offset of the MAP / APS window. -/
def mapWord (off : Nat) (s : State) : Nat :=
  if off = 0x0 then
    pack [(0, 1, b2n (decide (s.map.planId ≠ 0))), (1, 1, b2n s.map.pending.isSome), (2, 1, b2n s.map.staging.isSome),
      (4, 9, (s.map.staging.getD []).length)]
  else if off = 0x4 then s.map.planId.toNat
  else if off = 0xC then ((s.map.pending.map (fun p => p.id.toNat)).getD 0)
  else if off = 0x10 then (if s.map.planId = 0 then 0 else planCrc s.map.plan)
  else if off = 0x14 then pack [(0, 10, slotsIn 0 s.map.plan), (16, 10, slotsIn 1 s.map.plan)]
  else if off = 0x18 then pack [(0, 10, slotLimit 0 s), (16, 10, slotLimit 1 s)]
  else if off = 0x1C then lowWord (pendingInstant s).1
  else if off = 0x20 then highWord (pendingInstant s).1
  else if off = 0x24 then (pendingInstant s).2
  else if 0x1000 ≤ off ∧ off < 0x1400 then tribStatusWord ((off - 0x1000) / 4) s
  else if 0x2000 ≤ off ∧ off < 0x2400 then apsStatusWord ((off - 0x2000) / 4) s
  else if 0x2400 ≤ off ∧ off < 0x2800 then
    unsignedOf 32 (((s.apsGroup ((off - 0x2400) / 4)).map (fun g => g.delay)).getD 0)
  else if 0x2800 ≤ off ∧ off < 0x2C00 then (((s.apsGroup ((off - 0x2800) / 4)).map (fun g => g.switchesRc)).getD 0)
  else 0
def mapSnapOffsets : List Nat := (List.range 256).map (fun t => 0x2400 + 4 * t)
def mapSnapMask (off : Nat) : Nat := if 0x2400 ≤ off ∧ off < 0x2800 then allBits else 0
/-- A read clears APS_SWITCHES. -/
def mapClear (off : Nat) (s : State) : State :=
  if 0x2800 ≤ off ∧ off < 0x2C00 then
    let w := (off - 0x2800) / 4
    match s.apsGroup w with
    | some g => setApsGroup w { g with switchesRc := 0 } s
    | none => s
  else s

/-! ### CPH (R305) -/

def slotsLoaded (s : State) : Nat := (s.cph.slots.filter (fun x => x.2.loaded)).length
def slotsBound (s : State) : Nat := ((s.cph.slots.map (fun x => x.1)).filter (fun k => decide (0 < slotBound k s))).length
def jobStatusWord (s : State) : Nat :=
  pack [(0, 6, s.cph.jobs.length), (8, 2, ((runningJob s).map (fun j => j.prio)).getD 0), (16, 1, b2n (runningJob s).isSome)]

/-- The live word at an offset of the CPH window; zero on a PX4800-N (R2). The derivation counter is mirrored once the Logbook has
been read (R470). -/
def cphWord (off : Nat) (s : State) : Nat :=
  let c := fun base => s.cphTrib ((off - base) / 4)
  if s.dev.variantN then 0
  else if off = 0x0 then
    pack [(0, 1, 1), (1, 1, b2n (modePowered s.dev.mode)), (8, 8, min 255 (s.map.plan.filter (fun x => x.2.encrypt)).length)]
  else if off = 0x4 then pack [(0, 11, slotsLoaded s), (16, 11, slotsBound s)]
  else if off = 0xC then (if s.log.ready then lowWord s.cph.dctr else 0)
  else if off = 0x10 then lowWord s.cph.dctrHi
  else if off = 0x14 then s.cph.twinMismatch
  else if off = 0x18 then jobStatusWord s
  else if 0x1000 ≤ off ∧ off < 0x1400 then pack [(0, 1, b2n (c 0x1000).sav), (1, 1, b2n (c 0x1000).savForce)]
  else if 0x1400 ≤ off ∧ off < 0x1800 then tribCipherStatus ((off - 0x1400) / 4) s
  else if 0x1800 ≤ off ∧ off < 0x1C00 then min allBits (c 0x1800).authFail
  else if 0x1C00 ≤ off ∧ off < 0x2000 then min allBits (c 0x1C00).replay
  else if 0x2000 ≤ off ∧ off < 0x2800 then
    let v := (s.cphTrib ((off - 0x2000) / 8)).txCtr.getD 0
    if off % 8 = 0 then lowWord v else highWord v
  else if 0x2800 ≤ off ∧ off < 0x2C00 then min allBits (c 0x2800).stomped
  else if 0x2C00 ≤ off ∧ off < 0x3000 then min allBits (c 0x2C00).escaped
  else if 0x4000 ≤ off ∧ off < 0x5000 then slotStatus ((off - 0x4000) / 4) s
  else 0
def cphSnapOffsets : List Nat := (List.range 512).map (fun i => 0x2000 + 4 * i)
def cphSnapMask (off : Nat) : Nat := if 0x2000 ≤ off ∧ off < 0x2800 then allBits else 0
def cphSecondOffsets : List Nat := (List.range 512).map (fun i => 0x1800 + 4 * i) ++ (List.range 512).map (fun i => 0x2800 + 4 * i)
def cphSecondMask (off : Nat) : Nat := if (0x1800 ≤ off ∧ off < 0x2000) ∨ (0x2800 ≤ off ∧ off < 0x3000) then allBits else 0
/-- A read clears CPH_TWIN_MISMATCH. -/
def cphClear (off : Nat) (s : State) : State :=
  if off = 0x14 ∧ s.dev.variantN = false then { s with cph := { s.cph with twinMismatch := 0 } } else s

/-! ### CLN (R379) -/

/-- What an octet's synthesisers serve (R348): bit 0 A, bits 3:1 B's generation. -/
def octetSynth (q : Nat) (s : State) : Nat :=
  let used := (List.range 32).filter (fun c => decide ((s.cif c).typ ≠ 0) && (octets c (s.cif c).lanes).contains q)
  let b := ((used.filter (fun c => decide (3 ≤ (s.cif c).gen))).head?.map (fun c => (s.cif c).gen)).getD 0
  pack [(0, 1, b2n (used.any (fun c => decide ((s.cif c).gen < 3)))), (1, 3, b)]
def tapsWord (x : Taps) : Nat :=
  pack [(0, 8, unsignedOf 8 x.c3), (8, 8, unsignedOf 8 x.c0), (16, 8, unsignedOf 8 x.c1), (24, 8, unsignedOf 8 x.c2)]
def ctrlWord (x : Taps) (txInv rxInv train freeze : Bool) : Nat :=
  pack [(0, 8, unsignedOf 8 x.p1), (8, 1, b2n txInv), (9, 1, b2n rxInv), (10, 1, b2n train), (11, 1, b2n freeze)]

def clnCifWord (c o : Nat) (s : State) : Nat :=
  let x := s.cif c
  if o = 0x0 then cifCfgWord x else if o = 0x4 then cifStatusWord c s else if o = 0x8 then x.fecCorr else if o = 0xC then x.fecUncorr
  else if o = 0x10 then x.fecSym else if o = 0x14 then x.pcsErr else if o = 0x18 then x.downCnt else 0
def clnLaneWord (l o : Nat) (s : State) : Nat :=
  let x := s.lane l
  if o = 0x0 then tapsWord x.taps else if o = 0x4 then ctrlWord x.taps x.txInv x.rxInv x.train x.rxFreeze
  else if o = 0x8 then laneStatusWord x else if o = 0x10 then x.prbsErr else 0

/-- The live word at an offset of the CLN window; CLN_LANE_EQ is measured by the receiver (log 14). -/
def clnWord (off : Nat) (s : State) : Nat :=
  if off = 0x0 then packBits ((List.range 32).map (fun c => (s.cif c).up))
  else if off = 0x8 then pack ((List.range 4).map (fun q => (4 * q, 4, octetSynth q s)))
  else if off = 0xC then packBits ((List.range 32).map (fun l => decide ((s.lane l).loop ≠ 0) || (s.lane l).gen || (s.lane l).check))
  else if 0x1000 ≤ off ∧ off < 0x1800 then clnCifWord ((off - 0x1000) / 0x40) (off % 0x40) s
  else if 0x2000 ≤ off ∧ off < 0x2400 then clnLaneWord ((off - 0x2000) / 0x20) (off % 0x20) s
  else 0
/-- The receiver of a lane has equaliser readings. -/
def clnEqLive (off : Nat) (s : State) : Bool := (s.lane ((off - 0x2000) / 0x20)).cdr
def clnEqOffsets : List Nat := (List.range 32).map (fun l => 0x200C + 0x20 * l)
def clnSnapMask (off : Nat) : Nat := if 0x2000 ≤ off ∧ off < 0x2400 ∧ off % 0x20 = 0xC then allBits else 0
def clnSecondOffsets : List Nat :=
  (List.range 32).flatMap (fun c => (List.range 4).map (fun i => 0x1008 + 0x40 * c + 4 * i)) ++ (List.range 32).map (fun l => 0x2010 + 0x20 * l)
def clnSecondMask (off : Nat) : Nat :=
  if (0x1000 ≤ off ∧ off < 0x1800 ∧ 8 ≤ off % 0x40 ∧ off % 0x40 < 0x18) ∨ (0x2000 ≤ off ∧ off < 0x2400 ∧ off % 0x20 = 0x10) then allBits
  else 0
/-- A read clears CLN_DOWN_CNT. -/
def clnClear (off : Nat) (s : State) : State :=
  if 0x1000 ≤ off ∧ off < 0x1800 ∧ off % 0x40 = 0x18 then modCif ((off - 0x1000) / 0x40) (fun x => { x with downCnt := 0 }) s else s
/-- What a second adds to the client counters (R379). -/
def clnSecond (m : SecondMeasure) (s : State) : State :=
  let s1 := m.cifs.foldl (fun u e => modCif e.1 (fun x => if x.typ = 0 then x else { x with
    fecCorr := sat32 x.fecCorr e.2.1, fecUncorr := sat32 x.fecUncorr e.2.2.1, fecSym := sat32 x.fecSym e.2.2.2.1
    pcsErr := sat32 x.pcsErr e.2.2.2.2 }) u) s
  m.prbs.foldl (fun u e => modLane e.1 (fun x => if x.check then { x with prbsErr := sat32 x.prbsErr e.2 } else x) u) s1

/-! ### PLK (R380) -/

def plkLaneWord (l o : Nat) (s : State) : Nat :=
  let x := s.peerLane l
  if o = 0x0 then tapsWord x.taps else if o = 0x4 then ctrlWord x.taps x.txInv x.rxInv false x.rxFreeze
  else if o = 0x8 then
    pack [(0, 1, b2n x.cdr), (1, 1, b2n x.dfe), (2, 1, b2n x.mkrLock), (3, 1, b2n x.deskewed), (4, 1, b2n x.alive), (8, 7, min 64 x.goodRun)]
  else if o = 0x10 then x.mkrErr else if o = 0x14 then x.stuff else 0

/-- The live word at an offset of the PLK window; PLK_LANE_EQ as CLN_LANE_EQ. -/
def plkWord (off : Nat) (s : State) : Nat :=
  let p := s.plk
  if off = 0x0 then plkStatusWord s
  else if off = 0x4 then pack [(0, 1, b2n p.en), (1, 1, b2n p.xferEn), (8, 5, p.minLanes), (16, 16, p.mask.toNat)]
  else if off = 0xC then plkAliveWord s
  else if off = 0x10 then plkStripeWord s
  else if off = 0x14 then plkXferWord s
  else if off = 0x18 then p.blkCrc
  else if off = 0x1C then p.blkLost
  else if off = 0x20 then p.blkBad
  else if off = 0x24 then p.skew % 65536
  else if 0x40 ≤ off ∧ off < 0x60 then plkShedMap s / 2 ^ (8 * (off - 0x40)) % 2 ^ 32
  else if 0x1000 ≤ off ∧ off < 0x1200 then plkLaneWord ((off - 0x1000) / 0x20) (off % 0x20) s
  else 0
def plkEqLive (off : Nat) (s : State) : Bool := (s.peerLane ((off - 0x1000) / 0x20)).cdr
def plkEqOffsets : List Nat := (List.range 16).map (fun l => 0x100C + 0x20 * l)
def plkSnapMask (off : Nat) : Nat := if off = 0x24 ∨ (0x1000 ≤ off ∧ off < 0x1200 ∧ off % 0x20 = 0xC) then allBits else 0
def plkSecondOffsets : List Nat := [0x18, 0x1C, 0x20] ++ (List.range 16).flatMap (fun l => [0x1010 + 0x20 * l, 0x1014 + 0x20 * l])
def plkSecondMask (off : Nat) : Nat :=
  if (0x18 ≤ off ∧ off ≤ 0x20) ∨ (0x1000 ≤ off ∧ off < 0x1200 ∧ 0x10 ≤ off % 0x20 ∧ off % 0x20 ≤ 0x14) then allBits else 0

end Sys2Proof.Machine
end

