-- ==== Sys2Proof/Machine/Logbook.lean ====
section
/-! DEFINITION. The meanings of the Logbook rows of group 0x0F (chapter 16). -/

namespace Sys2Proof.Machine

def modLog (f : Log → Log) (s : State) : State := { s with log := f s.log }

/-! ### Programs and erases (R462, R465, R467) -/

/-- Commands and plans whose records have all left the queue are durable (R469). -/
def answerWaits (s : State) : State :=
  let done := s.log.waits.filter (fun w => !s.log.queue.any (fun r => r.seq = w.seq))
  done.foldl (fun u w => finishWaiting w.key .ok w.resp u)
    (modLog (fun l => { l with waits := l.waits.filter (fun w => l.queue.any (fun r => r.seq = w.seq)) }) s)

/-- What the commit of a record sets going: the reservation, the persistence of cinder entries (R449, R470). -/
def commitHook (r : LogRecord) (s : State) : State :=
  match r.kept with
  | .dctr c => if r.moved then s else rekeyWaiting (modLog (fun l => { l with dctrCeiling := max l.dctrCeiling c, dctrBusy := false }) s)
  | .cinders es =>
    { s with mi := { s.mi with cinders := s.mi.cinders.zipIdx.map (fun x =>
        if 13 * r.item ≤ x.2 ∧ x.2 < 13 * r.item + es.length then { x.1 with persisted := true } else x.1) } }
  | _ => s

/-- The die is free again: deep power-down after a trip, which let this program finish, or the next work (R425, R426, R469). -/
def workDone (s : State) : State :=
  let s1 := modLog (fun l => { l with work := .idle }) s
  if s1.thm.trip then
    modLog (fun l => { l with asleep := true }) { s1 with thm := { s1.thm with record := { s1.thm.record with flashWait := true } } }
  else flashKick (modLog compactIfDue s1)

/-- A page program ends and is read back (R462, R467). -/
def execFlashPageProgrammed (result : FlashEnd) (s : State) : Host.Outcome State Fault Refusal :=
  match s.log.work, s.log.queue with
  | .program copyB b, r :: rest =>
    let s1 := modLog (fun l => countPage (setBlock b (fun x => { x with pages := x.pages + 1 }) l)) s
    match result with
    | .ok =>
      if copyB then
        let done := { r with blockB := some b }
        .next (workDone (answerWaits (commitHook done (modLog (fun l => commit done { l with queue := rest }) s1))))
      else .next (workDone (modLog (fun l => { l with queue := { r with blockA := some b } :: rest }) s1))
    | .programFailed | .readBackFailed =>
      let again := { r with blockA := none, blockB := none }
      .next (workDone (retireFlash b (if result = .programFailed then 1 else 2)
        (modLog (fun l => { l with queue := again :: rest, work := .idle }) s1)))
  | _, _ => .next s

/-- An opened block takes its header: role, BLOCK_SEQ, ERASE_COUNT and OPEN_SECONDS (R461). -/
def openBlock (b : Nat) (role : Role) (s : State) : State :=
  modLog (fun l => countPage { setBlock b (fun x => { x with
    role := role, seq := l.blockSeq, pages := 1, openSec := s.tim.seconds, timeInvalid := !s.tim.valid }) l with
    blockSeq := l.blockSeq + 1 }) s
/-- The erase table is written every 64 erases (R464). -/
def eraseCounted (s : State) : State :=
  if s.log.erasesSince + 1 < 64 then modLog (fun l => { l with erasesSince := l.erasesSince + 1 }) s
  else logRecord 0x0054 0 (eraseTable s.log) (modLog (fun l => { l with erasesSince := 0 }) s)

/-- A block erase ends: opened with its role, freed, or retired (R465, R467). -/
def execFlashBlockErased (ok : Bool) (s : State) : Host.Outcome State Fault Refusal :=
  match s.log.work with
  | .erase b role =>
    if !ok then .next (workDone (retireFlash b 0 (modLog (fun l => { l with work := .idle }) s)))
    else
      let s1 := modLog (fun l => setBlock b (fun x => { x with erases := x.erases + 1, role := .free, pages := 0 })
        { l with compacting := if l.compacting = some b then none else l.compacting }) s
      let s2 := eraseCounted s1
      if 20000 ≤ (s2.log.block b).erases then
        .next (workDone (retireFlash b 3 (modLog (fun l => { l with work := .idle }) s2)))
      else if role = .free then .next (workDone s2)
      else .next (workDone (openBlock b role s2))
  | _ => .next s

/-! ### The life clock (R472 to R476) -/

/-- The band of a reading: below 60 °C, 10 °C bands up to 100 °C, at or above 100 °C (R476). -/
def bandOf (t : Int) : Nat := if t < 960 then 0 else if 1600 ≤ t then 5 else ((t - 960) / 160).toNat + 1
/-- The mean of 900 consecutive seconds, 0 while there are fewer. -/
def meanBer (l : List Nat) : Nat := if l.length = 900 then l.foldl (· + ·) 0 / 900 else 0
/-- The target in 0.1 mV. -/
def targetTenths (t : Thm) : Nat := 5000 + 25 * t.target

/-- One second of life: counters, temperature bands, AVS target, FEC_BER windows, and the day's budget (R468, R474). -/
def lifeSecond (s : State) : State :=
  let m := s.dev.mode
  let s1 := addLife 0 1 (accThrottle s)
  let s2 := if m = .service ∨ m = .maintenance then addLife 1 1 s1 else if m = .ember then addLife 2 1 s1 else s1
  let v := targetTenths s2.thm
  let b0 := ((s2.fecEngine 0).ber :: s2.log.ber0).take 900
  let b1 := ((s2.fecEngine 1).ber :: s2.log.ber1).take 900
  modLog (fun l =>
    let fresh := decide (l.budgetFrom + 86400 ≤ vecGet 0 l.life 0)
    { l with
      bands := l.bands.modify (bandOf s2.thm.hottest) (· + 1)
      targetMin := if l.targetCount = 0 then v else min l.targetMin v
      targetMax := max l.targetMax v, targetSum := l.targetSum + v, targetCount := l.targetCount + 1
      ber0 := b0, ber1 := b1, worst0 := max l.worst0 (meanBer b0), worst1 := max l.worst1 (meanBer b1)
      budgetPages := if fresh then 0 else l.budgetPages
      budgetFrom := if fresh then vecGet 0 l.life 0 else l.budgetFrom }) s2

/-- A powered second passes: the TC counts it, or it is added when the counters are replayed in Kindling phase 4 (R22, R472). -/
def execLifeClockSecond (s : State) : Host.Outcome State Fault Refusal :=
  if !s.pins.vddAon then .next s
  else
    let s0 := advancePs (s.log.lastLife + 1000000000000 - s.tim.now) s
    let s1 := modLog (fun l => { l with lastLife := s0.tim.now }) s0
    if s1.log.ready then .next (lifeSecond s1) else .next (modLog (fun l => { l with unreadLife := l.unreadLife + 1 }) s1)

/-- 3,600 s of life clock have passed (R456, R472). -/
def execCountersHourlyDue (s : State) : Host.Outcome State Fault Refusal :=
  if s.log.ready then .next (miHour (logCounters (orderlyMode s.dev.mode) s)) else .next s

/-- The AGEING_DAY payload (R476). -/
def agePayload (shifts : List Int) (s : State) : List Byte :=
  let l := s.log
  let eng := fun e worst => leBytes 4 worst ++ leBytes 4 (thresholds e s).sf ++ leBytes 1 (s.engine e).sel.profile
  shifts.flatMap (fun d => leBytesInt 2 d) ++ l.bands.flatMap (fun n => leBytes 4 n) ++ leBytes 2 l.targetMin
    ++ leBytes 2 (if l.targetCount = 0 then 0 else l.targetSum / l.targetCount) ++ leBytes 2 l.targetMax
    ++ eng 0 l.worst0 ++ eng 1 l.worst1 ++ leBytes 1 (activeCores s)
    ++ (List.range 8).flatMap (fun i =>
      let a := (s.group (i / 4)).adc (i % 4)
      leBytes 1 (packBits [a.replaced.isSome, a.spareRetired]))
/-- A day of life clock: the TC measures all monitors (R456, R476). -/
def execAgeingDayDue (shifts : List Int) (s : State) : Host.Outcome State Fault Refusal :=
  if s.log.ready = false ∨ shifts.length ≠ 16 then .next s
  else
    let s1 := logRecord 0x0051 0 (agePayload shifts s) s
    .next (miDay (modLog (fun l => { l with
      shifts := shifts, shiftSeconds := s.tim.seconds, bands := List.replicate 6 0, targetMin := 0, targetMax := 0
      targetSum := 0, targetCount := 0, worst0 := 0, worst1 := 0 }) s1))

/-- Thirty days of life clock: greatest shift, least target and worst ratio per engine (R476). -/
def execAgeingMonthDue (s : State) : Host.Outcome State Fault Refusal :=
  if s.log.ready then
    let days := lastN 30 (payloads 0x51 s.log)
    let worst := fun e => (days.map (dayRatio e)).foldl max 0
    .next (logRecord 0x0052 0 (leBytesInt 2 ((maxInt (days.map dayShift)).getD 0)
      ++ leBytes 2 (days.foldl (fun m b => min m (dayTarget b)) 8000) ++ leBytes 4 (worst 0) ++ leBytes 4 (worst 1)) s)
  else .next s

/-! ### Refresh (R471) -/

def execLogRefreshPassDue (s : State) : Host.Outcome State Fault Refusal :=
  if s.log.ready = false ∨ s.log.refresh.isSome = true then .next s
  else .next (modLog (fun l => { l with refresh := some ⟨false⟩ }) s)

/-- A record lies in a block to be rewritten: opened two years ago, or with device time not VALID (R471). -/
def staleBlock (s : State) (b : Option Nat) : Bool :=
  match b with
  | some n =>
    let x := s.log.block n
    if x.timeInvalid then s.tim.valid else s.tim.valid && decide (x.openSec + 63115200 < s.tim.seconds)
  | none => false
/-- The pass ends: records that failed their margin read, and those in stale blocks, are written again. -/
def execLogRefreshPassComplete (failed : List Nat) (s : State) : Host.Outcome State Fault Refusal :=
  if s.log.refresh.isNone ∨ s.thm.flashOk = false then .next s
  else
    let rs := s.log.records.filter (fun r => failed.contains r.seq || staleBlock s r.blockA || staleBlock s r.blockB)
    let s1 := modLog (fun l => moveRecords rs { l with
      refresh := none, refreshLife := vecGet 0 l.life 0, refreshSeconds := s.tim.seconds, refreshCount := rs.length }) s
    .next (flashKick (completeOr 0x0F07 0 .ok 15 4 (leBytes 1 0 ++ leBytes 3 0 ++ leBytes 4 rs.length
      ++ leBytes 4 (s.log.records.filter (fun r => failed.contains r.seq)).length) s1))

/-! ### The margin plan (R477, R479) -/

/-- A service-year boundary: the plan runs, or waits for the window or behind a plan that runs. -/
def execPlanYearDue (s : State) : Host.Outcome State Fault Refusal :=
  if s.log.ready = false then .next s
  else if s.thm.flashOk && s.log.plan.isNone then .next (planStart false false s)
  else .next (modLog (fun l => { l with planDue := true, planStatus := if s.thm.flashOk then l.planStatus else 3 }) s)
/-- The PLAN record has committed, or a dry run has its results (R479). -/
def execMarginPlanComplete (s : State) : Host.Outcome State Fault Refusal :=
  match s.log.plan with
  | none => .next s
  | some p =>
    if p.dry then .next (planWaiting (planDone 4 p.floor p.reserve (decide (p.floor ≠ s.thm.floor))
      (decide (p.reserve ≠ s.fec.reserve)) (modLog (fun l => { l with plan := none }) s)))
    else if s.log.queue.any (fun r => r.seq = p.seq) then .next s
    else .next (planWaiting (planApply p s))

/-! ### Export (R480) -/

/-- The export has written its records and header; `failed` names the copies whose CRC fails, and an export that a record no longer
fits ends PARTIAL (R480, log 71). -/
def execLogExportComplete (failed : List (Nat × Bool)) (s : State) : Host.Outcome State Fault Refusal :=
  match s.log.exporting with
  | none => .next s
  | some x =>
    let all := (exported x s.log).filterMap (exportCopy failed)
    let fit := all.take (x.bytes / 256 - 1)
    .next (exportEnd x fit (if fit.length < all.length then .partly else .ok) s)

/-! ### Commands (R481) -/

/-- Before READY every command returns BAD_STATE. -/
def notReady (s : State) : Check := failIf .badState (!s.log.ready)

def replyLogExport (p : Packet) (s : State) : Reply :=
  let b := p.params
  let size := u32 b 8
  checked s [notReady s, badParam 0 (u64 b 0 % 256 ≠ 0), badLen 8 (size = 0), badParam 8 (size % 256 ≠ 0 ∨ size < 512), reservedBytes b 22 2,
      failIf .busy s.log.exporting.isSome]
    (.later 0 15 3 (leBytes 1 13 ++ leBytes 15 0)
      (modLog (fun l => { l with exporting := some ⟨u64 b 0, size, u64 b 12, u16 b 20, l.seq⟩ })))
def execLogExport (p : Packet) (s : State) : Host.Outcome State Fault Refusal :=
  .next (runCommand { readCmd 0x0F01 24 with bmcDenied := true } replyLogExport p s)

def replyLogCountersGet (_p : Packet) (s : State) : Reply :=
  checked s [notReady s]
    (Reply.answer (leBytes 6 s.tim.seconds ++ leBytes 2 0 ++ s.log.life.toList.flatMap (fun n => leBytes 8 n)) s)
def execLogCountersGet (p : Packet) (s : State) : Host.Outcome State Fault Refusal :=
  .next (runCommand (readCmd 0x0F02 0) replyLogCountersGet p s)

def replyLogPlanGet (_p : Packet) (s : State) : Reply :=
  checked s [notReady s] (Reply.answer (bytesAt 0 220 ((payloads 0x53 s.log).getLastD [])) s)
def execLogPlanGet (p : Packet) (s : State) : Host.Outcome State Fault Refusal :=
  .next (runCommand (readCmd 0x0F03 0) replyLogPlanGet p s)

def replyLogPlanRun (p : Packet) (s : State) : Reply :=
  let dry := u8 p.params 0
  checked s [notReady s, badParam 0 (1 < dry), reservedBytes p.params 1 3, failIf .busy s.log.plan.isSome,
      failIf .tempWindow (decide (dry = 0) && !s.thm.flashOk)]
    (.later 0 15 1 (leBytes 6 0) (planStart (decide (dry = 1)) true))
def execLogPlanRun (p : Packet) (s : State) : Host.Outcome State Fault Refusal :=
  .next (runCommand (modCmd 0x0F04 4) replyLogPlanRun p s)

/-- The queue holds 64 records and no ROLLING one (R481). -/
def queueStuck (l : Log) : Bool :=
  let rest := l.queue.drop (match l.work with
    | .program _ _ => 1
    | _ => 0)
  decide (64 ≤ rest.length) && rest.all (fun r => decide (r.retention ≠ .rolling))
def replyLogNote (p : Packet) (s : State) : Reply :=
  let b := p.params
  let n := u8 b 0
  checked s [notReady s, badLen 0 (n = 0 ∨ 200 < n), badLen 0 (b.length ≠ 4 + n), reservedBytes b 1 3, failIf .noResource (queueStuck s.log)]
    (Reply.answer (leBytes 8 s.log.seq) (logRecord 0x0060 0 (b.drop 4) s))
def execLogNote (p : Packet) (s : State) : Host.Outcome State Fault Refusal :=
  .next (runCommand { modCmd 0x0F05 0 with lenOk := fun b => decide (4 ≤ b.length) } replyLogNote p s)

def replyLogAgeingGet (_p : Packet) (s : State) : Reply :=
  checked s [notReady s] (Reply.answer (s.log.shifts.flatMap (fun d => leBytesInt 2 d) ++ leBytes 6 s.log.shiftSeconds) s)
def execLogAgeingGet (p : Packet) (s : State) : Host.Outcome State Fault Refusal :=
  .next (runCommand (readCmd 0x0F06 0) replyLogAgeingGet p s)

def replyLogRefresh (_p : Packet) (s : State) : Reply :=
  checked s [notReady s, failIf .busy (s.log.refresh.isSome || hasDeferred 0x0F04 0 s), failIf .tempWindow (!s.thm.flashOk)]
    (.later 0 15 4 (leBytes 1 13 ++ leBytes 11 0) (modLog (fun l => { l with refresh := some ⟨true⟩ })))
def execLogRefresh (p : Packet) (s : State) : Host.Outcome State Fault Refusal :=
  .next (runCommand (modCmd 0x0F07 0) replyLogRefresh p s)

end Sys2Proof.Machine
end

