-- ==== Sys2Proof/Machine/MemoryIntegrity.lean ====
section
/-! DEFINITION. The meanings of the memory-integrity rows of group 0x0E (chapter 15). -/

namespace Sys2Proof.Machine

/-! ### Retirement of tiles and banks (R449, R450) -/

/-- Write again the CINDER records from an entry on, up to the old length (R449). -/
def relogCinders (first oldLen : Nat) (s : State) : State :=
  ((List.range ((oldLen + 12) / 13)).filter (fun i => first / 13 ≤ i)).foldl (fun u i => logCinder (13 * i) u) s

/-- A bank whose 256th tile retires: its tile entries become one bank entry (R449, R450). -/
def retireWpBank (b cause : Nat) (s : State) : State :=
  let old := s.mi.cinders
  let mine := fun c : Cinder => decide (c.cls = 3 ∧ c.kind = 1 ∧ c.inst = b)
  let first := (old.findIdx mine)
  let s1 := relogCinders first old.length { s with mi := { s.mi with cinders := old.filter (fun c => !mine c) } }
  let fits := decide (s1.mi.cinders.length < 8192)
  let s2 := retireBank b (addCinder ⟨3, 2, b, b, s.tim.seconds, cause, false⟩ s1)
  retiredEvent 3 2 b b (activeTiles s2.pkt) fits s2

/-- A tile is retired: at once when free, else when its frame is dequeued (R320, R450). -/
def retireWpTile (t cause : Nat) (s : State) : State :=
  if (cinderTiles s).contains t then s
  else
    let fits := decide (s.mi.cinders.length < 8192)
    let s1 := addCinder ⟨3, 1, t % 64, t, s.tim.seconds, cause, false⟩ (retireTile t s)
    let s2 := retiredEvent 3 1 (t % 64) t (activeTiles s1.pkt) fits s1
    if 256 ≤ ((cinderTiles s2).filter (fun x => x % 64 = t % 64)).length ∧ bankActive s2.pkt (t % 64) = true then
      retireWpBank (t % 64) 3 s2
    else s2

/-- VALID and POISON of the eight rows of a tile are cleared (R450). -/
def clearTile (t : Nat) (s : State) : State :=
  (List.range 8).foldl (fun u i => clearPoison 3 (t % 64) (t / 64 * 8 + i) u)
    { s with mi := { s.mi with tiles := s.mi.tiles.filter (fun x => x ≠ t) } }

/-! ### Errors (R442 to R444) -/

/-- The class, the instance and its memory exist and are powered (R455, R457). -/
def rowLive (k inst : Nat) (s : State) : Bool := decide (inst < classInstances k) && classPowered k s
/-- A row of the Woodpile that has not been written: reading it raises no error (R440). -/
def unwritten (k inst row : Nat) (s : State) : Bool := decide (k = 3) && !rowValid k inst row s
/-- A mode 1 flip is pending on the row (R453). -/
def flipPending (k inst row : Nat) (s : State) : Bool := (s.memClass k).flips.contains (inst, row)
def useFlip (k inst row : Nat) (s : State) : State :=
  modClass k (fun c => { c with flips := c.flips.filter (fun x => x ≠ (inst, row)) }) s
/-- A running range scrub of the class covers the row (R447). -/
def scrubCovers (k inst row : Nat) (s : State) : Bool :=
  match (s.memClass k).range with
  | some x => decide (x.inst = inst ∧ x.first ≤ row ∧ row < x.first + x.count)
  | none => false
/-- Count in the running range scrub that found it. -/
def countScrub (k inst row : Nat) (scrub : Bool) (f : Scrub → Scrub) (s : State) : State :=
  if scrub && scrubCovers k inst row s then modClass k (fun c => { c with range := c.range.map f }) s else s

/-- A stuck bit (R442). -/
def stuckRow (k inst row : Nat) (s : State) : State :=
  if k ≤ 1 then miSummary k 0 1 row s
  else if k = 3 then retireWpTile (tileOf inst row) 1 s
  else retireRow k inst row 1 s

/-- What was found is an error: a bit of a written row, or copies of VALID or POISON that disagree (R439, R440). -/
def isError (found : CeFound) (k inst row : Nat) (s : State) : Bool :=
  match found with
  | .bit _ => !unwritten k inst row s
  | .copies v p _ => (majority v.1 v.2.1 v.2.2).2 || (majority p.1 p.2.1 p.2.2).2
/-- The error is still there when the row is read again (R442). -/
def isStuck : CeFound → Bool
  | .bit b => b
  | .copies _ _ b => b
/-- A correctable error: corrected, written back, re-read (R439, R442, R453). -/
def execMemoryCorrectableError (cls : Fin 14) (inst row : Nat) (scrub : Bool) (found : CeFound) (s : State) :
    Host.Outcome State Fault Refusal :=
  let k := cls.val
  if !(rowLive k inst s && isError found k inst row s) then .next s
  else
    let injected := flipPending k inst row s
    let s1 := countScrub k inst row scrub (fun x => { x with corrected := x.corrected + 1 })
      (countCe k inst row (useFlip k inst row (setValid k inst row s)))
    if isStuck found && !injected then
      .next (countScrub k inst row scrub
        (fun x => { x with retired := x.retired + b2n (decide (k = 3) || decide (sparesLeft k inst s1 ≠ 0)) }) (stuckRow k inst row s1))
    else .next s1

/-- What a row of the class can hold (R438); an AC takes a bus error only when it reads the row itself. -/
def classTarget (k : Nat) (scrub : Bool) (target : UeTarget) : UeTarget :=
  let fits := match target with
    | .unused => true
    | .codePage => decide (k = 2)
    | .dataRow _ => decide (k = 2) && !scrub
    | .descriptor _ | .queueState _ => decide (k = 4)
    | .entry _ => decide (k = 5)
    | .coefficient _ _ | .tempBlock _ _ => decide (k = 6)
    | .copy _ _ => decide (k = 7) || decide (k = 9)
    | .messages _ | .llr _ => decide (k = 8)
    | .epoch _ _ | .job _ => decide (k = 10)
    | .lane _ _ => decide (k = 11)
    | .fir _ | .housekeeping _ _ => decide (k = 12)
    | .command _ | .event => decide (k = 13)
  if fits then target else .unused
/-- RESPONSE of MI_UNCORRECTABLE (R458). -/
def ueCode (k inst row : Nat) (target : UeTarget) (s : State) : Nat :=
  if k ≤ 1 then 4
  else if k = 3 then (if (tilesInUse s.pkt).contains (tileOf inst row) then 0 else 7)
  else match target with
    | .unused | .dataRow _ | .descriptor _ => 0
    | .codePage => 3
    | .queueState _ => 6
    | .copy both _ => if both then 1 else 2
    | .messages _ | .llr _ | .job _ | .command _ | .event => 5
    | .entry _ | .coefficient _ _ | .tempBlock _ _ | .epoch _ _ | .lane _ _ | .fir _ | .housekeeping _ _ => 1

/-- The row stays poisoned until its unit is rebuilt; what the response or the next use writes afresh, and a table that both copies
have lost, does not (R441, R443, R444). -/
def keepsPoison (k : Nat) (target : UeTarget) : Bool :=
  if k ≤ 1 ∨ k = 3 then true
  else match target with
    | .unused | .dataRow _ | .codePage | .entry _ | .epoch _ _ | .lane _ _ | .fir _ | .housekeeping _ _ | .coefficient _ _
    | .tempBlock _ _ | .queueState _ | .descriptor _ => true
    | .copy both _ => !both || decide (k = 9)
    | .messages _ | .llr _ | .job _ | .command _ | .event => false
/-- What a poisoned row waits for. -/
def awaits (k : Nat) (target : UeTarget) : Option UeTarget :=
  match target with
  | .unused => none
  | t => if k ≤ 1 ∨ k = 3 then none else some t

/-- A Woodpile row: the frame drops at dequeue, a free tile is reinitialised and tested (R338, R438, R450). -/
def tileError (t : Nat) (s : State) : State :=
  if (tilesInUse s.pkt).contains t then
    (if s.pkt.poison.contains t then s else { s with pkt := { s.pkt with poison := t :: s.pkt.poison } })
  else if s.pkt.marching.contains t ∨ s.pkt.retired.contains t then s
  else { s with pkt := { s.pkt with marching := s.pkt.marching ++ [t] } }
/-- A job ends INTEGRITY (R302). -/
def jobError (id : Nat) (s : State) : State :=
  match s.job id with
  | some j => jobDone j .integrity j.processed [] s
  | none => s
/-- A command in its staging buffer completes INTEGRITY; an event there is lost (R76, R438). -/
def stagedCommand (chan : Nat) (s : State) : State :=
  match s.hif.inflight.find? (fun f => f.chan = chan) with
  | some f => finishWaiting f.key .integrity [] s
  | none => s
def stagedEvent (s : State) : State :=
  let r := s.hif.events
  let r' := if r.enabled then r.lose s.hif.eventSeq.toNat else { r with lost := satAdd 0xFFFFFFFF r.lost 1 }
  reportLost { s with hif := { s.hif with events := r', eventSeq := s.hif.eventSeq + 1 } }

/-- The response of the class (R438). -/
def ueEffect (k inst row : Nat) (target : UeTarget) (s : State) : State :=
  if k = 0 then enterLockout 4 row s
  else if k = 1 then enterLockout 5 row s
  else if k = 3 then tileError (tileOf inst row) s
  else match target with
    | .unused => s
    | .dataRow ac => { s with dev := { s.dev with acStopped := vecMod s.dev.acStopped ac (fun _ => true) } }
    | .codePage => { s with mi := { s.mi with reloading := some row } }
    | .descriptor id => { s with pkt := { s.pkt with frames := s.pkt.frames.map (fun f => if f.id = id then { f with descBad := true } else f) } }
    | .queueState sub => flushFrames (fun f => f.sub = sub) countCorrupt s
    | .entry e => pktRefresh { s with pkt := { s.pkt with broken := if s.pkt.broken.contains e then s.pkt.broken else e :: s.pkt.broken } }
    | .coefficient a n => rebuildCoef inst a n s
    | .tempBlock set conv => restoreBlock inst set conv s
    | .copy both _ => if k = 7 ∧ both = true ∧ (modePowered s.dev.mode || decide (s.dev.mode = .calibrate)) = true then startEngineReset inst s else pktRefresh (plkRefresh s)
    | .messages c => coreMemoryError c s
    | .llr b => poisonBlock b s
    | .epoch t r => epochFault t r s
    | .job id => jobError id s
    | .lane _ _ => s
    | .fir _ => s
    | .housekeeping k2 ch => modSar k2 (fun x => { x with rebuilding := if x.rebuilding.contains ch then x.rebuilding else ch :: x.rebuilding }) s
    | .command chan => stagedCommand chan s
    | .event => stagedEvent s

/-- An uncorrectable error: poisoned, reported once, and the response of the class (R443, R444, R446). -/
def execMemoryUncorrectableError (cls : Fin 14) (inst row : Nat) (scrub : Bool) (target : UeTarget) (s : State) :
    Host.Outcome State Fault Refusal :=
  let k := cls.val
  let t := classTarget k scrub target
  if !rowLive k inst s || unwritten k inst row s then .next s
  else if (s.memClass k).poisoned.contains (inst, row) then
    if scrub then .next s
    else .next (ueEffect k inst row t { s with mi := { s.mi with poisonRd := satAdd 0xFFFFFFFF s.mi.poisonRd 1 } })
  else
    let injected := flipPending k inst row s
    let s1 := countScrub k inst row scrub (fun x => { x with fresh := x.fresh + 1 }) (useFlip k inst row (setValid k inst row s))
    let s2 := if keepsPoison k t then poisonRow k inst row (awaits k t) s1 else s1
    .next (ueEffect k inst row t (reportUe k inst row injected scrub (ueCode k inst row t s) s2))

/-! ### Rebuilds (R340, R409, R438, R444) -/

/-- Channels of an engine restart with the reloaded table (R387, R409). -/
def firReloaded (e : Nat) (s : State) : State :=
  (List.range 8).foldl (fun u i => modChan (8 * e + i) (fun x => { x with running := false }) u) s
/-- The rebuilt gate list or configuration of a port brings its gates to the STATES of the entry in force (R340). -/
def gatesBack (e : ConfigEntry) (s : State) : State :=
  let back := fun q => if gateBroken q s then s else modPort q (fun x => { x with gates := { x.gates with states := entryStates x.gates } }) s
  match e with
  | .gate q => back q
  | .port q => back q
  | _ => s
/-- What the end of a rebuild gives back. -/
def rebuiltEffect (target : UeTarget) (s : State) : State :=
  match target with
  | .entry e => pktRefresh (gatesBack e { s with pkt := { s.pkt with broken := s.pkt.broken.filter (fun x => x ≠ e) } })
  | .fir e => firReloaded e s
  | .housekeeping k ch => modSar k (fun x => { x with rebuilding := x.rebuilding.filter (fun c => c ≠ ch) }) s
  | .copy _ _ => pktRefresh (plkRefresh s)
  | _ => s
/-- A configuration entry, a copy, a table or a lane's settings have been rebuilt. -/
def execConfigEntryRebuilt (target : UeTarget) (faulty : Bool) (s : State) : Host.Outcome State Fault Refusal :=
  if s.mi.awaiting.any (fun a => a.1 = target) then .next (rebuiltEffect target (rebuilt target faulty s)) else .next s

/-- A code page has been fetched and checked, or the ACs restart as for a missed watchdog (R444). -/
def execAcmPageReloadComplete (ok : Bool) (s : State) : Host.Outcome State Fault Refusal :=
  if s.mi.reloading.isNone then .next s
  else
    let s1 := rebuilt .codePage false { s with mi := { s.mi with reloading := none } }
    if ok || !resetAllowed s1.dev.mode then .next s1 else .next (startAppReset 3 false s1)

/-- The march test of a freed tile has ended (R450). -/
def execWpTileMarchComplete (tile : Nat) (passed : Bool) (s : State) : Host.Outcome State Fault Refusal :=
  if !s.pkt.marching.contains tile then .next s
  else
    let s1 := clearTile tile { s with pkt := { s.pkt with marching := s.pkt.marching.filter (fun x => x ≠ tile) } }
    if passed then .next s1 else .next (retireWpTile tile 0 s1)

/-! ### Patrol and range scrubs (R445, R447, R448) -/

/-- The patrol reads its next row, and starts again after the last row of the last instance. -/
def execMiPatrolRead (cls : Fin 14) (s : State) : Host.Outcome State Fault Refusal :=
  let k := cls.val
  if !classPowered k s then .next s
  else
    .next (modClass k (fun c =>
      if c.patrolPos + 1 < classRows k then { c with patrolPos := c.patrolPos + 1 }
      else if c.patrolInst + 1 < classInstances k then { c with patrolPos := 0, patrolInst := c.patrolInst + 1 }
      else { c with patrolPos := 0, patrolInst := 0, swept := true, sweepAge := 0 }) s)

/-- A range scrub reads its last row (R447, R458). -/
def execScrubRangeComplete (cls : Fin 14) (unwritten : Nat) (s : State) : Host.Outcome State Fault Refusal :=
  let k := cls.val
  match (s.memClass k).range with
  | none => .next s
  | some x =>
    let n := unwrittenIn k x x.count unwritten s
    .next (completeOr 0x0E01 k .ok 14 4
      (scrubSummary k .ok x (x.count - n) n (poisonedIn (s.memClass k) x x.count)
        ((s.tim.now - x.startPs) / 1000000))
      (modClass k (fun c => { c with range := none }) s))

def replyMiScrubRange (p : Packet) (s : State) : Reply :=
  let b := p.params
  let k := u8 b 0
  let x : Scrub := ⟨u16 b 2, u32 b 4, u32 b 8, s.tim.now, 0, 0, 0⟩
  checked s [badParam 0 (13 < k), reservedBytes b 1 1, badParam 2 (classInstances k ≤ x.inst), badParam 4 (classRows k < x.first + x.count)]
    (if x.count = 0 then Reply.answer (scrubSummary k .ok x 0 0 0 0) s
     else checked s [failIf .badState (!classPowered k s),
        failIf .busy ((s.memClass k).range.isSome || decide (4 ≤ ((List.range 14).filter (fun j => (s.memClass j).range.isSome)).length))]
      (.later k 14 4 (scrubSummary k .aborted x 0 0 0 0) (modClass k (fun c => { c with range := some x }))))
def execMiScrubRange (p : Packet) (s : State) : Host.Outcome State Fault Refusal :=
  .next (runCommand (modCmd 0x0E01 12) replyMiScrubRange p s)

def replyMiPatrolSet (p : Packet) (s : State) : Reply :=
  let n := u8 p.params 0
  checked s [badLen 0 (n = 0), badParam 0 (168 < n), reservedBytes p.params 1 3] (Reply.ok { s with mi := { s.mi with periodH := n } })
def execMiPatrolSet (p : Packet) (s : State) : Host.Outcome State Fault Refusal :=
  .next (runCommand (modCmd 0x0E02 4) replyMiPatrolSet p s)

/-! ### Flip-mask tests (R452 to R454) -/

/-- Bits set in the two masks. -/
def maskBits (dataMask checkMask : Nat) : Nat :=
  ((List.range 64).filter (fun i => bit dataMask i)).length + ((List.range 8).filter (fun i => bit checkMask i)).length
/-- The pattern of the test row. -/
def testPattern : Nat := 0x0123456789ABCDEF

/-- Mode 0: the checker of the test row; a checker that fails its test is the hardware's, a free value. -/
def flipMode0 (k dataMask checkMask : Nat) (s : State) : Reply :=
  let want := maskBits dataMask checkMask
  let f := takeFree s
  let got := if f.1 < 3 then f.1 else want
  let pass := decide (got = want)
  let syn := Config.miSyndrome dataMask checkMask % 256
  let data := if pass && decide (want ≤ 1) then testPattern else testPattern ^^^ dataMask
  let s1 := if pass then f.2
    else logRecord 0x0041 0 (leBytes 1 k ++ leBytes 1 3 ++ leBytes 1 want ++ leBytes 1 got ++ leBytes 4 syn)
      (emit 14 5 (leBytes 1 k ++ leBytes 1 want ++ leBytes 1 got ++ leBytes 1 syn)
        { f.2 with mi := { f.2.mi with checkerFault := f.2.mi.checkerFault ||| BitVec.ofNat 14 (2 ^ k) } })
  Reply.answer (leBytes 1 got ++ leBytes 1 want ++ leBytes 1 syn ++ leBytes 1 (b2n pass) ++ leBytes 8 data) s1

/-- Mode 1: a live row, which must have been written: outside the Woodpile, one known to be or a free value. -/
def flipMode1 (k inst row : Nat) (s : State) : Reply :=
  let valid := rowValid k inst row s || (decide (k ≠ 3) && Config.miRowValid k inst row s.freeCount)
  let s1 := { s with freeCount := s.freeCount + 1 }
  if valid then Reply.ok (modClass k (fun c => { c with flips := (inst, row) :: c.flips.filter (fun x => x ≠ (inst, row)) }) s1)
  else Reply.fail .badState s1
/-- Mode 2: the next tiles admitted for an egress port. -/
def flipMode2 (q n : Nat) (s : State) : Reply :=
  Reply.ok { s with mi := { s.mi with tileFlips := tabSet 0 s.mi.tileFlips q (tabGet 0 s.mi.tileFlips q + n) } }

def replyMiFlipTest (p : Packet) (s : State) : Reply :=
  let b := p.params
  let k := u8 b 0
  let mode := u8 b 1
  let inst := u16 b 2
  let row := u32 b 4
  let dm := u64 b 8
  let cm := u8 b 16
  let m := s.dev.mode
  checked s [failIf .badState (if mode = 0 then !(decide (m = .standby) || ladderActive m) else decide (mode ≤ 2 ∧ m ≠ .maintenance)),
      badParam 0 (13 < k), badParam 1 (2 < mode), badParam 1 (mode = 1 ∧ k < 3), badParam 1 (mode = 2 ∧ k ≠ 3),
      badParam 2 (if mode = 2 then 287 < inst else classInstances k ≤ inst), badParam 4 (mode = 1 ∧ classRows k ≤ row),
      badLen 4 (mode = 2 ∧ row = 0), badParam 4 (mode = 2 ∧ 16 < row), badParam 8 (mode = 0 ∧ 2 < maskBits dm cm), reservedBytes b 17 3,
      badLen 20 (mode = 2 ∧ u32 b 20 = 0),
      failIf .badState (!classPowered k s), failIf .badState (decide (mode = 2) && !portExists inst s)]
    (if mode = 0 then flipMode0 k dm cm s else if mode = 1 then flipMode1 k inst row s else flipMode2 inst row s)
def execMiFlipTest (p : Packet) (s : State) : Host.Outcome State Fault Refusal :=
  .next (runCommand (modCmd 0x0E03 24) replyMiFlipTest p s)

/-! ### Reads (R457) -/

def replyMiCinderRead (p : Packet) (s : State) : Reply :=
  let first := u16 p.params 0
  let want := u16 p.params 2
  let held := s.mi.cinders.length
  let got := (s.mi.cinders.drop first).take want
  checked s [badParam 0 (held < first ∨ (first = held ∧ held ≠ 0)),
      badLen 2 (decide (want = 0) || decide ((if fromBmc p then 13 else 253) < want))]
    (Reply.answer (leBytes 2 held ++ leBytes 2 got.length ++ leBytes 4 0 ++ got.flatMap (fun c => c.bytes)) s)
def execMiCinderRead (p : Packet) (s : State) : Host.Outcome State Fault Refusal :=
  .next (runCommand (readCmd 0x0E04 4) replyMiCinderRead p s)

/-- MI_CLASS_STATUS (R459). -/
def classStatus (k : Nat) (s : State) : Nat :=
  let c := s.memClass k
  packBits [classPowered k s, c.swept, spareLow k s, spareOut k s, c.range.isSome,
    decide (c.flips ≠ []) || (decide (k = 3) && decide (s.mi.tileFlips ≠ []))]
/-- The eight registers of a class block, in offset order (R459). -/
def classWords (k : Nat) (s : State) : List Nat :=
  let c := s.memClass k
  [classStatus k s, c.ceCnt, c.ueCnt, c.poisoned.length, retiredCount k s, min 65535 (leastSpares k s), c.patrolPos, c.sweepAge]
def replyMiClassGet (p : Packet) (s : State) : Reply :=
  let k := u8 p.params 0
  checked s [badParam 0 (13 < k), reservedBytes p.params 1 3]
    (Reply.answer ((classWords k s).flatMap (fun w => leBytes 4 w) ++ leBytes 4 (classRows k) ++ leBytes 4 (classInstances k)) s)
def execMiClassGet (p : Packet) (s : State) : Host.Outcome State Fault Refusal :=
  .next (runCommand (readCmd 0x0E05 4) replyMiClassGet p s)

end Sys2Proof.Machine
end

