-- ==== Sys2Proof/Machine/Monitor.lean ====
section
/-! DEFINITION. The meanings of the monitor rows of group 0x0C (chapter 13). -/

namespace Sys2Proof.Machine

/-- R389: the envelope after a sample of magnitude `a`. -/
def nextEnv (e a attack release : Nat) : Nat :=
  if e < a then e + max 1 ((a - e) / 2 ^ attack)
  else if a < e then e - max 1 ((e - a) / 2 ^ release)
  else e

/-- R389: ENV_ABOVE after a sample. -/
def nextAbove (above : Bool) (e thr hyst : Nat) : Bool :=
  if above then !decide (e + hyst < thr) else decide (thr ≤ e)

/-- A sample of magnitude `a` enters a window detector. -/
def Detector.push (d : Detector) (a : Nat) (s : State) : Detector :=
  { d with
    count := d.count + 1
    squares := d.squares + a * a
    top := if d.count = 0 ∨ d.top < a then a else d.top
    topSec := if d.count = 0 ∨ d.top < a then s.tim.seconds else d.topSec
    topNs := if d.count = 0 ∨ d.top < a then s.tim.nanoseconds else d.topNs }

/-- The end of a window updates the detector's register as a whole (R388); RMS is rounded down. -/
def closePeak (c : Nat) (s : State) : State :=
  modChan c (fun x => { x with peak := x.peakWin.top, peakSec := x.peakWin.topSec, peakNs := x.peakWin.topNs, peakWin := Detector.empty }) s
def closeRms (c : Nat) (s : State) : State :=
  modChan c (fun x => { x with rms := Nat.sqrt (x.rmsWin.squares / x.rmsWin.count), rmsWin := Detector.empty }) s
/-- A window that is complete closes before another sample enters. -/
def closeFull (c : Nat) (s : State) : State :=
  let s1 := if 2 ^ peakExpOf c s ≤ (s.chan c).peakWin.count then closePeak c s else s
  if 2 ^ rmsExpOf c s1 ≤ (s1.chan c).rmsWin.count then closeRms c s1 else s1

/-- Send the fast-SOP event of a channel to its engine (R393). -/
def sendFsop (e : Nat) (s : State) : State := fastRequest e 0 (modFsop e (fun x => { x with sent := satAdd 0xFFFF x.sent 1 }) s)

/-- MON_ENV_CROSS, at most once per channel in 100 ms, with the state of that time (R390, R411). -/
def envCross (c : Nat) (s : State) : State :=
  let x := s.chan c
  let free := match x.lastCross with
    | some t => decide (t + pace100 ≤ s.tim.now)
    | none => true
  if !x.crossDue || !x.force.envEvt || isFsop c s || !free then s
  else
    emit 12 1 (leBytes 1 c ++ leBytes 1 (b2n x.above) ++ leBytes 2 0 ++ leBytes 4 x.env ++ leBytes 6 s.tim.seconds ++ leBytes 2 0
        ++ leBytes 4 s.tim.nanoseconds)
      (modChan c (fun y => { y with crossDue := false, lastCross := some s.tim.now }) s)

/-- The timestamp of a sample that leaves the chain now, less G input samples (R386). -/
def stampOf (c : Nat) (s : State) : Nat := s.tim.tod - delay2 (s.chan c).chain * 10240000000000 / 51

/-- A sample joins the record being filled (R405); a full record is written first. -/
def addSample (c : Nat) (v : Int) (sat : Bool) (s : State) : State :=
  if !dmaOn c s then s
  else
    let s1 := if 12 ≤ (s.chan c).samples.length then flushRecord c s else s
    let at' := stampOf c s1
    modChan c (fun x => { x with
      samples := x.samples ++ [v]
      satRecord := x.satRecord || sat
      stampSec := if x.samples = [] then at' / unitsPerSecond else x.stampSec
      stampNs := if x.samples = [] then at' / unitsPerNs % 1000000000 else x.stampNs }) s1

/-- An output sample of a channel that delivers: detectors, envelope, ENV_ABOVE, the fast-SOP event and the record (R384, R388 to
R390, R393, R405). -/
def outputSample (c : Nat) (y : Int) (s : State) : State :=
    let v := satSample y
    let a := v.natAbs
    let sat := decide (v ≠ y)
    let s1 := closeFull c s
    let x := s1.chan c
    let e := nextEnv x.env a (attackOf c s1) (releaseOf c s1)
    let above := nextAbove x.above e (thrOf c s1) (hystOf c s1)
    let s2 := modChan c (fun z => { z with
      env := e, above := above, crossDue := z.crossDue || (!isFsop c s1 && z.force.envEvt && decide (above ≠ z.above))
      sat := satAdd 0xFFFFFFFF z.sat (b2n sat)
      peakWin := z.peakWin.push a s1, rmsWin := z.rmsWin.push a s1 }) s1
    let s3 := if isFsop c s2 && above && !x.above then sendFsop (c / 8) s2 else s2
    addSample c v sat (envCross c s3)
/-- MON_OUTPUT_SAMPLE: the D inputs of one output sample pass the chain of a channel that runs; one that is filling delivers nothing
(R383, R384, R387). -/
def execMonOutputSample (chan : Fin 16) (inputs : List Int) (s : State) : Host.Outcome State Fault Refusal :=
  let c := chan.val
  let x := s.chan c
  if stopCause c s ≠ 0 ∨ x.running = false then .next s
  else
    let r := x.filter.pass x.chain inputs
    let s1 := modChan c (fun z => { z with filter := r.2 }) s
    .next (if x.filling then s1 else outputSample c r.1 s1)

/-- MON_FSOP_REPEAT: while ENV_ABOVE stays set a further event goes out every 1 ms (R393). -/
def execMonFsopRepeat (engine : Fin 2) (s : State) : Host.Outcome State Fault Refusal :=
  let c := 8 * engine.val + (s.fsop engine.val).chan
  .next (if (s.chan c).above && delivers c s then sendFsop engine.val s else s)

/-- MON_CHAIN_FILLED: FILLING clears and output begins (R387). -/
def execMonChainFilled (chan : Fin 16) (s : State) : Host.Outcome State Fault Refusal :=
  .next (modChan chan.val (fun x => { x with filling := false }) s)

/-- MON_DETECTOR_WINDOW_END: a window of 2^EXP samples has ended (R388). -/
def execMonDetectorWindowEnd (chan : Fin 16) (isRms : Bool) (s : State) : Host.Outcome State Fault Refusal :=
  let c := chan.val
  let x := s.chan c
  if isRms then .next (if 2 ^ rmsExpOf c s ≤ x.rmsWin.count then closeRms c s else s)
  else .next (if 2 ^ peakExpOf c s ≤ x.peakWin.count then closePeak c s else s)

/-- MON_RECORD_WRITE: twelve samples make a record (R405, R407). -/
def execMonRecordWrite (chan : Fin 16) (s : State) : Host.Outcome State Fault Refusal :=
  .next (if 12 ≤ (s.chan chan.val).samples.length then flushRecord chan.val s else s)

/-- MON_CH_SET as sent (R410). -/
def parseChan (b : List Byte) : ChanCfg where
  en := bit (u8 b 1) 0
  dmaEn := bit (u8 b 1) 1
  envEvt := bit (u8 b 1) 2
  source := u8 b 2
  n := u8 b 3
  dexp := u8 b 4
  m := u8 b 5
  phase := u16 b 6
  bin := u16 b 8
  attack := u8 b 10
  release := u8 b 11
  pkExp := u8 b 12
  rmsExp := u8 b 13
  thr := u32 b 16
  hyst := u32 b 20

/-- The DMA load with a channel's configuration replaced (R407). -/
def loadWith (c : Nat) (g : ChanCfg) (s : State) : Nat := monLoad (modChan c (fun x => { x with stored := some g }) s)
/-- 4,000 MB/s in units of 1/4,096 (R407). -/
def loadLimit : Nat := 4000 * 4096

/-- A configuration is stored: one that changes the chain of a channel that runs waits whole for the next processing block, another
is in force at once (R387). -/
def storeChan (c : Nat) (g : ChanCfg) (s : State) : State :=
  let x := s.chan c
  let s1 := modChan c (fun y => { y with stored := some g }) s
  if x.running && decide (g.chainPart ≠ x.cfg.chainPart) then s1 else takeDetectors c s1

/-- MON_CH_SET (R387, R391, R407, R410). -/
def replyMonChSet (p : Packet) (s : State) : Reply :=
  let b := p.params
  let c := u8 b 0
  let g := parseChan b
  checked s [badParam 0 (15 < c), badParam 1 (7 < u8 b 1), badParam 2 (10 < g.source), badParam 3 (g.n < 3 ∨ 5 < g.n),
      badParam 4 (g.dexp < 3 ∨ 12 < g.dexp), badParam 5 (g.m < 1 ∨ 2 < g.m), badParam 6 (4095 < g.phase),
      badParam 8 (511 < g.bin ∨ (g.bin ≠ 0 ∧ g.source ≠ 5 ∧ g.source ≠ 6)), badParam 10 (15 < g.attack),
      badParam 11 (15 < g.release), badParam 12 (20 < g.pkExp), badParam 13 (20 < g.rmsExp), reservedBytes b 14 2,
      badParam 20 (g.thr < g.hyst), failIf .badState (isFsop c s), failIf .noResource (loadLimit < loadWith c g s)]
    (.ok (storeChan c g s))
def execMonChSet (p : Packet) (s : State) : Host.Outcome State Fault Refusal :=
  .next (runCommand (modCmd 0x0C01 24) replyMonChSet p s)

/-- The DMA load once another channel is an engine's fast-SOP channel (R391, R407). -/
def loadFsop (e k : Nat) (s : State) : Nat := monLoad (modFsop e (fun x => { x with chan := k }) s)

/-- MON_FSOP_SET: in force at the next block (R391, R410). -/
def replyMonFsopSet (p : Packet) (s : State) : Reply :=
  let b := p.params
  let e := u8 b 0
  let k := u8 b 1
  checked s [badParam 0 (1 < e), badParam 1 (7 < k), badLen 2 (u16 b 2 = 0), badParam 2 (10000 < u16 b 2),
      badParam 4 (u16 b 2 ≤ u16 b 4), badParam 6 (15 < u8 b 6), reservedBytes b 7 1,
      failIf .noResource (loadLimit < loadFsop e k s)]
    (let s1 := modFsop e (fun x => { x with next := some ⟨k, u16 b 2, u16 b 4, u8 b 6⟩ }) s
     -- In STANDBY the command is stored: no processing block runs.
     .ok (if (s.engine e).state = .off then modFsop e Fsop.put s1 else s1))
def execMonFsopSet (p : Packet) (s : State) : Host.Outcome State Fault Refusal :=
  .next (runCommand (modCmd 0x0C02 8) replyMonFsopSet p s)

/-- MON_CH_STATUS (R412). -/
def chanStatus (c : Nat) (s : State) : Nat :=
  let x := s.chan c
  let k := stopCause c s
  x.chain.dexp + 2 ^ 4 * b2n (decide (k ≠ 0)) + 2 ^ 5 * k + 2 ^ 7 * b2n x.above + 2 ^ 8 * b2n x.filling

/-- MON_DET_GET (R410). -/
def replyMonDetGet (p : Packet) (s : State) : Reply :=
  let b := p.params
  let x := s.chan (u8 b 0)
  checked s [badParam 0 (15 < u8 b 0), reservedBytes b 1 3]
    (.answer (leBytes 4 x.peak ++ leBytes 6 x.peakSec ++ leBytes 2 0 ++ leBytes 4 x.peakNs ++ leBytes 4 x.rms ++ leBytes 4 x.env
      ++ leBytes 4 (chanStatus (u8 b 0) s) ++ leBytes 4 0) s)
def execMonDetGet (p : Packet) (s : State) : Host.Outcome State Fault Refusal :=
  .next (runCommand (readCmd 0x0C03 4) replyMonDetGet p s)

/-- A power of two from 16 to 65,536 (R404). -/
def ringSizeOk (n : Nat) : Bool := (List.range 13).any (fun k => decide (n = 2 ^ (k + 4)))

/-- MON_RING_SET (R404, R410). -/
def replyMonRingSet (p : Packet) (s : State) : Reply :=
  let b := p.params
  let n := u8 b 0
  let en := bit (u8 b 1) 0
  let base := u64 b 4
  let size := u32 b 12
  checked s [badParam 0 (17 < n), badParam 1 (1 < u8 b 1), reservedBytes b 2 2, badParam 4 (base % 64 ≠ 0),
      badLen 12 (en && decide (size = 0)), badParam 12 (en && !ringSizeOk size)]
    (.ok (modRing n (fun _ => if en then ⟨true, BitVec.ofNat 64 base, size, 0, 0, true, false, 0, []⟩ else DmaRing.reset) s))
def execMonRingSet (p : Packet) (s : State) : Host.Outcome State Fault Refusal :=
  .next (runCommand (modCmd 0x0C04 16) replyMonRingSet p s)

/-- DMA_RING_HEAD_WRITE: the host frees entries; a value at or beyond the ring size is ignored (R106, R404). -/
def execDmaRingHeadWrite (ring : RingId) (value : Word) (s : State) : Host.Outcome State Fault Refusal :=
  let v := value.toNat
  let put := fun n => if v < (s.ring n).size then modRing n (fun r => { r with head := v }) s else s
  match ring with
  | .ptp => .next (if v < s.tim.ring.size then { s with tim := { s.tim with ring := { s.tim.ring with head := v } } } else s)
  | .monitor c => .next (put c.val)
  | .hka k => .next (put (16 + k.val))

end Sys2Proof.Machine
end

