-- ==== Sys2Proof/Machine/Thermal.lean ====
section
/-! DEFINITION. The meanings of the thermal and power rows of group 0x0D (chapter 14). -/

namespace Sys2Proof.Machine

/-! ### The sample (R415 to R429) -/

/-- Twice the median of the raw readings of a sensor's zone; TS 72 and 73 use Z8 (R415). -/
def rawMedian (rs : List SensorIn) (n : Nat) : Int :=
  doubledMedian ((zoneSensors (min 8 (zoneOf n))).map (fun m => (rs.getD m ⟨0, 0⟩).temp))

/-- All sensors after one sample: validity first, then the reading in force (R415, R416). -/
def takeReadings (rs : List SensorIn) (s : State) : State :=
  let s1 := modThm (fun t => { t with
    sensors := vecMap (fun n x => x.sample (rs.getD n ⟨0, 0⟩) (rawMedian rs n)) t.sensors }) s
  modThm (fun t => { t with sensors := vecMap (fun n x => { x with reading := readingOf s1 n }) t.sensors }) s1

/-- THM_SENSOR_INVALID for every sensor whose validity changed (R415, R436). -/
def invalidEvents (old : State) (s : State) : State :=
  (List.range 74).foldl (fun u n =>
    let x := u.sensor n
    if x.invalid = (old.sensor n).invalid then u
    else emit 13 2 (leBytes 1 n ++ leBytes 1 (b2n x.invalid) ++ leBytes 1 x.cause ++ leBytes 1 (zoneOf n)
      ++ leBytes 2 (temp16 x.reading)) u) s

/-- THM_ZONE_DEGRADED and the DEGRADED bits (R417). -/
def degradedStep (s : State) : State :=
  (List.range 10).foldl (fun u z =>
    let d := zoneDegraded u z
    if d = u.thm.degraded.getLsbD z then u
    else emit 13 3 (leBytes 1 z ++ leBytes 1 (b2n d) ++ leBytes 1 (invalidIn u z))
      (modThm (fun t => { t with degraded := t.degraded ^^^ BitVec.ofNat 10 (2 ^ z) }) u)) s

/-- The hottest reading and the cadence (R418, R419). -/
def cadenceStep (s : State) : State :=
  let h := (hottestOf s).getD (s.thm.hottest, s.thm.hotSensor)
  let start := 16 * (s.thm.thrStart : Int)
  modThm (fun t =>
    let cool := if start - 112 ≤ h.1 then none else some (t.coolFrom.getD s.tim.now)
    let rested := match cool with
      | some c => decide (c + 100000000000 ≤ s.tim.now)
      | none => false
    { t with
      hottest := h.1, hotSensor := h.2, coolFrom := cool
      fast := if start - 96 ≤ h.1 then true else if rested then false else t.fast }) s

/-- THM_FLASH_WINDOW; the first evaluation raises none (R429). -/
def windowStep (s : State) : State :=
  let t := flashTemp s
  let valid := validOf s [72, 73]
  let ok := windowAfter s.thm.flashOk (!s.thm.sampled) s.thm.zfLost t valid
  let s1 := modThm (fun x => { x with flashOk := ok, sampled := true, zfLost := decide (valid = []) || (x.zfLost && !ok) }) s
  if ok = s.thm.flashOk then s1
  else
    let s2 := if s.thm.sampled then emit 13 5 (leBytes 1 (b2n ok) ++ leBytes 1 0 ++ leBytes 2 (temp16 t)) s1 else s1
    if ok then planWaiting (flashKick s2) else s2

/-- Every sensor of some zone of Z0 to Z8 is invalid (R417, R424). -/
def anyZoneDead (s : State) : Bool := (List.range 9).any (zoneDead s)
/-- The cooling rule holds at this sample (R427). -/
def coolNow (s : State) : Bool :=
  (validOf s (List.range 72)).all (fun r => decide (r < 1440)) && !anyZoneDead s
def coolStep (s : State) : State :=
  modThm (fun t =>
    if coolNow s then { t with coolSince := some (t.coolSince.getD s.tim.now) } else { t with coolSince := none, coolMet := false }) s

/-- Trips within the last 3,600 s of always-on time (R428). -/
def recentTrips (s : State) : Nat := (s.thm.tripTimes.filter (fun p => decide (s.tim.now ≤ p + 3600000000000000))).length

/-- R424 to R428: the hardware trip. -/
def takeTrip (s : State) : State :=
  let hot := s.thm.hottest
  let cause := if 16 * (s.thm.tripLimit : Int) ≤ hot then 0 else 1
  let s1 := modThm (fun t => { t with
    trip := true, following := true, recordDue := true, trips := satAdd 65535 t.trips 1
    tripTimes := (s.tim.now :: t.tripTimes).take 3
    record := ⟨true, s.tim.seconds, s.tim.nanoseconds, cause, hot, t.hotSensor, false⟩ }) s
  let n := recentTrips s1
  let s2 := if 3 ≤ n then
      logRecord 0x0003 0 (leBytes 4 cause ++ leBytes 4 s1.thm.hotSensor) (modThm (fun t => { t with latched := true }) s1)
    else s1
  let s3 := flashSleep { addLife 6 1 (exportTrip s2) with pins := { s2.pins with thermTripN := false } }
  let s4 := emit 13 4 (leBytes 1 cause ++ leBytes 1 s3.thm.hotSensor ++ leBytesInt 2 hot ++ leBytes 1 n
    ++ leBytes 1 (b2n s3.thm.latched)) s3
  enterEmber (abortDeferred (fun d => d.opcode = 0x0002) s4)

/-- The trip, or the peak of the running one (R424, R426). -/
def tripStep (s : State) : State :=
  if s.thm.trip then
    if s.thm.following ∧ s.thm.record.peak < s.thm.hottest then
      modThm (fun t => { t with record := { t.record with peak := t.hottest, sensor := t.hotSensor } }) s
    else s
  else if 16 * (s.thm.tripLimit : Int) ≤ s.thm.hottest ∨ anyZoneDead s = true then takeTrip s
  else s

/-- The period of the sequencer in ps (R419). -/
def samplePeriod (t : Thm) : Nat := if t.fast then 125000000 else 1000000000

/-- A sample of all 74 sensors; without the crystal it serves the trip alone (R103, R415 to R429, R437). -/
def execThmSample (readings : List SensorIn) (s : State) : Host.Outcome State Fault Refusal :=
  if !s.pins.vddAon ∨ readings.length ≠ 74 then .next s
  else if !s.clocked then .next (tripStep (cadenceStep (takeReadings readings s)))
  else
    let s0 := advancePs (s.thm.lastSample + samplePeriod s.thm - s.tim.now) s
    let s1 := takeReadings readings (modThm (fun t => { t with lastSample := s0.tim.now }) s0)
    let s2 := cadenceStep (degradedStep (invalidEvents s0 s1))
    let s3 := coolStep (tripStep (windowStep s2))
    .next (thmMirror (cnvOnTemp 1 (cnvOnTemp 0 (ladder s3))))

/-- The end of a 100 ms pacing interval (R422). -/
def execThmLevelPacingEnd (s : State) : Host.Outcome State Fault Refusal :=
  if s.clocked && s.thm.pacing then .next (levelEvent (modThm (fun t => { t with pacing := false }) s)) else .next s

/-- The cooling rule has held for 30 s (R427). -/
def execCoolingRuleMet (s : State) : Host.Outcome State Fault Refusal :=
  if !s.clocked || s.thm.coolSince.isNone then .next s
  else
    let s1 := modThm (fun t => { t with coolMet := true, following := false }) s
    if s.dev.mode = .ember ∧ s.thm.latched = false then .next (leaveEmber 4 true s1)
    else if s.dev.mode = .lockout ∧ s.thm.trip = true then
      .next (flashWake { s1 with thm := { s1.thm with trip := false }, pins := { s1.pins with thermTripN := true } })
    else .next s1

/-- The 25 MHz crystal stops: clock, commands and events stop with it, and the sequencer runs from its internal oscillator (R103,
R424). -/
def execCrystalLoss (s : State) : Host.Outcome State Fault Refusal :=
  .next (modThm (fun t => { t with crystalLost := true }) s)

/-! ### Adaptive voltage (R430, R433) -/

/-- One evaluation per millisecond with the least margin, in tenths of a percent. -/
def execAvsEvaluation (margin : Nat) (s : State) : Host.Outcome State Fault Refusal :=
  if !s.pins.vddAon || !s.clocked then .next s
  else
    let s0 := advancePs (s.thm.lastAvs + 1000000000 - s.tim.now) s
    let s1 := modThm (fun t => { t with lastAvs := s0.tim.now, margin := min 255 margin }) s0
    .next (avsMirror (avsCheck (avsStep margin s1)))

/-! ### Commands (R435) -/

def replyThmLimitSet (p : Packet) (s : State) : Reply :=
  let b := p.params
  let start := u8 b 0
  let span := u8 b 1
  let trip := u8 b 2
  let floor := u8 b 3
  checked s [badParam 0 (start < 85 ∨ 108 < start), badParam 1 (span < 2 ∨ 20 < span), badParam 2 (trip < 100 ∨ 118 < trip),
      failIf .denied (s.thm.tripLimit < trip), badParam 3 (floor < 2 ∨ 12 < floor), badParam 0 (trip < start + span)]
    (Reply.ok (modThm (fun t => { t with thrStart := start, span := span, tripLimit := trip, fecFloor := floor }) s))
def execThmLimitSet (p : Packet) (s : State) : Host.Outcome State Fault Refusal :=
  .next (runCommand (modCmd 0x0D01 4) replyThmLimitSet p s)

/-- The zone temperatures of Z0 to Z8 and ZF; 0 before the first sample. -/
def zoneTemps (s : State) : List Byte :=
  (List.range 10).flatMap (fun z => leBytes 2 (if s.thm.sampled then temp16 (zoneReading s z) else 0))
def statusBits (s : State) : Nat :=
  packBits [s.thm.fast, s.thm.exhausted, s.thm.flashOk, ladderActive s.dev.mode, s.thm.trip]
def replyThmStatusGet (_p : Packet) (s : State) : Reply :=
  let t := s.thm
  Reply.answer (leBytes 1 t.level ++ leBytes 1 (rungCount t) ++ leBytes 1 t.step1 ++ leBytes 1 t.step2 ++ leBytes 1 t.step3
    ++ leBytes 1 t.step4 ++ leBytes 1 (statusBits s) ++ leBytes 1 t.hotSensor ++ leBytesInt 2 t.hottest ++ leBytes 2 0
    ++ zoneTemps s ++ leBytes 2 t.degraded.toNat ++ leBytes 2 0 ++ leBytes 12 (invalidMap s)) s
def execThmStatusGet (p : Packet) (s : State) : Host.Outcome State Fault Refusal :=
  .next (runCommand (readCmd 0x0D02 0) replyThmStatusGet p s)

def replyThmSensorGet (p : Packet) (s : State) : Reply :=
  let first := u8 p.params 0
  let count := u8 p.params 1
  checked s [badParam 0 (73 < first), badLen 1 (decide (count = 0) || (fromBmc p && decide (55 < count))),
      badParam 1 (74 < first + count), reservedBytes p.params 2 2]
    (Reply.answer (leBytes 1 count ++ leBytes 3 0
      ++ (List.range count).flatMap (fun i => leBytes 4 (sensorWord (s.sensor (first + i))))) s)
def execThmSensorGet (p : Packet) (s : State) : Host.Outcome State Fault Refusal :=
  .next (runCommand (readCmd 0x0D03 4) replyThmSensorGet p s)

/-- Seconds the cooling rule has held, at most 30 (R435). -/
def coolSeconds (s : State) : Nat :=
  match s.thm.coolSince with
  | some c => if s.thm.coolMet then 30 else min 30 ((s.tim.now - c) / 1000000000000)
  | none => 0
def replyThmTripGet (_p : Packet) (s : State) : Reply :=
  let r := s.thm.record
  Reply.answer (leBytes 6 r.seconds ++ leBytes 2 0 ++ leBytes 4 r.nanoseconds ++ leBytesInt 2 r.peak ++ leBytes 1 r.sensor
    ++ leBytes 1 (packBits [r.valid, decide (r.cause = 1), r.flashWait]) ++ leBytes 2 s.thm.trips ++ leBytes 1 (recentTrips s)
    ++ leBytes 1 (b2n s.thm.latched) ++ leBytes 4 (coolSeconds s)) s
def execThmTripGet (p : Packet) (s : State) : Host.Outcome State Fault Refusal :=
  .next (runCommand (readCmd 0x0D04 0) replyThmTripGet p s)

def replyPwrAvsGet (_p : Packet) (s : State) : Reply :=
  let t := s.thm
  Reply.answer (leBytes 2 (targetMv s) ++ leBytes 2 t.floor ++ leBytes 2 t.measured ++ leBytes 1 t.margin
    ++ leBytes 1 (packBits [t.atMax, t.fixed.isSome, t.fault]) ++ leBytes 1 t.target ++ leBytes 1 t.seq ++ leBytes 2 0) s
def execPwrAvsGet (p : Packet) (s : State) : Host.Outcome State Fault Refusal :=
  .next (runCommand (readCmd 0x0D05 0) replyPwrAvsGet p s)

/-- The target is held in units of 0.1 mV, a multiple of 25: a code of 2.5 mV. -/
def replyPwrAvsFix (p : Packet) (s : State) : Reply :=
  let b := p.params
  let fix := u8 b 0
  let v := u16 b 2
  checked s [badParam 0 (1 < fix), reservedBytes b 1 1,
      badParam 2 (decide (fix = 1) && (decide (v % 25 ≠ 0) || decide (v < 10 * s.thm.floor) || decide (8000 < v)))]
    (Reply.ok (if fix = 1 then setTarget ((v - 5000) / 25) 2 (modThm (fun t => { t with fixed := some ((v - 5000) / 25) }) s)
      else avsRelease s))
def execPwrAvsFix (p : Packet) (s : State) : Host.Outcome State Fault Refusal :=
  .next (runCommand { modCmd 0x0D06 4 with maintenance := true } replyPwrAvsFix p s)

end Sys2Proof.Machine
end

