-- ==== Sys2Proof/Machine/RegMon.lean ====
section
/-! DEFINITION. The register words of the MON / HKA, THM / PWR, MI and LOG windows, by offset (R412, R437, R459, R483). -/

namespace Sys2Proof.Machine

/-! ### MON (R412) -/

/-- MON_CH_CFG: as configured, or the fixed chain of a fast-SOP channel (R391). -/
def chanCfgWord (c : Nat) (s : State) : Nat :=
  let g := (s.chan c).cfg
  if isFsop c s then pack [(0, 1, 1), (1, 1, b2n g.dmaEn), (2, 1, 1), (4, 4, 7), (8, 3, 3), (12, 4, 3)]
  else pack [(0, 1, b2n g.en), (1, 1, b2n g.dmaEn), (4, 4, g.source), (8, 3, g.n), (12, 4, g.dexp), (16, 1, b2n (decide (g.m = 2)))]
/-- MON_CH_DET with the values in force. -/
def chanDetWord (c : Nat) (s : State) : Nat :=
  pack [(0, 4, attackOf c s), (4, 4, releaseOf c s), (8, 5, peakExpOf c s), (16, 5, rmsExpOf c s),
    (24, 1, b2n (!isFsop c s && (s.chan c).force.envEvt))]
/-- The words of a channel block; the status mirror reads its reset value while the ACs are held in reset. -/
def chanWord (c o : Nat) (s : State) : Nat :=
  let x := s.chan c
  if o = 0x0 then chanCfgWord c s
  else if o = 0x4 then (if isFsop c s then 0 else pack [(0, 12, x.cfg.phase), (16, 9, x.cfg.bin)])
  else if o = 0x8 then chanDetWord c s
  else if o = 0xC then thrOf c s
  else if o = 0x10 then hystOf c s
  else if o = 0x14 then (if s.dev.acHeld then 0 else chanStatus c s)
  else if o = 0x18 then x.peak
  else if o = 0x1C then x.rms
  else if o = 0x20 then x.env
  else if o = 0x24 then x.sat
  else if o = 0x28 then (s.ring c).tail
  else if o = 0x2C then (s.ring c).head
  else 0

/-! ### HKA (R412) -/

/-- HKA_STATUS.STATE: the calibration, running or waited for, first, then what the SAR converts. -/
def sarState (x : Sar) : Nat :=
  match x.cal, x.work with
  | .running, _ => 5
  | .waiting, _ => 6
  | _, .idle => 0
  | _, .system => 1
  | _, .regular => 2
  | _, .injected => 3
  | _, .settling => 4
def sarStatus (x : Sar) : Nat :=
  pack [(0, 3, sarState x), (3, 1, b2n x.calValid), (4, 1, b2n x.suspect), (5, 1, b2n x.overrun), (6, 1, b2n x.seq.en)]
def hkaResultWord (k ch : Nat) (s : State) : Nat :=
  match (s.sar k).results.find? (fun r => r.1 = ch) with
  | none => 0
  | some r => pack [(0, 12, r.2.code), (12, 1, b2n r.2.ovr), (13, 1, b2n r.2.valid), (14, 1, b2n r.2.xchkBad), (16, 16, r.2.count)]
def seqEntryWord (k i : Nat) (s : State) : Nat :=
  match (s.sar k).seq.entries[i]? with
  | none => 0
  | some e => pack [(0, 4, e.chan), (8, 3, e.shift)]
/-- A SAR's register in one of the two-word arrays. -/
def sarWord (base off : Nat) (f : Nat → Nat) : Option Nat := (arrayIndex base 4 2 off).map f
def hkaWord (off : Nat) (s : State) : Nat :=
  let m := s.mon
  if off = 0x8000 then pack [(0, 8, sarStatus (s.sar 0)), (8, 8, sarStatus (s.sar 1)), (16, 1, b2n m.xchkFail)]
  else if off = 0x8004 then pack [(0, 6, m.xchkTol), (8, 8, m.calPeriod)]
  else if off = 0x8008 then pack [(0, 12, m.xchk0), (16, 12, m.xchk1)]
  else if off = 0x800C then pack [(0, 16, m.calDone), (16, 16, m.calAborted)]
  else if 0x8100 ≤ off ∧ off < 0x8180 then hkaResultWord ((off - 0x8100) / 0x40) (off % 0x40 / 4) s
  else if 0x8200 ≤ off ∧ off < 0x8280 then
    let c := corrOf ((off - 0x8200) / 0x40) (off % 0x40 / 4) s
    pack [(0, 16, unsignedOf 16 c.1), (16, 16, unsignedOf 16 c.2)]
  else if 0x8400 ≤ off ∧ off < 0x8480 then seqEntryWord ((off - 0x8400) / 0x40) (off % 0x40 / 4) s
  else
    ((sarWord 0x8010 off (fun k => (s.sar k).ovrCnt)).orElse fun _ =>
      (sarWord 0x8018 off (fun k => (s.sar k).seq.period)).orElse fun _ =>
      (sarWord 0x8020 off (fun k => (s.ring (16 + k)).tail)).orElse fun _ =>
      sarWord 0x8028 off (fun k => (s.ring (16 + k)).head)).getD 0

/-- The live word at an offset of the MON / HKA window. -/
def monWord (off : Nat) (s : State) : Nat :=
  if off = 0x0 then
    pack ((List.range 16).map (fun c => (c, 1, b2n (delivers c s)))
      ++ (List.range 2).map (fun e => (16 + e, 1, b2n (decide ((s.engine e).state ≠ .off)))))
  else if off = 0x8 then s.mon.throttle
  else if off = 0xC then pack [(0, 3, (s.fsop 0).chan), (8, 3, (s.fsop 1).chan)]
  else if off = 0x10 ∨ off = 0x14 then
    let e := (off - 0x10) / 4
    pack [(0, 16, (s.fsop e).thr), (16, 16, fsopThr e s)]
  else if off = 0x18 ∨ off = 0x1C then
    let f := s.fsop ((off - 0x18) / 4)
    pack [(0, 16, f.hyst), (16, 4, f.release)]
  else if off = 0x20 then pack [(0, 16, (s.fsop 0).sent), (16, 16, (s.fsop 1).sent)]
  else if off = 0x24 then s.mon.dmaLost
  else if off = 0x28 then monLoad s / 4096
  else if 0x1000 ≤ off ∧ off < 0x1400 then chanWord ((off - 0x1000) / 0x40) (off % 0x40) s
  else if 0x8000 ≤ off then hkaWord off s
  else 0

def chanOffsets (os : List Nat) : List Nat := (List.range 16).flatMap (fun c => os.map (fun o => 0x1000 + 0x40 * c + o))
def monSnapOffsets : List Nat := chanOffsets [0x18, 0x1C, 0x20]
def monSnapMask (off : Nat) : Nat := if monSnapOffsets.contains off then allBits else 0
def monSecondOffsets : List Nat := 0x20 :: chanOffsets [0x24]
def monSecondMask (off : Nat) : Nat := if monSecondOffsets.contains off then allBits else 0
/-- A read clears MON_DMA_LOST, HKA_CAL_CNT and HKA_OVR_CNT. -/
def monClear (off : Nat) (s : State) : State :=
  if off = 0x24 then { s with mon := { s.mon with dmaLost := 0 } }
  else if off = 0x800C then { s with mon := { s.mon with calDone := 0, calAborted := 0 } }
  else if off = 0x8010 then modSar 0 (fun x => { x with ovrCnt := 0 }) s
  else if off = 0x8014 then modSar 1 (fun x => { x with ovrCnt := 0 }) s
  else s

/-! ### THM / PWR (R437) -/

def zoneStatus (s : State) : Nat :=
  pack ((0, 10, s.thm.degraded.toNat) :: (List.range 9).map (fun z => (16 + z, 1, b2n (zoneDead s z))))
/-- THM_ZONE_TEMP, zero before the first sample. -/
def zoneWord (z : Nat) (s : State) : Nat :=
  if s.thm.sampled then pack [(0, 16, unsignedOf 16 (s.zoneTemp z)), (16, 16, temp16 (zoneMax s z))] else 0
def tripInfo (r : TripRecord) : Nat :=
  pack [(0, 16, unsignedOf 16 r.peak), (16, 7, r.sensor), (24, 1, r.cause), (25, 1, b2n r.valid), (26, 1, b2n r.flashWait)]

/-- The word at an offset of the THM / PWR window. Of the mirrors, TRIP follows THERM_TRIP_N at every instant (R427), and bit 31 of
PWR_AVS_STATUS is the strap. -/
def thmWord (off : Nat) (s : State) : Nat :=
  let t := s.thm
  if off = 0x0 then t.statusMirror + 2 ^ 17 * b2n t.trip
  else if off = 0x8 then t.limitsMirror
  else if off = 0xC then t.fecFloor
  else if off = 0x10 then pack [(0, 16, unsignedOf 16 t.hottest), (16, 7, t.hotSensor)]
  else if off = 0x14 then t.ladderMirror
  else if off = 0x18 then (if t.sampled then zoneStatus s else 0)
  else if 0x20 ≤ off ∧ off < 0x48 then zoneWord ((off - 0x20) / 4) s
  else if off = 0x48 then lowWord t.record.seconds
  else if off = 0x4C then highWord t.record.seconds
  else if off = 0x50 then t.record.nanoseconds
  else if off = 0x54 then tripInfo t.record
  else if off = 0x58 then pack [(0, 16, t.trips), (16, 2, min 3 (recentTrips s))]
  else if 0x60 ≤ off ∧ off < 0x6C then invalidMap s / 2 ^ (8 * (off - 0x60)) % 2 ^ 32
  else if 0x100 ≤ off ∧ off < 0x228 then sensorWord (s.sensor ((off - 0x100) / 4))
  else if off = 0x300 then t.avsMirror + 2 ^ 31 * b2n s.pins.vidMode
  else if off = 0x304 then t.floorMirror
  else if off = 0x308 then t.codeMirror
  else if off = 0x30C then t.margin
  else 0
def thmSnapOffsets : List Nat :=
  [0x10, 0x60, 0x64, 0x68, 0x30C] ++ (List.range 10).map (fun z => 0x20 + 4 * z) ++ (List.range 74).map (fun n => 0x100 + 4 * n)
def thmSnapMask (off : Nat) : Nat := if thmSnapOffsets.contains off then allBits else 0
/-- THM_THROTTLE_MS is the window's one Second field. -/
def thmSecondMask (off : Nat) : Nat := if off = 0x5C then allBits else 0

/-! ### MI (R459) -/

/-- The live word at an offset of the MI window; the mirrors read their reset values in reset. -/
def miWord (off : Nat) (s : State) : Nat :=
  let m := s.mi
  if !s.pins.resetN then (if off = 0x4 then 24 else 0)
  else if off = 0x0 then
    packBits [m.cinderFull, decide (14 < (cinderBanks s).length), decide (m.checkerFault ≠ 0),
      (List.range 14).any (fun k => spareOut k s)]
  else if off = 0x4 then m.periodH
  else if off = 0x8 then m.unwrittenRd
  else if off = 0xC then m.poisonRd
  else if off = 0x10 then m.cinders.length
  else if off = 0x14 then pack [(0, 4, m.lastClass), (8, 6, m.lastInst), (16, 1, b2n m.lastInjected)]
  else if off = 0x18 then m.lastRow
  else if off = 0x1C then lowWord m.lastSec
  else if off = 0x20 then highWord m.lastSec
  else if off = 0x24 then m.lastNs
  else if off = 0x28 then m.checkerFault.toNat
  else if off = 0x2C then packBits ((List.range 14).map (fun k => (s.memClass k).range.isSome))
  else if 0x100 ≤ off ∧ off < 0x2C0 then (classWords ((off - 0x100) / 0x20) s).getD (off % 0x20 / 4) 0
  else 0
/-- A read clears MI_UNWRITTEN_RD, MI_POISON_RD, MI_CE_CNT and MI_UE_CNT. -/
def miClear (off : Nat) (s : State) : State :=
  if off = 0x8 then { s with mi := { s.mi with unwrittenRd := 0 } }
  else if off = 0xC then { s with mi := { s.mi with poisonRd := 0 } }
  else if 0x100 ≤ off ∧ off < 0x2C0 ∧ off % 0x20 = 4 then modClass ((off - 0x100) / 0x20) (fun c => { c with ceCnt := 0 }) s
  else if 0x100 ≤ off ∧ off < 0x2C0 ∧ off % 0x20 = 8 then modClass ((off - 0x100) / 0x20) (fun c => { c with ueCnt := 0 }) s
  else s

/-! ### LOG (R483) -/

def logStatus (s : State) : Nat :=
  let l := s.log
  packBits [l.ready, s.thm.flashOk, decide (l.work ≠ .idle), l.refresh.isSome, l.compacting.isSome, l.planDue, budgetHit l, l.sparesOut,
    l.lifeSpill, l.eolWarn, l.exporting.isSome]
/-- Erase counts of the blocks in use. -/
def eraseCounts (l : Log) : List Nat := (blocksWhere l inUse).map (fun b => (l.block b).erases)
def adviceRatio (e : Nat) (l : Log) : Nat := min 1023 ((vecGet ⟨false, 0, 0, 0⟩ l.advice e).ratio / 1000)
def adviceProfile (e : Nat) (l : Log) : Nat := (vecGet ⟨false, 0, 0, 0⟩ l.advice e).profile
def logPlanWord (l : Log) : Nat :=
  pack [(0, 8, l.planYear), (8, 3, l.planStatus), (16, 10, l.planFloor), (26, 4, l.planReserve)]

/-- The live word at an offset of the LOG window; the TC fills the window when the replay is complete (R463). -/
def logWord (off : Nat) (s : State) : Nat :=
  let l := s.log
  if off = 0x0 then logStatus s
  else if !l.ready then 0
  else if off = 0x4 then
    pack [(0, 9, (blocksWhere l inUse).length), (16, 4, (blocksWhere l (fun x => x.reserve && !x.retired)).length),
      (24, 8, (blocksWhere l (fun x => x.retired)).length)]
  else if off = 0x8 then
    pack [(0, 9, (blocksWhere l isFree).length), (16, 9, (blocksWhere l (fun x => inUse x && decide (x.role = .state))).length)]
  else if off = 0xC then
    pack [(0, 16, min 65535 ((eraseCounts l).foldl max 0)), (16, 16, min 65535 ((eraseCounts l).foldl min 65535))]
  else if off = 0x10 then lowWord l.seq
  else if off = 0x14 then l.seqHi
  else if off = 0x18 then pack [(0, 7, min 127 l.queue.length), (16, 16, l.dropped)]
  else if off = 0x1C then 4 * l.budgetPages
  else if off = 0x20 then
    pack [(0, 16, min 65535 ((vecGet 0 l.life 0 - l.refreshLife) / 86400)), (16, 16, min 65535 l.refreshCount)]
  else if off = 0x24 then logPlanWord l
  else if off = 0x28 then
    pack [(0, 3, adviceProfile 0 l), (3, 1, b2n (adviceStands 0 s)), (4, 3, adviceProfile 1 l), (7, 1, b2n (adviceStands 1 s)),
      (8, 10, adviceRatio 0 l), (18, 10, adviceRatio 1 l)]
  else if 0x100 ≤ off ∧ off < 0x160 then
    (if off % 8 = 0 then lowWord (vecGet 0 l.life ((off - 0x100) / 8)) else tabGet 0 l.lifeHi ((off - 0x104) / 8))
  else if 0x200 ≤ off ∧ off < 0x240 then pack [(0, 16, unsignedOf 16 (l.shifts.getD ((off - 0x200) / 4) 0)), (16, 4, (off - 0x200) / 8)]
  else 0
def logSecondOffsets : List Nat := (List.range 12).map (fun k => 0x100 + 8 * k)
def logSecondMask (off : Nat) : Nat := if logSecondOffsets.contains off then allBits else 0

end Sys2Proof.Machine
end

