-- ==== Sys2Proof/Machine/Packet.lean ====
section
/-! DEFINITION. The meanings of group 0x09: packet traffic manager (chapter 11). -/

namespace Sys2Proof.Machine

/-! ### Reception and admission (R309 to R318) -/

/-- The manager recognises a tag (R311). -/
def tagKnown (cfg : PortCfg) (tpid : Nat) : Bool :=
  tpid = 0x8100 || tpid = 0x88A8 || (decide (cfg.tpid ≠ 0) && decide (tpid = cfg.tpid))

/-- Outer VID and PCP, and inner VID, of a frame (R311). -/
def frameTags (cfg : PortCfg) (f : RxFrame) : (Nat × Nat) × Nat :=
  match f.outer with
  | some (tp, (vid, pcp)) =>
    if tagKnown cfg tp then
      ((vid, pcp), match f.inner with
        | some (ti, (v, _)) => if tagKnown cfg ti then v else 4095
        | none => 4095)
    else ((4095, 0), 4095)
  | none => ((4095, 0), 4095)

/-- The tags a frame carries as the manager recognises them, the outer one first (R311). -/
def tagsOf (cfg : PortCfg) (f : RxFrame) : List (Nat × (Nat × Nat)) :=
  match f.outer.filter (fun t => tagKnown cfg t.1) with
  | some t => t :: (f.inner.filter (fun u => tagKnown cfg u.1)).toList
  | none => []

/-- The classification key of a frame (R311). -/
def frameKey (q : Nat) (cfg : PortCfg) (f : RxFrame) : RuleKey :=
  let t := frameTags cfg f
  if cfg.mode = 0 then (q, (0, (0, 0)))
  else if cfg.mode = 1 then (q, (t.1.1, (0, 0)))
  else if cfg.mode = 2 then (q, (t.1.1, (t.2, 0)))
  else (q, (t.1.1, (0, t.1.2)))

/-- The subscriber of a key: the rule unless it is being rebuilt, else the port's default (R312, R340). -/
def lookup (k : RuleKey) (cfg : PortCfg) (s : State) : Option Nat :=
  let hit := if s.pkt.broken.contains (.rule k.1 k.2.1 k.2.2.1 k.2.2.2) then none else s.pkt.rules.find? (fun r => r.1 = k)
  match hit with
  | some r => some r.2
  | none => if cfg.defaultEn then some cfg.defaultSub else none

/-- The forwarding of a subscriber's frames from an ingress is allowed (R307, R313). -/
def forwardOk (q sub : Nat) (s : State) : Bool :=
  let v := serviceOf sub s
  let p := (s.entity (svcKey v)).parent
  (s.entity (subKey sub)).isValid && (s.entity (svcKey v)).isValid && portExists p s && (decide (q < 256) != decide (p < 256))

/-- The 256 bytes of tile `i` of a frame, the unused ones zero (R315). -/
def tileBytes (bytes : List Byte) (len i : Nat) : List Byte := bytesAt (256 * i) 256 (bytes.take len)
/-- The CRC-32C of each of `n` tiles as they are written (R316). -/
def tileCrcs (bytes : List Byte) (len n : Nat) : List Nat := (List.range n).map (fun i => crc32c (tileBytes bytes len i))
/-- A frame for subscriber `sub` meets the Woodpile (R315 to R318). -/
def admitFrame (q sub : Nat) (f : RxFrame) (s : State) : State :=
  let p := portOf (subKey sub) s
  let x := s.port p
  if !x.egressUp && !x.held then statDrop sub (countDown p s)
  else
    let n := (f.len + 255) / 256
    let tail := statDrop sub (modLive p (fun c => { c with dropTail := sat32 c.dropTail 1 }) s)
    match admitTiles (resForce s.pkt x.cfg.res) x.cfg.max x.cfg.alpha n x.resUsed x.sharedUsed (sharedFree s.pkt) with
    | none => tail
    | some pools =>
      let ts := f.tiles.take n
      if freeTiles s.pkt < n then tail
      else if ts.length ≠ n ∨ ts.eraseDups.length ≠ n ∨ ts.all (tileFree s.pkt) = false ∨ banksInOrder s.pkt ts = false then s
      else
        let r := (pools.filter (fun b => b)).length
        let flips := tabGet 0 s.mi.tileFlips p
        let s1 := { s with mi := { s.mi with tileFlips := tabSet 0 s.mi.tileFlips p (flips - n), tiles := ts ++ s.mi.tiles.filter (fun t => !ts.contains t) }, pkt := { s.pkt with
          nextFrame := s.pkt.nextFrame + 1
          frames := s.pkt.frames ++ [⟨s.pkt.nextFrame, q, p, sub, f.len, tagsOf (s.port q).cfg f,
            ts.zip pools, (List.range n).flatMap (tileBytes f.bytes f.len), tileCrcs f.bytes f.len n, false, false, decide (flips ≠ 0)⟩] } }
        let s2 := modPort p (fun y => { y with resUsed := y.resUsed + r, sharedUsed := y.sharedUsed + (n - r) }) s1
        wheelPlace (svcKey (serviceOf sub s)) (wheelPlace (subKey sub) s2)

/-- A frame that passes the receive checks is admitted from the ingress and then classified (R309, R311, R346). -/
def countRx (q len : Nat) (s : State) : State :=
  modLive q (fun c => { c with rxFrames := sat32 c.rxFrames 1, rxBytes := sat64 c.rxBytes len }) s

/-- PKT_FRAME_RECEIVED: a port that has stopped for QUIESCE still admits the frame already in reception (R45, R309 to R318, R337,
R341). -/
def execPktFrameReceived (port : Fin 288) (frame : RxFrame) (s : State) : Host.Outcome State Fault Refusal :=
  let q := port.val
  let x := s.port q
  if s.pkt.ready = false ∨ x.ingressUp = false ∨ (x.stopped = true ∧ frame.begun = false) then .next s
  else if frame.fcsOk = false ∨ frame.len < 64 ∨ x.cfg.mtu < frame.len ∨ frame.control = true then
    .next (modLive q (fun c => { c with dropMac := sat32 c.dropMac 1 }) s)
  else if frame.authBad then .next (modLive q (fun c => { c with dropAuth := sat32 c.dropAuth 1 }) s)
  else
    let s1 := countRx q frame.len s
    let miss := modLive q (fun c => { c with dropCls := sat32 c.dropCls 1 }) s1
    match lookup (frameKey q x.cfg frame) x.cfg s with
    | none => .next miss
    | some sub => if forwardOk q sub s then .next (admitFrame q sub frame s1) else .next (statDrop sub miss)

/-! ### Transmission (R322, R323, R326, R330, R333, R337, R338) -/

/-- The tags a frame is sent with under its subscriber's tag action: none, pop, push with the extra TPID of the egress port or 0x88A8,
or replace the outer VID and PCP (R314). -/
def sentTags (f : Frame) (s : State) : List (Nat × (Nat × Nat)) :=
  let x := s.entity (subKey f.sub)
  let tpid := (s.port f.egress).cfg.tpid
  let own := (x.tag % 4096, x.tag / 4096 % 8)
  if x.action = 1 then f.tags.drop 1
  else if x.action = 2 then (if tpid = 0 then 0x88A8 else tpid, own) :: f.tags
  else if x.action = 3 then (match f.tags with
    | t :: ts => (t.1, own) :: ts
    | [] => [])
  else f.tags
/-- The length a frame is sent with: four bytes for each tag, padded to 64 after a pop, none when a push takes it beyond 16,000 (R314). -/
def sentLength (f : Frame) (s : State) : Option Nat :=
  let n := f.len + 4 * (sentTags f s).length - 4 * f.tags.length
  if 16000 < n then none else some (max 64 n)

/-- The transmission time in ps at a rate in Mb/s (R330). -/
def txTime (len rate : Nat) : Nat := if rate = 0 then 0 else ((len + 20) * 8000000 + rate - 1) / rate

/-- The head frame of a subscriber's queue. -/
def headFrame (sub : Nat) (s : State) : Option Frame := s.pkt.frames.find? (fun f => f.sub = sub)
/-- A subscriber takes part in a pass: its entries are whole and its head frame is of the pass (R322, R326, R340). -/
def inPass (excess : Bool) (sub : Nat) (s : State) : Bool :=
  !s.pkt.broken.contains (.subscriber sub) && !s.pkt.broken.contains (.service (serviceOf sub s))
    && (if excess then subExcess sub s else subCommitted sub s)
/-- The deficits of entities as a table, and back. -/
def shapeDeficits (keys : List Nat) (s : State) : Tab Int := keys.foldl (fun t k => tabSet 0 t k (s.shape k).deficit) []
def putDeficits (keys : List Nat) (d : Tab Int) (s : State) : State :=
  keys.foldl (fun u k => modShape k (fun x => { x with deficit := tabGet 0 d k }) u) s

/-- Sorted and without repeats. -/
def sortNat (l : List Nat) : List Nat := (l.foldl (fun t k => tabInsert t k ()) ([] : Tab Unit)).map (fun x => x.1)

/-- The subscriber chosen within a class in a pass: by service, then by subscriber (R322, R323). -/
def chooseInClass (q c : Nat) (excess : Bool) (s : State) : Option (Nat × State) :=
  let subs := sortNat ((portSubs q s).filter (fun n => classOf n s = c && inPass excess n s))
  let svcs := sortNat (subs.map (fun n => serviceOf n s))
  let scope := sortNat (((s.pkt.entities.filter (fun x =>
    65536 ≤ x.1 && decide (x.2.parent = q) && decide (x.2.action = c))).map (fun x => x.1 - 65536)))
  match drrPick (fun v => (s.entity (svcKey v)).weight) svcs (tabGet 0 s.pkt.lastService (q * 8 + c))
      ((shapeDeficits (scope.map svcKey) s).map (fun x => (x.1 - 65536, x.2))) with
  | none => none
  | some (v, d) =>
    let s1 := putDeficits (scope.map svcKey) (d.map (fun x => (65536 + x.1, x.2))) s
    let s2 := { s1 with pkt := { s1.pkt with lastService := tabSet 0 s1.pkt.lastService (q * 8 + c) v } }
    let mine := subs.filter (fun n => serviceOf n s = v)
    let subScope := sortNat ((s.pkt.entities.filter (fun x => x.1 < 65536 && decide (x.2.parent = v))).map (fun x => x.1))
    match drrPick (fun n => (s.entity (subKey n)).weight) mine (s.shape (svcKey v)).last (shapeDeficits subScope s2) with
    | none => none
    | some (n, e) => some (n, modShape (svcKey v) (fun x => { x with last := n }) (putDeficits subScope e s2))

/-- The candidate of a class in a pass: the one it holds while that is of the pass, else a new choice (R322). -/
def classCandidate (q c : Nat) (excess : Bool) (s : State) : Option (Nat × State) :=
  match (s.port q).candidates.find? (fun x => x.1 = c) with
  | some (_, n) => if inPass excess n s then some (n, s) else none
  | none =>
    (chooseInClass q c excess s).map (fun r =>
      (r.1, modPort q (fun x => { x with candidates := x.candidates ++ [(c, r.1)] }) r.2))

/-- The class's gate is open now (R330). -/
def gateOpen (q c : Nat) (s : State) : Bool := bit (s.port q).gates.states c
/-- A frame of `ps` transmission time ends before its gate closes (R330). -/
def fitsGate (q c ps : Nat) (s : State) : Bool :=
  match openFor c (s.port q).gates s with
  | none => true
  | some t => decide (ps ≤ t)
/-- A frame of `ps` transmission time can never fit its class (R333). -/
def neverFits (q c ps : Nat) (s : State) : Bool :=
  match (s.port q).gates.windows.getD c none with
  | none => false
  | some ns => decide (1000 * ns < ps)

/-- What a visit to a class finds. -/
inductive Visit where
  /-- No frame of this pass may leave now. -/
  | nothing (s : State)
  /-- The candidate was dropped; the choice starts again. -/
  | dropped (s : State)
  /-- This frame starts, with the length it is sent with. -/
  | send (f : Frame) (len : Nat) (s : State)

/-- A candidate that can never fit is dropped, counted and reported once per second (R333, R345). -/
def dropOversize (q c len : Nat) (f : Frame) (s : State) : State :=
  let s1 := modLive q (fun x => { x with oversize := sat32 x.oversize 1 }) (dropFrame f s)
  let x := s1.port q
  if x.gates.oversizeRaised then s1
  else emit 9 2 (leBytes 2 q ++ leBytes 1 c ++ leBytes 1 0 ++ leBytes 4 ((x.gates.windows.getD c none).getD 0) ++ leBytes 2 len
      ++ leBytes 2 0 ++ leBytes 4 x.live.oversize)
    (modPort q (fun y => { y with gates := { y.gates with oversizeRaised := true } }) s1)

/-- PKT_CORRUPT, at most once per second per port (R338, R345). -/
def reportCorrupt (q cause dropped ended : Nat) (s : State) : State :=
  let s1 := modLive q (fun c => { c with
    dropCorrupt := sat32 c.dropCorrupt 1, corruptDropped := c.corruptDropped + dropped
    corruptEnded := c.corruptEnded + ended, corruptRaised := true }) s
  if (s.port q).live.corruptRaised then s1
  else
    let c := (s1.port q).live
    emit 9 5 (leBytes 2 q ++ leBytes 1 cause ++ leBytes 1 0 ++ leBytes 4 c.corruptDropped ++ leBytes 4 c.corruptEnded) s1

/-- Visit one class in a pass: its candidate is dropped for what it carries, waits, or starts (R314, R322, R330, R333,
R337, R338). -/
def visitClass (q c : Nat) (excess : Bool) (s : State) : Visit :=
  match classCandidate q c excess s with
  | none => .nothing s
  | some (n, s1) =>
    match headFrame n s1 with
    | none => .nothing s1
    | some f =>
      match sentLength f s1 with
      | none => .dropped (modLive q (fun x => { x with dropMac := sat32 x.dropMac 1 }) (dropFrame f s1))
      | some len =>
        if neverFits q c (txTime len (portRate q s1)) s1 then .dropped (dropOversize q c len f s1)
        else if !gateOpen q c s1 || !fitsGate q c (txTime len (portRate q s1)) s1 then .nothing s1
        else if f.authBad then
          .dropped (countStopped f.ingress (modLive f.ingress (fun x => { x with dropAuth := sat32 x.dropAuth 1 }) (dropFrame f s1)))
        else if f.descBad then .dropped (reportCorrupt q 1 1 0 (dropFrame f s1))
        else if f.tiles.any (fun t => s1.pkt.poison.contains t.1) then
          .dropped (reportCorrupt q 1 1 0
            (let u := dropFrame f s1
             { u with pkt := { u.pkt with poisonDrop := sat32 u.pkt.poisonDrop 1 }
                      mi := { u.mi with poisonRd := sat32 u.mi.poisonRd 1 } }))
        else .send f len s1

/-- Visit classes in order until one sends or drops. -/
def visitClasses (q : Nat) (excess : Bool) : List Nat → State → Visit
  | [], s => .nothing s
  | c :: cs, s =>
    match visitClass q c excess s with
    | .nothing s1 => visitClasses q excess cs s1
    | v => v

/-- Strict classes of a port, highest first, and the others in turn after the class served last (R322, R323). -/
def strictClasses (x : Port) : List Nat := [7, 6, 5, 4, 3, 2, 1, 0].filter (fun c => bit x.cfg.strict c)
def sharedClasses (x : Port) : List Nat := [0, 1, 2, 3, 4, 5, 6, 7].filter (fun c => !bit x.cfg.strict c)

/-- A class takes part in a pass: its gate is open and its candidate of the pass fits, or is to be dropped. -/
def takesPart (q c : Nat) (excess : Bool) (s : State) : Bool :=
  match visitClass q c excess s with
  | .nothing _ => false
  | _ => true

/-- The candidate of a class stands from here on; one that can never fit is dropped as soon as it does (R322, R333). -/
def standCandidate (q c : Nat) (excess : Bool) (s : State) : Visit :=
  match classCandidate q c excess s with
  | none => .nothing s
  | some (n, s1) =>
    match (headFrame n s1).bind (fun f => (sentLength f s1).map (fun len => (f, len))) with
    | none => .nothing s1
    | some (f, len) => if neverFits q c (txTime len (portRate q s1)) s1 then .dropped (dropOversize q c len f s1) else .nothing s1
/-- The candidates of several classes stand, until one is dropped. -/
def standAll (q : Nat) (excess : Bool) : List Nat → State → Visit
  | [], s => .nothing s
  | c :: cs, s =>
    match standCandidate q c excess s with
    | .nothing s1 => standAll q excess cs s1
    | v => v

/-- One of the classes without STRICT is served, by deficit round robin with the class weights (R322, R323). -/
def serveShared (q : Nat) (excess : Bool) (s : State) : Visit :=
  let x := s.port q
  let scope := sharedClasses x
  let elig := scope.filter (fun c => takesPart q c excess s)
  let d := scope.foldl (fun t c => tabSet 0 t c (tabGet 0 s.pkt.classDeficit (q * 8 + c))) ([] : Tab Int)
  match drrPick (fun c => x.cfg.weights.getD c 1) elig x.lastClass d with
  | none => visitClasses q excess scope s
  | some (c, e) =>
    visitClass q c excess
      (modPort q (fun y => { y with lastClass := c })
        { s with pkt := { s.pkt with classDeficit := scope.foldl (fun t k => tabSet 0 t (q * 8 + k) (tabGet 0 e k)) s.pkt.classDeficit } })

/-- The classes without STRICT: every one of them has its candidate before one is served (R322, R323, R333). -/
def visitShared (q : Nat) (excess : Bool) (s : State) : Visit :=
  match standAll q excess (sharedClasses (s.port q)) s with
  | .nothing s1 => serveShared q excess s1
  | v => v

/-- One pass: strict classes, then the others (R322). -/
def runPass (q : Nat) (excess : Bool) (s : State) : Visit :=
  match visitClasses q excess (strictClasses (s.port q)) s with
  | .nothing s1 => visitShared q excess s1
  | v => v

/-- Idle entities lose their deficits; the committed pass, then the excess pass; a dropped candidate starts the choice again
(R322, R323, R333). -/
def choose (q : Nat) : Nat → State → Visit
  | 0, s => .nothing s
  | fuel + 1, s =>
    match runPass q false (loseDeficits q s) with
    | .send f l s1 => .send f l s1
    | .dropped s1 => choose q fuel s1
    | .nothing s1 =>
      match runPass q true s1 with
      | .dropped s2 => choose q fuel s2
      | v => v

/-- The frame is sent: its queue, deficits and eligible times advance, and it is counted (R310, R322, R323, R326, R346). -/
def sendFrame (q : Nat) (f : Frame) (len : Nat) (bad : Bool) (s : State) : State :=
  let v := svcKey (serviceOf f.sub s)
  let committed := subCommitted f.sub s
  let c := classOf f.sub s
  let adj := ((len : Int) + (s.port q).cfg.shapeAdj).toNat
  let s1 := chargeEntity v adj committed (chargeEntity f.sub adj committed s)
  let pay := fun (x : Shape) => { x with deficit := x.deficit - (len : Int) }
  let s2 := modShape v pay (modShape f.sub pay s1)
  let s3 := if bit (s.port q).cfg.strict c then s2
    else { s2 with pkt := { s2.pkt with
      classDeficit := tabSet 0 s2.pkt.classDeficit (q * 8 + c) (tabGet 0 s2.pkt.classDeficit (q * 8 + c) - (len : Int)) } }
  let s4 := modPort q (fun x => { x with
    candidates := x.candidates.filter (fun y => y.2 ≠ f.sub), sent := some (len, (sentTags f s, bad)) }) (releaseTiles f s3)
  let s5 := modLive q (fun x => { x with
    txFrames := sat32 x.txFrames 1, txBytes := sat64 x.txBytes len, stomp := sat32 x.stomp (b2n bad) }) (lifeBytes len s4)
  addStats f.sub (fun x => { x with frames := sat64 x.frames 1, bytes := sat64 x.bytes len }) (wheelPlace v (wheelPlace f.sub s5))

/-- The first tile of a frame whose CRC-32C as read is not the one its descriptor keeps; R454's flip is in the first (R316, R338). -/
def firstBadTile (f : Frame) (read : TxRead) : Option Nat :=
  if f.flipped then some 0
  else (List.range f.tiles.length).find? (fun i =>
    ((read.changed.find? (fun t => t.1 = i)).map (fun t => decide (crc32c (bytesAt 0 256 t.2) ≠ f.crcs.getD i 0))).getD false)
/-- PKT_TX_OPPORTUNITY (R316, R322, R337, R338): the frame starts unless its first tile fails its CRC; a later failure or a
tag failure under way ends it with an inverted FCS. -/
def execPktTxOpportunity (port : Fin 288) (read : TxRead) (s : State) : Host.Outcome State Fault Refusal :=
  let q := port.val
  let x := s.port q
  if s.pkt.ready = false ∨ x.egressUp = false ∨ x.held = true then .next s
  else
    match choose q (s.pkt.frames.length + 1) s with
    | .nothing s1 => .next s1
    | .dropped s1 => .next s1
    | .send f len s1 =>
      let crcErr := fun (u : State) => { u with pkt := { u.pkt with tileCrcErr := sat32 u.pkt.tileCrcErr 1 } }
      match firstBadTile f read with
      | some 0 => .next (reportCorrupt q 0 1 0 (crcErr (dropFrame f s1)))
      | some _ => .next (reportCorrupt q 0 0 1 (crcErr (sendFrame q f len true s1)))
      | none =>
        let s2 := sendFrame q f len read.authBad s1
        .next (if read.authBad then countStopped f.ingress s2 else s2)

/-! ### Wheels (R327) -/

/-- PKT_FINE_WHEEL_SLOT: the next start of this 8 ns slot; its entities become eligible and leave the wheel. -/
def execPktFineWheelSlot (slot : Fin 4096) (s : State) : Host.Outcome State Fault Refusal :=
  let cur := s.tim.now / 8000
  let start := (cur + (slot.val + 4096 - cur % 4096) % 4096) * 8000
  let s1 := advancePs (start - s.tim.now) s
  .next { s1 with pkt := { s1.pkt with fine := s1.pkt.fine.filter (fun x => x.1 ≠ slot.val) } }

/-- PKT_COARSE_WHEEL_SLOT: the next start of this 32.768 µs slot; its entities move into their fine slots. -/
def execPktCoarseWheelSlot (slot : Fin 4096) (s : State) : Host.Outcome State Fault Refusal :=
  let cur := s.tim.now / 32768000
  let start := (cur + (slot.val + 4096 - cur % 4096) % 4096) * 32768000
  let s1 := advancePs (start - s.tim.now) s
  let move := s1.pkt.coarse.filter (fun x => x.1 = slot.val)
  .next { s1 with pkt := { s1.pkt with
    coarse := s1.pkt.coarse.filter (fun x => x.1 ≠ slot.val)
    fine := s1.pkt.fine ++ move.map (fun x => (wheelTime x.2 s1 / fxSlot % 4096, x.2)) } }

/-! ### Gate events (R330 to R336) -/

/-- PKT_GATE_ENTRY_END: the next entry of the cycle takes effect (R330, R331). -/
def execPktGateEntryEnd (port : Fin 288) (s : State) : Host.Outcome State Fault Refusal :=
  let q := port.val
  let g := (s.port q).gates
  match g.list, g.restart with
  | some l, none =>
    if l.windows.length ≤ g.entry + 1 then .next s
    else
      let s1 := advanceToUnits (g.cycleStart + entryOffset l (g.entry + 1) * unitsPerNs) s
      .next (modPort q (fun x => { x with gates := { x.gates with
        entry := g.entry + 1
        states := if gateBroken q s then g.states else ((l.windows[g.entry + 1]?).map (fun w => w.1)).getD g.states } }) s1)
  | _, _ => .next s

/-- PKT_GATE_CYCLE_START: the next cycle begins; a pending disable opens all gates (R26, R336). -/
def execPktGateCycleStart (port : Fin 288) (s : State) : Host.Outcome State Fault Refusal :=
  let q := port.val
  let g := (s.port q).gates
  match g.list, g.restart with
  | some l, none =>
    let start := g.cycleStart + l.cycle * unitsPerNs
    let s1 := advanceToUnits start s
    if g.disable then
      let t := start / unitsPerNs
      .next (completeOr 0x0907 q .ok 9 1 (gateStarted q false 0 0 (t / 1000000000, t % 1000000000))
        (modPort q (fun x => { x with gates := openGates (gateBroken q s) x.gates }) s1))
    else
      .next (modPort q (fun x => { x with gates := { x.gates with
        entry := 0, cycleStart := start
        states := if gateBroken q s then g.states else ((l.windows.head?).map (fun w => w.1)).getD g.states } }) s1)
  | _, _ => .next s

/-- A re-anchored list restarts at its own cycle start; a pending disable opens all gates there (R335, R336). -/
def restartList (q : Nat) (l : GateList) (s : State) : State :=
  let s1 := advanceToUnits l.startTod s
  if (s.port q).gates.disable then
    completeOr 0x0907 q .ok 9 1 (gateStarted q false 0 0 l.start) (modPort q (fun x => { x with gates := openGates (gateBroken q s) x.gates }) s1)
  else emit 9 1 (gateStarted q true 1 l.advanced l.start)
    (modPort q (fun x => { x with gates := installList l true (gateBroken q s) x.gates }) s1)
/-- A pending list starts and cuts the list in force (R332). -/
def startPending (q : Nat) (l : GateList) (s : State) : State :=
  completeOr 0x0907 q .ok 9 1 (gateStarted q true 0 l.advanced l.start)
    (modPort q (fun x => { x with gates := { installList l false (gateBroken q s) x.gates with pending := none } }) (advanceToUnits l.startTod s))

/-- PKT_GATE_LIST_START: the earlier of a re-anchored list's restart and a pending list's start (R332 to R336). -/
def execPktGateListStart (port : Fin 288) (s : State) : Host.Outcome State Fault Refusal :=
  let q := port.val
  let g := (s.port q).gates
  match g.restart, g.pending with
  | some l, some p => .next (if p.startTod < l.startTod then startPending q p s else restartList q l s)
  | some l, none => .next (restartList q l s)
  | none, some p => .next (startPending q p s)
  | none, none => .next s

/-- PKT_INIT_COMPLETE (R342): cinder-listed tiles and banks are removed and READY is set. -/
def execPktInitComplete (s : State) : Host.Outcome State Fault Refusal :=
  if s.pkt.powered = false ∨ s.pkt.ready = true then .next s
  else
    let s1 := (cinderTiles s).foldl (fun u t => retireTile t u) s
    let s2 := (cinderBanks s).foldl (fun u b => retireBank b u) s1
    .next { s2 with pkt := { s2.pkt with ready := true } }

/-! ### Commands (R343, R344) -/

/-- PKT_PORT_SET (R319, R343). -/
def replyPktPortSet (p : Packet) (s : State) : Reply :=
  let b := p.params
  let q := u16 b 0
  let old := (s.port q).cfg
  let w := (List.range 8).map (fun i => u8 b (20 + i))
  let new : PortCfg := ⟨u8 b 2, bit (u8 b 3) 0, bit (u8 b 3) 1, u16 b 4, u16 b 6, u32 b 8, u32 b 12, u8 b 16, s8 b 17, u8 b 18, w, u16 b 28⟩
  let s1 := modPort q (fun x => { x with cfg := new }) s
  checked s
    ([badParam 0 (decide (287 < q)), badParam 2 (decide (3 < u8 b 2)), failIf .badState (decide (new.mode ≠ old.mode)
        && s.pkt.rules.any (fun r => r.1.1 = q)), badParam 3 (decide (3 < u8 b 3)),
      badParam 4 (decide (u16 b 4 < 1518) || decide (16000 < u16 b 4)), badParam 8 (decide (458752 < u32 b 8)),
      badParam 8 (decide (activeTiles s.pkt < resSum s1.pkt + 65536)), badLen 12 (decide (u32 b 12 = 0)),
      badParam 12 (decide (u32 b 12 < 63) || decide (524288 < u32 b 12) || decide (u32 b 12 < u32 b 8)),
      badParam 16 (decide (7 < u8 b 16)),
      badParam 17 (decide (s8 b 17 < -32) || decide (64 < s8 b 17)), reservedBytes b 19 1]
      ++ (List.range 8).map (fun i => badLen (20 + i) (decide (u8 b (20 + i) = 0))) ++ [reservedBytes b 30 2])
    (.ok s1)
def execPktPortSet (p : Packet) (s : State) : Host.Outcome State Fault Refusal :=
  .next (runCommand (modCmd 0x0901 32) replyPktPortSet p s)

/-- The entries a batch may name: all of a kind (R343). -/
def entityRange (k : Nat) : Nat := if k = 0 then 65536 else 4096
def entityKey (k n : Nat) : Nat := k * 65536 + n

/-- The 32 bytes of an entity entry (R344). -/
def parseEntity (b : List Byte) : Entity :=
  ⟨u16 b 0, bit (u8 b 2) 0, u8 b 3, u32 b 4, u32 b 8, u32 b 12, u32 b 16, u8 b 20, u16 b 22⟩
def entityBytes (x : Entity) (peak : Nat) : List Byte :=
  leBytes 2 x.parent ++ leBytes 1 (b2n x.isValid) ++ leBytes 1 x.weight ++ leBytes 4 x.cir ++ leBytes 4 x.pir ++ leBytes 4 x.cbs
    ++ leBytes 4 x.pbs ++ leBytes 1 x.action ++ leBytes 1 0 ++ leBytes 2 x.tag ++ leBytes 4 peak ++ leBytes 4 0

/-- The checks of one entity entry at an offset (R323, R325, R344). -/
def entityChecks (kind off : Nat) (b : List Byte) : List Check :=
  let x := parseEntity b
  [badParam off (decide ((if kind = 0 then 4095 else 287) < x.parent)), badParam (off + 2) (decide (1 < u8 b 2)),
    badLen (off + 3) (decide (x.weight = 0)), badParam (off + 4) (decide (x.cir ≠ 0) && (decide (x.cir < 1000) || decide (x.pir < x.cir))),
    badParam (off + 8) (decide (x.pir < 1000) || decide (2400000000 < x.pir)), badParam (off + 12) (decide (1048576 < x.cbs)),
    badParam (off + 16) (decide (1048576 < x.pbs)), badParam (off + 20) (decide ((if kind = 0 then 3 else 7) < x.action)),
    reservedBytes b 21 1 |> fun c => { c with offset := off + 21 },
    badParam (off + 22) (if kind = 0 then decide (32768 ≤ x.tag) else decide (x.tag ≠ 0)),
    badParam (off + 24) (decide (leNat (bytesAt 24 8 b) ≠ 0))]

/-- A subscriber's SERVICE, or a service's port or CLASS, changes while it holds queued frames (R343). -/
def entityBusy (kind k : Nat) (x : Entity) (s : State) : Bool :=
  let o := s.entity k
  queued k s && (decide (o.parent ≠ x.parent) || (decide (kind = 1) && decide (o.action ≠ x.action)))

/-- PKT_ENTITY_SET (R343, R344). -/
def replyPktEntitySet (p : Packet) (s : State) : Reply :=
  let b := p.params
  let kind := u8 b 0
  let first := u16 b 2
  let n := u16 b 4
  let es := (List.range n).map (fun i => (8 + 32 * i, (entityKey kind (first + i), bytesAt (8 + 32 * i) 32 b)))
  checked s
    ([badParam 0 (decide (1 < kind)), reservedBytes b 1 1, badParam 2 (decide (entityRange kind ≤ first)),
        badLen 4 (decide (n = 0) || decide ((if fromBmc p then 6 else 126) < n)), badParam 4 (decide (entityRange kind < first + n)),
        reservedBytes b 6 2]
      ++ es.flatMap (fun e => entityChecks kind e.1 e.2.2)
      ++ es.map (fun e => failIf .busy (entityBusy kind e.2.1 (parseEntity e.2.2) s)))
    (.ok { s with pkt := { s.pkt with
      entities := es.foldl (fun t e => tabSet Entity.none t e.2.1 (parseEntity e.2.2)) s.pkt.entities } })
def execPktEntitySet (p : Packet) (s : State) : Host.Outcome State Fault Refusal :=
  .next (runCommand { modCmd 0x0902 0 with lenOk := fun b => b.length = 8 + 32 * u16 b 4 } replyPktEntitySet p s)

/-- PKT_ENTITY_GET (R329, R343, R344). -/
def replyPktEntityGet (p : Packet) (s : State) : Reply :=
  let b := p.params
  let kind := u8 b 0
  let first := u16 b 2
  let n := u16 b 4
  checked s
    [badParam 0 (decide (1 < kind)), reservedBytes b 1 1, badParam 2 (decide (entityRange kind ≤ first)),
      badLen 4 (decide (n = 0) || decide ((if fromBmc p then 6 else 126) < n)), badParam 4 (decide (entityRange kind < first + n)),
      reservedBytes b 6 2]
    (.answer (leBytes 2 n ++ leBytes 6 0 ++ (List.range n).flatMap (fun i =>
      let k := entityKey kind (first + i)
      entityBytes (s.entity k) (peakForce k s))) s)
def execPktEntityGet (p : Packet) (s : State) : Host.Outcome State Fault Refusal :=
  .next (runCommand (readCmd 0x0903 8) replyPktEntityGet p s)

/-- A rule of 16 bytes: its key and subscriber. -/
def parseRule (b : List Byte) : RuleKey × Nat := ((u16 b 0, (u16 b 2, (u16 b 4, u8 b 6))), u16 b 8)

/-- The checks of one rule at an offset (R311, R343): fields outside the port's MODE are 0. -/
def ruleChecks (off : Nat) (b : List Byte) (s : State) : List Check :=
  let m := (s.port (u16 b 0)).cfg.mode
  [badParam off (decide (287 < u16 b 0)), badParam (off + 2) (decide (4095 < u16 b 2) || (decide (m = 0) && decide (u16 b 2 ≠ 0))),
    badParam (off + 4) (decide (4095 < u16 b 4) || (decide (m ≠ 2) && decide (u16 b 4 ≠ 0))),
    badParam (off + 6) (decide (7 < u8 b 6) || (decide (m ≠ 3) && decide (u8 b 6 ≠ 0))),
    badParam (off + 7) (decide (u8 b 7 ≠ 0)), badParam (off + 10) (decide (leNat (bytesAt 10 6 b) ≠ 0))]

/-- Add rules in order while there is room: up to 65,536 always fit, beyond that the table may refuse one, which is open;
none fits beyond 131,072 (R312). -/
def addRules : List (RuleKey × Nat) → Nat → State → Nat × State
  | [], n, s => (n, s)
  | r :: rs, n, s =>
    let put := fun (u : State) => { u with pkt := { u.pkt with rules := (u.pkt.rules.filter (fun x => x.1 ≠ r.1)) ++ [r] } }
    if s.pkt.rules.any (fun x => x.1 = r.1) || decide (s.pkt.rules.length < 65536) then addRules rs (n + 1) (put s)
    else if 131072 ≤ s.pkt.rules.length then (n, s)
    else
      let v := takeFree s
      if v.1 % 2 = 0 then addRules rs (n + 1) (put v.2) else (n, v.2)

/-- PKT_RULE_ADD (R312, R343). -/
def replyPktRuleAdd (p : Packet) (s : State) : Reply :=
  let b := p.params
  let n := u16 b 0
  let rs := (List.range n).map (fun i => (8 + 16 * i, bytesAt (8 + 16 * i) 16 b))
  checked s ([badLen 0 (decide (n = 0) || decide ((if fromBmc p then 13 else 253) < n)), reservedBytes b 2 6]
      ++ rs.flatMap (fun r => ruleChecks r.1 r.2 s))
    (let r := addRules (rs.map (fun x => parseRule x.2)) 0 s
     .done (if r.1 = n then .ok else .partly) 0xFFFF (leBytes 2 r.1) r.2)
def execPktRuleAdd (p : Packet) (s : State) : Host.Outcome State Fault Refusal :=
  .next (runCommand { modCmd 0x0904 0 with lenOk := fun b => b.length = 8 + 16 * u16 b 0 } replyPktRuleAdd p s)

/-- PKT_RULE_DEL (R343). -/
def replyPktRuleDel (p : Packet) (s : State) : Reply :=
  let b := p.params
  let n := u16 b 0
  let all := bit (u8 b 2) 0
  let rs := (List.range n).map (fun i => (8 + 16 * i, bytesAt (8 + 16 * i) 16 b))
  let keys := rs.map (fun r => (parseRule r.2).1)
  let keep := s.pkt.rules.filter (fun r => if all then decide (r.1.1 ≠ u16 b 4) else !keys.contains r.1)
  checked s ([badLen 0 ((all == decide (n ≠ 0)) || decide ((if fromBmc p then 13 else 253) < n)),
        badParam 2 (decide (1 < u8 b 2)), reservedBytes b 3 1,
        badParam 4 (all && decide (287 < u16 b 4)), reservedBytes b 6 2]
      ++ rs.flatMap (fun r => ruleChecks r.1 r.2 s))
    (.answer (leBytes 4 (s.pkt.rules.length - keep.length)) { s with pkt := { s.pkt with rules := keep } })
def execPktRuleDel (p : Packet) (s : State) : Host.Outcome State Fault Refusal :=
  .next (runCommand { modCmd 0x0905 0 with lenOk := fun b => b.length = 8 + 16 * u16 b 0 } replyPktRuleDel p s)

/-- PKT_GATE_LOAD (R331, R343). -/
def replyPktGateLoad (p : Packet) (s : State) : Reply :=
  let b := p.params
  let q := u16 b 0
  let first := u16 b 2
  let n := u16 b 4
  checked s
    ([badParam 0 (decide (287 < q)), badParam 2 (decide (1023 < first)), badLen 4 (decide (n = 0) || decide ((if fromBmc p then 54 else 1014) < n)),
        badParam 4 (decide (1024 < first + n)), reservedBytes b 6 2]
      ++ (List.range n).map (fun i => badLen (8 + 4 * i) (decide (u32 b (8 + 4 * i) / 256 = 0))))
    (.ok (modPort q (fun x => { x with gates := { x.gates with staged := (List.range n).foldl (fun t i =>
      tabInsert t (first + i) ⟨u32 b (8 + 4 * i) % 256, u32 b (8 + 4 * i) / 256⟩) x.gates.staged } }) s))
def execPktGateLoad (p : Packet) (s : State) : Host.Outcome State Fault Refusal :=
  .next (runCommand { modCmd 0x0906 0 with lenOk := fun b => b.length = 8 + 4 * u16 b 4 } replyPktGateLoad p s)

/-- The pending list of a port is discarded, its command completed ABORTED (R336). -/
def gateCancel (q : Nat) (s : State) : State :=
  let g := (s.port q).gates
  let s1 := modPort q (fun x => { x with gates := { x.gates with staged := [], pending := none, disable := false } }) s
  match g.pending with
  | some l => completeDeferred 0x0907 q .aborted (gateStarted q true 0 l.advanced l.start) s1
  | none => if g.disable then completeDeferred 0x0907 q .aborted (gateStarted q false 0 0 (0, 0)) s1 else s1

/-- The staged entries below a count, none when one is missing (R332). -/
def stagedList (g : Gates) (n : Nat) : Option (List GateEntry) :=
  (List.range n).foldr (fun i l => match l, (g.staged.find? (fun e => e.1 = i)) with
    | some es, some e => some (e.2 :: es)
    | _, _ => none) (some [])

/-- PKT_GATE_SET (R331, R332, R336, R343). -/
def replyPktGateSet (p : Packet) (s : State) : Reply :=
  let b := p.params
  let q := u16 b 0
  let enable := bit (u8 b 2) 0
  let cancel := bit (u8 b 2) 1
  let cycle := u32 b 4
  let n := u16 b 8
  let base := (u48 b 12, u32 b 20)
  let g := (s.port q).gates
  let a := anchor base cycle s
  let baseNs := base.1 * 1000000000 + base.2
  let nowNs := s.tim.tod / unitsPerNs
  checked s [badParam 0 (decide (287 < q)), badParam 2 (decide (3 < u8 b 2)), reservedBytes b 3 1]
    (if cancel then checked s [reservedBytes b 10 2, reservedBytes b 18 2] (.ok (gateCancel q s))
    else if !enable then
      checked s [reservedBytes b 10 2, reservedBytes b 18 2, failIf .busy (g.pending.isSome || g.disable)]
        (if g.list.isNone then .ok (modPort q (fun x => { x with gates := openGates (gateBroken q s) { x.gates with staged := [] } }) s)
        else .later q 9 1 (gateStarted q false 0 0 (0, 0))
          (modPort q (fun x => { x with gates := { x.gates with disable := true, staged := [] } })))
    else
      checked s [badParam 4 (decide (cycle < 1000) || decide (1000000000 < cycle) || decide (cycle % 8 ≠ 0)),
          badLen 8 (decide (n = 0)), badParam 8 (decide (1024 < n)), failIf .badState (stagedList g n).isNone, reservedBytes b 10 2,
          badParam 12 (decide (baseNs + 2 ^ 32 * cycle < nowNs)),
          badParam 12 (decide (nowNs + 1000000000000 < baseNs + a.1 * cycle)), reservedBytes b 18 2,
          badParam 20 (decide (1000000000 ≤ base.2)), failIf .busy (g.pending.isSome || g.disable)]
        (match stagedList g n with
        | none => .fail .badState s
        | some es =>
          .later q 9 1 (gateStarted q true 0 a.1 a.2) (modPort q (fun x => { x with gates := { x.gates with
            staged := [], pending := some ⟨es, cycle, base, a.2, a.1⟩ } }))))
def execPktGateSet (p : Packet) (s : State) : Host.Outcome State Fault Refusal :=
  .next (runCommand (modCmd 0x0907 24) replyPktGateSet p s)

/-- PKT_STATS_GET (R343). -/
def replyPktStatsGet (p : Packet) (s : State) : Reply :=
  let b := p.params
  let kind := u8 b 0
  let first := u16 b 2
  let n := u16 b 4
  checked s
    [badParam 0 (decide (1 < kind)), reservedBytes b 1 1, badParam 2 (decide (entityRange kind ≤ first)),
      badLen 4 (decide (n = 0) || decide ((if fromBmc p then 9 else 169) < n)), badParam 4 (decide (entityRange kind < first + n)),
      reservedBytes b 6 2]
    (.answer (leBytes 6 s.pkt.statsSecond ++ leBytes 2 n ++ (List.range n).flatMap (fun i =>
      let x := tabGet Stats.zero s.pkt.statsCopy (entityKey kind (first + i))
      leBytes 8 x.frames ++ leBytes 8 x.bytes ++ leBytes 8 x.drops)) s)
def execPktStatsGet (p : Packet) (s : State) : Host.Outcome State Fault Refusal :=
  .next (runCommand (readCmd 0x0908 8) replyPktStatsGet p s)

end Sys2Proof.Machine
end

