-- ==== Sys2Proof/Machine/RegPkt.lean ====
section
/-! DEFINITION. The register words of the PKT window, by offset (R346). -/

namespace Sys2Proof.Machine

/-- The VALID services of a port, and every valid entity of it. -/
def portServices (q : Nat) (s : State) : List Entity :=
  (s.pkt.entities.filter (fun e => decide (65536 ≤ e.1) && e.2.isValid && decide (e.2.parent = q))).map (fun e => e.2)
def portEntities (q : Nat) (s : State) : List Nat :=
  (s.pkt.entities.filter (fun e => e.2.isValid && decide (portOf e.1 s = q))).map (fun e => e.1)
/-- The service CIR sum exceeds R (R324; CIR in kb/s, R in Mb/s). -/
def overcommit (q : Nat) (s : State) : Bool :=
  decide (portRate q s * 1000 < (portServices q s).foldl (fun n x => n + x.cir) 0)
def throttled (q : Nat) (s : State) : Bool := (portEntities q s).any (fun k => decide (peakForce k s < (s.entity k).pir))

def gateStatusWord (g : Gates) : Nat :=
  pack [(0, 8, g.states), (8, 1, b2n g.list.isSome), (9, 1, b2n g.pending.isSome), (10, 1, b2n g.isAdvanced), (11, 1, b2n g.restarted),
    (16, 10, g.entry)]
def gateStart (g : Gates) : Nat × Nat := (g.list.map (fun l => l.start)).getD (0, 0)
def weightWord (ws : List Nat) (lo : Nat) : Nat := pack ((List.range 4).map (fun i => (8 * i, 8, ws.getD (lo + i) 1)))

/-- The counters of a port; `v` is the running second. -/
def portCountWord (o : Nat) (v : PortCounts) : Nat :=
  if o = 0x48 then v.oversize else if o = 0x4C then v.rxFrames else if o = 0x50 then lowWord v.rxBytes else if o = 0x54 then highWord v.rxBytes
  else if o = 0x58 then v.txFrames else if o = 0x5C then lowWord v.txBytes else if o = 0x60 then highWord v.txBytes
  else if o = 0x64 then v.dropMac else if o = 0x68 then v.dropCls else if o = 0x6C then v.dropTail else if o = 0x70 then v.dropDown
  else if o = 0x74 then v.dropCorrupt else if o = 0x78 then v.dropAuth else if o = 0x7C then v.stomp else 0

/-- The words of a port block. -/
def portWord (q o : Nat) (s : State) : Nat :=
  let x := s.port q
  let c := x.cfg
  let force := resForce s.pkt c.res
  if o = 0x0 then
    pack [(0, 1, b2n x.egressUp), (1, 1, b2n x.ingressUp), (2, 1, b2n x.held), (3, 1, b2n (overcommit q s)), (4, 1, b2n (throttled q s)),
      (5, 1, b2n (decide (force < c.res)))]
  else if o = 0x4 then
    pack [(0, 2, c.mode), (2, 1, b2n c.defaultEn), (3, 1, b2n c.throttleOk), (4, 3, c.alpha), (8, 8, c.strict), (16, 16, c.mtu)]
  else if o = 0x8 then pack [(0, 8, unsignedOf 8 c.shapeAdj), (16, 16, c.defaultSub)]
  else if o = 0xC then c.tpid
  else if o = 0x10 then weightWord c.weights 0
  else if o = 0x14 then weightWord c.weights 4
  else if o = 0x18 then portRate q s
  else if o = 0x1C then c.res
  else if o = 0x20 then force
  else if o = 0x24 then c.max
  else if o = 0x28 then x.resUsed + x.sharedUsed
  else if o = 0x2C then x.sharedUsed
  else if o = 0x30 then gateStatusWord x.gates
  else if o = 0x34 then x.gates.adv
  else if o = 0x38 then lowWord ((x.gates.list.map (fun l => l.cycle)).getD 0)
  else if o = 0x3C then lowWord (gateStart x.gates).1
  else if o = 0x40 then highWord (gateStart x.gates).1
  else if o = 0x44 then (gateStart x.gates).2
  else portCountWord o x.live

/-- The live word at an offset of the PKT window. -/
def pktWord (off : Nat) (s : State) : Nat :=
  let p := s.pkt
  if off = 0x0 then pack [(0, 1, b2n p.powered), (1, 1, b2n p.ready), (2, 1, b2n (resScaled p))]
  else if off = 0x8 then activeTiles p
  else if off = 0xC then freeTiles p
  else if off = 0x10 then sharedTotal p
  else if off = 0x14 then sharedFree p
  else if off = 0x18 then min 0xFFFFF (resSum p)
  else if off = 0x1C then lowWord p.banks.toNat
  else if off = 0x20 then highWord p.banks.toNat
  else if off = 0x24 then p.step
  else if off = 0x28 then p.rules.length
  else if off = 0x30 then p.tileCrcErr
  else if off = 0x34 then p.poisonDrop
  else if 0x1000 ≤ off ∧ off < 0xA000 then portWord ((off - 0x1000) / 0x80) (off % 0x80) s
  else 0
/-- The ports whose use a snapshot of the window can change: those not in their reset state, and those that a copy shows (R108). -/
def pktSnapPorts (s : State) : List Nat :=
  let known : List Nat := s.pkt.ports.map (fun x => x.1)
  let copies : List Nat := (s.snap.filter (fun x => decide (0x281000 ≤ x.1 ∧ x.1 < 0x28A000))).map (fun x => (x.1 - 0x281000) / 0x80)
  (known ++ copies).eraseDups
/-- The Snapshot offsets: both free counts and the use of the ports; every other port's use is 0, as its copy reads (R346). -/
def pktSnapOffsets (s : State) : List Nat :=
  [0xC, 0x14] ++ (pktSnapPorts s).flatMap (fun q => [0x1028 + 0x80 * q, 0x102C + 0x80 * q])
def pktSnapMask (off : Nat) : Nat :=
  if off = 0xC ∨ off = 0x14 ∨ (0x1000 ≤ off ∧ off < 0xA000 ∧ 0x28 ≤ off % 0x80 ∧ off % 0x80 ≤ 0x2C) then allBits else 0
def pktSecondOffsets (s : State) : List Nat :=
  s.pkt.ports.flatMap (fun x => (List.range 14).map (fun i => 0x1048 + 0x80 * x.1 + 4 * i))
def pktSecondMask (off : Nat) : Nat := if 0x1000 ≤ off ∧ off < 0xA000 ∧ 0x48 ≤ off % 0x80 then allBits else 0
/-- A read clears PKT_TILE_CRC_ERR and PKT_POISON_DROP. -/
def pktClear (off : Nat) (s : State) : State :=
  if off = 0x30 then { s with pkt := { s.pkt with tileCrcErr := 0 } }
  else if off = 0x34 then { s with pkt := { s.pkt with poisonDrop := 0 } }
  else s

end Sys2Proof.Machine
end

