-- ==== Sys2Proof/Machine/RegAll.lean ====
section
/-! DEFINITION. BAR0 as a whole: windows, live words, readable copies, and what a read returns (R26, R28, R29, R107 to R109). -/

namespace Sys2Proof.Machine

/-- The window an address lies in: its base (R28). The first address of each window, highest first; 1 marks a reserved range. -/
def windowStarts : List (Nat × Nat) :=
  [(0x3C0000, 0x3C0000), (0x380000, 0x380000), (0x340000, 0x340000), (0x300000, 0x300000), (0x280000, 0x280000), (0x240000, 0x240000),
    (0x220000, 0x220000), (0x200000, 0x200000), (0x1C0000, 0x1C0000), (0x180000, 0x180000), (0x140000, 0x140000),
    (0x100000, 0x100000), (0x60000, 1), (0x50000, 0x50000), (0x40000, 0x40000), (0x30000, 0x30000), (0x20000, 0x20000),
    (0x10000, 0x10000), (0, 0)]
/-- The base of the window that holds an address; 1 for a reserved range or beyond BAR0. -/
def windowBase (addr : Nat) : Nat :=
  if 0x400000 ≤ addr then 1 else ((windowStarts.find? (fun w => decide (w.1 ≤ addr))).map (fun w => w.2)).getD 1

/-- What the registers of a window hold now. -/
def liveWord (base off : Nat) (s : State) : Nat :=
  if base = 0x0 then devWord off s
  else if base = 0x10000 then hifWord off s
  else if base = 0x20000 then thmWord off s
  else if base = 0x30000 then miWord off s
  else if base = 0x40000 then timWord off s
  else if base = 0x50000 then logWord off s
  else if base = 0x100000 then cnvWord 0 off s
  else if base = 0x140000 then dspWord 0 off s
  else if base = 0x180000 then cnvWord 1 off s
  else if base = 0x1C0000 then dspWord 1 off s
  else if base = 0x200000 then fecWord off s
  else if base = 0x220000 then frmWord off s
  else if base = 0x240000 then mapWord off s
  else if base = 0x280000 then pktWord off s
  else if base = 0x300000 then cphWord off s
  else if base = 0x340000 then clnWord off s
  else if base = 0x380000 then plkWord off s
  else if base = 0x3C0000 then monWord off s
  else 0

/-- The Snapshot bits of a word, and its Second latch bits. -/
def snapMask (base off : Nat) : Nat :=
  if base = 0x20000 then thmSnapMask off
  else if base = 0x100000 ∨ base = 0x180000 then cnvSnapMask off
  else if base = 0x140000 ∨ base = 0x1C0000 then dspSnapMask off
  else if base = 0x200000 then fecSnapMask off
  else if base = 0x220000 then frmSnapMask off
  else if base = 0x240000 then mapSnapMask off
  else if base = 0x280000 then pktSnapMask off
  else if base = 0x300000 then cphSnapMask off
  else if base = 0x340000 then clnSnapMask off
  else if base = 0x380000 then plkSnapMask off
  else if base = 0x3C0000 then monSnapMask off
  else 0
def secondMask (base off : Nat) : Nat :=
  if base = 0x20000 then thmSecondMask off
  else if base = 0x40000 then timSecondMask off
  else if base = 0x50000 then logSecondMask off
  else if base = 0x100000 ∨ base = 0x180000 then cnvSecondMask off
  else if base = 0x140000 ∨ base = 0x1C0000 then dspSecondMask off
  else if base = 0x200000 then fecSecondMask off
  else if base = 0x220000 then frmSecondMask off
  else if base = 0x280000 then pktSecondMask off
  else if base = 0x300000 then cphSecondMask off
  else if base = 0x340000 then clnSecondMask off
  else if base = 0x380000 then plkSecondMask off
  else if base = 0x3C0000 then monSecondMask off
  else 0

/-- The _SNAP registers: window base and offset (R108). -/
def snapRegs : List (Nat × Nat) :=
  [(0x20000, 4), (0x100000, 8), (0x140000, 8), (0x180000, 8), (0x1C0000, 8), (0x200000, 8), (0x220000, 8), (0x240000, 8), (0x280000, 4),
    (0x300000, 8), (0x340000, 4), (0x380000, 8), (0x3C0000, 4)]
/-- The window has a _SNAP register on this variant (R2, R108). -/
def hasSnap (base : Nat) (s : State) : Bool := snapRegs.any (fun w => decide (w.1 = base)) && !(decide (base = 0x300000) && s.dev.variantN)

/-- What a read of a Snapshot field returns before the first snapshot. -/
def snapDefault (base off : Nat) : Nat := if base = 0x100000 ∨ base = 0x180000 then cnvSnapReset off else 0

/-- A read of a BAR0 register: each bit from the live word or from its readable copy (R26, R109). -/
def readReg (addr : Nat) (s : State) : Nat :=
  let base := windowBase addr
  let a := addr / 4 * 4
  let off := a - base
  if base = 1 then 0
  else if snapRegs.contains (base, off) then b2n (s.snapBusy.contains base)
  else
    let sm := snapMask base off
    let lm := secondMask base off
    (liveWord base off s &&& (allBits ^^^ (sm ||| lm))) ||| (tabGet (snapDefault base off) s.snap a &&& sm) ||| (tabGet 0 s.latched a &&& lm)

/-- A read of BAR0 of `width` bytes: the addressed bytes of the registers that hold them, first byte lowest (R5, R29). -/
def readBytes (addr width : Nat) (s : State) : List Byte :=
  (List.range width).map (fun i => BitVec.ofNat 8 (readReg (addr + i) s / 256 ^ ((addr + i) % 4)))

/-- The Snapshot offsets of a window. -/
def snapOffsets (base : Nat) (s : State) : List Nat :=
  if base = 0x20000 then thmSnapOffsets
  else if base = 0x100000 ∨ base = 0x180000 then cnvSnapOffsets
  else if base = 0x140000 ∨ base = 0x1C0000 then dspSnapOffsets
  else if base = 0x200000 then fecSnapOffsets
  else if base = 0x220000 then frmSnapOffsets
  else if base = 0x240000 then mapSnapOffsets
  else if base = 0x280000 then pktSnapOffsets s
  else if base = 0x300000 then cphSnapOffsets
  else if base = 0x340000 then clnEqOffsets
  else if base = 0x380000 then 0x24 :: plkEqOffsets
  else if base = 0x3C0000 then monSnapOffsets
  else []
/-- The word is a receiver's equaliser readings, and the receiver has some (log 14). -/
def measuredWord (base off : Nat) (s : State) : Bool :=
  (decide (base = 0x340000) && clnEqLive off s) || (decide (base = 0x380000 ∧ off ≠ 0x24) && plkEqLive off s)
/-- The figures that RX_FREEZE holds, and the lane that is to hold them from now on (R354). -/
def eqHeld (base off : Nat) (s : State) : Option Nat :=
  if base = 0x340000 then (s.lane ((off - 0x2000) / 0x20)).held else (s.peerLane ((off - 0x1000) / 0x20)).held
def holdEq (base off v : Nat) (s : State) : State :=
  if base = 0x340000 then modLane ((off - 0x2000) / 0x20) (fun x => { x with held := if x.rxFreeze then some v else none }) s
  else modPeer ((off - 0x1000) / 0x20) (fun x => { x with held := if x.rxFreeze then some v else none }) s
/-- Copy the Snapshot fields at a list of offsets; an equaliser that adapts shows free figures, one that RX_FREEZE holds those it showed
first (R354; log 14). -/
def copySnap (base : Nat) : List Nat → State → State
  | [], s => s
  | off :: os, s =>
    if measuredWord base off s then
      match eqHeld base off s with
      | some v => copySnap base os { s with snap := tabInsert s.snap (base + off) v }
      | none =>
        let f := takeFree s
        copySnap base os (holdEq base off (f.1 % 2 ^ 24) { f.2 with snap := tabInsert f.2.snap (base + off) (f.1 % 2 ^ 24) })
    else copySnap base os { s with snap := tabInsert s.snap (base + off) (liveWord base off s) }
/-- A write of 1 to _SNAP.REQ: every Snapshot field of the window is copied from one instant; nothing while REQ is 1 (R108). -/
def snapRequest (base : Nat) (s : State) : State :=
  if !hasSnap base s || s.snapBusy.contains base then s
  else copySnap base (snapOffsets base s) { s with snapBusy := s.snapBusy ++ [base] }

end Sys2Proof.Machine
end

