-- ==== Sys2Proof/Machine/Registers.lean ====
section
/-! DEFINITION. Register accesses: writes, reads with side effects, snapshots (R10, R29, R48, R91, R107, R108, R483), and the
enables of queue 0 and the event ring (R62, R91). -/

namespace Sys2Proof.Machine

def modHif (f : Hif → Hif) (s : State) : State := { s with hif := f s.hif }

/-! ### Rings (R62) -/

/-- A power of two between two bounds. -/
def ringPower (lo n : Nat) : Bool := (List.range 13).any (fun k => decide (n = 2 ^ k)) && decide (lo ≤ n)
def aligned64 (a : Long) : Bool := decide (a.toNat % 64 = 0)
/-- Queue 0's registers satisfy R62. -/
def q0Sound (h : Hif) : Bool :=
  ringPower 2 h.q0SqSize.toNat && ringPower 2 h.q0CqSize.toNat && decide (h.q0SqSize.toNat ≤ h.q0CqSize.toNat)
    && aligned64 h.q0SqBase && aligned64 h.q0CqBase
/-- A queue pair as it begins. -/
def newQueue (irqEn : Bool) (sqBase cqBase : Long) (sqSize cqSize : Nat) : QueuePair :=
  { QueuePair.absent with enabled := true, irqEn, sqBase, cqBase, sqSize, cqSize }

/-- Delete a queue pair: its started commands run on and answer nowhere, its DEFERRED commands complete ABORTED (R88). -/
def deleteQueue (n : Nat) (s : State) : State :=
  let s1 := s.setQueue n QueuePair.absent
  abortDeferred (fun d => d.chan = n)
    { s1 with hif := { s1.hif with inflight := s1.hif.inflight.map (fun f => if f.chan = n then { f with discard := true } else f) } }

/-- HIF_CTRL.Q0_EN goes to 1 (R91): the queue is enabled, or refused with CFG_ERR_Q0. -/
def enableQ0 (s : State) : State :=
  let h := s.hif
  if q0Sound h then
    modHif (fun x => { x with q0En := true, cfgErrQ0 := false })
      (s.setQueue 0 (newQueue true h.q0SqBase h.q0CqBase h.q0SqSize.toNat h.q0CqSize.toNat))
  else modHif (fun x => { x with q0En := true, cfgErrQ0 := true }) s
def disableQ0 (s : State) : State := deleteQueue 0 (modHif (fun x => { x with q0En := false, cfgErrQ0 := false }) s)
/-- HIF_CTRL.EQ_EN goes to 1 (R62, R91). -/
def enableEq (s : State) : State :=
  let h := s.hif
  if ringPower 16 h.eqSizeReg.toNat && aligned64 h.eqBaseReg then
    modHif (fun x => { x with eqEn := true, cfgErrEq := false, events := ⟨h.eqBaseReg, h.eqSizeReg.toNat, true, 0, 0, true, 0, 0, h.events.lost, []⟩ }) s
  else modHif (fun x => { x with eqEn := true, cfgErrEq := true }) s
def disableEq (s : State) : State :=
  modHif (fun x => { x with eqEn := false, cfgErrEq := false, events := { x.events with enabled := false, lostRun := 0, firstLost := 0 } }) s

def execHifQ0EnSet (s : State) : Host.Outcome State Fault Refusal := .next (if s.hif.q0En then s else enableQ0 s)
def execHifQ0EnClear (s : State) : Host.Outcome State Fault Refusal := .next (if s.hif.q0En then disableQ0 s else s)
def execHifEqEnSet (s : State) : Host.Outcome State Fault Refusal := .next (if s.hif.eqEn then s else enableEq s)
def execHifEqEnClear (s : State) : Host.Outcome State Fault Refusal := .next (if s.hif.eqEn then disableEq s else s)

/-- A write to HIF_CTRL: both CFG_ERR bits are cleared, then each enable that changes acts (R91). -/
def ctrlWrite (v : Nat) (s : State) : State :=
  let s0 := modHif (fun x => { x with cfgErrQ0 := false, cfgErrEq := false }) s
  let s1 := if bit v 0 then (if s0.hif.q0En then s0 else enableQ0 s0) else (if s0.hif.q0En then disableQ0 s0 else s0)
  if bit v 1 then (if s1.hif.eqEn then s1 else enableEq s1) else (if s1.hif.eqEn then disableEq s1 else s1)

/-! ### Writes (R10, R29, R48) -/

/-- The registers marked TC (R55, R210, R437). -/
def tcRegisters : List Nat := [0x70, 0x20008, 0x2000C, 0x20304, 0x20000C]
/-- THM_LIMITS: a field out of its range keeps its value (R8), TRIP is only lowered, and a sum above TRIP leaves all (R423). -/
def tcLimits (start span trip : Nat) (t : Thm) : Thm :=
  let start' := if 85 ≤ start ∧ start ≤ 108 then start else t.thrStart
  let span' := if 2 ≤ span ∧ span ≤ 20 then span else t.span
  let trip' := if 100 ≤ trip ∧ trip ≤ t.tripLimit then trip else t.tripLimit
  if start' + span' ≤ trip' then { t with thrStart := start', span := span', tripLimit := trip' } else t
/-- A write by the TC; a value out of range keeps the previous one. -/
def tcWrite (addr v : Nat) (s : State) : State :=
  if addr = 0x70 then modDev (fun d => { d with svnMinTc := max d.svnMinTc (bits v 15 0), svnMinAc := max d.svnMinAc (bits v 31 16) }) s
  else if addr = 0x20008 then modThm (tcLimits (bits v 7 0) (bits v 15 8) (bits v 23 16)) s
  else if addr = 0x2000C then
    (if 2 ≤ bits v 4 0 ∧ bits v 4 0 ≤ 12 then modThm (fun t => { t with fecFloor := bits v 4 0 }) s else s)
  else if addr = 0x20304 then
    (if 650 ≤ bits v 9 0 ∧ bits v 9 0 ≤ 800 then modThm (fun t => { t with floor := bits v 9 0 }) s else s)
  else if addr = 0x20000C then
    (if bits v 3 0 ≤ 8 then { s with fec := { s.fec with reserve := bits v 3 0 } } else s)
  else s
/-- A write to a TC register by the host or an AC is dropped and counted; the first after Kindling is recorded (R48). -/
def refuseTc (host : Bool) (addr : Nat) (s : State) : State :=
  let s1 := modDev (fun d => { d with
    dropHost := if host then satAdd 0xFFFF d.dropHost 1 else d.dropHost
    dropAc := if host then d.dropAc else satAdd 0xFFFF d.dropAc 1
    refusedFirst := some (d.refusedFirst.getD addr), refusedCount := d.refusedCount + 1, refusedLogged := true }) s
  if s.dev.refusedLogged then s1 else logRecord 0x0005 0 (leBytes 4 addr) s1

/-- A head register of a DMA ring: a value at or beyond the size is ignored (R404). -/
def ringHead (n v : Nat) (s : State) : State := if v < (s.ring n).size then modRing n (fun r => { r with head := v }) s else s
def monWrite (off v : Nat) (s : State) : State :=
  if 0x1000 ≤ off ∧ off < 0x1400 ∧ off % 0x40 = 0x2C then ringHead ((off - 0x1000) / 0x40) v s
  else if off = 0x8028 then ringHead 16 v s
  else if off = 0x802C then ringHead 17 v s
  else s
/-- FRM_PM_SEL as FRM_PM_SEL_WRITE does it. -/
def pmSelWrite (src : Writer) (v : Word) (s : State) : State :=
  match execFrmPmSelWrite src v s with
  | .next s1 => s1
  | _ => s

/-- An aligned 32-bit write to BAR0; read-only and reserved registers and the LOG window ignore it. -/
def writeReg (src : Writer) (addr : Nat) (value : Word) (s : State) : State :=
  let v := value.toNat
  let base := windowBase addr
  let off := addr - base
  if tcRegisters.contains addr then
    match src with
    | .tc => tcWrite addr v s
    | .host => refuseTc true addr s
    | .ac => refuseTc false addr s
  else if snapRegs.contains (base, off) then (if bit v 0 then snapRequest base s else s)
  else if base = 0x0 then devWrite off v s
  else if addr = 0x10008 then ctrlWrite v s
  else if base = 0x10000 then hifWrite off v s
  else if base = 0x40000 then timWrite off v s
  else if base = 0x100000 then cnvWrite 0 off v s
  else if base = 0x180000 then cnvWrite 1 off v s
  else if addr = 0x220018 then pmSelWrite src value s
  else if base = 0x3C0000 then monWrite off v s
  else s

/-- REGISTER_WRITE: another width or a misaligned address is dropped and counted (R29). Addresses from 0x40_0000 on are
BAR2's, whose MSI-X table the same row writes (log 4). -/
def execRegisterWrite (src : Writer) (addr width : Nat) (value : Word) (s : State) : Host.Outcome State Fault Refusal :=
  if !s.clocked then .next s
  else if width ≠ 4 ∨ addr % 4 ≠ 0 then .next (countBadAccess s)
  else if 0x400000 ≤ addr then .next (msixWrite (addr - 0x400000) value.toNat s)
  else .next (writeReg src addr value s)

/-! ### Reads that act (R10, R91, R107, R483) -/

/-- A read of a register of access code RC clears it; a read of any other leaves the state. -/
def readClear (addr : Nat) (s : State) : State :=
  let base := windowBase addr
  let off := addr / 4 * 4 - base
  if base = 0x10000 then hifClear off s
  else if base = 0x30000 then miClear off s
  else if base = 0x40000 then timClear off s
  else if base = 0x100000 then cnvClear 0 off s
  else if base = 0x180000 then cnvClear 1 off s
  else if base = 0x240000 then mapClear off s
  else if base = 0x280000 then pktClear off s
  else if base = 0x300000 then cphClear off s
  else if base = 0x340000 then clnClear off s
  else if base = 0x3C0000 then monClear off s
  else s
def execReadClearRegister (addr : Nat) (s : State) : Host.Outcome State Fault Refusal := .next (readClear addr s)

/-- HIF_ARRIVAL_LO_READ latches the high word (R91). -/
def execHifArrivalLoRead (s : State) : Host.Outcome State Fault Refusal :=
  .next (modHif (fun h => { h with arrivalHi := BitVec.ofNat 32 (s.arrival / 2 ^ 32) }) s)
/-- TIM_TOD_SEC_LO_READ latches the rest of device time from the same tick (R107). -/
def execTimTodSecLoRead (s : State) : Host.Outcome State Fault Refusal :=
  .next { s with tim := { s.tim with
    latchedHi := s.tim.seconds / 2 ^ 32 % 2 ^ 16, latchedNs := s.tim.nanoseconds, latchedFrac := s.tim.fraction } }
/-- LOG_LO_WORD_READ: LOG_SEQ_LO, or LOG_LIFE_LO of a counter, latches its high word; a life counter's from the copy of the
last boundary (R483). -/
def execLogLoWordRead (counter : Option (Fin 12)) (s : State) : Host.Outcome State Fault Refusal :=
  match counter with
  | none => .next (modLog (fun l => { l with seqHi := if l.ready then highWord l.seq else 0 }) s)
  | some k => .next (modLog (fun l => { l with lifeHi := tabInsert l.lifeHi k.val (tabGet 0 s.latched (0x50104 + 8 * k.val)) }) s)

/-! ### Snapshots (R108) -/

/-- SNAP_REQUEST: the control domain that copies stands without the crystal (R103). -/
def execSnapRequest (window : Nat) (s : State) : Host.Outcome State Fault Refusal := .next (if s.clocked then snapRequest window s else s)
/-- The copy completes and REQ clears. -/
def execSnapCopyDone (window : Nat) (s : State) : Host.Outcome State Fault Refusal :=
  .next { s with snapBusy := s.snapBusy.filter (fun b => b ≠ window) }

end Sys2Proof.Machine
end

