-- ==== Sys2Proof/Machine/HostInterface.lean ====
section
/-! DEFINITION. The meanings of group 0x01: link, queues, doorbells, leases and the host-interface commands (R57 to R91). -/

namespace Sys2Proof.Machine

/-! ### Link, D3hot and PERST (R58 to R60) -/

/-- What the endpoint says of itself in configuration space and supports (R57); sizes are in bytes. -/
structure EndpointIdentity where
  vendor : Nat
  device : Nat
  revision : Nat
  classCode : Nat
  subsystemVendor : Nat
  subsystem : Nat
  bar0 : Nat
  bar2 : Nat
  bars64 : Bool
  prefetchable : Bool
  maxPayload : List Nat
  maxReadRequest : List Nat
  msixVectors : Nat
  msiOrIntx : Bool
  aerAndEcrc : Bool
  functionLevelReset : Bool
  d3hot : Bool
  noSoftReset : Bool
  /-- ASPM, L1 substates, SR-IOV, ATS or PASID. -/
  others : Bool
deriving DecidableEq, Repr
/-- The identity of a part (R57): the subsystem identifier follows the variant. -/
def endpointIdentity (variantN : Bool) : EndpointIdentity where
  vendor := 0x1F6C
  device := 0x4848
  revision := 0xB0
  classCode := 0x028000
  subsystemVendor := 0x1F6C
  subsystem := if variantN then 0x0002 else 0x0001
  bar0 := 4 * 1024 * 1024
  bar2 := 16 * 1024
  bars64 := true
  prefetchable := false
  maxPayload := [128, 256, 512]
  maxReadRequest := [128, 256, 512, 1024, 2048, 4096]
  msixVectors := 64
  msiOrIntx := false
  aerAndEcrc := true
  functionLevelReset := true
  d3hot := true
  noSoftReset := true
  others := false

/-- The link takes a speed and width: data moves again when it comes up, lost events are reported first (R76), and the change is
reported (R58). -/
def setLink (gen width : Nat) (s : State) : State :=
  if s.hif.linkGen = gen ∧ s.hif.linkWidth = width then s
  else
    let s1 := modHif (fun h => { h with linkGen := gen, linkWidth := width }) s
    emit 1 2 (leBytes 1 gen ++ leBytes 1 width) (if s.hif.linkGen = 0 then resumeDma s1 else s1)
/-- A speed and width the endpoint supports (R57), or link down. -/
def linkPossible (gen width : Nat) : Bool := (decide (gen = 0 ∧ width = 0)) || ([3, 4, 5].contains gen && [1, 2, 4, 8].contains width)

/-- PCIE_LINK_CHANGE: the endpoint trains from Kindling phase 1 on, with PCIE_PERST_N high. -/
def execPcieLinkChange (gen width : Nat) (s : State) : Host.Outcome State Fault Refusal :=
  if linkPossible gen width ∧ (gen = 0 ∨ (s.pins.resetN ∧ s.hif.perstLow = false)) then .next (setLink gen width s) else .next s

/-- Every queue pair and the event ring are disabled, HIF_CTRL and all bases and sizes are cleared (R59, R60), and the MSI-X
structures return to reset (log 4). -/
def clearHost (h : Hif) : Hif :=
  { h with
    queues := Vector.replicate 16 QueuePair.absent
    q0SqBase := 0, q0CqBase := 0, q0SqSize := 0, q0CqSize := 0, q0En := false, eqEn := false, cfgErrQ0 := false, cfgErrEq := false
    eqBaseReg := 0, eqSizeReg := 0, events := { Hif.reset.events with lost := h.events.lost }
    msixMask := Hif.reset.msixMask, msixPending := 0, msixTable := Hif.reset.msixTable, d3hot := false }

/-- FUNCTION_LEVEL_RESET: the host part and an application reset (R43, R59); in KINDLING, EMBER and LOCKOUT, which R32 leaves by
their own transitions, the reset takes place without a change of mode (log 11). DESIGN CHOICE: its cause bit is APP, the one bit
of R55 for an application reset that neither a watchdog nor a restart makes (log 11). -/
def execFunctionLevelReset (s : State) : Host.Outcome State Fault Refusal :=
  if s.hif.linkGen = 0 ∨ s.hif.perstLow then .next s
  else
    let s1 := modHif clearHost s
    if !resetAllowed s.dev.mode then .next (resetInPlace 2 s1)
    else .next (startAppReset 2 false s1)

/-- D3HOT_ENTRY stops DMA and interrupts; D0_RETURN resumes them with the queues as they were (R59). -/
def execD3hotEntry (s : State) : Host.Outcome State Fault Refusal :=
  if s.hif.linkGen = 0 then .next s else .next (modHif (fun h => { h with d3hot := true }) s)
def execD0Return (s : State) : Host.Outcome State Fault Refusal :=
  if s.hif.d3hot then .next (resumeDma (modHif (fun h => { h with d3hot := false }) s)) else .next s

/-- Host commands that have started run on, their completions discarded (R60). -/
def discardHost (h : Hif) : Hif :=
  { h with
    inflight := h.inflight.map (fun f => if f.chan < 16 then { f with discard := true } else f)
    deferred := h.deferred.map (fun d => if d.chan < 16 then { d with discard := true } else d) }
/-- PCIE_PERST_FALL: the host interface alone is reset; every DMA ring is disabled and cleared (R60). -/
def execPciePerstFall (s : State) : Host.Outcome State Fault Refusal :=
  if s.hif.perstLow then .next s
  else
    let s1 := modHif (fun h => { discardHost (clearHost h) with perstLow := true }) s
    let s2 := { s1 with
      mon := { s1.mon with rings := Vector.replicate 18 DmaRing.reset }
      tim := { s1.tim with ring := ⟨0, 0, 0, 0⟩, ringData := [] }
      atTrip := ⟨s1.atTrip.saved.map (fun d => { d with mon := { d.mon with rings := Vector.replicate 18 DmaRing.reset } })⟩ }
    .next (setLink 0 0 s2)
def execPciePerstRise (s : State) : Host.Outcome State Fault Refusal := .next (modHif (fun h => { h with perstLow := false }) s)

/-! ### Doorbells (R63, R67, R68, R76) -/

/-- HIF_SQ_TAIL_WRITE: a value at or beyond the size is counted, a ring that cannot be read raises HIF_QUEUE_ERROR cause 0;
the new entries are the commands that follow. -/
def execHifSqTailWrite (queue : Fin 16) (value : Word) (ringError : Bool) (s : State) : Host.Outcome State Fault Refusal :=
  let q := s.queue queue.val
  if q.sqSize ≤ value.toNat then .next (countBadDb s)
  else
    let s1 := s.setQueue queue.val { q with sqTail := value.toNat }
    .next (if ringError then emit 1 4 (leBytes 1 queue.val ++ leBytes 1 0) s1 else s1)
def execHifCqHeadWrite (queue : Fin 16) (value : Word) (s : State) : Host.Outcome State Fault Refusal :=
  let q := s.queue queue.val
  if q.cqSize ≤ value.toNat then .next (countBadDb s)
  else .next (flushHeld queue.val (s.setQueue queue.val { q with cqHead := value.toNat }))
def execHifEqHeadWrite (value : Word) (s : State) : Host.Outcome State Fault Refusal :=
  let r := s.hif.events
  if !r.enabled ∨ r.size ≤ value.toNat then .next (countBadDb s)
  else .next (reportLost (modHif (fun h => { h with events := { r with head := value.toNat } }) s))

/-- PACKET_FETCH_FAILED: the entry completes INTEGRITY with TAG 0xFFFF and no response, after those that wait before it
(R66, R67). -/
def execPacketFetchFailed (queue : Fin 16) (s : State) : Host.Outcome State Fault Refusal :=
  if !fetches queue.val s then .next s
  else if (s.queue queue.val).waiting.isEmpty then .next (fetchFailed queue.val s)
  else .next (holdEntry queue.val none s)

/-- Functions defined in each opcode group (R74), numbered from 1. -/
def groupFunctions : List Nat := [9, 11, 9, 7, 10, 6, 9, 8, 12, 8, 5, 4, 9, 6, 5, 7]
def opcodeDefined (opcode : Nat) : Bool := decide (opcode % 256 ≠ 0) && decide (opcode % 256 ≤ groupFunctions.getD (opcode / 256) 0)
/-- UNDEFINED_OPCODE: steps 1 to 3 of R71. -/
def execUndefinedOpcode (opcode : Half) (p : Packet) (s : State) : Host.Outcome State Fault Refusal :=
  let op := opcode.toNat
  if opcodeDefined op then .next s
  else if !startable p s then .next (notStarted op p s)
  else if isRetry p s then .next (modHif (fun h => { h with mgmt := { h.mgmt with state := 2 } }) s)
  else
    let f := senderOf op p s
    let s1 := takePacket p s
    if !packetCrcOk op p then .next (reply f .integrity 0xFFFF [] (countBadCrc s1))
    else if p.params.length > packetLimit p then .next (reply f .badLength 0xFFFF [] s1)
    else .next (reply f .badOpcode 0xFFFF [] s1)

/-! ### Leases (R81 to R84) -/

def leaseEnded (id : Word) (cause : Nat) (s : State) : State := emit 1 3 (leBytes 4 id.toNat ++ leBytes 1 cause) s
def dropLease (id : Word) (s : State) : State := modHif (fun h => { h with leases := h.leases.filter (fun l => l.id ≠ id) }) s
/-- LEASE_EXPIRY: the clock runs to the expiry instant. -/
def execLeaseExpiry (id : Word) (s : State) : Host.Outcome State Fault Refusal :=
  match s.hif.leases.find? (fun l => l.id = id) with
  | none => .next s
  | some l => .next (leaseEnded id 0 (dropLease id (advancePs (s.tim.kindlingStart + 1250 * l.expiry - s.tim.now) s)))

/-- Leases past their expiry instant end, each with its event (R84). -/
def endLapsed (s : State) : State :=
  (s.hif.leases.filter (fun l => decide (l.expiry ≤ s.arrival))).foldl (fun u l => leaseEnded l.id 0 u)
    (modHif (fun h => { h with leases := s.activeLeases }) s)
def replyHifLeaseGrant (p : Packet) (s : State) : Reply :=
  let b := p.params
  let id : Word := BitVec.ofNat 32 (u32 b 0)
  let mask : Half := BitVec.ofNat 16 (u16 b 4)
  let dur := u32 b 8
  checked s [badParam 0 (decide (id = 0) || s.activeLeases.any (fun l => l.id = id)), badParam 4 (mask = 0),
      failIf .badState (s.leasedMask &&& mask ≠ 0), reservedBytes b 6 2, badParam 8 (dur = 0 ∨ 86400 < dur),
      failIf .noResource (8 ≤ s.activeLeases.length)]
    (Reply.ok (modHif (fun h => { h with leases := h.leases ++ [⟨id, mask, s.arrival + 800000000 * dur⟩] }) (endLapsed s)))
def execHifLeaseGrant (p : Packet) (s : State) : Host.Outcome State Fault Refusal :=
  .next (runCommand { modCmd 0x0104 12 with bmcDenied := true } replyHifLeaseGrant p s)

def replyHifLeaseRevoke (p : Packet) (s : State) : Reply :=
  let id : Word := BitVec.ofNat 32 (u32 p.params 0)
  checked s [badParam 0 (!s.activeLeases.any (fun l => l.id = id))] (Reply.ok (leaseEnded id 1 (dropLease id s)))
def execHifLeaseRevoke (p : Packet) (s : State) : Host.Outcome State Fault Refusal :=
  .next (runCommand { modCmd 0x0105 4 with bmcDenied := true } replyHifLeaseRevoke p s)

/-- An entry of HIF_LEASE_QUERY; the seconds left are rounded up. -/
def leaseBytes (s : State) (l : Lease) : List Byte :=
  leBytes 4 l.id.toNat ++ leBytes 2 l.mask.toNat ++ leBytes 2 0 ++ leBytes 4 ((l.expiry - s.arrival + 799999999) / 800000000) ++ leBytes 4 0
def replyHifLeaseQuery (_p : Packet) (s : State) : Reply :=
  Reply.answer (leBytes 1 s.activeLeases.length ++ leBytes 7 0 ++ s.activeLeases.flatMap (leaseBytes s)) s
def execHifLeaseQuery (p : Packet) (s : State) : Host.Outcome State Fault Refusal :=
  .next (runCommand (readCmd 0x0106 0) replyHifLeaseQuery p s)

/-! ### Queues, identity, events (R62, R77, R87 to R89) -/

/-- The identity record (R89). -/
def identity (s : State) : List Byte :=
  let d := s.dev
  let ver := fun (i : Option Image) => leBytes 4 ((i.map (fun x => x.version.toNat)).getD 0)
  let svn := fun (i : Option Image) => leBytes 2 ((i.map (fun x => x.svn)).getD 0)
  leBytes 2 0x4848 ++ leBytes 2 0x1F6C ++ leBytes 1 (b2n d.variantN) ++ leBytes 1 0xB0 ++ leBytes 2 0 ++ leBytes 8 d.serial.toNat
    ++ ver d.tcImage ++ ver d.acImage ++ svn d.tcImage ++ svn d.acImage ++ leBytes 4 1
    ++ leBytes 4 (packBits [!d.variantN, d.slotBValid, d.opKeys.toList.any (fun k => k.isSome)])
    ++ leBytes 2 4064 ++ leBytes 2 224 ++ leBytes 1 16 ++ leBytes 1 64 ++ leBytes 22 0
def replyHifIdentify (_p : Packet) (s : State) : Reply := Reply.answer (identity s) s
def execHifIdentify (p : Packet) (s : State) : Host.Outcome State Fault Refusal :=
  .next (runCommand (readCmd 0x0101 0) replyHifIdentify p s)

def replyHifQueueCreate (p : Packet) (s : State) : Reply :=
  let b := p.params
  let n := u8 b 0
  let sq := u16 b 2
  let cq := u16 b 4
  let sqBase : Long := BitVec.ofNat 64 (u64 b 8)
  let cqBase : Long := BitVec.ofNat 64 (u64 b 16)
  checked s [badParam 0 (n = 0 ∨ 15 < n), failIf .badState (s.queue n).enabled, badParam 1 (1 < u8 b 1), badLen 2 (sq = 0), badParam 2 (!ringPower 2 sq), badLen 4 (cq = 0),
      badParam 4 (!ringPower 2 cq || decide (cq < sq)), reservedBytes b 6 2, badParam 8 (!aligned64 sqBase), badParam 16 (!aligned64 cqBase)]
    (Reply.ok (s.setQueue n (newQueue (bit (u8 b 1) 0) sqBase cqBase sq cq)))
def execHifQueueCreate (p : Packet) (s : State) : Host.Outcome State Fault Refusal :=
  .next (runCommand { modCmd 0x0102 24 with bmcDenied := true } replyHifQueueCreate p s)

def replyHifQueueDelete (p : Packet) (s : State) : Reply :=
  let n := u8 p.params 0
  checked s [badParam 0 (n = 0 ∨ n = p.chan.val ∨ 15 < n), failIf .badState (!(s.queue n).enabled), reservedBytes p.params 1 3]
    (Reply.ok (deleteQueue n s))
def execHifQueueDelete (p : Packet) (s : State) : Host.Outcome State Fault Refusal :=
  .next (runCommand { modCmd 0x0103 4 with bmcDenied := true } replyHifQueueDelete p s)

def replyHifEventMask (p : Packet) (s : State) : Reply :=
  checked s [reservedBytes p.params 2 2] (Reply.ok (modHif (fun h => { h with evtMask := BitVec.ofNat 16 (u16 p.params 0) }) s))
def execHifEventMask (p : Packet) (s : State) : Host.Outcome State Fault Refusal :=
  .next (runCommand { modCmd 0x0107 4 with bmcDenied := true } replyHifEventMask p s)

/-- HIF_MGMT_EVENT_READ: the oldest records leave the buffer (R87). DESIGN CHOICE: PHASE of a record read here is 0, since it
belongs to the passes of a ring (log 34). -/
def replyHifMgmtEventRead (p : Packet) (s : State) : Reply :=
  let n := u8 p.params 0
  let m := s.hif.mgmt
  let rs := m.buffer.take n
  checked s [badLen 0 (n = 0), badParam 0 (3 < n), reservedBytes p.params 1 3]
    (Reply.answer (leBytes 1 rs.length ++ leBytes 1 0 ++ leBytes 2 (min 65535 m.overwritten) ++ rs.flatMap (fun e => e.bytes false))
      (modHif (fun h => { h with mgmt := { m with buffer := m.buffer.drop n, overwritten := 0 } }) s))
def execHifMgmtEventRead (p : Packet) (s : State) : Host.Outcome State Fault Refusal :=
  .next (runCommand { readCmd 0x010A 4 with hostDenied := true } replyHifMgmtEventRead p s)

def replyHifNop (p : Packet) (s : State) : Reply := Reply.answer p.params s
def execHifNop (p : Packet) (s : State) : Host.Outcome State Fault Refusal :=
  .next (runCommand { readCmd 0x010B 0 with lenOk := fun _ => true } replyHifNop p s)

/-! ### Pass-through transfers (R88) -/

/-- Queue a transfer on its master: at most 8, in stamp order. -/
def queueTransfer (master : Nat) (p : Packet) (s : State) : Reply :=
  let k := takeKey s
  Reply.wait k.1 (modHif (fun h => { h with
    transfers := h.transfers ++ [⟨k.1, master, u16 p.params 4, u16 p.params 6, p.params⟩] }) k.2)
def masterFull (master : Nat) (s : State) : Bool := decide (8 ≤ (s.hif.transfers.filter (fun t => t.master = master)).length)
/-- The lengths of a transfer: both 0, one above the limit, or a sum the management port cannot carry. -/
def lengthChecks (p : Packet) (limit : Nat) : List Check :=
  let w := u16 p.params 4
  let r := u16 p.params 6
  [badLen 4 (decide (limit < w) || decide (w = 0 ∧ r = 0)), badLen 6 (decide (limit < r) || (fromBmc p && decide (200 < w + r)))]
def transferLen (b : List Byte) : Bool := decide (8 ≤ b.length) && decide (b.length = 8 + u16 b 4)

def replyHifSpiXfer (p : Packet) (s : State) : Reply :=
  let b := p.params
  checked s ([badParam 0 (1 < u8 b 0), badParam 1 (3 < u8 b 1), badParam 2 (3 < u8 b 2), badParam 3 (u8 b 3 = 0 ∨ 50 < u8 b 3)]
      ++ lengthChecks p 2048 ++ [failIf .noResource (masterFull (u8 b 0) s)])
    (queueTransfer (u8 b 0) p s)
def execHifSpiXfer (p : Packet) (s : State) : Host.Outcome State Fault Refusal :=
  .next (runCommand { modCmd 0x0108 0 with lenOk := transferLen } replyHifSpiXfer p s)

def replyHifI2cXfer (p : Packet) (s : State) : Reply :=
  let b := p.params
  checked s ([badParam 0 (u8 b 0 ≠ 0), badParam 1 (127 < u8 b 1), badParam 2 (2 < u8 b 2), badParam 3 (u8 b 3 ≠ 0)]
      ++ lengthChecks p 256 ++ [failIf .noResource (masterFull 2 s)])
    (queueTransfer 2 p s)
def execHifI2cXfer (p : Packet) (s : State) : Host.Outcome State Fault Refusal :=
  .next (runCommand { modCmd 0x0109 0 with lenOk := transferLen } replyHifI2cXfer p s)

/-- How the command of an ended transfer answers: status and response. -/
def transferAnswer (t : Transfer) (result : TransferEnd) (done : Nat) (read : List Byte) : Option (Status × List Byte) :=
  match result with
  | .complete =>
    if t.master = 2 then some (.ok, leBytes 2 (t.writeLen + t.readLen) ++ leBytes 2 0 ++ bytesAt 0 t.readLen read)
    else some (.ok, bytesAt 0 t.readLen read)
  | .nack =>
    if t.master = 2 ∧ done < t.writeLen + t.readLen then
      some (.partly, leBytes 2 done ++ leBytes 2 0 ++ bytesAt 0 (done - t.writeLen) read)
    else none
  | .timeout => if t.master = 2 then some (.timeout, []) else none
/-- PASSTHROUGH_XFER_COMPLETE: the oldest transfer of its master ends, and its command completes. -/
def execPassthroughXferComplete (key : Nat) (result : TransferEnd) (done : Nat) (read : List Byte) (s : State) :
    Host.Outcome State Fault Refusal :=
  match s.hif.transfers.find? (fun t => t.key = key) with
  | none => .next s
  | some t =>
    if (s.hif.transfers.find? (fun u => u.master = t.master)).map (fun u => u.key) ≠ some key then .next s
    else
      match transferAnswer t result done read with
      | none => .next s
      | some a => .next (finishWaiting key a.1 a.2 (modHif (fun h => { h with transfers := h.transfers.filter (fun u => u.key ≠ key) }) s))

end Sys2Proof.Machine
end

