-- ==== Sys2Proof/Machine/Latch.lean ====
section
/-! DEFINITION. The one-second latch of device time, and what every subsystem does at it (R22, R99, R100, R109). -/

namespace Sys2Proof.Machine

/-- Mean SNR of the second; 0 without a measurement (R181). -/
def dspSecond (s : State) : State :=
  { s with dsp := { s.dsp with engines := vecMap (fun _ x => { x with
      snrX := if x.snrCount = 0 then 0 else x.snrSumX / x.snrCount
      snrY := if x.snrCount = 0 then 0 else x.snrSumY / x.snrCount
      snrSumX := 0, snrSumY := 0, snrCount := 0 }) s.dsp.engines } }
/-- The over-range counts restart (R117, R146). -/
def cnvSecond (s : State) : State :=
  { s with cnv := { s.cnv with groups := vecMap (fun _ g => { g with adcs := vecMap (fun _ a => { a with overRange := 0 }) g.adcs }) s.cnv.groups } }

/-- The Second latch offsets of a window. -/
def secondOffsets (base : Nat) (s : State) : List Nat :=
  if base = 0x40000 then timSecondOffsets
  else if base = 0x50000 then logSecondOffsets
  else if base = 0x100000 ∨ base = 0x180000 then cnvSecondOffsets
  else if base = 0x140000 ∨ base = 0x1C0000 then dspSecondOffsets
  else if base = 0x200000 then fecSecondOffsets
  else if base = 0x220000 then frmSecondOffsets
  else if base = 0x280000 then pktSecondOffsets s
  else if base = 0x300000 then cphSecondOffsets
  else if base = 0x340000 then clnSecondOffsets
  else if base = 0x380000 then plkSecondOffsets
  else if base = 0x3C0000 then monSecondOffsets
  else []
def latchWindows : List Nat :=
  [0x40000, 0x50000, 0x100000, 0x140000, 0x180000, 0x1C0000, 0x200000, 0x220000, 0x280000, 0x300000, 0x340000, 0x380000, 0x3C0000]
/-- The copy of one window: the words that are not zero. -/
def latchWindow (base : Nat) (s : State) : List (Nat × Nat) :=
  (secondOffsets base s).filterMap (fun off =>
    let v := liveWord base off s
    if v = 0 then none else some (base + off, v))
/-- The high words of the life counters, kept with the copy for the reads that latch them (R483). -/
def latchLifeHigh (s : State) : List (Nat × Nat) := (List.range 12).map (fun k => (0x50104 + 8 * k, highWord (vecGet 0 s.log.life k)))
/-- All Second latch fields together (R109); `throttle` is THM_THROTTLE_MS of the second. -/
def latchAll (throttle : Nat) (s : State) : List (Nat × Nat) :=
  (0x2005C, throttle) :: latchWindows.flatMap (fun b => latchWindow b s) ++ latchLifeHigh s

/-- The first refused TC write of the second is reported (R48). -/
def refusedSecond (s : State) : State :=
  match s.dev.refusedFirst with
  | none => s
  | some a =>
    emit 0 5 (leBytes 4 a ++ leBytes 4 s.dev.refusedCount) (modDev (fun d => { d with refusedFirst := none, refusedCount := 0 }) s)

/-- The crystal is measured once a second while LOCKED; the latest 1,000 measurements count (R100). -/
def measureCrystal (m : SecondMeasure) (t : Tim) : Tim :=
  match m.crystalOffset with
  | some x => if t.servo = .locked then { t with learned := (x :: t.learned).take 1000 } else t
  | none => t

/-- The one-second latch: the copies of all native counters, the performance second, and every block's second boundary. The
second that ends began at the highest boundary latched before (R22, R99, R233); a bin that holds a second after a jump carries
SUSPECT as one that holds an irregular latch does (R239). -/
def latchSecond (m : SecondMeasure) (atStep : Bool) (s : State) : State :=
  let label := s.tim.highestLatched
  let irreg := s.tim.stepped || s.tim.latchAtStep
  let s1 := { s with tim := measureCrystal m { s.tim with
    highestLatched := s.tim.seconds, latchLen := (s.tim.now - s.tim.lastLatch) / 1000000, irreg := s.tim.stepped, stepped := false
    latchAtStep := atStep, lastLatch := s.tim.now } }
  let s2 := clnSecond m (dspSecond s1)
  let th := thmSecond s2
  let s3 := { th.2 with latched := latchAll th.1 th.2 }
  let s4 := pktSecond (cphSecond (fecSecond label (frmSecond label irreg s3)))
  refusedSecond (miSecond (miReads m (monSecond (cnvSecond s4))))

/-- Before the next boundary is latched, every domain that waits for its restored reference returns to it (R103). -/
def refsReturn (s : State) : State :=
  { s with tim := { s.tim with
    fecOnLine1 := s.tim.fecOnLine1 && !s.tim.line0
    clientFallback := s.tim.clientFallback && !s.tim.client } }

end Sys2Proof.Machine
end

