-- ==== Sys2Proof/Machine/Time.lean ====
section
/-! DEFINITION. The meanings of group 0x02: device time, discipline, references, SyncE, PTP and snapshots (R92 to R112). -/

namespace Sys2Proof.Machine

def modTim (f : Tim → Tim) (s : State) : State := { s with tim := f s.tim }

/-- What a second adds when nobody measured it: nothing (log 1). -/
def noMeasure : SecondMeasure := ⟨none, [], [], 0⟩

/-! ### Steps (R98, R99) -/

/-- SECONDS and NANOSECONDS as TIM_STEPPED carries them. -/
def timeBytes (t : Tim) : List Byte := leBytes 6 t.seconds ++ leBytes 4 t.nanoseconds
/-- Change device time in one tick. A slew ends where it stands; TIM_STEPPED is raised, gate lists re-anchor, and a forward
change across a boundary not yet latched latches at once; the history's bins follow (R239). A change to the same time is no step (R99). -/
def stepTo (target : Nat) (s : State) : State :=
  let s0 := modTim (fun t => { t with slew := 0 }) s
  if target = s.tim.tod then s0
  else
    let s1 := modTim (fun t => { t with tod := target, stepped := true }) s0
    let s2 := pktTimeStep (emit 2 3 (timeBytes s.tim ++ timeBytes s1.tim) s1)
    stepBins s.tim.seconds s2.tim.seconds
      (if s2.tim.highestLatched < s2.tim.seconds then latchSecond noMeasure true s2 else s2)

/-! ### The servo (R95, R96) -/

/-- STATE changes: TIM_STATE_CHANGED, a fresh integrator on entering ACQUIRING, VALID at a lock after a label (R94, R96). -/
def setServo (x : Servo) (s : State) : State :=
  let t := s.tim
  if t.servo = x then s
  else
    let t1 := { t with
      servo := x
      f0 := if x = .acquiring then t.freqAdj else t.f0, sumX := if x = .acquiring then 0 else t.sumX
      goodPulses := if x = .acquiring then 0 else t.goodPulses, outliers := 0
      valid := t.valid || (decide (x = .locked) && decide (t.source = .pps) && t.labelled) }
    emit 2 1 (leBytes 1 t.servo.code ++ leBytes 1 x.code ++ leBytes 1 t.source.code) { s with tim := t1 }

/-- The frequency adjustment limited to ±500 ppm (R93). -/
def clampFreq (f : Int) : Int := max (-512000000) (min 512000000 f)
/-- The servo acts on an edge `q` quarter nanoseconds off: f₀ − (0.5 x + 0.0625 Σx) ppb; at the limit Σx stands (R96). -/
def servoAct (q : Int) (t : Tim) : Tim :=
  let f := t.f0 - 128 * q - 16 * (t.sumX + q)
  { t with
    freqAdj := clampFreq f, sumX := if clampFreq f = f then t.sumX + q else t.sumX
    goodPulses := if q.natAbs ≤ 400 then t.goodPulses + 1 else 0, outliers := 0 }

/-- The nearest second boundary to a value of the time counter, and the offset from it in quarter nanoseconds (R96). -/
def nearestSecond (tod : Nat) : Nat := (tod + unitsPerSecond / 2) / unitsPerSecond
def edgeOffset (tod : Nat) : Int :=
  (2 * ((tod : Int) - (nearestSecond tod * unitsPerSecond : Nat)) + 128000000000) / 256000000000

/-- The label of a TIM_SET names this edge's second (R96, R99). -/
def applyLabel (s : State) : State :=
  match s.tim.label with
  | none => s
  | some n =>
    let s1 := stepTo (n * unitsPerSecond) s
    modTim (fun t => { t with label := none, labelled := true, valid := t.valid || decide (t.servo = .locked) }) s1

/-- PPS_IN_EDGE: the edge is captured, an outlier is discarded or counted to the fourth, and on every other edge the servo acts
once; the first valid edge ends FREERUN, and HOLDOVER when its cause has cleared (R95, R96). -/
def execPpsInEdge (s : State) : Host.Outcome State Fault Refusal :=
  if s.tim.source ≠ .pps then .next s
  else
    let s1 := applyLabel s
    let q := edgeOffset s1.tim.tod
    let s2 := modTim (fun t => { t with ppsOffset := (q + 2) / 4, quiet := false }) s1
    if s2.tim.servo = .locked ∧ 4000 < q.natAbs then
      let n := s2.tim.outliers + 1
      if n < 4 then .next (modTim (fun t => { t with outliers := n }) s2)
      else .next (setServo .acquiring (stepTo (nearestSecond s2.tim.tod * unitsPerSecond) s2))
    else
      let starts := decide (s2.tim.servo = .freerun) || (decide (s2.tim.servo = .holdover) && s2.tim.client)
      let s3 := modTim (servoAct q) (if starts then setServo .acquiring s2 else s2)
      .next (if s3.tim.servo = .acquiring ∧ 16 ≤ s3.tim.goodPulses then setServo .locked s3 else s3)
/-- PPS_IN_MISSING: three pulses in a row have not come. DESIGN CHOICE: only the third breaks the run of 16 good pulses; one or
two missing pulses do not (R95, log 37). -/
def execPpsInMissing (s : State) : Host.Outcome State Fault Refusal :=
  if s.tim.source ≠ .pps then .next s
  else
    let s1 := modTim (fun t => { t with quiet := true, goodPulses := 0 }) s
    .next (if s1.tim.servo = .locked then setServo .holdover s1 else s1)

/-- An update by the host's PTP servo (R95, source 2). -/
def ptpUpdate (s : State) : State :=
  if s.tim.source ≠ .ptp then s
  else
    let s1 := match s.tim.servo with
      | .freerun => setServo .acquiring s
      | .acquiring => if s.tim.quiet then s else setServo .locked s
      | .holdover => if s.tim.client then setServo .acquiring s else s
      | .locked => s
    modTim (fun t => { t with quiet := false }) s1
def execPtpUpdateTimeout (s : State) : Host.Outcome State Fault Refusal :=
  if s.tim.source ≠ .ptp then .next s
  else
    let s1 := modTim (fun t => { t with quiet := true }) s
    .next (if s1.tim.servo = .locked then setServo .holdover s1 else s1)

/-- SLEW_COMPLETE: the clock runs until the whole offset has been added (R98). -/
def execSlewComplete (s : State) : Host.Outcome State Fault Refusal :=
  if s.tim.slew = 0 then .next s else .next (advancePs ((s.tim.slew.natAbs + 51199) / 51200) s)

/-! ### Seconds and PPS_OUT (R22, R97, R103) -/

/-- An engine whose line reference is back powers up, and the framer domain starts again when it had stopped (R103). -/
def lineReturn (s : State) : State :=
  let m := s.dev.mode
  let s1 := (List.range 2).foldl (fun u e =>
    if (modePowered m || decide (m = .calibrate)) && !(u.group e).powered && u.lineRef e then
      pktRefresh (groupUp e u) else u) s
  if modePowered m && (s1.tim.line0 || s1.tim.line1) && decide ((s1.unit (engineKey 0)).align.state = .off) then
    let s2 := framerUp 1 (framerUp 0 s1)
    (List.range 32).foldl (fun u c =>
      if otnOf (u.cif c).typ = 0 then u else cifFramerUp true c (otnOf (u.cif c).typ) (!(u.cif c).up) u) s2
  else s1
/-- PPS_OUT rises, unless its width is 0. -/
def ppsRise (t : Tim) : Tim := { t with ppsOut := decide (t.ppsWidth ≠ 0) }
/-- SECOND_BOUNDARY: the clock runs to the next boundary that has not been latched; domains return to their own references,
everything latches, and PPS_OUT rises when it is not shifted. -/
def execSecondBoundary (measure : SecondMeasure) (s : State) : Host.Outcome State Fault Refusal :=
  if !s.clocked then .next s
  else
    let s0 := advanceToTod (s.tim.highestLatched + 1) 0 s
    let s1 := latchSecond measure false (lineReturn (refsReturn s0))
    .next (if s1.tim.ppsDelay = 0 then modTim ppsRise s1 else s1)

/-- The next instant at which PPS_OUT rises: a boundary plus TIM_PPS_DELAY. -/
def nextRise (t : Tim) : Nat :=
  let d := t.ppsDelay * (unitsPerNs : Int)
  (((((t.tod : Int) - d) + (unitsPerSecond : Int) - 1) / (unitsPerSecond : Int)) * (unitsPerSecond : Int) + d).toNat
def execPpsOutRise (s : State) : Host.Outcome State Fault Refusal := .next (modTim ppsRise (advanceToUnits (nextRise s.tim) s))
def execPpsOutPulseEnd (s : State) : Host.Outcome State Fault Refusal := .next (modTim (fun t => { t with ppsOut := false }) s)

/-! ### References (R103) and SyncE (R104) -/

/-- A line reference is lost: a commit whose instant is not reached is cancelled (R254), and its engine stops as under an
engine reset (R44). -/
def lineLost (e : Nat) (s0 : State) : State :=
  let s := planAbortEarly s0
  if (s.group e).state = .off ∨ (s.group e).state = .suspended then s
  else
    let s1 := groupDown e .suspended (stopForeground e (discardBlocks (fun b => b.engine ≠ e) (engineOff e 5 s)))
    pktRefresh (plkRefresh (framerRestart e s1))
/-- With both line references lost the pool and the framer stop. -/
def linesLost (s : State) : State := if s.tim.line0 || s.tim.line1 then s else framerDown (poolDown s)

def refEvent (s : State) : State := emit 2 2 (leBytes 4 (refStatus s.tim)) s
def refPresent (r : RefInput) (t : Tim) : Bool :=
  match r with
  | .lineRef0 => t.line0
  | .lineRef1 => t.line1
  | .clientRef => t.client
  | .pcieRef => t.pcie
def execRefLost (ref : RefInput) (s : State) : Host.Outcome State Fault Refusal :=
  if !s.clocked || !refPresent ref s.tim then .next s
  else
    match ref with
    | .lineRef0 =>
      .next (linesLost (lineLost 0 (refEvent (modTim (fun t => { t with line0 := false, fecOnLine1 := t.line1 }) s))))
    | .lineRef1 =>
      .next (linesLost (lineLost 1 (refEvent (modTim (fun t => { t with line1 := false, fecOnLine1 := false }) s))))
    | .clientRef =>
      let s1 := refEvent (modTim (fun t => { t with client := false, clientFallback := true }) s)
      .next (if s1.tim.servo = .locked ∨ s1.tim.source = .host then setServo .holdover s1 else s1)
    | .pcieRef => .next (setLink 0 0 (refEvent (modTim (fun t => { t with pcie := false }) s)))
/-- REF_RESTORED: the status follows at once, the domain returns at the next second boundary; HOLDOVER ends when the client
reference was its only cause. -/
def execRefRestored (ref : RefInput) (s : State) : Host.Outcome State Fault Refusal :=
  if !s.clocked || refPresent ref s.tim then .next s
  else
    match ref with
    | .lineRef0 => .next (refEvent (modTim (fun t => { t with line0 := true }) s))
    | .lineRef1 => .next (refEvent (modTim (fun t => { t with line1 := true, fecOnLine1 := !t.line0 }) s))
    | .clientRef =>
      let s1 := refEvent (modTim (fun t => { t with client := true }) s)
      if s1.tim.servo ≠ .holdover then .next s1
      else if s1.tim.source = .host then .next (setServo .freerun s1)
      else .next (if s1.tim.quiet then s1 else setServo .acquiring s1)
    | .pcieRef => .next (refEvent (modTim (fun t => { t with pcie := true }) s))

/-- SYNCE_RESUME_TIMER: 100 ms after the relock of its lane. -/
def execSynceResumeTimer (output : Fin 2) (s : State) : Host.Outcome State Fault Refusal :=
  let x := vecGet ⟨0, false, 0, false⟩ s.tim.synce output.val
  if x.en && x.squelched && (s.lane x.lane).cdr then
    .next (synceEvent output.val { x with squelched := false }
      (modTim (fun t => { t with synce := vecMod t.synce output.val (fun y => { y with squelched := false }) }) s))
  else .next s

/-! ### PTP (R105, R106) -/

def ptpFlags (cif : Nat) (t : Tim) : Byte := vecGet 0 t.ptpCfg cif
/-- The interface diverts this frame (R105). -/
def diverted (cif : Nat) (esmc : Bool) (transport : PtpTransport) (t : Tim) : Bool :=
  let f := ptpFlags cif t
  f.getLsbD 0 && (if esmc then f.getLsbD 5 else
    match transport with
    | .ethernet => f.getLsbD 4
    | .udpIpv4 => f.getLsbD 2
    | .udpIpv6 => f.getLsbD 3)
/-- The 256 bytes of a receive-ring entry, little-endian, unused bytes 0 (R5, R106). -/
def PtpEntry.bytes (x : PtpEntry) : List Byte :=
  leBytes 1 x.cif ++ leBytes 1 (b2n x.esmc) ++ leBytes 2 x.frame.length ++ leBytes 6 x.seconds ++ leBytes 4 x.nanoseconds
    ++ leBytes 2 0 ++ (x.frame ++ List.replicate 240 0).take 240
/-- Where the PTP message of a frame begins, on the transports of one-step Sync: behind the Ethernet header, or behind the IPv4 and
UDP headers (R105; EtherTypes and header lengths as in the standards, log 44). -/
def ptpOffset (frame : List Byte) : Option Nat :=
  let ethertype := beNat (bytesAt 12 2 frame)
  if ethertype = 0x88F7 then some 14
  else if ethertype = 0x0800 then some (14 + 4 * (u8 frame 14 % 16) + 8)
  else none
/-- Put bytes over a list at an offset. -/
def overwrite (off : Nat) (new old : List Byte) : List Byte := old.take off ++ new ++ old.drop (off + new.length)
/-- One-step Sync: on an interface set for it the device writes originTimestamp, bytes 34 to 43 of the message, in flight (R105). -/
def oneStepSync (cif : Nat) (messageType : Byte) (frame : List Byte) (t : Tim) : List Byte :=
  match ptpOffset frame with
  | none => frame
  | some o =>
    if (ptpFlags cif t).getLsbD 1 ∧ messageType = 0 then overwrite (o + 34) (beBytes 6 t.seconds ++ beBytes 4 t.nanoseconds) frame
    else frame
/-- PTP_FRAME_RECEIVED: into the ring with its timestamp, or dropped and counted. -/
def execPtpFrameReceived (cif : Fin 32) (esmc : Bool) (transport : PtpTransport) (frame : List Byte) (s : State) :
    Host.Outcome State Fault Refusal :=
  let t := s.tim
  if !diverted cif.val esmc transport t || !(s.cif cif.val).up then .next s
  else if 240 < frame.length ∨ t.ring.size = 0 ∨ (t.ring.tail + 1) % t.ring.size = t.ring.head ∨ s.hif.dmaUp = false then
    .next (modTim (fun x => { x with ptpLost := satAdd 0xFFFFFFFF x.ptpLost 1 }) s)
  else
    .next (signalVector 18 (modTim (fun x => { x with
      ringData := tabInsert x.ringData x.ring.tail (PtpEntry.bytes ⟨cif.val, esmc, x.seconds, x.nanoseconds, frame⟩)
      ring := { x.ring with tail := (x.ring.tail + 1) % x.ring.size } }) s))
/-- PTP_FRAME_SENT: the oldest frame of the interface leaves, with its originTimestamp when it is a one-step Sync; its timestamp
returns when asked for (R105, R111). -/
def execPtpFrameSent (cif : Fin 32) (messageType domain : Byte) (sequenceId : Half) (s : State) : Host.Outcome State Fault Refusal :=
  match s.tim.ptpSends.find? (fun f => f.cif = cif.val) with
  | none => .next s
  | some f =>
    let s1 := modTim (fun t => { t with
      ptpSends := t.ptpSends.eraseP (fun g => g.cif = cif.val)
      ptpOut := tabInsert t.ptpOut cif.val (oneStepSync cif.val messageType f.frame t) }) s
    if !f.returnTs then .next s1
    else
      .next (raiseEvent (mkEvent 2 4 (leBytes 1 cif.val ++ [messageType, domain] ++ leBytes 1 0 ++ leBytes 2 sequenceId.toNat
        ++ timeBytes s1.tim) false f.tag f.chan .ok s1) s1)

/-! ### Scheduled snapshots (R108) -/

/-- The windows of an opcode group. -/
def groupWindows (g : Nat) : List Nat :=
  [[], [], [], [0x100000, 0x180000], [0x140000, 0x1C0000], [0x200000], [0x220000], [0x240000], [0x300000], [0x280000], [0x340000],
    [0x380000], [0x3C0000], [0x20000]].getD g []
/-- Trigger the _SNAP registers of the groups in a mask, and complete the command with the instant taken. -/
def takeSnapshots (key : Nat) (mask : Half) (s : State) : State :=
  let ws := (List.range 14).flatMap (fun g => if mask.getLsbD g then groupWindows g else [])
  let s1 := ws.foldl (fun u w => snapRequest w u) s
  completeOr 0x0209 key .ok 2 5 (timeBytes s1.tim) s1
/-- SNAPSHOT_INSTANT: the clock runs to the instant. -/
def execSnapshotInstant (key : Nat) (s : State) : Host.Outcome State Fault Refusal :=
  match s.tim.snapshots.find? (fun x => x.key = key) with
  | none => .next s
  | some x =>
    .next (takeSnapshots key x.mask (modTim (fun t => { t with snapshots := t.snapshots.filter (fun y => y.key ≠ key) })
      (advanceToTod x.seconds x.nanoseconds s)))

/-! ### Commands (R110) -/

def replyTimGet (_p : Packet) (s : State) : Reply :=
  Reply.answer (timeBytes s.tim ++ leBytes 2 s.tim.fraction ++ leBytes 4 (timStatus s.tim)) s
def execTimGet (p : Packet) (s : State) : Host.Outcome State Fault Refusal := .next (runCommand (readCmd 0x0201 0) replyTimGet p s)

/-- TIM_SET: sets device time, or under source 1 labels the next pulse; it ends a slew where it stands (R94, R96, R98). -/
def replyTimSet (p : Packet) (s : State) : Reply :=
  let b := p.params
  let ns := u32 b 8
  checked s [reservedBytes b 6 2, badParam 8 (999999999 < ns ∨ (s.tim.source = .pps ∧ ns ≠ 0))]
    (Reply.ok (if s.tim.source = .pps then modTim (fun t => { t with label := some (u48 b 0), slew := 0 }) s
      else modTim (fun t => { t with valid := true }) (stepTo (todOf (u48 b 0) ns) s)))
def execTimSet (p : Packet) (s : State) : Host.Outcome State Fault Refusal := .next (runCommand (modCmd 0x0202 12) replyTimSet p s)

/-- Device time after an offset, in units, and whether it can be represented (R98). -/
def movedTod (off : Int) (t : Tim) : Int := (t.tod : Int) + off * (unitsPerNs : Int)
def inTime (v : Int) : Bool := decide (0 ≤ v) && decide (v < (2 ^ 48 * unitsPerSecond : Nat))
/-- TIM_ADJUST. DESIGN CHOICE: a slew ordered during a slew takes its place, as a step would, so that no slew exceeds 1,000,000 ns
(R98, log 37). -/
def replyTimAdjust (p : Packet) (s : State) : Reply :=
  let b := p.params
  let off := s64 b 0
  let mode := u8 b 8
  checked s [badParam 0 (decide (mode = 1 ∧ 1000000 < off.natAbs) || !inTime (movedTod off { s.tim with tod := s.todAtStamp })), badParam 8 (1 < mode),
      reservedBytes b 9 3, failIf .badState (s.tim.source = .pps)]
    (Reply.ok (if off = 0 then s
      else ptpUpdate (if mode = 0 then stepTo (movedTod off s.tim).toNat s
        else modTim (fun t => { t with slew := off * (unitsPerNs : Int) }) s)))
def execTimAdjust (p : Packet) (s : State) : Host.Outcome State Fault Refusal :=
  .next (runCommand (modCmd 0x0203 12) replyTimAdjust p s)

def replyTimFreqSet (p : Packet) (s : State) : Reply :=
  let f := s32 p.params 0
  checked s [badParam 0 (512000000 < f.natAbs), failIf .badState (s.tim.source = .pps)]
    (Reply.ok (ptpUpdate (modTim (fun t => { t with freqAdj := f }) s)))
def execTimFreqSet (p : Packet) (s : State) : Host.Outcome State Fault Refusal :=
  .next (runCommand (modCmd 0x0204 4) replyTimFreqSet p s)

def sourceOf (n : Nat) : TimeSource := if n = 0 then .host else if n = 1 then .pps else .ptp
/-- TIM_SRC_SET: another source takes effect at once (R95). -/
def selectSource (x : TimeSource) (s : State) : State :=
  if s.tim.source = x then s
  else
    setServo .freerun (modTim (fun t => { t with source := x, label := none, sumX := 0, goodPulses := 0, outliers := 0, quiet := true }) s)
def replyTimSrcSet (p : Packet) (s : State) : Reply :=
  let b := p.params
  let n := u8 b 0
  let limit := u16 b 2
  checked s [badParam 0 (2 < n), reservedBytes b 1 1, badLen 2 (n = 2 ∧ limit = 0), badParam 2 (n = 2 ∧ 600 < limit)]
    (Reply.ok (selectSource (sourceOf n) (if n = 2 then modTim (fun t => { t with ptpTimeout := limit }) s else s)))
def execTimSrcSet (p : Packet) (s : State) : Host.Outcome State Fault Refusal :=
  .next (runCommand (modCmd 0x0205 4) replyTimSrcSet p s)

def replyTimPtpCfg (p : Packet) (s : State) : Reply :=
  let b := p.params
  let c := u8 b 0
  let f := u8 b 1
  checked s [badParam 0 (31 < c), badParam 1 (decide (63 < f) || (bit f 1 && bit f 3 && !bit f 2 && !bit f 4)), reservedBytes b 2 2]
    (Reply.ok (modTim (fun t => { t with ptpCfg := vecMod t.ptpCfg c (fun _ => BitVec.ofNat 8 f) }) s))
def execTimPtpCfg (p : Packet) (s : State) : Host.Outcome State Fault Refusal :=
  .next (runCommand (modCmd 0x0206 4) replyTimPtpCfg p s)

def replyTimPtpRing (p : Packet) (s : State) : Reply :=
  let b := p.params
  let base : Long := BitVec.ofNat 64 (u64 b 0)
  let n := u16 b 8
  checked s [badParam 0 (!aligned64 base), badLen 8 (n = 0), badParam 8 (!ringPower 16 n), reservedBytes b 10 2]
    (Reply.ok (modTim (fun t => { t with ring := ⟨base, n, 0, 0⟩, ringData := [] }) s))
def execTimPtpRing (p : Packet) (s : State) : Host.Outcome State Fault Refusal :=
  .next (runCommand (modCmd 0x0207 12) replyTimPtpRing p s)

def replyTimPtpSend (p : Packet) (s : State) : Reply :=
  let b := p.params
  let c := u8 b 0
  let n := u16 b 2
  checked s [badParam 0 (31 < c), badParam 1 (1 < u8 b 1), badLen 2 (n = 0), badParam 2 (n < 60 ∨ 1514 < n),
      failIf .badState (!(s.cif c).up || !(ptpFlags c s.tim).getLsbD 0)]
    (Reply.ok (modTim (fun t => { t with ptpSends := t.ptpSends ++ [⟨c, bit (u8 b 1) 0, p.chan.val, p.tag, b.drop 4⟩] }) s))
def execTimPtpSend (p : Packet) (s : State) : Host.Outcome State Fault Refusal :=
  .next (runCommand { modCmd 0x0208 0 with lenOk := fun b => decide (4 ≤ b.length) && decide (b.length = 4 + u16 b 2) } replyTimPtpSend p s)

/-- The groups that have a _SNAP register: 3 to 13 (R108). -/
def snapGroups : Nat := 0x3FF8
def replyTimSnapshot (p : Packet) (s : State) : Reply :=
  let b := p.params
  let mask := u16 b 0
  let sec := u48 b 2
  let ns := u32 b 8
  checked s [badLen 0 (mask = 0), badParam 0 (mask &&& snapGroups ≠ mask), badParam 2 (todAhead sec ns 1000 s), badParam 8 (999999999 < ns)]
    (.later s.hif.nextKey 2 5 (leBytes 10 0) (fun u =>
      let k := takeKey u
      if todPast sec ns k.2 then takeSnapshots k.1 (BitVec.ofNat 16 mask) k.2
      else modTim (fun t => { t with snapshots := t.snapshots ++ [⟨k.1, BitVec.ofNat 16 mask, sec, ns⟩] }) k.2))
def execTimSnapshot (p : Packet) (s : State) : Host.Outcome State Fault Refusal :=
  .next (runCommand (modCmd 0x0209 12) replyTimSnapshot p s)

end Sys2Proof.Machine
end

