-- ==== Sys2Proof/Machine/Management.lean ====
section
/-! DEFINITION. The management port: transactions by selector, and the command a packet written there carries (R85 to R87). -/

namespace Sys2Proof.Machine

/-- What runs a command packet. -/
abbrev Runner := Packet → State → Host.Outcome State Fault Refusal

/-- Commands of group 0x00, device and modes, from function 1 on. -/
def group0Runners : List Runner :=
  [execDevModeSet, execDevAppReset, execDevEngineReset, execDevEmberRelease, execDevImageLoad, execDevOpkey,
    execDevAttestQuote, execDevAttestCert, execDevLockoutDiag]
/-- Commands of group 0x01, host interface, from function 1 on. -/
def group1Runners : List Runner :=
  [execHifIdentify, execHifQueueCreate, execHifQueueDelete, execHifLeaseGrant, execHifLeaseRevoke, execHifLeaseQuery,
    execHifEventMask, execHifSpiXfer, execHifI2cXfer, execHifMgmtEventRead, execHifNop]
/-- Commands of group 0x02, time, from function 1 on. -/
def group2Runners : List Runner :=
  [execTimGet, execTimSet, execTimAdjust, execTimFreqSet, execTimSrcSet, execTimPtpCfg, execTimPtpRing, execTimPtpSend,
    execTimSnapshot]
/-- Commands of group 0x03, converters, from function 1 on. -/
def group3Runners : List Runner :=
  [execCnvFgCal, execCnvRefresh, execCnvCfgSet, execCnvTsetRead, execCnvTsetClear, execCnvDacCharRead, execCnvLoop]
/-- Commands of group 0x04, DSP, from function 1 on. -/
def group4Runners : List Runner :=
  [execDspProfileSet, execDspCdSet, execDspEqSet, execDspNlcSet, execDspRxSet, execDspTxSet, execDspTxRespLoad,
    execDspFastsopForce, execDspTestPattern, execDspQualityGet]
/-- Commands of group 0x05, FEC, from function 1 on. -/
def group5Runners : List Runner :=
  [execFecCfgSet, execFecThrSet, execFecStatsGet, execFecPoolGet, execFecCoreRetest, execFecErrInject]
/-- Commands of group 0x06, framing, from function 1 on. -/
def group6Runners : List Runner :=
  [execFrmDefectCfgSet, execFrmTtiSet, execFrmTtiGet, execFrmCaSet, execFrmPmCfgSet, execFrmPmRead, execFrmPmClear,
    execFrmTcaSet, execFrmMaintInsert]
/-- Commands of group 0x07, mapping, from function 1 on. -/
def group7Runners : List Runner :=
  [execMapPlanBegin, execMapPlanLoad, execMapPlanCommit, execMapPlanAbort, execMapPlanGet, execApsCfgSet, execApsCmd,
    execApsStatusGet]
/-- Commands of group 0x08, cipher, from function 1 on. -/
def group8Runners : List Runner :=
  [execCphKeyImport, execCphKeyAgree, execCphKeyErase, execCphKeyInfo, execCphEpochSet, execCphEpochSwitch,
    execCphTribSet, execCphTribGet, execCphJobSubmit, execCphJobCancel, execCphCtxSave, execCphCtxRestore]
/-- Commands of group 0x09, packet, from function 1 on. -/
def group9Runners : List Runner :=
  [execPktPortSet, execPktEntitySet, execPktEntityGet, execPktRuleAdd, execPktRuleDel, execPktGateLoad, execPktGateSet,
    execPktStatsGet]
/-- Commands of group 0x0A, client lanes, from function 1 on. -/
def group10Runners : List Runner :=
  [execClnCifSet, execClnLaneSet, execClnLoop, execClnPrbs, execClnCifGet]
/-- Commands of group 0x0B, peer link, from function 1 on. -/
def group11Runners : List Runner :=
  [execPlkCfgSet, execPlkLaneSet, execPlkLoop, execPlkStatusGet]
/-- Commands of group 0x0C, monitor and housekeeping, from function 1 on. -/
def group12Runners : List Runner :=
  [execMonChSet, execMonFsopSet, execMonDetGet, execMonRingSet, execHkaSeqSet, execHkaInject, execHkaCal, execHkaCorrSet,
    execHkaCfgSet]
/-- Commands of group 0x0D, thermal and power, from function 1 on. -/
def group13Runners : List Runner :=
  [execThmLimitSet, execThmStatusGet, execThmSensorGet, execThmTripGet, execPwrAvsGet, execPwrAvsFix]
/-- Commands of group 0x0E, memory integrity, from function 1 on. -/
def group14Runners : List Runner :=
  [execMiScrubRange, execMiPatrolSet, execMiFlipTest, execMiCinderRead, execMiClassGet]
/-- Commands of group 0x0F, Logbook, from function 1 on. -/
def group15Runners : List Runner :=
  [execLogExport, execLogCountersGet, execLogPlanGet, execLogPlanRun, execLogNote, execLogAgeingGet, execLogRefresh]
/-- The commands of a group (R74). -/
def runnersOf (group : Nat) : List Runner :=
  [group0Runners, group1Runners, group2Runners, group3Runners, group4Runners, group5Runners, group6Runners, group7Runners,
    group8Runners, group9Runners, group10Runners, group11Runners, group12Runners, group13Runners, group14Runners,
    group15Runners].getD group []
/-- What runs an opcode: its command, or the rejection of an undefined one. -/
def runnerOf (opcode : Nat) : Runner :=
  if opcode % 256 = 0 then execUndefinedOpcode (BitVec.ofNat 16 opcode)
  else ((runnersOf (opcode / 256))[opcode % 256 - 1]?).getD (execUndefinedOpcode (BitVec.ofNat 16 opcode))

/-! ### Entries behind a fence (R67) -/

/-- The first entry that waits in queue `n` starts under the stamp of its fetch, when no fence holds it back any longer; the
others stay behind it (R67, R78). -/
def startWaiting (n : Nat) (s : State) : State :=
  let q := s.queue n
  let open_ := s.setQueue n { q with waiting := [] }
  let rest := fun (t : State) =>
    let u := t.queue n
    if u.enabled then t.setQueue n { u with waiting := q.waiting.drop 1 } else t
  match q.waiting with
  | [] => s
  | w :: _ =>
    match w.entry with
    | none => if fetches n open_ then rest (fetchFailed n open_) else s
    | some (op, p) =>
      if !fetches n open_ || fenced p open_ then s
      else match runnerOf op p (modHif (fun h => { h with stamped := some (w.arrival, w.tod) }) open_) with
        | .next t => rest (modHif (fun h => { h with stamped := none }) t)
        | _ => s
/-- The stamp of the entry of queue `n` that can start now, if there is one. -/
def canStart (s : State) (n : Nat) : Option Nat :=
  let q := s.queue n
  let open_ := s.setQueue n { q with waiting := [] }
  match q.waiting with
  | [] => none
  | w :: _ =>
    if fetches n open_ && (match w.entry with
      | none => true
      | some (_, p) => !fenced p open_) then some w.arrival else none
/-- The queue whose waiting entry starts first: the earliest stamp, then the lowest channel (R78, R79). -/
def nextHeld (s : State) : Option Nat :=
  ((List.range 16).foldl (fun best n => match canStart s n, best with
    | some a, some (b, m) => if a < b then some (a, n) else some (b, m)
    | some a, none => some (a, n)
    | none, b => b) none).map (fun x => x.2)
/-- One entry that has waited behind a fence starts, in the order of the stamps (R67, R78, R79; log 84). -/
def startHeld (s : State) : State :=
  match nextHeld s with
  | some n => startWaiting n s
  | none => s

/-- The port answers from Kindling on. -/
def portAlive (s : State) : Bool := s.pins.resetN
def modPort16 (f : MgmtPort → MgmtPort) (s : State) : State := modHif (fun h => { h with mgmt := f h.mgmt }) s
/-- The port status byte: state and OVERRUN (R86). -/
def portStatus (m : MgmtPort) : Byte := BitVec.ofNat 8 (m.state + 128 * b2n m.overrun)

/-- The CRC of a packet as written: over bytes 0 to 31 + PARAM_LEN with its own field zero (R69). -/
def rawCrcOk (bs : List Byte) : Bool :=
  let n := 32 + u16 bs 6
  decide (n ≤ bs.length) && decide (crc32c (bs.take 16 ++ leBytes 4 0 ++ (bs.take n).drop 20) = u32 bs 16)
/-- The packet in those bytes, with the CRC it carries (R69, R86). -/
def packetFrom (bs : List Byte) : Packet :=
  { chan := 16, flags := BitVec.ofNat 8 (u8 bs 2), version := BitVec.ofNat 8 (u8 bs 3), tag := BitVec.ofNat 16 (u16 bs 4)
    seq := BitVec.ofNat 32 (u32 bs 8), leaseId := BitVec.ofNat 32 (u32 bs 12), crc := BitVec.ofNat 32 (u32 bs 16)
    reserved := bytesAt 20 12 bs, params := bytesAt 32 (min (u16 bs 6) (bs.length - 32)) bs, entry := [], hostData := [] }

/-- MGMT_PACKET_WRITE: NACKed while a command executes, discarded beyond 256 bytes, else taken at STOP (R86). -/
def execMgmtPacketWrite (bytes : List Byte) (s : State) : Host.Outcome State Fault Refusal :=
  if !portAlive s then .next s
  else if s.hif.mgmt.state = 1 then .next (modPort16 (fun m => { m with nacked := true, busOut := [] }) s)
  else if 256 < bytes.length then .next (modPort16 (fun m => { m with nacked := true, busOut := [], overrun := true }) s)
  else
    let s1 := modPort16 (fun m => { m with nacked := false, busOut := [] }) s
    let p := packetFrom bytes
    let op := u16 bytes 0
    if rawCrcOk bytes then runnerOf op p s1
    else .next (reply (senderOf op p s1) .integrity 0xFFFF [] (countBadCrc (takePacket p s1)))

/-- MGMT_RESPONSE_READ: the status byte, then the response when there is one. -/
def execMgmtResponseRead (s : State) : Host.Outcome State Fault Refusal :=
  if !portAlive s then .next s
  else
    .next (modPort16 (fun m => { m with
      nacked := false, busOut := portStatus m :: (if m.state = 2 then m.kept else []) }) s)
/-- MGMT_STATUS_READ clears OVERRUN. -/
def execMgmtStatusRead (s : State) : Host.Outcome State Fault Refusal :=
  if !portAlive s then .next s
  else .next (modPort16 (fun m => { m with nacked := false, busOut := [portStatus m], overrun := false }) s)
/-- MGMT_AVS_READ: served at any time (R86, R432). -/
def execMgmtAvsRead (s : State) : Host.Outcome State Fault Refusal :=
  if !s.pins.vddAon then .next s else .next (modPort16 (fun m => { m with nacked := false, busOut := avsBytes s }) s)
/-- MGMT_BAD_SELECTOR: NACKed, with no other effect. -/
def execMgmtBadSelector (selector : Byte) (s : State) : Host.Outcome State Fault Refusal :=
  if !portAlive s ∨ (1 ≤ selector.toNat ∧ selector.toNat ≤ 4) then .next s
  else .next (modPort16 (fun m => { m with nacked := true, busOut := [] }) s)
/-- MGMT_BUS_TIMEOUT: the port releases the bus; the transaction is void (R85). -/
def execMgmtBusTimeout (s : State) : Host.Outcome State Fault Refusal :=
  .next (modPort16 (fun m => { m with nacked := false, busOut := [] }) s)

end Sys2Proof.Machine
end

