-- ==== Sys2Proof/Machine/Dispatch.lean ====
section
/-! DEFINITION. The dispatch: one arm per command, each one direct call of its meaning. -/

namespace Sys2Proof.Machine

def exec (i : Instr) (s : State) : Host.Outcome State Fault Refusal :=
  match i with
  | .aonPowerUp avsSel => Sys2Proof.Machine.execAonPowerUp avsSel s
  | .aonPowerLoss => Sys2Proof.Machine.execAonPowerLoss s
  | .resetNLow => Sys2Proof.Machine.execResetNLow s
  | .pwrOkLow => Sys2Proof.Machine.execPwrOkLow s
  | .kindlingStart bootSel mgmtAddr suppliesOk => Sys2Proof.Machine.execKindlingStart bootSel mgmtAddr suppliesOk s
  | .supplyCheckTimeout => Sys2Proof.Machine.execSupplyCheckTimeout s
  | .fuseCheckDone ok => Sys2Proof.Machine.execFuseCheckDone ok s
  | .tcRamTestDone ok => Sys2Proof.Machine.execTcRamTestDone ok s
  | .tcImageFetchDone => Sys2Proof.Machine.execTcImageFetchDone s
  | .tcImageCheckDone image => Sys2Proof.Machine.execTcImageCheckDone image s
  | .trustPhaseDone => Sys2Proof.Machine.execTrustPhaseDone s
  | .acImageFetchDone => Sys2Proof.Machine.execAcImageFetchDone s
  | .acImageCheckDone image => Sys2Proof.Machine.execAcImageCheckDone image s
  | .selftestDone => Sys2Proof.Machine.execSelftestDone s
  | .devLoadCtrlGo => Sys2Proof.Machine.execDevLoadCtrlGo s
  | .modeChangeComplete => Sys2Proof.Machine.execModeChangeComplete s
  | .quiesceDrainComplete => Sys2Proof.Machine.execQuiesceDrainComplete s
  | .quiesceDrainTimeout => Sys2Proof.Machine.execQuiesceDrainTimeout s
  | .acWatchdogExpiry ac => Sys2Proof.Machine.execAcWatchdogExpiry ac s
  | .tcWatchdogExpiry => Sys2Proof.Machine.execTcWatchdogExpiry s
  | .appResetComplete imageOk => Sys2Proof.Machine.execAppResetComplete imageOk s
  | .acResumeAfterEmber => Sys2Proof.Machine.execAcResumeAfterEmber s
  | .imageLoadComplete image => Sys2Proof.Machine.execImageLoadComplete image s
  | .devModeSet p => Sys2Proof.Machine.execDevModeSet p s
  | .devAppReset p => Sys2Proof.Machine.execDevAppReset p s
  | .devEngineReset p => Sys2Proof.Machine.execDevEngineReset p s
  | .devEmberRelease p => Sys2Proof.Machine.execDevEmberRelease p s
  | .devImageLoad p => Sys2Proof.Machine.execDevImageLoad p s
  | .devOpkey p => Sys2Proof.Machine.execDevOpkey p s
  | .devAttestQuote p => Sys2Proof.Machine.execDevAttestQuote p s
  | .devAttestCert p => Sys2Proof.Machine.execDevAttestCert p s
  | .devLockoutDiag p => Sys2Proof.Machine.execDevLockoutDiag p s
  | .registerWrite src addr width value => Sys2Proof.Machine.execRegisterWrite src addr width value s
  | .readClearRegister addr => Sys2Proof.Machine.execReadClearRegister addr s
  | .hifArrivalLoRead => Sys2Proof.Machine.execHifArrivalLoRead s
  | .timTodSecLoRead => Sys2Proof.Machine.execTimTodSecLoRead s
  | .cphDctrLoRead => Sys2Proof.Machine.execCphDctrLoRead s
  | .logLoWordRead counter => Sys2Proof.Machine.execLogLoWordRead counter s
  | .frmPmSelWrite writer value => Sys2Proof.Machine.execFrmPmSelWrite writer value s
  | .dmaRingHeadWrite ring value => Sys2Proof.Machine.execDmaRingHeadWrite ring value s
  | .snapRequest window => Sys2Proof.Machine.execSnapRequest window s
  | .snapCopyDone window => Sys2Proof.Machine.execSnapCopyDone window s
  | .pcieLinkChange gen width => Sys2Proof.Machine.execPcieLinkChange gen width s
  | .functionLevelReset => Sys2Proof.Machine.execFunctionLevelReset s
  | .d3hotEntry => Sys2Proof.Machine.execD3hotEntry s
  | .d0Return => Sys2Proof.Machine.execD0Return s
  | .pciePerstFall => Sys2Proof.Machine.execPciePerstFall s
  | .pciePerstRise => Sys2Proof.Machine.execPciePerstRise s
  | .hifQ0EnSet => Sys2Proof.Machine.execHifQ0EnSet s
  | .hifQ0EnClear => Sys2Proof.Machine.execHifQ0EnClear s
  | .hifEqEnSet => Sys2Proof.Machine.execHifEqEnSet s
  | .hifEqEnClear => Sys2Proof.Machine.execHifEqEnClear s
  | .hifSqTailWrite queue value ringError => Sys2Proof.Machine.execHifSqTailWrite queue value ringError s
  | .hifCqHeadWrite queue value => Sys2Proof.Machine.execHifCqHeadWrite queue value s
  | .hifEqHeadWrite value => Sys2Proof.Machine.execHifEqHeadWrite value s
  | .packetFetchFailed queue => Sys2Proof.Machine.execPacketFetchFailed queue s
  | .undefinedOpcode opcode p => Sys2Proof.Machine.execUndefinedOpcode opcode p s
  | .leaseExpiry id => Sys2Proof.Machine.execLeaseExpiry id s
  | .mgmtPacketWrite bytes => Sys2Proof.Machine.execMgmtPacketWrite bytes s
  | .mgmtResponseRead => Sys2Proof.Machine.execMgmtResponseRead s
  | .mgmtStatusRead => Sys2Proof.Machine.execMgmtStatusRead s
  | .mgmtAvsRead => Sys2Proof.Machine.execMgmtAvsRead s
  | .mgmtBadSelector selector => Sys2Proof.Machine.execMgmtBadSelector selector s
  | .mgmtBusTimeout => Sys2Proof.Machine.execMgmtBusTimeout s
  | .hifIdentify p => Sys2Proof.Machine.execHifIdentify p s
  | .hifQueueCreate p => Sys2Proof.Machine.execHifQueueCreate p s
  | .hifQueueDelete p => Sys2Proof.Machine.execHifQueueDelete p s
  | .hifLeaseGrant p => Sys2Proof.Machine.execHifLeaseGrant p s
  | .hifLeaseRevoke p => Sys2Proof.Machine.execHifLeaseRevoke p s
  | .hifLeaseQuery p => Sys2Proof.Machine.execHifLeaseQuery p s
  | .hifEventMask p => Sys2Proof.Machine.execHifEventMask p s
  | .hifSpiXfer p => Sys2Proof.Machine.execHifSpiXfer p s
  | .hifI2cXfer p => Sys2Proof.Machine.execHifI2cXfer p s
  | .passthroughXferComplete key result done read => Sys2Proof.Machine.execPassthroughXferComplete key result done read s
  | .hifMgmtEventRead p => Sys2Proof.Machine.execHifMgmtEventRead p s
  | .hifNop p => Sys2Proof.Machine.execHifNop p s
  | .secondBoundary measure => Sys2Proof.Machine.execSecondBoundary measure s
  | .ppsOutPulseEnd => Sys2Proof.Machine.execPpsOutPulseEnd s
  | .ppsInEdge => Sys2Proof.Machine.execPpsInEdge s
  | .ppsInMissing => Sys2Proof.Machine.execPpsInMissing s
  | .ptpUpdateTimeout => Sys2Proof.Machine.execPtpUpdateTimeout s
  | .slewComplete => Sys2Proof.Machine.execSlewComplete s
  | .refLost ref => Sys2Proof.Machine.execRefLost ref s
  | .refRestored ref => Sys2Proof.Machine.execRefRestored ref s
  | .synceResumeTimer output => Sys2Proof.Machine.execSynceResumeTimer output s
  | .ptpFrameReceived cif esmc transport frame => Sys2Proof.Machine.execPtpFrameReceived cif esmc transport frame s
  | .ptpFrameSent cif messageType domain sequenceId => Sys2Proof.Machine.execPtpFrameSent cif messageType domain sequenceId s
  | .snapshotInstant key => Sys2Proof.Machine.execSnapshotInstant key s
  | .timGet p => Sys2Proof.Machine.execTimGet p s
  | .timSet p => Sys2Proof.Machine.execTimSet p s
  | .timAdjust p => Sys2Proof.Machine.execTimAdjust p s
  | .timFreqSet p => Sys2Proof.Machine.execTimFreqSet p s
  | .timSrcSet p => Sys2Proof.Machine.execTimSrcSet p s
  | .timPtpCfg p => Sys2Proof.Machine.execTimPtpCfg p s
  | .timPtpRing p => Sys2Proof.Machine.execTimPtpRing p s
  | .timPtpSend p => Sys2Proof.Machine.execTimPtpSend p s
  | .timSnapshot p => Sys2Proof.Machine.execTimSnapshot p s
  | .cnvStepStart group => Sys2Proof.Machine.execCnvStepStart group s
  | .cnvSpareSettled group => Sys2Proof.Machine.execCnvSpareSettled group s
  | .cnvMatchDone group adc stats => Sys2Proof.Machine.execCnvMatchDone group adc stats s
  | .cnvTrimDone group adc selfTest => Sys2Proof.Machine.execCnvTrimDone group adc selfTest s
  | .cnvVerifyDone group adc stats => Sys2Proof.Machine.execCnvVerifyDone group adc stats s
  | .cnvStatsWindowDone group adc slice stats => Sys2Proof.Machine.execCnvStatsWindowDone group adc slice stats s
  | .cnvRefreshInterval group => Sys2Proof.Machine.execCnvRefreshInterval group s
  | .cnvRefreshComplete group => Sys2Proof.Machine.execCnvRefreshComplete group s
  | .cnvFgCalComplete group adcs dacs => Sys2Proof.Machine.execCnvFgCalComplete group adcs dacs s
  | .cnvSliceClockLocked group => Sys2Proof.Machine.execCnvSliceClockLocked group s
  | .cnvTsetSaveDue group set converter => Sys2Proof.Machine.execCnvTsetSaveDue group set converter s
  | .cnvFgCal p => Sys2Proof.Machine.execCnvFgCal p s
  | .cnvRefresh p => Sys2Proof.Machine.execCnvRefresh p s
  | .cnvCfgSet p => Sys2Proof.Machine.execCnvCfgSet p s
  | .cnvTsetRead p => Sys2Proof.Machine.execCnvTsetRead p s
  | .cnvTsetClear p => Sys2Proof.Machine.execCnvTsetClear p s
  | .cnvDacCharRead p => Sys2Proof.Machine.execCnvDacCharRead p s
  | .cnvLoop p => Sys2Proof.Machine.execCnvLoop p s
  | .dspBlockBoundary engine meas => Sys2Proof.Machine.execDspBlockBoundary engine meas s
  | .dspLosDeclared engine => Sys2Proof.Machine.execDspLosDeclared engine s
  | .dspLosCleared engine => Sys2Proof.Machine.execDspLosCleared engine s
  | .dspCdFilterSet engine => Sys2Proof.Machine.execDspCdFilterSet engine s
  | .dspClockAcquired engine => Sys2Proof.Machine.execDspClockAcquired engine s
  | .dspEqPreconverged engine => Sys2Proof.Machine.execDspEqPreconverged engine s
  | .dspSyncWordFound engine => Sys2Proof.Machine.execDspSyncWordFound engine s
  | .dspAcqStageTimeout engine => Sys2Proof.Machine.execDspAcqStageTimeout engine s
  | .dspSyncLost engine => Sys2Proof.Machine.execDspSyncLost engine s
  | .dspCdSearchComplete engine found => Sys2Proof.Machine.execDspCdSearchComplete engine found s
  | .fastsopEntry engine => Sys2Proof.Machine.execFastsopEntry engine s
  | .fastsopHoldExpiry engine => Sys2Proof.Machine.execFastsopHoldExpiry engine s
  | .nlcComputeComplete engine => Sys2Proof.Machine.execNlcComputeComplete engine s
  | .txpdRecomputeComplete engine boostLimited => Sys2Proof.Machine.execTxpdRecomputeComplete engine boostLimited s
  | .profileSwitchInstant engine => Sys2Proof.Machine.execProfileSwitchInstant engine s
  | .profileTxBoundary engine => Sys2Proof.Machine.execProfileTxBoundary engine s
  | .profileSwitchTimeout engine => Sys2Proof.Machine.execProfileSwitchTimeout engine s
  | .dspProfileSet p => Sys2Proof.Machine.execDspProfileSet p s
  | .dspCdSet p => Sys2Proof.Machine.execDspCdSet p s
  | .dspEqSet p => Sys2Proof.Machine.execDspEqSet p s
  | .dspNlcSet p => Sys2Proof.Machine.execDspNlcSet p s
  | .dspRxSet p => Sys2Proof.Machine.execDspRxSet p s
  | .dspTxSet p => Sys2Proof.Machine.execDspTxSet p s
  | .dspTxRespLoad p => Sys2Proof.Machine.execDspTxRespLoad p s
  | .dspFastsopForce p => Sys2Proof.Machine.execDspFastsopForce p s
  | .dspTestPattern p => Sys2Proof.Machine.execDspTestPattern p s
  | .dspQualityGet p => Sys2Proof.Machine.execDspQualityGet p s
  | .fecBlockArrival engine bits zeroAt => Sys2Proof.Machine.execFecBlockArrival engine bits zeroAt s
  | .fecIterationBoundary => Sys2Proof.Machine.execFecIterationBoundary s
  | .fecBlockDelivery block result => Sys2Proof.Machine.execFecBlockDelivery block result s
  | .fecKatDue core => Sys2Proof.Machine.execFecKatDue core s
  | .fecKatComplete core passed => Sys2Proof.Machine.execFecKatComplete core passed s
  | .fecWindowEnd engine => Sys2Proof.Machine.execFecWindowEnd engine s
  | .fecCeilingPacingEnd => Sys2Proof.Machine.execFecCeilingPacingEnd s
  | .coreRetestComplete core passed => Sys2Proof.Machine.execCoreRetestComplete core passed s
  | .poolSelfcheckComplete failed => Sys2Proof.Machine.execPoolSelfcheckComplete failed s
  | .fecCfgSet p => Sys2Proof.Machine.execFecCfgSet p s
  | .fecThrSet p => Sys2Proof.Machine.execFecThrSet p s
  | .fecStatsGet p => Sys2Proof.Machine.execFecStatsGet p s
  | .fecPoolGet p => Sys2Proof.Machine.execFecPoolGet p s
  | .fecCoreRetest p => Sys2Proof.Machine.execFecCoreRetest p s
  | .fecErrInject p => Sys2Proof.Machine.execFecErrInject p s
  | .frmFrameReceived scope unit frame => Sys2Proof.Machine.execFrmFrameReceived scope unit frame s
  | .frameBoundary scope unit mfas => Sys2Proof.Machine.execFrameBoundary scope unit mfas s
  | .defectDeclared scope unit codes => Sys2Proof.Machine.execDefectDeclared scope unit codes s
  | .defectCleared scope unit codes => Sys2Proof.Machine.execDefectCleared scope unit codes s
  | .defectPacingEnd scope unit => Sys2Proof.Machine.execDefectPacingEnd scope unit s
  | .frmDefectCfgSet p => Sys2Proof.Machine.execFrmDefectCfgSet p s
  | .frmTtiSet p => Sys2Proof.Machine.execFrmTtiSet p s
  | .frmTtiGet p => Sys2Proof.Machine.execFrmTtiGet p s
  | .frmCaSet p => Sys2Proof.Machine.execFrmCaSet p s
  | .frmPmCfgSet p => Sys2Proof.Machine.execFrmPmCfgSet p s
  | .frmPmRead p => Sys2Proof.Machine.execFrmPmRead p s
  | .frmPmClear p => Sys2Proof.Machine.execFrmPmClear p s
  | .frmTcaSet p => Sys2Proof.Machine.execFrmTcaSet p s
  | .frmMaintInsert p => Sys2Proof.Machine.execFrmMaintInsert p s
  | .mapPlanApply engine => Sys2Proof.Machine.execMapPlanApply engine s
  | .demapperLocked trib => Sys2Proof.Machine.execDemapperLocked trib s
  | .apsHoldoffExpiry working => Sys2Proof.Machine.execApsHoldoffExpiry working s
  | .apsWtrExpiry working => Sys2Proof.Machine.execApsWtrExpiry working s
  | .apsSelectorSwitch working => Sys2Proof.Machine.execApsSelectorSwitch working s
  | .apsPccReceived working far => Sys2Proof.Machine.execApsPccReceived working far s
  | .apsMismatchHeld working => Sys2Proof.Machine.execApsMismatchHeld working s
  | .apsPacingEnd working => Sys2Proof.Machine.execApsPacingEnd working s
  | .mapPlanBegin p => Sys2Proof.Machine.execMapPlanBegin p s
  | .mapPlanLoad p => Sys2Proof.Machine.execMapPlanLoad p s
  | .mapPlanCommit p => Sys2Proof.Machine.execMapPlanCommit p s
  | .mapPlanAbort p => Sys2Proof.Machine.execMapPlanAbort p s
  | .mapPlanGet p => Sys2Proof.Machine.execMapPlanGet p s
  | .apsCfgSet p => Sys2Proof.Machine.execApsCfgSet p s
  | .apsCmd p => Sys2Proof.Machine.execApsCmd p s
  | .apsStatusGet p => Sys2Proof.Machine.execApsStatusGet p s
  | .cphTxGroupBoundary trib group => Sys2Proof.Machine.execCphTxGroupBoundary trib group s
  | .cphRxGroupCheck trib group => Sys2Proof.Machine.execCphRxGroupCheck trib group s
  | .cphJobComplete job end_ => Sys2Proof.Machine.execCphJobComplete job end_ s
  | .epochRebuildComplete trib receive => Sys2Proof.Machine.execEpochRebuildComplete trib receive s
  | .cphKeyImport p => Sys2Proof.Machine.execCphKeyImport p s
  | .cphKeyAgree p => Sys2Proof.Machine.execCphKeyAgree p s
  | .cphKeyErase p => Sys2Proof.Machine.execCphKeyErase p s
  | .cphKeyInfo p => Sys2Proof.Machine.execCphKeyInfo p s
  | .cphEpochSet p => Sys2Proof.Machine.execCphEpochSet p s
  | .cphEpochSwitch p => Sys2Proof.Machine.execCphEpochSwitch p s
  | .cphTribSet p => Sys2Proof.Machine.execCphTribSet p s
  | .cphTribGet p => Sys2Proof.Machine.execCphTribGet p s
  | .cphJobSubmit p => Sys2Proof.Machine.execCphJobSubmit p s
  | .cphJobCancel p => Sys2Proof.Machine.execCphJobCancel p s
  | .cphCtxSave p => Sys2Proof.Machine.execCphCtxSave p s
  | .cphCtxRestore p => Sys2Proof.Machine.execCphCtxRestore p s
  | .pktFrameReceived port frame => Sys2Proof.Machine.execPktFrameReceived port frame s
  | .pktTxOpportunity port read => Sys2Proof.Machine.execPktTxOpportunity port read s
  | .pktFineWheelSlot slot => Sys2Proof.Machine.execPktFineWheelSlot slot s
  | .pktCoarseWheelSlot slot => Sys2Proof.Machine.execPktCoarseWheelSlot slot s
  | .pktGateEntryEnd port => Sys2Proof.Machine.execPktGateEntryEnd port s
  | .pktGateCycleStart port => Sys2Proof.Machine.execPktGateCycleStart port s
  | .pktGateListStart port => Sys2Proof.Machine.execPktGateListStart port s
  | .pktInitComplete => Sys2Proof.Machine.execPktInitComplete s
  | .configEntryRebuilt target faulty => Sys2Proof.Machine.execConfigEntryRebuilt target faulty s
  | .pktPortSet p => Sys2Proof.Machine.execPktPortSet p s
  | .pktEntitySet p => Sys2Proof.Machine.execPktEntitySet p s
  | .pktEntityGet p => Sys2Proof.Machine.execPktEntityGet p s
  | .pktRuleAdd p => Sys2Proof.Machine.execPktRuleAdd p s
  | .pktRuleDel p => Sys2Proof.Machine.execPktRuleDel p s
  | .pktGateLoad p => Sys2Proof.Machine.execPktGateLoad p s
  | .pktGateSet p => Sys2Proof.Machine.execPktGateSet p s
  | .pktStatsGet p => Sys2Proof.Machine.execPktStatsGet p s
  | .clnLaneFault lane signalLost => Sys2Proof.Machine.execClnLaneFault lane signalLost s
  | .clnTrainingTimeout lane => Sys2Proof.Machine.execClnTrainingTimeout lane s
  | .clnLaneClean lane => Sys2Proof.Machine.execClnLaneClean lane s
  | .clnCifUp cif pcsLanes => Sys2Proof.Machine.execClnCifUp cif pcsLanes s
  | .plkLaneCdrLocked lane => Sys2Proof.Machine.execPlkLaneCdrLocked lane s
  | .plkDfeConverged lane => Sys2Proof.Machine.execPlkDfeConverged lane s
  | .plkLaneLoss lane => Sys2Proof.Machine.execPlkLaneLoss lane s
  | .plkMarkerReceived lane marker => Sys2Proof.Machine.execPlkMarkerReceived lane marker s
  | .plkMarkerPeriodStart stuffed => Sys2Proof.Machine.execPlkMarkerPeriodStart stuffed s
  | .plkBlockTransmit ready => Sys2Proof.Machine.execPlkBlockTransmit ready s
  | .plkTribBlockReceived chan block => Sys2Proof.Machine.execPlkTribBlockReceived chan block s
  | .plkApsBlockReceived block entries => Sys2Proof.Machine.execPlkApsBlockReceived block entries s
  | .plkHelloReceived hello => Sys2Proof.Machine.execPlkHelloReceived hello s
  | .plkHelloTimer => Sys2Proof.Machine.execPlkHelloTimer s
  | .plkApsRefreshTimer => Sys2Proof.Machine.execPlkApsRefreshTimer s
  | .plkApsEntryTimeout working => Sys2Proof.Machine.execPlkApsEntryTimeout working s
  | .plkHelloTimeout => Sys2Proof.Machine.execPlkHelloTimeout s
  | .clnCifSet p => Sys2Proof.Machine.execClnCifSet p s
  | .clnLaneSet p => Sys2Proof.Machine.execClnLaneSet p s
  | .clnLoop p => Sys2Proof.Machine.execClnLoop p s
  | .clnPrbs p => Sys2Proof.Machine.execClnPrbs p s
  | .clnCifGet p => Sys2Proof.Machine.execClnCifGet p s
  | .plkCfgSet p => Sys2Proof.Machine.execPlkCfgSet p s
  | .plkLaneSet p => Sys2Proof.Machine.execPlkLaneSet p s
  | .plkLoop p => Sys2Proof.Machine.execPlkLoop p s
  | .plkStatusGet p => Sys2Proof.Machine.execPlkStatusGet p s
  | .monOutputSample chan y => Sys2Proof.Machine.execMonOutputSample chan y s
  | .monFsopRepeat engine => Sys2Proof.Machine.execMonFsopRepeat engine s
  | .monChainFilled chan => Sys2Proof.Machine.execMonChainFilled chan s
  | .monDetectorWindowEnd chan isRms => Sys2Proof.Machine.execMonDetectorWindowEnd chan isRms s
  | .monRecordWrite chan => Sys2Proof.Machine.execMonRecordWrite chan s
  | .hkaConversionDone sar raw ovr => Sys2Proof.Machine.execHkaConversionDone sar raw ovr s
  | .hkaSystemTick => Sys2Proof.Machine.execHkaSystemTick s
  | .hkaSeqPeriodStart sar => Sys2Proof.Machine.execHkaSeqPeriodStart sar s
  | .hkaCalTimer sar => Sys2Proof.Machine.execHkaCalTimer sar s
  | .hkaCalComplete sar => Sys2Proof.Machine.execHkaCalComplete sar s
  | .hkaCalStepAbort sar => Sys2Proof.Machine.execHkaCalStepAbort sar s
  | .monChSet p => Sys2Proof.Machine.execMonChSet p s
  | .monFsopSet p => Sys2Proof.Machine.execMonFsopSet p s
  | .monDetGet p => Sys2Proof.Machine.execMonDetGet p s
  | .monRingSet p => Sys2Proof.Machine.execMonRingSet p s
  | .hkaSeqSet p => Sys2Proof.Machine.execHkaSeqSet p s
  | .hkaInject p => Sys2Proof.Machine.execHkaInject p s
  | .hkaCal p => Sys2Proof.Machine.execHkaCal p s
  | .hkaCorrSet p => Sys2Proof.Machine.execHkaCorrSet p s
  | .hkaCfgSet p => Sys2Proof.Machine.execHkaCfgSet p s
  | .thmSample readings => Sys2Proof.Machine.execThmSample readings s
  | .thmLevelPacingEnd => Sys2Proof.Machine.execThmLevelPacingEnd s
  | .coolingRuleMet => Sys2Proof.Machine.execCoolingRuleMet s
  | .avsEvaluation margin => Sys2Proof.Machine.execAvsEvaluation margin s
  | .thmLimitSet p => Sys2Proof.Machine.execThmLimitSet p s
  | .thmStatusGet p => Sys2Proof.Machine.execThmStatusGet p s
  | .thmSensorGet p => Sys2Proof.Machine.execThmSensorGet p s
  | .thmTripGet p => Sys2Proof.Machine.execThmTripGet p s
  | .pwrAvsGet p => Sys2Proof.Machine.execPwrAvsGet p s
  | .pwrAvsFix p => Sys2Proof.Machine.execPwrAvsFix p s
  | .memoryCorrectableError cls inst row scrub stuck => Sys2Proof.Machine.execMemoryCorrectableError cls inst row scrub stuck s
  | .memoryUncorrectableError cls inst row scrub target => Sys2Proof.Machine.execMemoryUncorrectableError cls inst row scrub target s
  | .miPatrolRead cls => Sys2Proof.Machine.execMiPatrolRead cls s
  | .acmPageReloadComplete ok => Sys2Proof.Machine.execAcmPageReloadComplete ok s
  | .wpTileMarchComplete tile passed => Sys2Proof.Machine.execWpTileMarchComplete tile passed s
  | .scrubRangeComplete cls unwritten => Sys2Proof.Machine.execScrubRangeComplete cls unwritten s
  | .miScrubRange p => Sys2Proof.Machine.execMiScrubRange p s
  | .miPatrolSet p => Sys2Proof.Machine.execMiPatrolSet p s
  | .miFlipTest p => Sys2Proof.Machine.execMiFlipTest p s
  | .miCinderRead p => Sys2Proof.Machine.execMiCinderRead p s
  | .miClassGet p => Sys2Proof.Machine.execMiClassGet p s
  | .flashPageProgrammed result => Sys2Proof.Machine.execFlashPageProgrammed result s
  | .flashBlockErased ok => Sys2Proof.Machine.execFlashBlockErased ok s
  | .lifeClockSecond => Sys2Proof.Machine.execLifeClockSecond s
  | .countersHourlyDue => Sys2Proof.Machine.execCountersHourlyDue s
  | .ageingDayDue shifts => Sys2Proof.Machine.execAgeingDayDue shifts s
  | .ageingMonthDue => Sys2Proof.Machine.execAgeingMonthDue s
  | .logRefreshPassDue => Sys2Proof.Machine.execLogRefreshPassDue s
  | .logRefreshPassComplete failed => Sys2Proof.Machine.execLogRefreshPassComplete failed s
  | .planYearDue => Sys2Proof.Machine.execPlanYearDue s
  | .marginPlanComplete => Sys2Proof.Machine.execMarginPlanComplete s
  | .logExportComplete failed => Sys2Proof.Machine.execLogExportComplete failed s
  | .logExport p => Sys2Proof.Machine.execLogExport p s
  | .logCountersGet p => Sys2Proof.Machine.execLogCountersGet p s
  | .logPlanGet p => Sys2Proof.Machine.execLogPlanGet p s
  | .logPlanRun p => Sys2Proof.Machine.execLogPlanRun p s
  | .logNote p => Sys2Proof.Machine.execLogNote p s
  | .logAgeingGet p => Sys2Proof.Machine.execLogAgeingGet p s
  | .logRefresh p => Sys2Proof.Machine.execLogRefresh p s
  | .supplyGroupsWithinRange => Sys2Proof.Machine.execSupplyGroupsWithinRange s
  | .ppsOutRise => Sys2Proof.Machine.execPpsOutRise s
  | .crystalLoss => Sys2Proof.Machine.execCrystalLoss s
  | .pcsAlignmentLost cif cause => Sys2Proof.Machine.execPcsAlignmentLost cif cause s
  | .localFaultReceived cif localFault remoteFault => Sys2Proof.Machine.execLocalFaultReceived cif localFault remoteFault s

end Sys2Proof.Machine
end

