-- ==== Sys2Proof/Safety.lean ====
section
/-! DEFINITION. What claims are stated in: a packet that is granted, the answer it gets, and the invariants of the block. -/

namespace Sys2Proof.Machine

/-- The device starts this packet, it is no retry, and the steps 1 to 8 of R71 accept it: `s` is the state in which the
command's own checks and effect begin, its packet taken (R67, R86). -/
def Granted (c : CmdInfo) (p : Packet) (s₀ s : State) : Prop :=
  startable p s₀ = true ∧ isRetry p s₀ = false ∧ s = takePacket p s₀ ∧ admission c p s = .ok

/-- The packet taken from `s₀` has been answered with a status and response bytes, after the effect that led to `t`
(R65, R66, R69). -/
def answered (opcode : Nat) (p : Packet) (s₀ : State) (st : Status) (resp : List Byte) (t : State) : State :=
  reply (senderOf opcode p s₀) st 0xFFFF resp t

/-- The packet taken from `s₀` has been answered DEFERRED in `s`, with the event that will complete it (R72); the effect that
follows is the command's (R75), until `endOrigin`. -/
def deferredAs (opcode : Nat) (p : Packet) (s₀ : State) (unit group code : Nat) (abortPayload : List Byte) (s : State) : State :=
  beginOrigin p.tag p.chan.val
    (answered opcode p s₀ .deferred [] (addDeferred (senderOf opcode p s₀) unit group code abortPayload s))

/-- The packet taken from `s₀` waits under a key: a later event answers it (R88). -/
def waiting (opcode : Nat) (p : Packet) (s₀ : State) (key : Nat) (t₀ : State) : State :=
  let t := endOrigin t₀
  { t with hif := { t.hif with inflight := t.hif.inflight ++ [{ senderOf opcode p s₀ with key := key }] } }

/-- What the pipeline runs for a command row: what R71 must know of it, its own part, and its packet (R69 to R74); none for an
event. -/
def commandOf (i : Instr) : Option (CmdInfo × (Packet → State → Reply) × Packet) :=
  match i with
  | .aonPowerUp .. => none
  | .aonPowerLoss => none
  | .resetNLow => none
  | .pwrOkLow => none
  | .kindlingStart .. => none
  | .supplyCheckTimeout => none
  | .fuseCheckDone .. => none
  | .tcRamTestDone .. => none
  | .tcImageFetchDone => none
  | .tcImageCheckDone .. => none
  | .trustPhaseDone => none
  | .acImageFetchDone => none
  | .acImageCheckDone .. => none
  | .selftestDone => none
  | .devLoadCtrlGo => none
  | .modeChangeComplete => none
  | .quiesceDrainComplete => none
  | .quiesceDrainTimeout => none
  | .acWatchdogExpiry .. => none
  | .tcWatchdogExpiry => none
  | .appResetComplete .. => none
  | .acResumeAfterEmber => none
  | .imageLoadComplete .. => none
  | .devModeSet p => some (modCmd 0x0001 4, replyDevModeSet, p)
  | .devAppReset p => some (modCmd 0x0002 0, replyDevAppReset, p)
  | .devEngineReset p => some (modCmd 0x0003 4, replyDevEngineReset, p)
  | .devEmberRelease p => some (modCmd 0x0004 0, replyDevEmberRelease, p)
  | .devImageLoad p => some (modCmd 0x0005 16, replyDevImageLoad, p)
  | .devOpkey p => some ({ modCmd 0x0006 0 with lenOk := fun b => decide (b.length = 116) || decide (b.length = 212) || decide (b.length = 2788) }, replyDevOpkey, p)
  | .devAttestQuote p => some (readCmd 0x0007 32, replyDevAttestQuote, p)
  | .devAttestCert p => some (readCmd 0x0008 4, replyDevAttestCert, p)
  | .devLockoutDiag p => some (readCmd 0x0009 0, replyDevLockoutDiag, p)
  | .registerWrite .. => none
  | .readClearRegister .. => none
  | .hifArrivalLoRead => none
  | .timTodSecLoRead => none
  | .cphDctrLoRead => none
  | .logLoWordRead .. => none
  | .frmPmSelWrite .. => none
  | .dmaRingHeadWrite .. => none
  | .snapRequest .. => none
  | .snapCopyDone .. => none
  | .pcieLinkChange .. => none
  | .functionLevelReset => none
  | .d3hotEntry => none
  | .d0Return => none
  | .pciePerstFall => none
  | .pciePerstRise => none
  | .hifQ0EnSet => none
  | .hifQ0EnClear => none
  | .hifEqEnSet => none
  | .hifEqEnClear => none
  | .hifSqTailWrite .. => none
  | .hifCqHeadWrite .. => none
  | .hifEqHeadWrite .. => none
  | .packetFetchFailed .. => none
  | .undefinedOpcode .. => none
  | .leaseExpiry .. => none
  | .mgmtPacketWrite .. => none
  | .mgmtResponseRead => none
  | .mgmtStatusRead => none
  | .mgmtAvsRead => none
  | .mgmtBadSelector .. => none
  | .mgmtBusTimeout => none
  | .hifIdentify p => some (readCmd 0x0101 0, replyHifIdentify, p)
  | .hifQueueCreate p => some ({ modCmd 0x0102 24 with bmcDenied := true }, replyHifQueueCreate, p)
  | .hifQueueDelete p => some ({ modCmd 0x0103 4 with bmcDenied := true }, replyHifQueueDelete, p)
  | .hifLeaseGrant p => some ({ modCmd 0x0104 12 with bmcDenied := true }, replyHifLeaseGrant, p)
  | .hifLeaseRevoke p => some ({ modCmd 0x0105 4 with bmcDenied := true }, replyHifLeaseRevoke, p)
  | .hifLeaseQuery p => some (readCmd 0x0106 0, replyHifLeaseQuery, p)
  | .hifEventMask p => some ({ modCmd 0x0107 4 with bmcDenied := true }, replyHifEventMask, p)
  | .hifSpiXfer p => some ({ modCmd 0x0108 0 with lenOk := transferLen }, replyHifSpiXfer, p)
  | .hifI2cXfer p => some ({ modCmd 0x0109 0 with lenOk := transferLen }, replyHifI2cXfer, p)
  | .passthroughXferComplete .. => none
  | .hifMgmtEventRead p => some ({ readCmd 0x010A 4 with hostDenied := true }, replyHifMgmtEventRead, p)
  | .hifNop p => some ({ readCmd 0x010B 0 with lenOk := fun _ => true }, replyHifNop, p)
  | .secondBoundary .. => none
  | .ppsOutPulseEnd => none
  | .ppsInEdge => none
  | .ppsInMissing => none
  | .ptpUpdateTimeout => none
  | .slewComplete => none
  | .refLost .. => none
  | .refRestored .. => none
  | .synceResumeTimer .. => none
  | .ptpFrameReceived .. => none
  | .ptpFrameSent .. => none
  | .snapshotInstant .. => none
  | .timGet p => some (readCmd 0x0201 0, replyTimGet, p)
  | .timSet p => some (modCmd 0x0202 12, replyTimSet, p)
  | .timAdjust p => some (modCmd 0x0203 12, replyTimAdjust, p)
  | .timFreqSet p => some (modCmd 0x0204 4, replyTimFreqSet, p)
  | .timSrcSet p => some (modCmd 0x0205 4, replyTimSrcSet, p)
  | .timPtpCfg p => some (modCmd 0x0206 4, replyTimPtpCfg, p)
  | .timPtpRing p => some (modCmd 0x0207 12, replyTimPtpRing, p)
  | .timPtpSend p => some ({ modCmd 0x0208 0 with lenOk := fun b => decide (4 ≤ b.length) && decide (b.length = 4 + u16 b 2) }, replyTimPtpSend, p)
  | .timSnapshot p => some (modCmd 0x0209 12, replyTimSnapshot, p)
  | .cnvStepStart .. => none
  | .cnvSpareSettled .. => none
  | .cnvMatchDone .. => none
  | .cnvTrimDone .. => none
  | .cnvVerifyDone .. => none
  | .cnvStatsWindowDone .. => none
  | .cnvRefreshInterval .. => none
  | .cnvRefreshComplete .. => none
  | .cnvFgCalComplete .. => none
  | .cnvSliceClockLocked .. => none
  | .cnvTsetSaveDue .. => none
  | .cnvFgCal p => some (modCmd 0x0301 4, replyCnvFgCal, p)
  | .cnvRefresh p => some (modCmd 0x0302 4, replyCnvRefresh, p)
  | .cnvCfgSet p => some (modCmd 0x0303 8, replyCnvCfgSet, p)
  | .cnvTsetRead p => some (readCmd 0x0304 8, replyCnvTsetRead, p)
  | .cnvTsetClear p => some (modCmd 0x0305 4, replyCnvTsetClear, p)
  | .cnvDacCharRead p => some (readCmd 0x0306 4, replyCnvDacCharRead, p)
  | .cnvLoop p => some ({ modCmd 0x0307 4 with maintenance := true }, replyCnvLoop, p)
  | .dspBlockBoundary .. => none
  | .dspLosDeclared .. => none
  | .dspLosCleared .. => none
  | .dspCdFilterSet .. => none
  | .dspClockAcquired .. => none
  | .dspEqPreconverged .. => none
  | .dspSyncWordFound .. => none
  | .dspAcqStageTimeout .. => none
  | .dspSyncLost .. => none
  | .dspCdSearchComplete .. => none
  | .fastsopEntry .. => none
  | .fastsopHoldExpiry .. => none
  | .nlcComputeComplete .. => none
  | .txpdRecomputeComplete .. => none
  | .profileSwitchInstant .. => none
  | .profileTxBoundary .. => none
  | .profileSwitchTimeout .. => none
  | .dspProfileSet p => some (modCmd 0x0401 16, replyDspProfileSet, p)
  | .dspCdSet p => some (modCmd 0x0402 16, replyDspCdSet, p)
  | .dspEqSet p => some (modCmd 0x0403 8, replyDspEqSet, p)
  | .dspNlcSet p => some (modCmd 0x0404 16, replyDspNlcSet, p)
  | .dspRxSet p => some (modCmd 0x0405 16, replyDspRxSet, p)
  | .dspTxSet p => some (modCmd 0x0406 24, replyDspTxSet, p)
  | .dspTxRespLoad p => some ({ modCmd 0x0407 0 with lenOk := fun ps => 8 ≤ ps.length }, replyDspTxRespLoad, p)
  | .dspFastsopForce p => some (modCmd 0x0408 4, replyDspFastsopForce, p)
  | .dspTestPattern p => some ({ modCmd 0x0409 8 with maintenance := true }, replyDspTestPattern, p)
  | .dspQualityGet p => some (readCmd 0x040A 4, replyDspQualityGet, p)
  | .fecBlockArrival .. => none
  | .fecIterationBoundary => none
  | .fecBlockDelivery .. => none
  | .fecKatDue .. => none
  | .fecKatComplete .. => none
  | .fecWindowEnd .. => none
  | .fecCeilingPacingEnd => none
  | .coreRetestComplete .. => none
  | .poolSelfcheckComplete .. => none
  | .fecCfgSet p => some (modCmd 0x0501 4, replyFecCfgSet, p)
  | .fecThrSet p => some (modCmd 0x0502 12, replyFecThrSet, p)
  | .fecStatsGet p => some (readCmd 0x0503 4, replyFecStatsGet, p)
  | .fecPoolGet p => some (readCmd 0x0504 0, replyFecPoolGet, p)
  | .fecCoreRetest p => some (modCmd 0x0505 4, replyFecCoreRetest, p)
  | .fecErrInject p => some ({ modCmd 0x0506 8 with maintenance := true }, replyFecErrInject, p)
  | .frmFrameReceived .. => none
  | .frameBoundary .. => none
  | .defectDeclared .. => none
  | .defectCleared .. => none
  | .defectPacingEnd .. => none
  | .frmDefectCfgSet p => some (modCmd 0x0601 8, replyFrmDefectCfgSet, p)
  | .frmTtiSet p => some (modCmd 0x0602 136, replyFrmTtiSet, p)
  | .frmTtiGet p => some (readCmd 0x0603 4, replyFrmTtiGet, p)
  | .frmCaSet p => some (modCmd 0x0604 4, replyFrmCaSet, p)
  | .frmPmCfgSet p => some (modCmd 0x0605 8, replyFrmPmCfgSet, p)
  | .frmPmRead p => some (readCmd 0x0606 8, replyFrmPmRead, p)
  | .frmPmClear p => some (modCmd 0x0607 4, replyFrmPmClear, p)
  | .frmTcaSet p => some (modCmd 0x0608 36, replyFrmTcaSet, p)
  | .frmMaintInsert p => some ({ modCmd 0x0609 8 with maintenance := true }, replyFrmMaintInsert, p)
  | .mapPlanApply .. => none
  | .demapperLocked .. => none
  | .apsHoldoffExpiry .. => none
  | .apsWtrExpiry .. => none
  | .apsSelectorSwitch .. => none
  | .apsPccReceived .. => none
  | .apsMismatchHeld .. => none
  | .apsPacingEnd .. => none
  | .mapPlanBegin p => some (modCmd 0x0701 4, replyMapPlanBegin, p)
  | .mapPlanLoad p => some ({ modCmd 0x0702 0 with lenOk := fun b => b.length = 8 + 96 * u8 b 0 }, replyMapPlanLoad, p)
  | .mapPlanCommit p => some (modCmd 0x0703 20, replyMapPlanCommit, p)
  | .mapPlanAbort p => some (modCmd 0x0704 0, replyMapPlanAbort, p)
  | .mapPlanGet p => some (readCmd 0x0705 8, replyMapPlanGet, p)
  | .apsCfgSet p => some (modCmd 0x0706 8, replyApsCfgSet, p)
  | .apsCmd p => some (modCmd 0x0707 4, replyApsCmd, p)
  | .apsStatusGet p => some (readCmd 0x0708 4, replyApsStatusGet, p)
  | .cphTxGroupBoundary .. => none
  | .cphRxGroupCheck .. => none
  | .cphJobComplete .. => none
  | .epochRebuildComplete .. => none
  | .cphKeyImport p => some (modCmd 0x0801 88, replyCphKeyImport, p)
  | .cphKeyAgree p => some (modCmd 0x0802 104, replyCphKeyAgree, p)
  | .cphKeyErase p => some (modCmd 0x0803 4, replyCphKeyErase, p)
  | .cphKeyInfo p => some (readCmd 0x0804 4, replyCphKeyInfo, p)
  | .cphEpochSet p => some (modCmd 0x0805 64, replyCphEpochSet, p)
  | .cphEpochSwitch p => some (modCmd 0x0806 16, replyCphEpochSwitch, p)
  | .cphTribSet p => some (modCmd 0x0807 4, replyCphTribSet, p)
  | .cphTribGet p => some (readCmd 0x0808 4, replyCphTribGet, p)
  | .cphJobSubmit p => some (modCmd 0x0809 128, replyCphJobSubmit, p)
  | .cphJobCancel p => some (modCmd 0x080A 4, replyCphJobCancel, p)
  | .cphCtxSave p => some (modCmd 0x080B 12, replyCphCtxSave, p)
  | .cphCtxRestore p => some (modCmd 0x080C 24, replyCphCtxRestore, p)
  | .pktFrameReceived .. => none
  | .pktTxOpportunity .. => none
  | .pktFineWheelSlot .. => none
  | .pktCoarseWheelSlot .. => none
  | .pktGateEntryEnd .. => none
  | .pktGateCycleStart .. => none
  | .pktGateListStart .. => none
  | .pktInitComplete => none
  | .configEntryRebuilt .. => none
  | .pktPortSet p => some (modCmd 0x0901 32, replyPktPortSet, p)
  | .pktEntitySet p => some ({ modCmd 0x0902 0 with lenOk := fun b => b.length = 8 + 32 * u16 b 4 }, replyPktEntitySet, p)
  | .pktEntityGet p => some (readCmd 0x0903 8, replyPktEntityGet, p)
  | .pktRuleAdd p => some ({ modCmd 0x0904 0 with lenOk := fun b => b.length = 8 + 16 * u16 b 0 }, replyPktRuleAdd, p)
  | .pktRuleDel p => some ({ modCmd 0x0905 0 with lenOk := fun b => b.length = 8 + 16 * u16 b 0 }, replyPktRuleDel, p)
  | .pktGateLoad p => some ({ modCmd 0x0906 0 with lenOk := fun b => b.length = 8 + 4 * u16 b 4 }, replyPktGateLoad, p)
  | .pktGateSet p => some (modCmd 0x0907 24, replyPktGateSet, p)
  | .pktStatsGet p => some (readCmd 0x0908 8, replyPktStatsGet, p)
  | .clnLaneFault .. => none
  | .clnTrainingTimeout .. => none
  | .clnLaneClean .. => none
  | .clnCifUp .. => none
  | .plkLaneCdrLocked .. => none
  | .plkDfeConverged .. => none
  | .plkLaneLoss .. => none
  | .plkMarkerReceived .. => none
  | .plkMarkerPeriodStart .. => none
  | .plkBlockTransmit .. => none
  | .plkTribBlockReceived .. => none
  | .plkApsBlockReceived .. => none
  | .plkHelloReceived .. => none
  | .plkHelloTimer => none
  | .plkApsRefreshTimer => none
  | .plkApsEntryTimeout .. => none
  | .plkHelloTimeout => none
  | .clnCifSet p => some (modCmd 0x0A01 8, replyClnCifSet, p)
  | .clnLaneSet p => some (modCmd 0x0A02 8, replyClnLaneSet, p)
  | .clnLoop p => some ({ modCmd 0x0A03 4 with maintenance := true }, replyClnLoop, p)
  | .clnPrbs p => some ({ modCmd 0x0A04 4 with maintenance := true }, replyClnPrbs, p)
  | .clnCifGet p => some (readCmd 0x0A05 4, replyClnCifGet, p)
  | .plkCfgSet p => some (modCmd 0x0B01 4, replyPlkCfgSet, p)
  | .plkLaneSet p => some (modCmd 0x0B02 8, replyPlkLaneSet, p)
  | .plkLoop p => some ({ modCmd 0x0B03 4 with maintenance := true }, replyPlkLoop, p)
  | .plkStatusGet p => some (readCmd 0x0B04 0, replyPlkStatusGet, p)
  | .monOutputSample .. => none
  | .monFsopRepeat .. => none
  | .monChainFilled .. => none
  | .monDetectorWindowEnd .. => none
  | .monRecordWrite .. => none
  | .hkaConversionDone .. => none
  | .hkaSystemTick => none
  | .hkaSeqPeriodStart .. => none
  | .hkaCalTimer .. => none
  | .hkaCalComplete .. => none
  | .hkaCalStepAbort .. => none
  | .monChSet p => some (modCmd 0x0C01 24, replyMonChSet, p)
  | .monFsopSet p => some (modCmd 0x0C02 8, replyMonFsopSet, p)
  | .monDetGet p => some (readCmd 0x0C03 4, replyMonDetGet, p)
  | .monRingSet p => some (modCmd 0x0C04 16, replyMonRingSet, p)
  | .hkaSeqSet p => some ({ modCmd 0x0C05 0 with lenOk := fun ps => decide (ps.length = 8 + 2 * u8 ps 2) }, replyHkaSeqSet, p)
  | .hkaInject p => some ({ readCmd 0x0C06 0 with lenOk := fun ps => decide (ps.length = 4 + 2 * u8 ps 2) }, replyHkaInject, p)
  | .hkaCal p => some (modCmd 0x0C07 4, replyHkaCal, p)
  | .hkaCorrSet p => some (modCmd 0x0C08 8, replyHkaCorrSet, p)
  | .hkaCfgSet p => some (modCmd 0x0C09 4, replyHkaCfgSet, p)
  | .thmSample .. => none
  | .thmLevelPacingEnd => none
  | .coolingRuleMet => none
  | .avsEvaluation .. => none
  | .thmLimitSet p => some (modCmd 0x0D01 4, replyThmLimitSet, p)
  | .thmStatusGet p => some (readCmd 0x0D02 0, replyThmStatusGet, p)
  | .thmSensorGet p => some (readCmd 0x0D03 4, replyThmSensorGet, p)
  | .thmTripGet p => some (readCmd 0x0D04 0, replyThmTripGet, p)
  | .pwrAvsGet p => some (readCmd 0x0D05 0, replyPwrAvsGet, p)
  | .pwrAvsFix p => some ({ modCmd 0x0D06 4 with maintenance := true }, replyPwrAvsFix, p)
  | .memoryCorrectableError .. => none
  | .memoryUncorrectableError .. => none
  | .miPatrolRead .. => none
  | .acmPageReloadComplete .. => none
  | .wpTileMarchComplete .. => none
  | .scrubRangeComplete .. => none
  | .miScrubRange p => some (modCmd 0x0E01 12, replyMiScrubRange, p)
  | .miPatrolSet p => some (modCmd 0x0E02 4, replyMiPatrolSet, p)
  | .miFlipTest p => some (modCmd 0x0E03 24, replyMiFlipTest, p)
  | .miCinderRead p => some (readCmd 0x0E04 4, replyMiCinderRead, p)
  | .miClassGet p => some (readCmd 0x0E05 4, replyMiClassGet, p)
  | .flashPageProgrammed .. => none
  | .flashBlockErased .. => none
  | .lifeClockSecond => none
  | .countersHourlyDue => none
  | .ageingDayDue .. => none
  | .ageingMonthDue => none
  | .logRefreshPassDue => none
  | .logRefreshPassComplete .. => none
  | .planYearDue => none
  | .marginPlanComplete => none
  | .logExportComplete .. => none
  | .logExport p => some ({ readCmd 0x0F01 24 with bmcDenied := true }, replyLogExport, p)
  | .logCountersGet p => some (readCmd 0x0F02 0, replyLogCountersGet, p)
  | .logPlanGet p => some (readCmd 0x0F03 0, replyLogPlanGet, p)
  | .logPlanRun p => some (modCmd 0x0F04 4, replyLogPlanRun, p)
  | .logNote p => some ({ modCmd 0x0F05 0 with lenOk := fun b => decide (4 ≤ b.length) }, replyLogNote, p)
  | .logAgeingGet p => some (readCmd 0x0F06 0, replyLogAgeingGet, p)
  | .logRefresh p => some (modCmd 0x0F07 0, replyLogRefresh, p)
  | .supplyGroupsWithinRange => none
  | .ppsOutRise => none
  | .crystalLoss => none
  | .pcsAlignmentLost .. => none
  | .localFaultReceived .. => none

/-- READY is high in every mode but KINDLING and LOCKOUT, and the outputs are squelched exactly in the modes whose datapath is
not powered (R30). -/
def PinsFollowMode (s : State) : Prop :=
  s.pins.ready = !(decide (s.dev.mode = .kindling) || decide (s.dev.mode = .lockout))
    ∧ s.pins.squelched = !modePowered s.dev.mode

/-- LOCKOUT is in force with no mode change in progress (R54). -/
def LockedOut (s : State) : Prop := s.dev.mode = .lockout ∧ s.dev.changing = none

/-- The change of mode in progress is one that R32 lets DEV_MODE_SET request in the current mode (R32, R34). -/
def ChangeIsCommanded (s : State) : Prop := ∀ c, s.dev.changing = some c → commanded s.dev.mode c.target = true

/-- At most 8 leases, and no opcode group in two of them (R81). -/
def LeasesApart (leases : List Lease) : Prop := leases.length ≤ 8 ∧ leases.Pairwise (fun a b => a.mask &&& b.mask = 0)

/-- The transitions of R32, and the application reset of R43 among those to KINDLING. -/
def transition (old new : Mode) : Bool :=
  match old, new with
  | _, .kindling => true
  | .lockout, _ => false
  | _, .lockout => true
  | .kindling, .standby | .kindling, .ember => true
  | .standby, .calibrate | .standby, .service | .standby, .ember => true
  | .calibrate, .standby | .calibrate, .ember => true
  | .service, .maintenance | .service, .quiesce | .service, .ember => true
  | .maintenance, .service | .maintenance, .quiesce | .maintenance, .ember => true
  | .quiesce, .standby | .quiesce, .service | .quiesce, .ember => true
  | _, _ => false

/-- What one step may do to the mode: nothing, one transition, or QUIESCE entered and left at once, its drain timeout being 0
(R32, R46). -/
def ModeStep (old new : Mode) : Prop :=
  new = old ∨ transition old new = true ∨ ((old = .service ∨ old = .maintenance) ∧ new = .standby)

/-- The three rows that leave LOCKOUT: the resets (R54). -/
def leavesLockout (i : Instr) : Bool :=
  match i with
  | .aonPowerLoss | .resetNLow | .pwrOkLow => true
  | _ => false

end Sys2Proof.Machine
end

