-- ==== Sys2Proof/Certificates/Slice0/Obligations.lean ====
section
/-! DEFINITION. The statements for the provers: what the pipeline, the machine and the blocks do, what each row leaves unchanged,
and where each row of the table takes its effect. -/

set_option Elab.async false

open Sys2Proof Sys2Proof.Machine

/-! ### The queue, the clock and the pipeline -/

/-- A step with a command at the front of the queue runs that command on the state with the queue's rest. -/
def Obligations.Step_runs_the_front_command : Prop :=
  ∀ (c : Instr) (rest : List Instr) (s : State), step { s with pending := c :: rest } = exec c { s with pending := rest }

/-- With an empty queue an entry whose fence has fallen starts and the block's clock runs one 2 ns tick of the time domain: the
model's choice (log 2, log 84). -/
def Obligations.Idle_step_is_one_tick : Prop :=
  ∀ s : State, s.pending = [] → step s = .next (advancePs 2000 (startHeld s)) ∧
    ((∀ n, n < 16 → (s.queue n).waiting = []) → step s = .next (advancePs 2000 s))

/-- Every row answers a next state and leaves the queue of waiting commands. -/
def Obligations.Every_row_answers_and_keeps_the_queue : Prop :=
  ∀ (i : Instr) (s : State), ∃ t, exec i s = .next t ∧ t.pending = s.pending

/-- Every command row runs through the pipeline: a packet the device does not start is held behind a fence,
completed unread, or changes nothing (`notStarted`); a repeated BMC packet only
makes the kept response ready; a packet that the steps 1 to 8 of R71 reject is answered with their first fault and has no other
effect but the count of a bad CRC; any other is answered by the command's own part. -/
def Obligations.Command_rows_run_through_the_pipeline : Prop :=
  ∀ (i : Instr) (c : CmdInfo) (body : Packet → State → Reply) (p : Packet) (s : State), commandOf i = some (c, body, p) →
    (startable p s = false → exec i s = .next (notStarted c.opcode p s)) ∧
    (startable p s = true → isRetry p s = true →
      exec i s = .next { s with hif := { s.hif with mgmt := { s.hif.mgmt with state := 2 } } }) ∧
    (startable p s = true → isRetry p s = false →
      let u := takePacket p s
      (packetCrcOk c.opcode p = false → exec i s = .next (answered c.opcode p s .integrity [] (countBadCrc u))) ∧
      (packetCrcOk c.opcode p = true → admission c p u ≠ .ok →
        exec i s = .next (answered c.opcode p s (admission c p u) [] u)) ∧
      (admission c p u = .ok → exec i s = .next (conclude (senderOf c.opcode p s) u (body p u))))

/-- The device executes a command only when its status is OK, DEFERRED or PARTIAL: a packet that the pipeline rejects, a command
whose own part answers another status, and a DEFERRED command beyond the 64th have no effect but their answer (and the count of
a bad CRC, and the model's own count of free values). The statuses carry the codes of the table. -/
def Obligations.Refused_command_has_no_effect : Prop :=
  ([Status.ok, .deferred, .badOpcode, .badLength, .badParam, .badState, .leased, .busy, .noResource, .integrity, .denied,
      .tempWindow, .timeout, .aborted, .partly].map Status.code = List.range 15) ∧
  ∀ (i : Instr) (c : CmdInfo) (body : Packet → State → Reply) (p : Packet), commandOf i = some (c, body, p) → ∀ s₀ s : State,
    (startable p s₀ = true → isRetry p s₀ = false → s = takePacket p s₀ → admission c p s ≠ .ok →
      exec i s₀ = .next (answered c.opcode p s₀ (admission c p s) [] (if admission c p s = .integrity then countBadCrc s else s))) ∧
    (Granted c p s₀ s →
      (∀ st off resp t, body p s = .done st off resp t → ¬ (st = .ok ∨ st = .deferred ∨ st = .partly) →
        exec i s₀ = .next (reply (senderOf c.opcode p s₀) st off resp { s with freeCount := t.freeCount })) ∧
      (64 ≤ s.hif.deferred.length → ∀ unit group code ab eff, body p s = .later unit group code ab eff →
        exec i s₀ = .next (answered c.opcode p s₀ .noResource [] s)) ∧
      (64 ≤ s.hif.deferred.length → ∀ resp unit group code ab eff, body p s = .laterWith resp unit group code ab eff →
        exec i s₀ = .next (answered c.opcode p s₀ .noResource [] s)))

/-- A packet written through the management port runs the command that its opcode names, the same one that a host queue runs. -/
def Obligations.Management_port_runs_the_same_commands : Prop :=
  ∀ (i : Instr) (c : CmdInfo) (body : Packet → State → Reply) (p : Packet) (s : State), commandOf i = some (c, body, p) →
    runnerOf c.opcode p s = exec i s

/-! ### Frames -/

/-- The read-only command rows change nothing but the host interface, which carries their answer. -/
def Obligations.Read_only_commands_frame : Prop :=
  ∀ (p : Packet) (s t : State),
    ∀ i ∈ [Instr.devAttestQuote p, .devAttestCert p, .devLockoutDiag p, .hifIdentify p, .hifLeaseQuery p, .hifMgmtEventRead p,
        .hifNop p, .timGet p, .cnvTsetRead p, .cnvDacCharRead p, .dspQualityGet p, .fecStatsGet p, .fecPoolGet p, .frmTtiGet p,
        .frmPmRead p, .mapPlanGet p, .apsStatusGet p, .cphKeyInfo p, .cphTribGet p, .pktEntityGet p, .pktStatsGet p,
        .clnCifGet p, .plkStatusGet p, .monDetGet p, .thmStatusGet p, .thmSensorGet p, .thmTripGet p, .pwrAvsGet p,
        .miCinderRead p, .miClassGet p, .logCountersGet p, .logPlanGet p, .logAgeingGet p],
      exec i s = .next t → t = { s with hif := t.hif }

/-- The rows that set one block's configuration change that block and the host interface, and nothing else. -/
def Obligations.Setting_commands_frame : Prop :=
  ∀ (p : Packet) (s t : State),
    (∀ i ∈ [Instr.devImageLoad p], exec i s = .next t → t = { s with hif := t.hif, dev := t.dev }) ∧
    (∀ i ∈ [Instr.hifQueueCreate p, .hifLeaseGrant p, .hifEventMask p, .hifSpiXfer p, .hifI2cXfer p],
      exec i s = .next t → t = { s with hif := t.hif }) ∧
    (∀ i ∈ [Instr.timPtpCfg p, .timPtpRing p, .timPtpSend p], exec i s = .next t → t = { s with hif := t.hif, tim := t.tim }) ∧
    (∀ i ∈ [Instr.cnvFgCal p, .cnvCfgSet p], exec i s = .next t → t = { s with hif := t.hif, cnv := t.cnv }) ∧
    (∀ i ∈ [Instr.dspEqSet p, .dspNlcSet p, .dspRxSet p, .dspTxSet p, .dspTxRespLoad p, .dspTestPattern p],
      exec i s = .next t → t = { s with hif := t.hif, dsp := t.dsp }) ∧
    (∀ i ∈ [Instr.fecCfgSet p, .fecThrSet p, .fecCoreRetest p, .fecErrInject p],
      exec i s = .next t → t = { s with hif := t.hif, fec := t.fec }) ∧
    (∀ i ∈ [Instr.frmPmClear p, .frmTcaSet p, .frmMaintInsert p],
      exec i s = .next t → t = { s with hif := t.hif, frm := t.frm }) ∧
    (∀ i ∈ [Instr.mapPlanBegin p, .mapPlanLoad p, .mapPlanCommit p, .apsCfgSet p, .apsCmd p],
      exec i s = .next t → t = { s with hif := t.hif, map := t.map }) ∧
    (∀ i ∈ [Instr.cphEpochSwitch p, .cphTribSet p, .cphJobCancel p, .cphCtxSave p, .cphCtxRestore p],
      exec i s = .next t → t = { s with hif := t.hif, cph := t.cph }) ∧
    (∀ i ∈ [Instr.pktPortSet p, .pktEntitySet p, .pktRuleDel p, .pktGateLoad p],
      exec i s = .next t → t = { s with hif := t.hif, pkt := t.pkt }) ∧
    (∀ i ∈ [Instr.clnLaneSet p], exec i s = .next t → t = { s with hif := t.hif, cln := t.cln }) ∧
    (∀ i ∈ [Instr.plkLaneSet p], exec i s = .next t → t = { s with hif := t.hif, plk := t.plk }) ∧
    (∀ i ∈ [Instr.monChSet p, .monFsopSet p, .monRingSet p, .hkaCorrSet p, .hkaCfgSet p],
      exec i s = .next t → t = { s with hif := t.hif, mon := t.mon }) ∧
    (∀ i ∈ [Instr.thmLimitSet p], exec i s = .next t → t = { s with hif := t.hif, thm := t.thm }) ∧
    (∀ i ∈ [Instr.miScrubRange p, .miPatrolSet p], exec i s = .next t → t = { s with hif := t.hif, mi := t.mi }) ∧
    (∀ i ∈ [Instr.logRefresh p], exec i s = .next t → t = { s with hif := t.hif, log := t.log })

/-- The rows of the table that belong to one block or a few: each changes those blocks, with the host interface where it raises an
event, and nothing else. -/
def Obligations.Event_rows_frame : Prop :=
  ∀ (s t : State),
    (∀ i ∈ [Instr.tcImageFetchDone, .acImageFetchDone, .devLoadCtrlGo], exec i s = .next t → t = { s with dev := t.dev }) ∧
    (∀ i ∈ [Instr.hifArrivalLoRead, .hifQ0EnSet, .hifQ0EnClear, .hifEqEnSet, .hifEqEnClear, .d3hotEntry, .pciePerstRise,
      .mgmtResponseRead, .mgmtStatusRead, .mgmtAvsRead, .mgmtBusTimeout], exec i s = .next t → t = { s with hif := t.hif }) ∧
    (∀ gen width, exec (.pcieLinkChange gen width) s = .next t → t = { s with hif := t.hif }) ∧
    (∀ queue value ringError, exec (.hifSqTailWrite queue value ringError) s = .next t → t = { s with hif := t.hif }) ∧
    (∀ queue value, exec (.hifCqHeadWrite queue value) s = .next t → t = { s with hif := t.hif }) ∧
    (∀ value, exec (.hifEqHeadWrite value) s = .next t → t = { s with hif := t.hif }) ∧
    (∀ queue, exec (.packetFetchFailed queue) s = .next t → t = { s with hif := t.hif }) ∧
    (∀ opcode p, exec (.undefinedOpcode opcode p) s = .next t → t = { s with hif := t.hif }) ∧
    (∀ key result done read, exec (.passthroughXferComplete key result done read) s = .next t → t = { s with hif := t.hif }) ∧
    (∀ selector, exec (.mgmtBadSelector selector) s = .next t → t = { s with hif := t.hif }) ∧
    (∀ i ∈ [Instr.timTodSecLoRead, .ppsOutPulseEnd, .slewComplete, .ppsOutRise], exec i s = .next t → t =
      { s with tim := t.tim }) ∧
    (∀ (a : Fin 2), ∀ i ∈ [Instr.cnvStepStart a, .cnvSpareSettled a, .cnvRefreshInterval a], exec i s = .next t → t =
      { s with cnv := t.cnv }) ∧
    (∀ engine, exec (.nlcComputeComplete engine) s = .next t → t = { s with dsp := t.dsp }) ∧
    (∀ engine, exec (.profileTxBoundary engine) s = .next t → t =
      { s with hif := t.hif, dsp := t.dsp, frm := t.frm, map := t.map, cph := t.cph, pkt := t.pkt, plk := t.plk
               latched := t.latched }) ∧
    (∀ core, exec (.fecKatDue core) s = .next t → t = { s with fec := t.fec }) ∧
    (∀ writer value, exec (.frmPmSelWrite writer value) s = .next t → t = { s with frm := t.frm }) ∧
    (∀ (a : Fin 256), ∀ i ∈ [Instr.apsHoldoffExpiry a, .apsWtrExpiry a], exec i s = .next t → t = { s with map := t.map }) ∧
    (∀ working far, exec (.apsPccReceived working far) s = .next t → t = { s with map := t.map }) ∧
    (exec .cphDctrLoRead s = .next t → t = { s with cph := t.cph }) ∧
    (∀ lane, exec (.clnLaneClean lane) s = .next t → t = { s with frm := t.frm, cln := t.cln, freeCount := t.freeCount }) ∧
    (∀ cif localFault remoteFault, exec (.localFaultReceived cif localFault remoteFault) s = .next t → t =
      { s with cln := t.cln }) ∧
    (∀ i ∈ [Instr.plkHelloTimer, .plkApsRefreshTimer], exec i s = .next t → t = { s with plk := t.plk }) ∧
    (∀ chan, exec (.monChainFilled chan) s = .next t → t = { s with mon := t.mon }) ∧
    (∀ chan isRms, exec (.monDetectorWindowEnd chan isRms) s = .next t → t = { s with mon := t.mon }) ∧
    (∀ (a : Fin 2), ∀ i ∈ [Instr.hkaSeqPeriodStart a, .hkaCalTimer a], exec i s = .next t → t = { s with mon := t.mon }) ∧
    (exec .crystalLoss s = .next t → t = { s with thm := t.thm }) ∧
    (∀ cls, exec (.miPatrolRead cls) s = .next t → t = { s with mi := t.mi }) ∧
    (∀ counter, exec (.logLoWordRead counter) s = .next t → t = { s with log := t.log }) ∧
    (∀ i ∈ [Instr.ageingMonthDue, .logRefreshPassDue], exec i s = .next t → t = { s with log := t.log }) ∧
    (∀ avsSel, exec (.aonPowerUp avsSel) s = .next t → t = { s with pins := t.pins }) ∧
    (∀ window, exec (.snapCopyDone window) s = .next t → t = { s with snapBusy := t.snapBusy }) ∧
    (exec .supplyGroupsWithinRange s = .next t → t = { s with dev := t.dev, pins := t.pins }) ∧
    (∀ id, exec (.leaseExpiry id) s = .next t → t = { s with hif := t.hif, tim := t.tim }) ∧
    (∀ i ∈ [Instr.ppsInMissing, .ptpUpdateTimeout], exec i s = .next t → t = { s with hif := t.hif, tim := t.tim }) ∧
    (∀ ref, exec (.refRestored ref) s = .next t → t = { s with hif := t.hif, tim := t.tim }) ∧
    (∀ output, exec (.synceResumeTimer output) s = .next t → t = { s with hif := t.hif, tim := t.tim }) ∧
    (∀ cif esmc transport frame, exec (.ptpFrameReceived cif esmc transport frame) s = .next t → t =
      { s with hif := t.hif, tim := t.tim }) ∧
    (∀ cif messageType domain sequenceId, exec (.ptpFrameSent cif messageType domain sequenceId) s = .next t → t =
      { s with hif := t.hif, tim := t.tim }) ∧
    (∀ (a : Fin 2), ∀ i ∈ [Instr.dspLosCleared a, .dspCdFilterSet a, .dspEqPreconverged a, .dspSyncLost a, .fastsopEntry a,
      .fastsopHoldExpiry a, .profileSwitchTimeout a], exec i s = .next t → t = { s with hif := t.hif, dsp := t.dsp }) ∧
    (∀ engine boostLimited, exec (.txpdRecomputeComplete engine boostLimited) s = .next t → t = { s with hif := t.hif, dsp := t.dsp }) ∧
    (∀ engine bits zeroAt, exec (.fecBlockArrival engine bits zeroAt) s = .next t → t =
      { s with hif := t.hif, fec := t.fec }) ∧
    (exec .fecCeilingPacingEnd s = .next t → t = { s with hif := t.hif, fec := t.fec }) ∧
    (∀ (a : Fin 256), ∀ i ∈ [Instr.apsSelectorSwitch a, .apsMismatchHeld a, .apsPacingEnd a], exec i s = .next t → t =
      { s with hif := t.hif, map := t.map }) ∧
    (∀ chan, exec (.monRecordWrite chan) s = .next t → t = { s with hif := t.hif, mon := t.mon }) ∧
    (∀ (a : Fin 2), ∀ i ∈ [Instr.hkaCalComplete a, .hkaCalStepAbort a], exec i s = .next t → t =
      { s with hif := t.hif, mon := t.mon }) ∧
    (exec .thmLevelPacingEnd s = .next t → t = { s with hif := t.hif, thm := t.thm }) ∧
    (∀ cls unwritten, exec (.scrubRangeComplete cls unwritten) s = .next t → t = { s with hif := t.hif, mi := t.mi }) ∧
    (∀ ok, exec (.flashBlockErased ok) s = .next t → t = { s with hif := t.hif, thm := t.thm, log := t.log }) ∧
    (∀ failed, exec (.logRefreshPassComplete failed) s = .next t → t = { s with hif := t.hif, log := t.log }) ∧
    (∀ failed, exec (.logExportComplete failed) s = .next t → t = { s with hif := t.hif, log := t.log }) ∧
    (exec .planYearDue s = .next t → t = { s with hif := t.hif, log := t.log }) ∧
    (∀ slot, exec (.pktFineWheelSlot slot) s = .next t → t = { s with tim := t.tim, pkt := t.pkt }) ∧
    (∀ ring value, exec (.dmaRingHeadWrite ring value) s = .next t → t = { s with tim := t.tim, mon := t.mon }) ∧
    (exec .hkaSystemTick s = .next t → t = { s with tim := t.tim, mon := t.mon }) ∧
    (∀ group set converter, exec (.cnvTsetSaveDue group set converter) s = .next t → t =
      { s with cnv := t.cnv, log := t.log }) ∧
    (∀ engine, exec (.monFsopRepeat engine) s = .next t → t = { s with dsp := t.dsp, mon := t.mon }) ∧
    (∀ bootSel mgmtAddr suppliesOk, exec (.kindlingStart bootSel mgmtAddr suppliesOk) s = .next t → t =
      { s with dev := t.dev, tim := t.tim, pins := t.pins }) ∧
    (∀ margin, exec (.avsEvaluation margin) s = .next t → t = { s with hif := t.hif, tim := t.tim, thm := t.thm }) ∧
    (∀ group, exec (.cnvSliceClockLocked group) s = .next t → t = { s with hif := t.hif, cnv := t.cnv, dsp := t.dsp }) ∧
    (∀ group adc stats, exec (.cnvMatchDone group adc stats) s = .next t → t =
      { s with hif := t.hif, cnv := t.cnv, log := t.log }) ∧
    (∀ chan inputs, exec (.monOutputSample chan inputs) s = .next t → t = { s with hif := t.hif, dsp := t.dsp, mon := t.mon }) ∧
    (∀ core passed, exec (.fecKatComplete core passed) s = .next t → t =
      { s with hif := t.hif, fec := t.fec, log := t.log, freeCount := t.freeCount }) ∧
    (∀ core passed, exec (.coreRetestComplete core passed) s = .next t → t =
      { s with hif := t.hif, fec := t.fec, log := t.log }) ∧
    (∀ (a : Fin 16), ∀ i ∈ [Instr.plkLaneCdrLocked a, .plkDfeConverged a, .plkLaneLoss a], exec i s = .next t → t =
      { s with hif := t.hif, map := t.map, plk := t.plk }) ∧
    (∀ lane marker, exec (.plkMarkerReceived lane marker) s = .next t → t =
      { s with hif := t.hif, map := t.map, plk := t.plk }) ∧
    (∀ stuffed, exec (.plkMarkerPeriodStart stuffed) s = .next t → t = { s with hif := t.hif, map := t.map, plk := t.plk }) ∧
    (∀ chan block, exec (.plkTribBlockReceived chan block) s = .next t → t =
      { s with hif := t.hif, map := t.map, plk := t.plk }) ∧
    (∀ block entries, exec (.plkApsBlockReceived block entries) s = .next t → t =
      { s with hif := t.hif, map := t.map, plk := t.plk }) ∧
    (∀ hello, exec (.plkHelloReceived hello) s = .next t → t = { s with hif := t.hif, map := t.map, plk := t.plk }) ∧
    (∀ working, exec (.plkApsEntryTimeout working) s = .next t → t = { s with hif := t.hif, map := t.map, plk := t.plk }) ∧
    (exec .plkHelloTimeout s = .next t → t = { s with hif := t.hif, map := t.map, plk := t.plk }) ∧
    (∀ job end_, exec (.cphJobComplete job end_) s = .next t → t = { s with hif := t.hif, cph := t.cph, log := t.log }) ∧
    (∀ sar raw ovr, exec (.hkaConversionDone sar raw ovr) s = .next t → t =
      { s with hif := t.hif, mon := t.mon, thm := t.thm }) ∧
    (∀ window, exec (.snapRequest window) s = .next t → t =
      { s with cln := t.cln, plk := t.plk, snap := t.snap, snapBusy := t.snapBusy, freeCount := t.freeCount }) ∧
    (exec .marginPlanComplete s = .next t → t = { s with hif := t.hif, fec := t.fec, thm := t.thm, log := t.log }) ∧
    (∀ cls inst row scrub found, exec (.memoryCorrectableError cls inst row scrub found) s = .next t → t =
      { s with hif := t.hif, pkt := t.pkt, mi := t.mi, log := t.log })

/-! ### Reset, modes and pins -/

/-- What a cold reset leaves: KINDLING in phase 1 with READY low and the outputs squelched, its cause, no command waiting, in
flight or deferred, no queue enabled, no lease, device time 0 in FREERUN, no key in a slot and no tributary in the plan. -/
def Obligations.Reset_values : Prop :=
  let s := State.reset
  (s.dev.mode = .kindling ∧ s.dev.phase = 1 ∧ s.dev.changing = none ∧ s.dev.chain = 0 ∧ s.dev.cause = ⟨true, false, false, false, false⟩)
    ∧ (s.pins.ready = false ∧ s.pins.squelched = true ∧ s.pending = [])
    ∧ (s.hif.inflight = [] ∧ s.hif.deferred = [] ∧ s.hif.leases = [] ∧ s.hif.events.enabled = false ∧ s.hif.eventSeq = 0)
    ∧ (∀ n, (s.queue n).enabled = false)
    ∧ (s.tim.tod = 0 ∧ s.tim.servo = .freerun)
    ∧ (∀ k, s.keySlot k = KeySlot.empty)
    ∧ (∀ t, s.entry t = none)

/-- The state after reset satisfies the invariants of the modes and of the leases. -/
def Obligations.Reset_satisfies_the_invariants : Prop :=
  PinsFollowMode State.reset ∧ ChangeIsCommanded State.reset ∧ LeasesApart State.reset.hif.leases

/-- Every step keeps READY and the squelch of the outputs in step with the mode. -/
def Obligations.Every_step_keeps_the_pins_in_step_with_the_mode : Prop :=
  ∀ s t : State, step s = .next t → PinsFollowMode s → PinsFollowMode t

/-- Every step keeps the mode change in progress one that R32 lets DEV_MODE_SET request. -/
def Obligations.Every_step_keeps_the_change_commanded : Prop :=
  ∀ s t : State, step s = .next t → ChangeIsCommanded s → ChangeIsCommanded t

/-- The device makes only the transitions of R32; where a drain of QUIESCE has timeout 0 it enters and leaves QUIESCE in one
step. -/
def Obligations.Every_step_makes_only_the_transitions_of_the_table : Prop :=
  ∀ s t : State, step s = .next t → ChangeIsCommanded s → ModeStep s.dev.mode t.dev.mode

/-- LOCKOUT is left by a reset alone. -/
def Obligations.Lockout_is_left_by_a_reset_alone : Prop :=
  ∀ s t : State, step s = .next t → LockedOut s → (∀ i rest, s.pending = i :: rest → leavesLockout i = false) → LockedOut t

/-- Every step keeps the fuses, and the fused SVN minima never fall. -/
def Obligations.Every_step_keeps_the_fuses : Prop :=
  ∀ s t : State, step s = .next t → t.dev.variantN = s.dev.variantN ∧ t.dev.serial = s.dev.serial
    ∧ s.dev.svnMinTc ≤ t.dev.svnMinTc ∧ s.dev.svnMinAc ≤ t.dev.svnMinAc

/-! ### Events, completions, leases and registers -/

/-- Multi-byte fields are little-endian: writing and reading back gives the value, modulo the width. -/
def Obligations.Fields_are_little_endian : Prop :=
  ∀ n v : Nat, leNat (leBytes n v) = v % 256 ^ n ∧ ∀ i, i < n → (leBytes n v)[i]? = some (BitVec.ofNat 8 (v / 256 ^ i))

/-- HIF_EVT_MASK suppresses events by group, never a completion event and never one of group 0x01; a suppressed event leaves the
ring and its loss counts, and every event advances EVENT_SEQ by one and changes the host interface alone; without the crystal
there is none. -/
def Obligations.Every_event_advances_the_sequence : Prop :=
  ∀ (e : Event) (s : State),
    (masked s.hif e = true ↔ e.completion = false ∧ e.group ≠ 1 ∧ s.hif.evtMask.getLsbD e.group = true)
      ∧ (masked s.hif e = true → (raiseEvent e s).hif.events = s.hif.events ∧ (raiseEvent e s).hif.msixSent = s.hif.msixSent)
      ∧ (s.clocked = true → (raiseEvent e s).hif.eventSeq = s.hif.eventSeq + 1)
      ∧ (s.clocked = false → raiseEvent e s = s)
      ∧ raiseEvent e s = { s with hif := (raiseEvent e s).hif }

/-- The BMC buffer holds at most 32 events: an event it takes becomes the newest, and when it is full the oldest goes and is
counted; HIF_EVT_MASK does not act on it. -/
def Obligations.Bmc_buffer_keeps_the_newest_32_events : Prop :=
  ∀ (e : Event) (s : State), s.clocked = true → s.hif.mgmt.buffer.length ≤ 32 →
    let t := raiseEvent e s
    t.hif.mgmt.buffer.length ≤ 32
      ∧ (bmcTakes s e = false → t.hif.mgmt = s.hif.mgmt)
      ∧ (bmcTakes s e = true → s.hif.mgmt.buffer.length < 32 →
          t.hif.mgmt.buffer = s.hif.mgmt.buffer ++ [e] ∧ t.hif.mgmt.overwritten = s.hif.mgmt.overwritten)
      ∧ (bmcTakes s e = true → s.hif.mgmt.buffer.length = 32 →
          t.hif.mgmt.buffer = s.hif.mgmt.buffer.tail ++ [e] ∧ t.hif.mgmt.overwritten = s.hif.mgmt.overwritten + 1)

/-- A completion of an enabled queue is written into a free slot, with the phase of this pass, or held behind those held before
it; every other queue stays. -/
def Obligations.No_completion_is_lost : Prop :=
  ∀ (n m : Nat) (e : CqEntry) (s : State), n < 16 → (s.queue n).enabled = true →
    let q := s.queue n
    let t := postCompletion n e s
    (q.held = [] → q.full = false → s.hif.dmaUp = true →
      (t.queue n).held = [] ∧ (t.queue n).cqTail = (q.cqTail + 1) % q.cqSize
        ∧ (t.queue n).ring = tabInsert q.ring q.cqTail { e with phase := q.cqPhase }
        ∧ (t.queue n).cqPhase = (if q.cqTail + 1 = q.cqSize then !q.cqPhase else q.cqPhase)) ∧
    (q.held ≠ [] ∨ q.full = true ∨ s.hif.dmaUp = false → (t.queue n).held = q.held ++ [e] ∧ (t.queue n).ring = q.ring) ∧
    (m ≠ n → t.queue m = s.queue m)

/-- Aborting DEFERRED commands completes exactly those named, each once with an event of its own while the crystal runs, and
leaves the others in order. -/
def Obligations.Abort_completes_exactly_the_named_commands : Prop :=
  ∀ (f : Deferred → Bool) (s : State),
    (abortDeferred f s).hif.deferred = s.hif.deferred.filter (fun d => !f d)
      ∧ (s.clocked = true → (abortDeferred f s).hif.eventSeq
        = s.hif.eventSeq + BitVec.ofNat 32 ((s.hif.deferred.filter f).filter (fun d => !d.discard)).length)
      ∧ (s.clocked = false → (abortDeferred f s).hif.eventSeq = s.hif.eventSeq)
      ∧ abortDeferred f s = { s with hif := (abortDeferred f s).hif }

/-- The host alone grants a lease: HIF_LEASE_GRANT adds one that names the groups of its mask to the leases still active, or leaves the
leases; a lease covers
the commands of the groups in its mask, and of group 0x01 only the two transfers. Granted on at most 8 leases with no group in
two of them, it leaves at most 8 with no group in two (the invariant that `Every_step_keeps_the_leases_apart` keeps). -/
def Obligations.Lease_grant_adds_one_lease_apart : Prop :=
  (∀ (l : Lease) (c : CmdInfo), l.covers c = true ↔
      l.mask.getLsbD c.group = true ∧ (c.group = 1 → c.opcode = 0x0108 ∨ c.opcode = 0x0109)) ∧
  ∀ (p : Packet) (s t : State), exec (.hifLeaseGrant p) s = .next t →
    (t.hif.leases = s.hif.leases ∨
      fromBmc p = false ∧ ∃ l, t.hif.leases = s.activeLeases ++ [l] ∧ l.id = BitVec.ofNat 32 (u32 p.params 0)
        ∧ l.mask = BitVec.ofNat 16 (u16 p.params 4)) ∧
    (LeasesApart s.hif.leases → LeasesApart t.hif.leases)

/-- Every step keeps the leases at most 8, and no opcode group in two of them. -/
def Obligations.Every_step_keeps_the_leases_apart : Prop :=
  ∀ s t : State, step s = .next t → LeasesApart s.hif.leases → LeasesApart t.hif.leases

/-- While a lease covers its command, a host packet of a modifying command that passes the checks before it is answered LEASED;
the admission of a read-only host command does not look at the leases. -/
def Obligations.Leased_groups_refuse_the_host : Prop :=
  ∀ (i : Instr) (c : CmdInfo) (body : Packet → State → Reply) (p : Packet) (s₀ s : State), commandOf i = some (c, body, p) →
    fromBmc p = false →
    (startable p s₀ = true → s = takePacket p s₀ → c.modifying = true → (∃ l ∈ s.activeLeases, l.covers c = true) →
      packetCrcOk c.opcode p = true → p.params.length ≤ packetLimit p → p.version = 1 → p.flags.toNat < 4 → p.leaseId = 0 →
      ¬ (c.group = 8 ∧ s.dev.variantN = true) → c.hostDenied = false →
      exec i s₀ = .next (answered c.opcode p s₀ .leased [] s)) ∧
    (c.modifying = false → ∀ leases, admission c p { s with hif := { s.hif with leases := leases } } = admission c p s)

/-- A write by the host or an AC to a register marked TC leaves the register's field, and is counted; without the crystal it
does nothing at all. -/
def Obligations.Tc_registers_refuse_other_writers : Prop :=
  ∀ (src : Writer) (addr : Nat) (v : Word) (s : State), src ≠ .tc → addr ∈ tcRegisters →
    (s.clocked = false → exec (.registerWrite src addr 4 v) s = .next s) ∧
    (s.clocked = true → ∃ t, exec (.registerWrite src addr 4 v) s = .next t ∧ t.thm = s.thm ∧ t.fec = s.fec
      ∧ t.dev.svnMinTc = s.dev.svnMinTc ∧ t.dev.svnMinAc = s.dev.svnMinAc
      ∧ t.dev.dropHost = (if src = .host then min 0xFFFF (s.dev.dropHost + 1) else s.dev.dropHost)
      ∧ t.dev.dropAc = (if src = .ac then min 0xFFFF (s.dev.dropAc + 1) else s.dev.dropAc))

/-- The ceiling in force of a powered pool is never below 2 and above none of the four limits but for that; unpowered it reads
0. -/
def Obligations.Ceiling_is_the_least_limit_and_never_below_two : Prop :=
  ∀ s : State,
    (s.fec.powered = true → 2 ≤ ceilingForce s ∧ (2 < ceilingForce s →
        ceilingForce s ≤ s.fec.ceilUse ∧ ceilingForce s ≤ s.fec.thmLimit ∧ ceilingForce s ≤ fitLimit s
          ∧ ceilingForce s ≤ marginLimit s)
      ∧ (ceilingForce s = 2 ∨ ceilingForce s = s.fec.ceilUse ∨ ceilingForce s = s.fec.thmLimit ∨ ceilingForce s = fitLimit s
          ∨ ceilingForce s = marginLimit s)) ∧
    (s.fec.powered = false → ceilingForce s = 0)

/-- The patrol visits every row: it reads the rows of an instance in ascending order, then the next instance, and starts again
at row 0 of instance 0. -/
def Obligations.Patrol_visits_the_rows_in_order : Prop :=
  ∀ (cls : Fin 14) (s : State), classPowered cls.val s = true → ∃ t, exec (.miPatrolRead cls) s = .next t ∧
    let c := s.memClass cls.val
    let d := t.memClass cls.val
    (c.patrolPos + 1 < classRows cls.val → d.patrolPos = c.patrolPos + 1 ∧ d.patrolInst = c.patrolInst) ∧
    (classRows cls.val ≤ c.patrolPos + 1 → d.patrolPos = 0 ∧
      d.patrolInst = if c.patrolInst + 1 < classInstances cls.val then c.patrolInst + 1 else 0) ∧
    ∀ k, k ≠ cls.val → t.memClass k = s.memClass k

/-- Only the TC writes PWR_AVS_FLOOR: a value from 650 to 800 mV takes effect and another keeps the previous one, the target
staying until an evaluation; the same write by the host or an AC leaves the thermal and power block. Without the crystal each
does nothing. -/
def Obligations.Avs_floor_is_written_by_the_TC_alone : Prop :=
  ∀ (v : Word) (s : State),
    (s.clocked = false → ∀ src, exec (.registerWrite src 0x20304 4 v) s = .next s) ∧
    (s.clocked = true → exec (.registerWrite .tc 0x20304 4 v) s
      = .next { s with thm := { s.thm with
          floor := if 650 ≤ v.toNat % 1024 ∧ v.toNat % 1024 ≤ 800 then v.toNat % 1024 else s.thm.floor } }) ∧
    (s.clocked = true → ∀ src, src ≠ .tc → ∃ t, exec (.registerWrite src 0x20304 4 v) s = .next t ∧ t.thm = s.thm)

/-- CPH_KEY_ERASE is refused while an epoch or a job uses the slot; else it empties a slot that holds a key, adding the key's
check value to the history, of which 64 are kept, and leaves an empty slot as it is. -/
def Obligations.Key_erase_empties_an_unused_slot : Prop :=
  ∀ (p : Packet) (s₀ s : State), Granted (modCmd 0x0803 4) p s₀ s → u16 p.params 0 ≤ 1023 →
    let k := u16 p.params 0
    let x := s.keySlot k
    (0 < slotBound k s → exec (.cphKeyErase p) s₀ = .next (answered 0x0803 p s₀ .badState [] s)) ∧
    (slotBound k s = 0 → leNat (bytesAt 2 2 p.params) = 0 → ∃ t, exec (.cphKeyErase p) s₀ = .next t ∧
      (x.loaded = true → t.cph.slots = tabSet KeySlot.empty s.cph.slots k
        { KeySlot.empty with
          history := (kcvOf x.key :: x.history).take 64, invocation := x.invocation, txUsed := x.txUsed }) ∧
      (x.loaded = false → t = answered 0x0803 p s₀ .ok [] s))

/-! ### The computations of the blocks -/

/-- R421's target level: 0 up to THR_START, then the least level that is at least its share of the rungs over SPAN, and never
above the number of rungs. -/
def Obligations.Target_level_is_the_rounded_share_of_the_rungs : Prop :=
  ∀ (s : State) (nr : Nat) (t : Int), 0 < s.thm.span →
    targetLevel s nr t ≤ nr ∧
    (t ≤ 16 * (s.thm.thrStart : Int) → targetLevel s nr t = 0) ∧
    (16 * ((s.thm.thrStart : Int) + s.thm.span) ≤ t → targetLevel s nr t = nr) ∧
    (16 * (s.thm.thrStart : Int) < t → t < 16 * ((s.thm.thrStart : Int) + s.thm.span) → ∀ m : Nat, m < nr →
      (m < targetLevel s nr t ↔ 16 * (s.thm.span : Int) * m < (t - 16 * (s.thm.thrStart : Int)) * nr))

/-- R318's admission of the tiles of one frame: the reservation is used first, then the shared remainder; no more shared tiles
are taken than are free, and with any of them the port stays within MAX. -/
def Obligations.Admission_takes_the_reservation_first : Prop :=
  ∀ (resF maxT alpha n res sh free : Nat) (l : List Bool), admitTiles resF maxT alpha n res sh free = some l →
    let own := min n (resF - res)
    l = List.replicate own true ++ List.replicate (n - own) false ∧ n - own ≤ free ∧ (own < n → res + sh + n ≤ maxT)

/-- R323's deficit round robin: the entity it chooses takes part and has a positive deficit, and a subscriber or service of a
port without an eligible frame loses its deficit at the port's transmission opportunity. -/
def Obligations.Round_robin_sends_on_a_positive_deficit : Prop :=
  (∀ (weight : Nat → Nat) (elig : List Nat) (last k : Nat) (d d' : Tab Int), tabWf 0 d = true →
    drrPick weight elig last d = some (k, d') → k ∈ elig ∧ 0 < tabGet 0 d' k ∧ tabWf 0 d' = true) ∧
  (∀ (q k : Nat) (s : State), tabWf Shape.reset s.pkt.shapes = true → portOf k s = q → hasEligible k s = false →
    ((loseDeficits q s).shape k).deficit = 0)

/-- R331's gate list: its windows follow its entries in order and fill the cycle exactly. -/
def Obligations.Gate_windows_fill_the_cycle : Prop :=
  ∀ (es : List GateEntry) (cycle : Nat), es ≠ [] →
    ((gateWindows es cycle).map (fun w => w.2)).sum = cycle
      ∧ (gateWindows es cycle).map (fun w => w.1) <+: es.map (fun e => e.states)
      ∧ ∀ w ∈ gateWindows es cycle, 0 < w.2 ∨ ∃ e ∈ es, e.interval = 0

/-- R93 and R98: with an adjustment within ±500 ppm device time never runs back, and a slew is worked off at 100 ppm and ends
exactly; without the crystal it stands. -/
def Obligations.Device_time_runs_forward_through_a_slew : Prop :=
  ∀ (n : Nat) (s : State), -512000000 ≤ clockAdj s.tim → clockAdj s.tim ≤ 512000000 →
    let u := (advancePs n s).tim
    (s.clocked = false → advancePs n s = s) ∧ (s.clocked = true →
    u.now = s.tim.now + n ∧ s.tim.tod ≤ u.tod ∧ u.slew.natAbs = s.tim.slew.natAbs - min s.tim.slew.natAbs (51200 * n)
      ∧ (s.tim.slew = 0 → u.tod = s.tim.tod + n * tickUnits s.tim / 2000))

/-! ### Where every row completes -/

/-- Power and reset, the phases of Kindling, mode changes, watchdogs, image loads and the EMBER restart (chapters 02 and 17):
each event answers a next state, with all of its effect. -/
def Obligations.Device_events_take_their_effect : Prop :=
    (∀ (avsSel : Bool) (s : State),
      s.pins.pwrOk = false →
      exec (.aonPowerUp avsSel) s = .next
        ({ s with pins := { s.pins with vddAon := true, avsSel := avsSel, vidMode := avsSel, thermTripN := !s.thm.trip } })) ∧
    (∀ (s : State),
      s.pins.vddAon = true →
      exec .aonPowerLoss s = .next (coldReset s)) ∧
    (∀ (s : State),
      s.pins.resetN = true →
      exec .resetNLow s = .next (warmReset s)) ∧
    (∀ (s : State),
      s.pins.pwrOk = true →
      let w := warmReset s;
      exec .pwrOkLow s = .next ({ w with pins := { w.pins with pwrOk := false } })) ∧
    (∀ (bootSel : Bool) (mgmtAddr : BitVec 2) (suppliesOk : Bool) (s : State),
      (s.pins.vddAon = true ∧ s.pins.resetN = false) →
      exec (.kindlingStart bootSel mgmtAddr suppliesOk) s = .next ({ s with
          pins := { s.pins with
              resetN := true
              pwrOk := true
              bootSel := bootSel
              bootHost := bootSel
              mgmtAddr := mgmtAddr
              suppliesInRange := suppliesOk }
          dev := { s.dev with phase := 1, suppliesOk := suppliesOk }
          tim := restartTime s.tim })) ∧
    (∀ (s : State),
      (inPhase 1 s = true ∧ s.dev.suppliesOk = false) →
      exec .supplyCheckTimeout s = .next (enterLockout 7 0 s)) ∧
    (∀ (ok : Bool) (s : State),
      (inPhase 1 s = true ∧ s.dev.suppliesOk = true) →
      (ok = true →
          exec (.fuseCheckDone ok) s = .next (modDev (fun d => { d with phase := 2 }) s)) ∧
      (ok = false →
          exec (.fuseCheckDone ok) s = .next (enterLockout 1 0 s))) ∧
    (∀ (ok : Bool) (s : State),
      inPhase 2 s = true →
      (ok = true →
          exec (.tcRamTestDone ok) s = .next (modDev (fun d =>
            { d with phase := 3, waitHost := s.pins.bootHost, fetched := false }) s)) ∧
      (ok = false →
          exec (.tcRamTestDone ok) s = .next (enterLockout 2 0 s))) ∧
    (∀ (s : State),
      exec .tcImageFetchDone s = .next (fetchDone 3 s)) ∧
    (∀ (image : ImageIn) (s : State),
      (inPhase 3 s = true ∧ s.dev.fetched = true) →
      (tcAccepted image s = true →
          exec (.tcImageCheckDone image) s = .next (modDev (fun d =>
            { d with phase := 4, fetched := false, slotB := d.tryingB, tcImage := some (imageOf image) }) (extendChain
            (digestBytes (hdrBodyHash image.header)) (extendChain Config.tcRomVersion (extendChain (digestBytes (sha384
            (fuseRecord s.dev.variantN s.dev.svnMinTc s.dev.svnMinAc))) s))))) ∧
      (tcAccepted image s = false →
          ((s.pins.bootHost = false ∧ s.dev.tryingB = false) →
              exec (.tcImageCheckDone image) s = .next (modDev (fun d => { d with tryingB := true, fetched := false }) s)) ∧
          ((s.pins.bootHost = false → s.dev.tryingB = true) →
              exec (.tcImageCheckDone image) s = .next (enterLockout 3 0 s)))) ∧
    (∀ (s : State),
      inPhase 4 s = true →
      let s1 := replayLog s;
      let s2 := extendChain (digestBytes (sha384 (keyListBytes s1.dev.opKeys))) s1;
      exec .trustPhaseDone s = .next (flashKick (reserveDctr (modDev (fun d => { d with phase := 5, fetched := false }) s2)))) ∧
    (∀ (s : State),
      exec .acImageFetchDone s = .next (fetchDone 5 s)) ∧
    (∀ (image : ImageIn) (s : State),
      (inPhase 5 s = true ∧ s.dev.fetched = true) →
      let go := fun (u : State) => hkaStart (modDev (fun d => { d with phase := 6, fetched := false, acHeld := false }) u);
      let wait := modDev (fun d => { d with waitHost := true, fetched := false }) s;
      (s.dev.appReset.isSome = true →
          (((s.dev.kindledAc.map (fun m => m.bodyHash)) = some (hdrBodyHash image.header) ∧ image.bodyOk = true) →
              exec (.acImageCheckDone image) s = .next (go (modDev (fun d => { d with acImage := d.kindledAc }) s))) ∧
          (((s.dev.kindledAc.map (fun m => m.bodyHash)) = some (hdrBodyHash image.header) → image.bodyOk = false) →
              exec (.acImageCheckDone image) s = .next wait)) ∧
      (s.dev.appReset.isSome = false →
          (acAccepted image s = true →
              exec (.acImageCheckDone image) s = .next (go (bootRecord (extendChain (digestBytes (hdrBodyHash
                image.header)) (modDev (fun d => { d with acImage := some (imageOf image), kindledAc := some (imageOf image) })
                s))))) ∧
          (acAccepted image s = false →
              exec (.acImageCheckDone image) s = .next wait))) ∧
    (∀ (s : State),
      (inPhase 6 s = true ∧ s.dev.appReset.isNone = true) →
      exec .selftestDone s = .next (finishBoot s)) ∧
    (∀ (s : State),
      exec .devLoadCtrlGo s = .next (loadGo s)) ∧
    (∀ (s : State),
      ∀ c, s.dev.changing = some c →
      exec .modeChangeComplete s = .next (afterEntry (enterMode c.target .ok s))) ∧
    (∀ (s : State),
      (s.dev.mode = .quiesce ∧ tilesInUse s.pkt = []) →
      exec .quiesceDrainComplete s = .next (endDrain s)) ∧
    (∀ (s : State),
      s.dev.mode = .quiesce →
      exec .quiesceDrainTimeout s = .next (endDrain s)) ∧
    (∀ (ac : Fin 4) (s : State),
      s.dev.acHeld = false →
      let s1 := logRecord 0x0007 0 (leBytes 1 ac.val) s;
      (resetAllowed s.dev.mode = true →
          exec (.acWatchdogExpiry ac) s = .next (startAppReset 3 false s1)) ∧
      (resetAllowed s.dev.mode = false →
          exec (.acWatchdogExpiry ac) s = .next (resetInPlace 3 s1))) ∧
    (∀ (s : State),
      s.pins.resetN = true →
      exec .tcWatchdogExpiry s = .next (enterLockout 6 0 s)) ∧
    (∀ (imageOk : Bool) (s : State),
      (inPhase 6 s = true ∧ s.dev.appReset.isSome = true) →
      (imageOk = true →
          exec (.appResetComplete imageOk) s = .next (finishBoot s)) ∧
      (imageOk = false →
          exec (.appResetComplete imageOk) s = .next (modDev (fun d =>
            { d with phase := 5, fetched := false, acHeld := true }) s))) ∧
    (∀ (s : State),
      (s.dev.resumeDue = true ∧ s.dev.mode = .standby ∧ s.dev.changing.isSome = false) →
      let s1 := modDev (fun d => { d with resumeDue := false }) s;
      (∀ d, s1.atTrip.saved = some d →
          exec .acResumeAfterEmber s = .next (enterMode .service .ok (resumeConfig d { s1 with atTrip := ⟨none⟩ }))) ∧
      (s1.atTrip.saved = none →
          exec .acResumeAfterEmber s = .next s1)) ∧
    (∀ (image : ImageIn) (s : State),
      ∀ x, s.dev.imageLoad = some x →
      let st := loadStatus image x.target s;
      (st ≠ .ok →
          exec (.imageLoadComplete image) s = .next (imageLoaded image x.target st s)) ∧
      (st = .ok →
          let s1 := if x.commitSvn then commitSvn image s else s;
          let s2 := logRecord 0x0006 0 (leBytes 1 x.target ++ leBytes 1 (hdrType image.header) ++ leBytes 4 (hdrSvn
            image.header) ++ digestBytes (hdrBodyHash image.header)) s1;
          let s3 := if hdrType image.header = 2 then extendChain (digestBytes (hdrBodyHash image.header)) s2 else s2;
          let s4 := imageLoaded image x.target .ok s3;
          (x.target = 0 →
              exec (.imageLoadComplete image) s = .next (runImage image s4)) ∧
          (x.target ≠ 0 →
              exec (.imageLoadComplete image) s = .next (modDev (fun d => if x.target = 1 then { d with slotAValid := true }
                else { d with slotBValid := true }) s4)))) ∧
    (∀ (s : State),
      inPhase 1 s = true →
      exec .supplyGroupsWithinRange s = .next
        ({ s with pins := { s.pins with suppliesInRange := true }, dev := { s.dev with suppliesOk := true } }))

/-- The commands of group 0x00 (chapter 02): where the pipeline grants its packet and its own checks pass, each command
answers as its rule says. -/
def Obligations.Device_commands_take_their_effect : Prop :=
    (∀ (p : Packet) (s₀ s : State),
      Granted (modCmd 0x0001 4) p s₀ s →
      ∀ m, modeOf (u8 p.params 0) = some m →
      leNat (bytesAt 1 1 p.params) = 0 →
      u16 p.params 2 ≤ 60000 →
      s.dev.changing.isSome = false →
      commanded s.dev.mode m = true →
      (immediate s.dev.mode m = true →
          exec (.devModeSet p) s₀ = .next (answered 0x0001 p s₀ .ok [] (enterMode m .ok s))) ∧
      (immediate s.dev.mode m = false →
          s.hif.deferred.length < 64 →
          exec (.devModeSet p) s₀ = .next (endOrigin (modDev (fun d => { d with changing := some ⟨m, u16 p.params 2⟩, drain := none })
            (deferredAs 0x0001 p s₀ 0 0 1 (modePayload s.dev.mode m .aborted) s))))) ∧
    (∀ (p : Packet) (s₀ s : State),
      Granted (modCmd 0x0002 0) p s₀ s →
      resetAllowed s.dev.mode = true →
      s.hif.deferred.length < 64 →
      exec (.devAppReset p) s₀ = .next (endOrigin (startAppReset 2 false (deferredAs 0x0002 p s₀ 0 0 3 (leBytes 1 4 ++ leBytes 3 0) s)))) ∧
    (∀ (p : Packet) (s₀ s : State),
      Granted (modCmd 0x0003 4) p s₀ s →
      let e := u8 p.params 0;
      e ≤ 1 →
      leNat (bytesAt 1 3 p.params) = 0 →
      ((modePowered s.dev.mode = true ∨ s.dev.mode = .calibrate) →
          vecGet false s.dev.engineReset e = false →
          s.hif.deferred.length < 64 →
          exec (.devEngineReset p) s₀ = .next (endOrigin (startEngineReset e (deferredAs 0x0003 p s₀ e 0 4 (leBytes 1 e ++ leBytes 3 0)
            s)))) ∧
      ((modePowered s.dev.mode = false ∧ s.dev.mode ≠ .calibrate) →
          exec (.devEngineReset p) s₀ = .next (answered 0x0003 p s₀ .ok [] s))) ∧
    (∀ (p : Packet) (s₀ s : State),
      Granted (modCmd 0x0004 0) p s₀ s →
      (s.thm.latched = true ∧ s.thm.coolMet = true ∧ s.dev.mode = .ember) →
      exec (.devEmberRelease p) s₀ = .next (answered 0x0004 p s₀ .ok [] (leaveEmber 2 false (logRecord 0x0003 0 (leBytes 4
        s.thm.record.cause ++ leBytes 4 s.thm.record.sensor) { s with thm := { s.thm with latched := false } })))) ∧
    (∀ (p : Packet) (s₀ s : State),
      Granted (modCmd 0x0005 16) p s₀ s →
      let target := u8 p.params 12;
      u32 p.params 8 ≠ 0 →
      target ≤ 2 →
      u8 p.params 13 ≤ 1 →
      leNat (bytesAt 14 2 p.params) = 0 →
      (s.dev.imageLoad.isSome = false ∧ hasDeferred 0x0001 0 s = false) →
      (target ≠ 0 → s.thm.flashOk = true) →
      s.hif.deferred.length < 64 →
      exec (.devImageLoad p) s₀ = .next (endOrigin (modDev (fun d => { d with imageLoad := some ⟨target, bit (u8 p.params 13) 0⟩ })
        (deferredAs 0x0005 p s₀ 0 0 6 (leBytes 1 target ++ leBytes 1 0 ++ leBytes 1 13 ++ leBytes 5 0) s)))) ∧
    (∀ (p : Packet) (s₀ s : State),
      Granted { modCmd 0x0006 0 with
          lenOk := fun b => decide (b.length = 116) || decide (b.length = 212) || decide (b.length = 2788) } p s₀ s →
      let op := u8 p.params 0;
      let slot := u8 p.params 1;
      let alg := u8 p.params 4;
      let auth := u8 p.params 112;
      let first := decide (op = 1) && decide (auth = 255);
      let none0 := s.dev.opKeys.toList.all (fun k => k.isNone);
      (op = 1 ∨ op = 2) →
      slot ≤ 3 →
      leNat (bytesAt 2 2 p.params) = 0 →
      (op = 1 → alg ≠ 1 → alg = 2) →
      leNat (bytesAt 5 3 p.params) = 0 →
      (op = 1 → alg = 2 → u8 p.params 8 = 4) →
      (op = 1 → alg = 1 → leNat (bytesAt 64 41 p.params) = 0) →
      leNat (bytesAt 105 7 p.params) = 0 →
      (3 < auth → auth = 255) →
      leNat (bytesAt 113 3 p.params) = 0 →
      authLenOk p.params auth s = true →
      (first = true → none0 = true ∧ s.dev.mode = .standby) →
      (first = false → authorised p.params auth s = true) →
      let keys := vecMod s.dev.opKeys slot (fun _ => if op = 1 then some ⟨BitVec.ofNat 8 alg, bytesAt 8 97 p.params⟩ else
        none);
      (keys = s.dev.opKeys →
          exec (.devOpkey p) s₀ = .next (answered 0x0006 p s₀ .ok [] s)) ∧
      (keys ≠ s.dev.opKeys →
          let s1 := modDev (fun d => { d with opKeys := keys }) s;
          exec (.devOpkey p) s₀ = .next (answered 0x0006 p s₀ .ok [] (logRecord 0x0008 0 (keyListBytes keys) (extendChain
            (digestBytes (sha384 (keyListBytes keys))) s1))))) ∧
    (∀ (p : Packet) (s₀ s : State),
      Granted (readCmd 0x0007 32) p s₀ s →
      let head := digestBytes s.dev.chain ++ bytesAt 0 32 p.params ++ leBytes 8 s.tim.seconds ++ leBytes 4
        ((s.dev.acImage.map (fun i => i.svn)).getD 0) ++ leBytes 4 s.dev.measurements;
      exec (.devAttestQuote p) s₀ = .next (answered 0x0007 p s₀ .ok (head ++ bytesAt 0 96 (Config.attestSign (sha384
        head))) s)) ∧
    (∀ (p : Packet) (s₀ s : State),
      Granted (readCmd 0x0008 4) p s₀ s →
      let off := u16 p.params 0;
      let n := u16 p.params 2;
      let cert := Config.attestCert;
      (n ≠ 0 ∧ n ≤ (if fromBmc p then 222 else 4062)) →
      off ≤ cert.length →
      exec (.devAttestCert p) s₀ = .next (answered 0x0008 p s₀ .ok (leBytes 2 cert.length ++ (cert.drop off).take n) s)) ∧
    (∀ (p : Packet) (s₀ s : State),
      Granted (readCmd 0x0009 0) p s₀ s →
      s.dev.mode = .lockout →
      exec (.devLockoutDiag p) s₀ = .next (answered 0x0009 p s₀ .ok (leBytes 4 s.dev.lockoutCause ++ leBytes 8
        s.dev.lockout.seconds ++ leBytes 4 s.dev.lockout.address.toNat ++ digestBytes s.dev.lockout.chain) s))

/-- Register accesses (chapters 01 to 04 and 08): each event answers a next state, with all of its effect. -/
def Obligations.Register_accesses_take_their_effect : Prop :=
    (∀ (src : Writer) (addr width : Nat) (value : Word) (s : State),
      (s.clocked = false →
          exec (.registerWrite src addr width value) s = .next s) ∧
      (s.clocked = true →
          ((width ≠ 4 ∨ addr % 4 ≠ 0) →
              exec (.registerWrite src addr width value) s = .next (countBadAccess s)) ∧
          ((width = 4 ∧ addr % 4 = 0) →
              (0x400000 ≤ addr →
                  exec (.registerWrite src addr width value) s = .next (msixWrite (addr - 0x400000) value.toNat s)) ∧
              (addr < 0x400000 →
                  exec (.registerWrite src addr width value) s = .next (writeReg src addr value s))))) ∧
    (∀ (addr : Nat) (s : State),
      exec (.readClearRegister addr) s = .next (readClear addr s)) ∧
    (∀ (s : State),
      exec .hifArrivalLoRead s = .next (modHif (fun h => { h with arrivalHi := BitVec.ofNat 32 (s.arrival / 2 ^ 32) }) s)) ∧
    (∀ (s : State),
      exec .timTodSecLoRead s = .next ({ s with
          tim := { s.tim with
              latchedHi := s.tim.seconds / 2 ^ 32 % 2 ^ 16
              latchedNs := s.tim.nanoseconds
              latchedFrac := s.tim.fraction } })) ∧
    (∀ (counter : Option (Fin 12)) (s : State),
      (counter = none →
          exec (.logLoWordRead counter) s = .next (modLog (fun l =>
            { l with seqHi := if l.ready then highWord l.seq else 0 }) s)) ∧
      (∀ k, counter = some k →
          exec (.logLoWordRead counter) s = .next (modLog (fun l =>
            { l with lifeHi := tabInsert l.lifeHi k.val (tabGet 0 s.latched (0x50104 + 8 * k.val)) }) s))) ∧
    (∀ (window : Nat) (s : State),
      exec (.snapRequest window) s = .next (if s.clocked then snapRequest window s else s)) ∧
    (∀ (window : Nat) (s : State),
      exec (.snapCopyDone window) s = .next ({ s with snapBusy := s.snapBusy.filter (fun b => b ≠ window) })) ∧
    (∀ (s : State),
      exec .hifQ0EnSet s = .next (if s.hif.q0En then s else enableQ0 s)) ∧
    (∀ (s : State),
      exec .hifQ0EnClear s = .next (if s.hif.q0En then disableQ0 s else s)) ∧
    (∀ (s : State),
      exec .hifEqEnSet s = .next (if s.hif.eqEn then s else enableEq s)) ∧
    (∀ (s : State),
      exec .hifEqEnClear s = .next (if s.hif.eqEn then disableEq s else s))

/-- The events of the host interface (chapter 03): each event answers a next state, with all of its effect. -/
def Obligations.Host_interface_events_take_their_effect : Prop :=
    (∀ (gen width : Nat) (s : State),
      (linkPossible gen width = true ∧ (gen = 0 ∨ (s.pins.resetN = true ∧ s.hif.perstLow = false))) →
      exec (.pcieLinkChange gen width) s = .next (setLink gen width s)) ∧
    (∀ (s : State),
      (s.hif.linkGen ≠ 0 ∧ s.hif.perstLow = false) →
      let s1 := modHif clearHost s;
      (resetAllowed s.dev.mode = false →
          exec .functionLevelReset s = .next (resetInPlace 2 s1)) ∧
      (resetAllowed s.dev.mode = true →
          exec .functionLevelReset s = .next (startAppReset 2 false s1))) ∧
    (∀ (s : State),
      s.hif.linkGen ≠ 0 →
      exec .d3hotEntry s = .next (modHif (fun h => { h with d3hot := true }) s)) ∧
    (∀ (s : State),
      s.hif.d3hot = true →
      exec .d0Return s = .next (resumeDma (modHif (fun h => { h with d3hot := false }) s))) ∧
    (∀ (s : State),
      s.hif.perstLow = false →
      let s1 := modHif (fun h => { discardHost (clearHost h) with perstLow := true }) s;
      let s2 := { s1 with
          mon := { s1.mon with rings := Vector.replicate 18 DmaRing.reset }
          tim := { s1.tim with ring := ⟨0, 0, 0, 0⟩, ringData := [] }
          atTrip := ⟨s1.atTrip.saved.map (fun d => { d with mon := { d.mon with rings := Vector.replicate 18 DmaRing.reset } })⟩ };
      exec .pciePerstFall s = .next (setLink 0 0 s2)) ∧
    (∀ (s : State),
      exec .pciePerstRise s = .next (modHif (fun h => { h with perstLow := false }) s)) ∧
    (∀ (queue : Fin 16) (value : Word) (ringError : Bool) (s : State),
      let q := s.queue queue.val;
      (q.sqSize ≤ value.toNat →
          exec (.hifSqTailWrite queue value ringError) s = .next (countBadDb s)) ∧
      (value.toNat < q.sqSize →
          let s1 := s.setQueue queue.val { q with sqTail := value.toNat };
          exec (.hifSqTailWrite queue value ringError) s = .next (if ringError then emit 1 4 (leBytes 1 queue.val ++ leBytes
            1 0) s1 else s1))) ∧
    (∀ (queue : Fin 16) (value : Word) (s : State),
      let q := s.queue queue.val;
      (q.cqSize ≤ value.toNat →
          exec (.hifCqHeadWrite queue value) s = .next (countBadDb s)) ∧
      (value.toNat < q.cqSize →
          exec (.hifCqHeadWrite queue value) s = .next (flushHeld queue.val (s.setQueue queue.val
            { q with cqHead := value.toNat })))) ∧
    (∀ (value : Word) (s : State),
      let r := s.hif.events;
      ((r.enabled = false ∨ r.size ≤ value.toNat) →
          exec (.hifEqHeadWrite value) s = .next (countBadDb s)) ∧
      ((r.enabled = true ∧ value.toNat < r.size) →
          exec (.hifEqHeadWrite value) s = .next (reportLost (modHif (fun h =>
            { h with events := { r with head := value.toNat } }) s)))) ∧
    (∀ (queue : Fin 16) (s : State),
      let q := s.queue queue.val;
      fetches queue.val s = true →
      (q.waiting ≠ [] → exec (.packetFetchFailed queue) s = .next (holdEntry queue.val none s)) ∧
      (q.waiting = [] →
      let head := (q.sqHead + 1) % q.sqSize;
      let s1 := countBadFetch (s.setQueue queue.val { q with sqHead := head });
      exec (.packetFetchFailed queue) s = .next (postCompletion queue.val {
          tag := 0xFFFF
          sqIndex := q.sqHead
          status := .integrity
          phase := false
          respWritten := false
          truncated := false
          respLen := 0
          sqHead := head
          suppressIrq := false
          resp := none } s1))) ∧
    (∀ (opcode : Half) (p : Packet) (s : State),
      let op := opcode.toNat;
      (opcodeDefined op = false ∧ startable p s = true) →
      (isRetry p s = true →
          exec (.undefinedOpcode opcode p) s = .next (modHif (fun h => { h with mgmt := { h.mgmt with state := 2 } }) s)) ∧
      (isRetry p s = false →
          let f := senderOf op p s;
          let s1 := takePacket p s;
          (packetCrcOk op p = false →
              exec (.undefinedOpcode opcode p) s = .next (reply f .integrity 0xFFFF [] (countBadCrc s1))) ∧
          (packetCrcOk op p = true →
              (p.params.length > packetLimit p →
                  exec (.undefinedOpcode opcode p) s = .next (reply f .badLength 0xFFFF [] s1)) ∧
              (p.params.length ≤ packetLimit p →
                  exec (.undefinedOpcode opcode p) s = .next (reply f .badOpcode 0xFFFF [] s1))))) ∧
    (∀ (id : Word) (s : State),
      ∀ l, s.hif.leases.find? (fun l => l.id = id) = some l →
      exec (.leaseExpiry id) s = .next (leaseEnded id 0 (dropLease id (advancePs (s.tim.kindlingStart + 1250 * l.expiry -
        s.tim.now) s)))) ∧
    (∀ (key : Nat) (result : TransferEnd) (done : Nat) (read : List Byte) (s : State),
      ∀ t, s.hif.transfers.find? (fun t => t.key = key) = some t →
      (s.hif.transfers.find? (fun u => u.master = t.master)).map (fun u => u.key) = some key →
      ∀ a, transferAnswer t result done read = some a →
      exec (.passthroughXferComplete key result done read) s = .next (finishWaiting key a.1 a.2 (modHif (fun h =>
        { h with transfers := h.transfers.filter (fun u => u.key ≠ key) }) s)))

/-- The commands of group 0x01 (chapter 03): where the pipeline grants its packet and its own checks pass, each command
answers as its rule says. -/
def Obligations.Host_interface_commands_take_their_effect : Prop :=
    (∀ (p : Packet) (s₀ s : State),
      Granted (readCmd 0x0101 0) p s₀ s →
      exec (.hifIdentify p) s₀ = .next (answered 0x0101 p s₀ .ok (identity s) s)) ∧
    (∀ (p : Packet) (s₀ s : State),
      Granted { modCmd 0x0102 24 with bmcDenied := true } p s₀ s →
      let n := u8 p.params 0;
      let sq := u16 p.params 2;
      let cq := u16 p.params 4;
      let sqBase : Long := BitVec.ofNat 64 (u64 p.params 8);
      let cqBase : Long := BitVec.ofNat 64 (u64 p.params 16);
      (n ≠ 0 ∧ n ≤ 15) →
      u8 p.params 1 ≤ 1 →
      sq ≠ 0 →
      ringPower 2 sq = true →
      cq ≠ 0 →
      (ringPower 2 cq = true ∧ sq ≤ cq) →
      leNat (bytesAt 6 2 p.params) = 0 →
      aligned64 sqBase = true →
      aligned64 cqBase = true →
      (s.queue n).enabled = false →
      exec (.hifQueueCreate p) s₀ = .next (answered 0x0102 p s₀ .ok [] (s.setQueue n (newQueue (bit (u8 p.params 1) 0) sqBase
        cqBase sq cq)))) ∧
    (∀ (p : Packet) (s₀ s : State),
      Granted { modCmd 0x0103 4 with bmcDenied := true } p s₀ s →
      let n := u8 p.params 0;
      (n ≠ 0 ∧ n ≠ p.chan.val ∧ n ≤ 15) →
      leNat (bytesAt 1 3 p.params) = 0 →
      (s.queue n).enabled = true →
      exec (.hifQueueDelete p) s₀ = .next (answered 0x0103 p s₀ .ok [] (deleteQueue n s))) ∧
    (∀ (p : Packet) (s₀ s : State),
      Granted { modCmd 0x0104 12 with bmcDenied := true } p s₀ s →
      let id : Word := BitVec.ofNat 32 (u32 p.params 0);
      let mask : Half := BitVec.ofNat 16 (u16 p.params 4);
      let dur := u32 p.params 8;
      (id ≠ 0 ∧ s.activeLeases.any (fun l => l.id = id) = false) →
      mask ≠ 0 →
      leNat (bytesAt 6 2 p.params) = 0 →
      (dur ≠ 0 ∧ dur ≤ 86400) →
      s.leasedMask &&& mask = 0 →
      s.activeLeases.length < 8 →
      exec (.hifLeaseGrant p) s₀ = .next (answered 0x0104 p s₀ .ok [] (modHif (fun h =>
        { h with leases := h.leases ++ [⟨id, mask, s.arrival + 800000000 * dur⟩] }) (endLapsed s)))) ∧
    (∀ (p : Packet) (s₀ s : State),
      Granted { modCmd 0x0105 4 with bmcDenied := true } p s₀ s →
      let id : Word := BitVec.ofNat 32 (u32 p.params 0);
      s.activeLeases.any (fun l => l.id = id) = true →
      exec (.hifLeaseRevoke p) s₀ = .next (answered 0x0105 p s₀ .ok [] (leaseEnded id 1 (dropLease id s)))) ∧
    (∀ (p : Packet) (s₀ s : State),
      Granted (readCmd 0x0106 0) p s₀ s →
      exec (.hifLeaseQuery p) s₀ = .next (answered 0x0106 p s₀ .ok (leBytes 1 s.activeLeases.length ++ leBytes 7 0 ++
        s.activeLeases.flatMap (leaseBytes s)) s)) ∧
    (∀ (p : Packet) (s₀ s : State),
      Granted { modCmd 0x0107 4 with bmcDenied := true } p s₀ s →
      leNat (bytesAt 2 2 p.params) = 0 →
      exec (.hifEventMask p) s₀ = .next (answered 0x0107 p s₀ .ok [] (modHif (fun h =>
        { h with evtMask := BitVec.ofNat 16 (u16 p.params 0) }) s))) ∧
    (∀ (p : Packet) (s₀ s : State),
      Granted { modCmd 0x0108 0 with lenOk := transferLen } p s₀ s →
      (∀ chk ∈ [badParam 0 (1 < u8 p.params 0), badParam 1 (3 < u8 p.params 1), badParam 2 (3 < u8 p.params 2), badParam 3
        (u8 p.params 3 = 0 ∨ 50 < u8 p.params 3)] ++ lengthChecks p 2048 ++ [failIf .noResource (masterFull (u8 p.params 0)
        s)], chk.bad = false) →
      exec (.hifSpiXfer p) s₀ = .next (waiting 0x0108 p s₀ s.hif.nextKey (modHif (fun h =>
        { h with transfers := h.transfers ++ [⟨s.hif.nextKey, (u8 p.params 0), u16 p.params 4, u16 p.params 6, p.params⟩] })
        (takeKey s).2))) ∧
    (∀ (p : Packet) (s₀ s : State),
      Granted { modCmd 0x0109 0 with lenOk := transferLen } p s₀ s →
      (∀ chk ∈ [badParam 0 (u8 p.params 0 ≠ 0), badParam 1 (127 < u8 p.params 1), badParam 2 (2 < u8 p.params 2), badParam 3
        (u8 p.params 3 ≠ 0)] ++ lengthChecks p 256 ++ [failIf .noResource (masterFull 2 s)], chk.bad = false) →
      exec (.hifI2cXfer p) s₀ = .next (waiting 0x0109 p s₀ s.hif.nextKey (modHif (fun h =>
        { h with transfers := h.transfers ++ [⟨s.hif.nextKey, 2, u16 p.params 4, u16 p.params 6, p.params⟩] }) (takeKey s).2))) ∧
    (∀ (p : Packet) (s₀ s : State),
      Granted { readCmd 0x010A 4 with hostDenied := true } p s₀ s →
      let n := u8 p.params 0;
      let m := s.hif.mgmt;
      let rs := m.buffer.take n;
      n ≠ 0 →
      n ≤ 3 →
      leNat (bytesAt 1 3 p.params) = 0 →
      exec (.hifMgmtEventRead p) s₀ = .next (answered 0x010A p s₀ .ok (leBytes 1 rs.length ++ leBytes 1 0 ++ leBytes 2 (min
        65535 m.overwritten) ++ rs.flatMap (fun e => e.bytes false)) (modHif (fun h =>
        { h with mgmt := { m with buffer := m.buffer.drop n, overwritten := 0 } }) s))) ∧
    (∀ (p : Packet) (s₀ s : State),
      Granted { readCmd 0x010B 0 with lenOk := fun _ => true } p s₀ s →
      exec (.hifNop p) s₀ = .next (answered 0x010B p s₀ .ok p.params s))

/-- The management port (chapter 03): each event answers a next state, with all of its effect. -/
def Obligations.Management_port_transactions_take_their_effect : Prop :=
    (∀ (bytes : List Byte) (s : State),
      portAlive s = true →
      (s.hif.mgmt.state = 1 →
          exec (.mgmtPacketWrite bytes) s = .next (modPort16 (fun m => { m with nacked := true, busOut := [] }) s)) ∧
      (s.hif.mgmt.state ≠ 1 →
          (256 < bytes.length →
              exec (.mgmtPacketWrite bytes) s = .next (modPort16 (fun m =>
                { m with nacked := true, busOut := [], overrun := true }) s)) ∧
          (bytes.length ≤ 256 →
              let s1 := modPort16 (fun m => { m with nacked := false, busOut := [] }) s;
              let p := packetFrom bytes;
              let op := u16 bytes 0;
              (rawCrcOk bytes = true →
                  ∃ t, runnerOf op p s1 = .next t ∧ exec (.mgmtPacketWrite bytes) s = .next t) ∧
              (rawCrcOk bytes = false →
                  exec (.mgmtPacketWrite bytes) s = .next (reply (senderOf op p s1) .integrity 0xFFFF [] (countBadCrc
                    (takePacket p s1))))))) ∧
    (∀ (s : State),
      portAlive s = true →
      exec .mgmtResponseRead s = .next (modPort16 (fun m =>
        { m with nacked := false, busOut := portStatus m :: (if m.state = 2 then m.kept else []) }) s)) ∧
    (∀ (s : State),
      portAlive s = true →
      exec .mgmtStatusRead s = .next (modPort16 (fun m =>
        { m with nacked := false, busOut := [portStatus m], overrun := false }) s)) ∧
    (∀ (s : State),
      s.pins.vddAon = true →
      exec .mgmtAvsRead s = .next (modPort16 (fun m => { m with nacked := false, busOut := avsBytes s }) s)) ∧
    (∀ (selector : Byte) (s : State),
      (portAlive s = true ∧ (1 ≤ selector.toNat → 4 < selector.toNat)) →
      exec (.mgmtBadSelector selector) s = .next (modPort16 (fun m => { m with nacked := true, busOut := [] }) s)) ∧
    (∀ (s : State),
      exec .mgmtBusTimeout s = .next (modPort16 (fun m => { m with nacked := false, busOut := [] }) s))

/-- The time events (chapter 04): each event answers a next state, with all of its effect. -/
def Obligations.Time_events_take_their_effect : Prop :=
    (∀ (measure : SecondMeasure) (s : State),
      (s.clocked = false →
          exec (.secondBoundary measure) s = .next s) ∧
      (s.clocked = true →
          let s0 := advanceToTod (s.tim.highestLatched + 1) 0 s;
          let s1 := latchSecond measure false (lineReturn (refsReturn s0));
          exec (.secondBoundary measure) s = .next (if s1.tim.ppsDelay = 0 then modTim ppsRise s1 else s1))) ∧
    (∀ (s : State),
      exec .ppsOutPulseEnd s = .next (modTim (fun t => { t with ppsOut := false }) s)) ∧
    (∀ (s : State),
      s.tim.source = .pps →
      let s1 := applyLabel s;
      let q := edgeOffset s1.tim.tod;
      let s2 := modTim (fun t => { t with ppsOffset := (q + 2) / 4, quiet := false }) s1;
      ((s2.tim.servo = .locked ∧ 4000 < q.natAbs) →
          let n := s2.tim.outliers + 1;
          (n < 4 →
              exec .ppsInEdge s = .next (modTim (fun t => { t with outliers := n }) s2)) ∧
          (4 ≤ n →
              exec .ppsInEdge s = .next (setServo .acquiring (stepTo (nearestSecond s2.tim.tod * unitsPerSecond) s2)))) ∧
      ((s2.tim.servo = .locked → q.natAbs ≤ 4000) →
          let starts := decide (s2.tim.servo = .freerun) || (decide (s2.tim.servo = .holdover) && s2.tim.client);
          let s3 := modTim (servoAct q) (if starts then setServo .acquiring s2 else s2);
          exec .ppsInEdge s = .next (if s3.tim.servo = .acquiring ∧ 16 ≤ s3.tim.goodPulses then setServo .locked s3 else
            s3))) ∧
    (∀ (s : State),
      s.tim.source = .pps →
      let s1 := modTim (fun t => { t with quiet := true, goodPulses := 0 }) s;
      exec .ppsInMissing s = .next (if s1.tim.servo = .locked then setServo .holdover s1 else s1)) ∧
    (∀ (s : State),
      s.tim.source = .ptp →
      let s1 := modTim (fun t => { t with quiet := true }) s;
      exec .ptpUpdateTimeout s = .next (if s1.tim.servo = .locked then setServo .holdover s1 else s1)) ∧
    (∀ (s : State),
      s.tim.slew ≠ 0 →
      exec .slewComplete s = .next (advancePs ((s.tim.slew.natAbs + 51199) / 51200) s)) ∧
    (∀ (ref : RefInput) (s : State),
      (s.clocked = true ∧ refPresent ref s.tim = true) →
      (ref = .lineRef0 →
          exec (.refLost ref) s = .next (linesLost (lineLost 0 (refEvent (modTim (fun t =>
            { t with line0 := false, fecOnLine1 := t.line1 }) s))))) ∧
      (ref = .lineRef1 →
          exec (.refLost ref) s = .next (linesLost (lineLost 1 (refEvent (modTim (fun t =>
            { t with line1 := false, fecOnLine1 := false }) s))))) ∧
      (ref = .clientRef →
          let s1 := refEvent (modTim (fun t => { t with client := false, clientFallback := true }) s);
          exec (.refLost ref) s = .next (if s1.tim.servo = .locked ∨ s1.tim.source = .host then setServo .holdover s1 else
            s1)) ∧
      (ref = .pcieRef →
          exec (.refLost ref) s = .next (setLink 0 0 (refEvent (modTim (fun t => { t with pcie := false }) s))))) ∧
    (∀ (ref : RefInput) (s : State),
      (s.clocked = true ∧ refPresent ref s.tim = false) →
      (ref = .lineRef0 →
          exec (.refRestored ref) s = .next (refEvent (modTim (fun t => { t with line0 := true }) s))) ∧
      (ref = .lineRef1 →
          exec (.refRestored ref) s = .next (refEvent (modTim (fun t => { t with line1 := true, fecOnLine1 := !t.line0 })
            s))) ∧
      (ref = .clientRef →
          let s1 := refEvent (modTim (fun t => { t with client := true }) s);
          (s1.tim.servo ≠ .holdover →
              exec (.refRestored ref) s = .next s1) ∧
          (s1.tim.servo = .holdover →
              (s1.tim.source = .host →
                  exec (.refRestored ref) s = .next (setServo .freerun s1)) ∧
              (s1.tim.source ≠ .host →
                  exec (.refRestored ref) s = .next (if s1.tim.quiet then s1 else setServo .acquiring s1)))) ∧
      (ref = .pcieRef →
          exec (.refRestored ref) s = .next (refEvent (modTim (fun t => { t with pcie := true }) s)))) ∧
    (∀ (output : Fin 2) (s : State),
      let x := vecGet ⟨0, false, 0, false⟩ s.tim.synce output.val;
      (x.en = true ∧ x.squelched = true ∧ (s.lane x.lane).cdr = true) →
      exec (.synceResumeTimer output) s = .next (synceEvent output.val { x with squelched := false } (modTim (fun t =>
        { t with synce := vecMod t.synce output.val (fun y => { y with squelched := false }) }) s))) ∧
    (∀ (cif : Fin 32) (esmc : Bool) (transport : PtpTransport) (frame : List Byte) (s : State),
      let t := s.tim;
      (diverted cif.val esmc transport t = true ∧ (s.cif cif.val).up = true) →
      ((240 < frame.length ∨ t.ring.size = 0 ∨ (t.ring.tail + 1) % t.ring.size = t.ring.head ∨ s.hif.dmaUp = false) →
          exec (.ptpFrameReceived cif esmc transport frame) s = .next (modTim (fun x =>
            { x with ptpLost := satAdd 0xFFFFFFFF x.ptpLost 1 }) s)) ∧
      ((frame.length ≤ 240 ∧ t.ring.size ≠ 0 ∧ (t.ring.tail + 1) % t.ring.size ≠ t.ring.head ∧ s.hif.dmaUp = true) →
          exec (.ptpFrameReceived cif esmc transport frame) s = .next (signalVector 18 (modTim (fun x => { x with
              ringData := tabInsert x.ringData x.ring.tail (PtpEntry.bytes ⟨cif.val, esmc, x.seconds, x.nanoseconds, frame⟩)
              ring := { x.ring with tail := (x.ring.tail + 1) % x.ring.size } }) s)))) ∧
    (∀ (cif : Fin 32) (messageType domain : Byte) (sequenceId : Half) (s : State),
      ∀ f, s.tim.ptpSends.find? (fun f => f.cif = cif.val) = some f →
      let s1 := modTim (fun t => { t with
          ptpSends := t.ptpSends.eraseP (fun g => g.cif = cif.val)
          ptpOut := tabInsert t.ptpOut cif.val (oneStepSync cif.val messageType f.frame t) }) s;
      (f.returnTs = false →
          exec (.ptpFrameSent cif messageType domain sequenceId) s = .next s1) ∧
      (f.returnTs = true →
          exec (.ptpFrameSent cif messageType domain sequenceId) s = .next (raiseEvent (mkEvent 2 4 (leBytes 1 cif.val ++
            [messageType, domain] ++ leBytes 1 0 ++ leBytes 2 sequenceId.toNat ++ timeBytes s1.tim) false f.tag f.chan .ok
            s1) s1))) ∧
    (∀ (key : Nat) (s : State),
      ∀ x, s.tim.snapshots.find? (fun x => x.key = key) = some x →
      exec (.snapshotInstant key) s = .next (takeSnapshots key x.mask (modTim (fun t =>
        { t with snapshots := t.snapshots.filter (fun y => y.key ≠ key) }) (advanceToTod x.seconds x.nanoseconds s)))) ∧
    (∀ (s : State),
      exec .ppsOutRise s = .next (modTim ppsRise (advanceToUnits (nextRise s.tim) s)))

/-- The commands of group 0x02 (chapter 04): where the pipeline grants its packet and its own checks pass, each command
answers as its rule says. -/
def Obligations.Time_commands_take_their_effect : Prop :=
    (∀ (p : Packet) (s₀ s : State),
      Granted (readCmd 0x0201 0) p s₀ s →
      exec (.timGet p) s₀ = .next (answered 0x0201 p s₀ .ok (timeBytes s.tim ++ leBytes 2 s.tim.fraction ++ leBytes 4
        (timStatus s.tim)) s)) ∧
    (∀ (p : Packet) (s₀ s : State),
      Granted (modCmd 0x0202 12) p s₀ s →
      let ns := u32 p.params 8;
      leNat (bytesAt 6 2 p.params) = 0 →
      (ns ≤ 999999999 ∧ (s.tim.source = .pps → ns = 0)) →
      exec (.timSet p) s₀ = .next (answered 0x0202 p s₀ .ok [] (if s.tim.source = .pps then modTim (fun t =>
        { t with label := some (u48 p.params 0), slew := 0 }) s else modTim (fun t => { t with valid := true }) (stepTo (todOf (u48
        p.params 0) ns) s)))) ∧
    (∀ (p : Packet) (s₀ s : State),
      Granted (modCmd 0x0203 12) p s₀ s →
      let off := s64 p.params 0;
      let mode := u8 p.params 8;
      ((mode = 1 → off.natAbs ≤ 1000000) ∧ inTime (movedTod off { s.tim with tod := s.todAtStamp }) = true) →
      mode ≤ 1 →
      leNat (bytesAt 9 3 p.params) = 0 →
      s.tim.source ≠ .pps →
      exec (.timAdjust p) s₀ = .next (answered 0x0203 p s₀ .ok [] (if off = 0 then s else ptpUpdate (if mode = 0 then stepTo
        (movedTod off s.tim).toNat s else modTim (fun t => { t with slew := off * (unitsPerNs : Int) }) s)))) ∧
    (∀ (p : Packet) (s₀ s : State),
      Granted (modCmd 0x0204 4) p s₀ s →
      let f := s32 p.params 0;
      f.natAbs ≤ 512000000 →
      s.tim.source ≠ .pps →
      exec (.timFreqSet p) s₀ = .next (answered 0x0204 p s₀ .ok [] (ptpUpdate (modTim (fun t => { t with freqAdj := f }) s)))) ∧
    (∀ (p : Packet) (s₀ s : State),
      Granted (modCmd 0x0205 4) p s₀ s →
      let n := u8 p.params 0;
      let limit := u16 p.params 2;
      n ≤ 2 →
      leNat (bytesAt 1 1 p.params) = 0 →
      (n = 2 → limit ≠ 0) →
      (n = 2 → limit ≤ 600) →
      exec (.timSrcSet p) s₀ = .next (answered 0x0205 p s₀ .ok [] (selectSource (sourceOf n) (if n = 2 then modTim (fun t =>
        { t with ptpTimeout := limit }) s else s)))) ∧
    (∀ (p : Packet) (s₀ s : State),
      Granted (modCmd 0x0206 4) p s₀ s →
      let c := u8 p.params 0;
      let f := u8 p.params 1;
      c ≤ 31 →
      (f ≤ 63 ∧ (bit f 1 = true → bit f 3 = true → bit f 2 = false → bit f 4 = true)) →
      leNat (bytesAt 2 2 p.params) = 0 →
      exec (.timPtpCfg p) s₀ = .next (answered 0x0206 p s₀ .ok [] (modTim (fun t =>
        { t with ptpCfg := vecMod t.ptpCfg c (fun _ => BitVec.ofNat 8 f) }) s))) ∧
    (∀ (p : Packet) (s₀ s : State),
      Granted (modCmd 0x0207 12) p s₀ s →
      let base : Long := BitVec.ofNat 64 (u64 p.params 0);
      let n := u16 p.params 8;
      aligned64 base = true →
      n ≠ 0 →
      ringPower 16 n = true →
      leNat (bytesAt 10 2 p.params) = 0 →
      exec (.timPtpRing p) s₀ = .next (answered 0x0207 p s₀ .ok [] (modTim (fun t =>
        { t with ring := ⟨base, n, 0, 0⟩, ringData := [] }) s))) ∧
    (∀ (p : Packet) (s₀ s : State),
      Granted { modCmd 0x0208 0 with lenOk := fun b => decide (4 ≤ b.length) && decide (b.length = 4 + u16 b 2) } p s₀ s →
      let c := u8 p.params 0;
      let n := u16 p.params 2;
      c ≤ 31 →
      u8 p.params 1 ≤ 1 →
      n ≠ 0 →
      (60 ≤ n ∧ n ≤ 1514) →
      ((s.cif c).up = true ∧ (ptpFlags c s.tim).getLsbD 0 = true) →
      exec (.timPtpSend p) s₀ = .next (answered 0x0208 p s₀ .ok [] (modTim (fun t =>
        { t with ptpSends := t.ptpSends ++ [⟨c, bit (u8 p.params 1) 0, p.chan.val, p.tag, p.params.drop 4⟩] }) s))) ∧
    (∀ (p : Packet) (s₀ s : State),
      Granted (modCmd 0x0209 12) p s₀ s →
      let mask := u16 p.params 0;
      let sec := u48 p.params 2;
      let ns := u32 p.params 8;
      mask ≠ 0 →
      mask &&& snapGroups = mask →
      todAhead sec ns 1000 s = false →
      ns ≤ 999999999 →
      s.hif.deferred.length < 64 →
      let u := (deferredAs 0x0209 p s₀ s.hif.nextKey 2 5 (leBytes 10 0) s);
      let k := takeKey u;
      exec (.timSnapshot p) s₀ = .next (endOrigin (if todPast sec ns k.2 then takeSnapshots k.1 (BitVec.ofNat 16 mask) k.2 else modTim
        (fun t => { t with snapshots := t.snapshots ++ [⟨k.1, BitVec.ofNat 16 mask, sec, ns⟩] }) k.2)))

/-- The calibration events of the line converters (chapter 05): each event answers a next state, with all of its effect. -/
def Obligations.Converter_events_take_their_effect : Prop :=
    (∀ (group : Fin 2) (s : State),
      let x := s.group group.val;
      (((x.state = .running ∧ x.cfg.bgEn = true) ∨ x.state = .refresh) ∧ x.adcs.toList.all (fun y => y.stepPos.isNone) =
        true) →
      exec (.cnvStepStart group) s = .next (modGroup group.val (fun y => { y with
          pos := (y.pos + 1) % 64
          adcs := vecMap (fun _ z => if z.degraded then z else { z with stepPos := some y.pos, phase := .align }) y.adcs }) s)) ∧
    (∀ (group : Fin 2) (s : State),
      exec (.cnvSpareSettled group) s = .next (modGroup group.val (fun y =>
        { y with adcs := vecMap (fun _ z => if stepIn z .align then { z with phase := .matching } else z) y.adcs }) s)) ∧
    (∀ (group : Fin 2) (adc : Fin 4) (stats : PairStats) (s : State),
      let x := (s.group group.val).adc adc.val;
      stepIn x .matching = true →
      (pairAbandoned stats = true →
          exec (.cnvMatchDone group adc stats) s = .next (modAdc group.val adc.val (fun y => countRefreshFail (endStep y))
            s)) ∧
      (pairAbandoned stats = false →
          (pairPasses stats = true →
              exec (.cnvMatchDone group adc stats) s = .next (modAdc group.val adc.val (fun y =>
                beginTrim { y with phase := .trim, spareFails := 0 }) s)) ∧
          (pairPasses stats = false →
              exec (.cnvMatchDone group adc stats) s = .next (spareFailure group.val adc.val s)))) ∧
    (∀ (group : Fin 2) (adc : Fin 4) (selfTest : Bool) (s : State),
      let x := (s.group group.val).adc adc.val;
      ∀ p, x.stepPos = some p →
      x.phase = .trim →
      let z := x.slice p;
      let c := z.accepted.getD z.coef;
      ((selfTest = true ∧ coefAbsolute c = true ∧ (z.firstStep = true ∨ coefChange z.coef c = true)) →
          exec (.cnvTrimDone group adc selfTest) s = .next (modAdc group.val adc.val (fun y =>
            { y with phase := .verify, candidate := some c }) s)) ∧
      ((selfTest = true → coefAbsolute c = true → z.firstStep = false ∧ coefChange z.coef c = false) →
          exec (.cnvTrimDone group adc selfTest) s = .next (sliceFailure group.val adc.val p s))) ∧
    (∀ (group : Fin 2) (adc : Fin 4) (stats : PairStats) (s : State),
      let x := (s.group group.val).adc adc.val;
      ∀ p, x.stepPos = some p →
      x.phase = .verify →
      (pairAbandoned stats = true →
          exec (.cnvVerifyDone group adc stats) s = .next (modAdc group.val adc.val (fun y => countRefreshFail (endStep y))
            s)) ∧
      (pairAbandoned stats = false →
          (pairPasses stats = true →
              exec (.cnvVerifyDone group adc stats) s = .next (modAdc group.val adc.val (fun y => endStep (modSlice p (fun z
                => { z with
                coef := if y.noSignal || !(s.group group.val).cfg.bgEn then z.coef else y.candidate.getD z.coef, fails := 0 })
                { y with trimsBefore := none })) s)) ∧
          (pairPasses stats = false →
              exec (.cnvVerifyDone group adc stats) s = .next (sliceFailure group.val adc.val p s)))) ∧
    (∀ (group : Fin 2) (adc : Fin 4) (slice : Fin 65) (stats : WindowStats) (s : State),
      let x := (s.group group.val).adc adc.val;
      let s0 := modAdc group.val adc.val (fun y => { modSlice slice.val (fun z => { z with leftPath := false }) y with
        overRange := satAdd 0xFFFFFFFF y.overRange stats.overRange }) s;
      (s.group group.val).clockLocked = true →
      inPath x slice.val = true →
      ((x.slice slice.val).leftPath = true →
          exec (.cnvStatsWindowDone group adc slice stats) s = .next s0) ∧
      ((x.slice slice.val).leftPath = false →
          (4096 < stats.excluded →
              exec (.cnvStatsWindowDone group adc slice stats) s = .next (modAdc group.val adc.val (fun y =>
                { y with discardOvr := satAdd 0xFFFF y.discardOvr 1 }) s0)) ∧
          (stats.excluded ≤ 4096 →
              (stats.rms < 1024 →
                  let s1 := modAdc group.val adc.val (fun y => { modSlice slice.val (fun z => { z with
                      discards := z.discards + 1 }) y with discardNoSig := satAdd 0xFFFF y.discardNoSig 1 }) s0;
                  let y := (s1.group group.val).adc adc.val;
                  ((16 ≤ (y.slice slice.val).discards ∧ y.noSignal = false) →
                      exec (.cnvStatsWindowDone group adc slice stats) s = .next (emit 3 5 (leBytes 1 group.val ++ leBytes 1
                        adc.val ++ leBytes 1 0) (modAdc group.val adc.val (fun w => { w with noSignal := true }) s1))) ∧
                  ((16 ≤ (y.slice slice.val).discards → y.noSignal = true) →
                      exec (.cnvStatsWindowDone group adc slice stats) s = .next s1)) ∧
              (1024 ≤ stats.rms →
                  exec (.cnvStatsWindowDone group adc slice stats) s = .next (windowAccepted group.val adc.val slice.val
                    (windowEstimate stats) s0))))) ∧
    (∀ (group : Fin 2) (s : State),
      let x := s.group group.val;
      (autoRefreshMode s = true ∧ x.cfg.refreshEn = true ∧ x.state = .running) →
      exec (.cnvRefreshInterval group) s = .next (startRefresh group.val 1 s)) ∧
    (∀ (group : Fin 2) (s : State),
      let x := s.group group.val;
      ∀ r, x.refresh = some r →
      let t := groupTemp group.val s;
      let files := refreshFiles x;
      let s1 := files.foldl (fun u a => fileBlock group.val (setOf t) a (captureBlock group.val .refresh (adcWords (x.adc a))
        s) u) s;
      let clean := x.adcs.toList.all (fun y => decide (y.refreshFails = 0) && !y.refreshLost);
      let st : Status := if clean then .ok else .partly;
      let s2 := modGroup group.val (fun y => { y with
          state := .running
          refresh := none
          pos := 0
          cfg := y.cfgNext.getD y.cfg
          cfgNext := none
          info := ⟨t, setOf t, r.trigger, !clean, some s.tim.now⟩ }) s1;
      let s3 := refreshDone group.val r.trigger st (refreshFailures x) (if files.isEmpty then 0xFF else setOf t) s2;
      exec (.cnvRefreshComplete group) s = .next (if autoRefreshMode s3 && (s3.group group.val).cfg.refreshEn && decide (16 *
        (s3.group group.val).cfg.deltaT ≤ (t - r.startTemp).natAbs) then startRefresh group.val 0 s3 else s3)) ∧
    (∀ (group : Fin 2) (adcs : List FgAdc) (dacs : List FgDac) (s : State),
      (s.group group.val).state = .foreground →
      let t := groupTemp group.val s;
      let s1 := (adcs.zipIdx.take 4).foldl (fun u e => fgStoreAdc group.val t s e u) s;
      let s2 := (dacs.zipIdx.take 4).foldl (fun u e => fgStoreDac group.val t s e u) s1;
      let s3 := startTxpd group.val (modGroup group.val (fun y =>
        applyInterp group.val false t { y with state := .running, loop := false }) s2);
      let s4 := fgFinish group.val false s3;
      exec (.cnvFgCalComplete group adcs dacs) s = .next (if s4.cnv.fg.isEmpty && decide (s4.dev.mode = .calibrate) then
        enterMode .standby .ok s4 else s4)) ∧
    (∀ (group : Fin 2) (s : State),
      (s.group group.val).state = .seeding →
      let s1 := txTake group.val (modGroup group.val (fun x => applyInterp group.val true (groupTemp group.val s)
        { x with clockLocked := true }) s);
      exec (.cnvSliceClockLocked group) s = .next (if modePowered s.dev.mode then engineStart group.val s1 else s1)) ∧
    (∀ (group : Fin 2) (set : Fin 8) (converter : Fin 8) (s : State),
      (s.group group.val).saveDue.contains (set.val * 8 + converter.val) = true →
      exec (.cnvTsetSaveDue group set converter) s = .next (saveBlock group.val set.val converter.val s))

/-- The commands of group 0x03 (chapter 05): where the pipeline grants its packet and its own checks pass, each command
answers as its rule says. -/
def Obligations.Converter_commands_take_their_effect : Prop :=
    (∀ (p : Packet) (s₀ s : State),
      Granted (modCmd 0x0301 4) p s₀ s →
      let mask := u8 p.params 0;
      let named := (List.range 2).filter (fun g => bit mask g);
      s.dev.mode = .calibrate →
      mask ≠ 0 →
      mask < 4 →
      leNat (bytesAt 1 3 p.params) = 0 →
      named.any (fun g => !s.lineRef g) = false →
      named.any (fun g => (s.group g).state = .foreground) = false →
      s.hif.deferred.length < 64 →
      let u := (deferredAs 0x0301 p s₀ mask 3 1 (leBytes 1 0 ++ leBytes 1 (if bit mask 0 then 13 else 0xFF) ++ leBytes 1 (if
        bit mask 1 then 13 else 0xFF) ++ leBytes 5 0) s);
      let v := named.foldl (fun w g => modGroup g (fun x =>
        { x with state := .foreground, loop := true, adcs := vecMap (fun _ z => endStep z) x.adcs }) w) u;
      exec (.cnvFgCal p) s₀ = .next (endOrigin ({ v with cnv := { v.cnv with fg := v.cnv.fg ++ [⟨mask, 0, 0, v.tim.now⟩] } }))) ∧
    (∀ (p : Packet) (s₀ s : State),
      Granted (modCmd 0x0302 4) p s₀ s →
      let g := u8 p.params 0;
      autoRefreshMode s = true →
      g ≤ 1 →
      leNat (bytesAt 1 3 p.params) = 0 →
      (s.group g).powered = true →
      (s.group g).refresh.isSome = false →
      s.hif.deferred.length < 64 →
      exec (.cnvRefresh p) s₀ = .next (endOrigin (startRefresh g 2 (deferredAs 0x0302 p s₀ g 3 2 (leBytes 1 g ++ leBytes 1 2 ++ leBytes
        1 13 ++ leBytes 1 0 ++ leBytes 2 0 ++ leBytes 1 0xFF) s)))) ∧
    (∀ (p : Packet) (s₀ s : State),
      Granted (modCmd 0x0303 8) p s₀ s →
      let g := u8 p.params 0;
      let cfg : CnvCfg := ⟨u8 p.params 1, u8 p.params 2, bit (u8 p.params 3) 0, bit (u8 p.params 3) 1, u16 p.params 4⟩;
      g ≤ 1 →
      (cfg.deltaT ≠ 0 ∧ cfg.deltaT ≤ 15) →
      (cfg.maxInterval ≠ 0 ∧ cfg.maxInterval ≤ 10) →
      u8 p.params 3 < 4 →
      (cfg.period ≠ 0 ∧ cfg.period ≤ 100) →
      leNat (bytesAt 6 2 p.params) = 0 →
      exec (.cnvCfgSet p) s₀ = .next (answered 0x0303 p s₀ .ok [] (modGroup g (fun x => if x.refresh.isSome then
        { x with cfgNext := some cfg } else { x with cfg := cfg }) s))) ∧
    (∀ (p : Packet) (s₀ s : State),
      Granted (readCmd 0x0304 8) p s₀ s →
      let g := u8 p.params 0;
      let set := u8 p.params 1;
      let conv := u8 p.params 2;
      let first := u8 p.params 4;
      let count := u8 p.params 5;
      let b := (s.group g).block set conv;
      let size := if conv < 4 then 65 else 64;
      g ≤ 1 →
      set ≤ 7 →
      conv ≤ 7 →
      leNat (bytesAt 3 1 p.params) = 0 →
      count ≠ 0 →
      (fromBmc p = true → count ≤ 52) →
      count ≤ size →
      first + count ≤ size →
      leNat (bytesAt 6 2 p.params) = 0 →
      exec (.cnvTsetRead p) s₀ = .next (answered 0x0304 p s₀ .ok (leBytes 1 (packBits [b.valid, b.origin = .factory, b.origin
        = .foreground]) ++ leBytes 1 0 ++ leBytesInt 2 b.temp ++ leBytes 6 b.seconds ++ leBytes 2 0 ++ leBytes 1 first ++
        leBytes 1 count ++ leBytes 2 0 ++ (List.range count).flatMap (fun n => leBytes 4 (coefWord (blockWord g set conv
        (first + n) b)))) s)) ∧
    (∀ (p : Packet) (s₀ s : State),
      Granted (modCmd 0x0305 4) p s₀ s →
      let g := u8 p.params 0;
      let mask := u8 p.params 1;
      autoRefreshMode s = false →
      g ≤ 1 →
      mask ≠ 0 →
      leNat (bytesAt 2 2 p.params) = 0 →
      exec (.cnvTsetClear p) s₀ = .next (answered 0x0305 p s₀ .ok [] (logRecord 0x0012 0 (leBytes 1 g ++ leBytes 1 mask)
        (modGroup g (clearSets mask) s)))) ∧
    (∀ (p : Packet) (s₀ s : State),
      Granted (readCmd 0x0306 4) p s₀ s →
      let g := u8 p.params 0;
      let d := u8 p.params 1;
      let first := u8 p.params 2;
      let count := u8 p.params 3;
      let c := (vecGet Dac.reset (s.group g).dacs d).char;
      g ≤ 1 →
      d ≤ 3 →
      first ≤ 63 →
      count ≠ 0 →
      (fromBmc p = true → count ≤ 52) →
      first + count ≤ 64 →
      exec (.cnvDacCharRead p) s₀ = .next (answered 0x0306 p s₀ .ok (leBytes 1 (packBits [true, c.factory]) ++ leBytes 1 0 ++
        leBytesInt 2 (dacSkewOf g d c) ++ leBytesInt 2 c.temp ++ leBytes 1 first ++ leBytes 1 count ++ (List.range
        count).flatMap (fun n => leBytesInt 2 (charPoint g d (first + n) c).1 ++ leBytesInt 2 (charPoint g d (first + n)
        c).2)) s)) ∧
    (∀ (p : Packet) (s₀ s : State),
      Granted { modCmd 0x0307 4 with maintenance := true } p s₀ s →
      let g := u8 p.params 0;
      let close := u8 p.params 1 = 1;
      g ≤ 1 →
      u8 p.params 1 ≤ 1 →
      leNat (bytesAt 2 2 p.params) = 0 →
      (s.group g).powered = true →
      exec (.cnvLoop p) s₀ = .next (answered 0x0307 p s₀ .ok [] (if (s.group g).loop = close then s else
        pktRefresh (reacquire g 2 (modGroup g (fun x => { x with loop := close }) s)))))

/-- The events of the coherent DSP (chapter 06): each event answers a next state, with all of its effect. -/
def Obligations.Dsp_events_take_their_effect : Prop :=
    (∀ (engine : Fin 2) (meas : DspMeasure) (s : State),
      let x := s.engine engine.val;
      (x.state = .off →
          exec (.dspBlockBoundary engine meas) s = .next (convertersBlock engine.val s)) ∧
      (x.state ≠ .off →
      let s1 := modEngine engine.val (fun y => { y with
          eqForce := y.eq
          rxForce := y.rx
          nlcInUse := y.nlcReady
          nlcBase := y.nlc.stages
          nlcCut := s.dsp.nlcDrop
          rateCut := s.dsp.rateLimit
          cdEst := if y.state = .locked then clampInt (y.cdStart - 500) (y.cdStart + 500) (y.cdEst + meas.cdShift) else y.cdEst
          meas := meas
          skewEst := meas.skewEst
          snrSumX := y.snrSumX + meas.snrX
          snrSumY := y.snrSumY + meas.snrY
          snrCount := y.snrCount + 1
          slips := satAdd 0xFFFFFFFF y.slips meas.slips
          pilotErr := satAdd 0xFFFFFFFF y.pilotErr meas.pilotErrors
          clips := satAdd 0xFFFFFFFF y.clips meas.clipped
          fast := y.fast.map (fun f => { f with peak := max f.peak meas.sopRate }) }) (convertersBlock engine.val s);
      exec (.dspBlockBoundary engine meas) s = .next (monBlock engine.val (cdBlock engine.val (if x.fastExit then fastExitNow
        engine.val s1 else s1))))) ∧
    (∀ (engine : Fin 2) (s : State),
      let x := s.engine engine.val;
      exec (.dspLosDeclared engine) s = .next (if x.state ≠ .off ∧ ¬ x.dlos then pktRefresh (setLock engine.val .noSignal
        true 1 (modEngine engine.val (fun y => { y with regaining := false }) s)) else s)) ∧
    (∀ (engine : Fin 2) (s : State),
      exec (.dspLosCleared engine) s = .next (if (s.engine engine.val).dlos then toCdAcq engine.val 1 s else s)) ∧
    (∀ (engine : Fin 2) (s : State),
      let x := s.engine engine.val;
      exec (.dspCdFilterSet engine) s = .next (if x.state = .cdAcq ∧ ¬ x.searching then setLock engine.val .clockAcq false 0
        (modEngine engine.val (fun y => { y with
            cdEst := if y.cdFresh ∧ ¬ y.cd.search then y.cd.value else y.cdEst
            cdStart := if y.cdFresh ∧ ¬ y.cd.search then y.cd.value else y.cdEst
            cdFresh := if y.cd.search then y.cdFresh else false }) s) else s)) ∧
    (∀ (engine : Fin 2) (s : State),
      let st := (s.engine engine.val).state;
      exec (.dspClockAcquired engine) s = .next (if st = .clockAcq ∨ st = .switching then pktRefresh (setLock engine.val
        .eqAcq false 0 s) else s)) ∧
    (∀ (engine : Fin 2) (s : State),
      exec (.dspEqPreconverged engine) s = .next (if (s.engine engine.val).state = .eqAcq then setLock engine.val .sync false
        0 s else s)) ∧
    (∀ (engine : Fin 2) (s : State),
      (s.engine engine.val).state = .sync →
      let s1 := setLock engine.val .locked false 0 (modEngine engine.val (fun y =>
        { y with acqRetry := 0, failedReacq := 0, regaining := false }) s);
      let s2 := match (s1.engine engine.val).change with | some c => if c.started then profileDone engine.val .ok s1 else s1 | none => s1;
      exec (.dspSyncWordFound engine) s = .next (pktRefresh (plkRefresh (engineReady engine.val (framerRestart engine.val
        s2))))) ∧
    (∀ (engine : Fin 2) (s : State),
      let x := s.engine engine.val;
      exec (.dspAcqStageTimeout engine) s = .next (if x.live ∧ x.state ≠ .locked then pktRefresh <| toCdAcq engine.val 0
        (modEngine engine.val (fun y => { y with
            acqRetry := satAdd 0xFF y.acqRetry 1
            failedReacq := if y.regaining then y.failedReacq else y.failedReacq + 1 }) s) else s)) ∧
    (∀ (engine : Fin 2) (s : State),
      exec (.dspSyncLost engine) s = .next (if (s.engine engine.val).state = .locked then setLock engine.val .sync false 2
        (modEngine engine.val (fun y => { y with regaining := true }) s) else s)) ∧
    (∀ (engine : Fin 2) (found : Option Int) (s : State),
      let x := s.engine engine.val;
      (x.searching = true ∧ x.state = .cdAcq) →
      (∀ v, found.filter (searchFinds x.cd) = some v →
          exec (.dspCdSearchComplete engine found) s = .next (pktRefresh (setLock engine.val .clockAcq false 0 (searchDone
            engine.val .ok v (modEngine engine.val (fun y => { y with cdEst := v, cdStart := v, cdFound := true, cdFresh := false }) s)))))
            ∧
      (found.filter (searchFinds x.cd) = none →
          exec (.dspCdSearchComplete engine found) s = .next (searchDone engine.val .timeout x.cdEst (modEngine engine.val
            (fun y => { y with cdFresh := false }) s)))) ∧
    (∀ (engine : Fin 2) (s : State),
      let x := s.engine engine.val;
      ∀ src, x.fastRequest = some src →
      let s1 := modEngine engine.val (fun y => { y with fastRequest := none }) s;
      let inChange := (x.change.map (fun c => c.started)).getD false;
      ((x.eqForce.fsopEn = false ∨ x.state ≠ .locked ∨ inChange = true) →
          exec (.fastsopEntry engine) s = .next (modEngine engine.val (fun y =>
            { y with ignored := satAdd 0xFFFF y.ignored 1 }) s1)) ∧
      ((x.eqForce.fsopEn = true ∧ x.state = .locked ∧ inChange = false) →
          ((x.fast.isSome = true ∧ x.fastExit = false) →
              exec (.fastsopEntry engine) s = .next (modEngine engine.val (fun y =>
                { y with fast := y.fast.map (fun f => { f with holdEnd := s.tim.now + y.eqForce.hold * 1000000000 }) }) s1)) ∧
          ((x.fast.isSome = true → x.fastExit = true) →
              exec (.fastsopEntry engine) s = .next (fastEnter engine.val src (fastExitNow engine.val s1))))) ∧
    (∀ (engine : Fin 2) (s : State),
      exec (.fastsopHoldExpiry engine) s = .next (modEngine engine.val (fun x => { x with fastExit := x.fast.isSome }) s)) ∧
    (∀ (engine : Fin 2) (s : State),
      exec (.nlcComputeComplete engine) s = .next (modEngine engine.val (fun x => if x.nlcComputing then
        { x with nlcComputing := false, nlcReady := x.nlc.stages } else x) s)) ∧
    (∀ (engine : Fin 2) (boostLimited : BitVec 4) (s : State),
      (s.engine engine.val).recomputing = true →
      let f := txWanted engine.val s;
      let st : Status := if boostMask engine.val f = 0 then .ok else .partly;
      exec (.txpdRecomputeComplete engine boostLimited) s = .next (completeOr 0x0406 engine.val st 4 5 (leBytes 1 engine.val ++ leBytes 1
        st.code ++ leBytes 1 (boostMask engine.val f) ++ leBytes 1 0) (modEngine engine.val (fun x =>
        { x with recomputing := false, txReady := some f }) s))) ∧
    (∀ (engine : Fin 2) (s : State),
      ∀ c, (s.engine engine.val).change = some c →
      c.started = false →
      exec (.profileSwitchInstant engine) s = .next (switchNow engine.val (advanceToTod c.seconds c.nanoseconds s))) ∧
    (∀ (engine : Fin 2) (s : State),
      ∀ c, (s.engine engine.val).change = some c →
      (c.started = true ∧ c.txDone = false) →
      exec (.profileTxBoundary engine) s = .next (pktRefresh (plkRefresh (sendStructure 0 engine.val (framerRestart engine.val
        (switchTx engine.val (applyAtSwitch engine.val s))))))) ∧
    (∀ (engine : Fin 2) (s : State),
      ∀ c, (s.engine engine.val).change = some c →
      (c.started = true ∧ (s.engine engine.val).state ≠ .locked) →
      exec (.profileSwitchTimeout engine) s = .next (profileDone engine.val .timeout s))

/-- The commands of group 0x04 (chapter 06): where the pipeline grants its packet and its own checks pass, each command
answers as its rule says. -/
def Obligations.Dsp_commands_take_their_effect : Prop :=
    (∀ (p : Packet) (s₀ s : State),
      Granted (modCmd 0x0401 16) p s₀ s →
      let e := u8 p.params 0;
      let sel : ProfileSel := ⟨u8 p.params 1, u8 p.params 2, u8 p.params 3⟩;
      let sec := u48 p.params 4;
      let ns := u32 p.params 12;
      let x := s.engine e;
      e ≤ 1 →
      sel.profile ≤ 7 →
      (sel.pilot ≤ 2 ∧ pilotAllowed sel.profile sel.pilot = true) →
      (sel.rolloff ≠ 0 ∧ sel.rolloff ≤ 20) →
      todAhead sec ns 1000 s = false →
      leNat (bytesAt 10 2 p.params) = 0 →
      ns ≤ 999999999 →
      (s.dev.mode = .standby →
          planSlots e s ≤ profileSlots sel.profile →
          x.cdEst.natAbs ≤ cdRange sel.profile →
          x.change.isSome = false →
          exec (.dspProfileSet p) s₀ = .next (answered 0x0401 p s₀ .ok [] (modEngine e (fun y =>
            { y with stored := some sel }) s))) ∧
      (s.dev.mode ≠ .standby →
          ((sel = x.sel ∧ x.change.isNone = true) →
              exec (.dspProfileSet p) s₀ = .next (answered 0x0401 p s₀ .ok [] s)) ∧
          ((sel = x.sel → x.change.isNone = false) →
              s.lineRef e = true →
              planSlots e s ≤ profileSlots sel.profile →
              x.cdEst.natAbs ≤ cdRange sel.profile →
              x.change.isSome = false →
              s.hif.deferred.length < 64 →
              let u := (deferredAs 0x0401 p s₀ e 4 2 (leBytes 1 e ++ leBytes 1 x.sel.profile ++ leBytes 1 13 ++ leBytes 5 0)
                s);
              let v := modEngine e (fun y => { y with change := some ⟨sel, sec, ns, false, 0, 0, false⟩ }) u;
              exec (.dspProfileSet p) s₀ = .next (endOrigin (if todPast sec ns u then switchNow e v else v))))) ∧
    (∀ (p : Packet) (s₀ s : State),
      Granted (modCmd 0x0402 16) p s₀ s →
      let e := u8 p.params 0;
      let search := decide (u8 p.params 1 = 1);
      let cd : CdCfg := ⟨search, s32 p.params 4, u32 p.params 8, u32 p.params 12⟩;
      let x := s.engine e;
      let reach := cd.value.natAbs + (if search then cd.halfWidth else 0);
      let hold := !search && decide (x.state = .locked) && decide ((cd.value - x.cdEst).natAbs ≤ 500) && decide (((cd.carrier
        : Int) - x.cd.carrier).natAbs ≤ 1000);
      let stored := modEngine e (fun y => { y with cd := cd, cdFound := false, cdFresh := true, cdNext := none });
      e ≤ 1 →
      u8 p.params 1 ≤ 1 →
      leNat (bytesAt 2 2 p.params) = 0 →
      reach ≤ cdLimit x →
      (search = true → cd.halfWidth ≤ 400000) →
      (184000000 ≤ cd.carrier ∧ cd.carrier ≤ 197000000) →
      x.searching = false →
      (hold = true →
          exec (.dspCdSet p) s₀ = .next (answered 0x0402 p s₀ .ok [] (modEngine e (fun y =>
            { y with cdNext := some cd.value }) (stored s)))) ∧
      (hold = false →
          ((search = true ∧ modePowered s.dev.mode = true) →
              s.hif.deferred.length < 64 →
              let u := (deferredAs 0x0402 p s₀ e 4 4 (leBytes 1 e ++ leBytes 1 13 ++ leBytes 2 0 ++ leBytesInt 4 x.cdEst) s);
              exec (.dspCdSet p) s₀ = .next (endOrigin (cdAgain e (modEngine e (fun y =>
                { y with searching := true, searchByCommand := true }) (stored u))))) ∧
          ((search = true → modePowered s.dev.mode = false) →
              exec (.dspCdSet p) s₀ = .next (answered 0x0402 p s₀ .ok [] (cdAgain e (stored s)))))) ∧
    (∀ (p : Packet) (s₀ s : State),
      Granted (modCmd 0x0403 8) p s₀ s →
      let e := u8 p.params 0;
      let eq : EqCfg := ⟨u8 p.params 1, u8 p.params 2, bit (u8 p.params 3) 0, u16 p.params 4⟩;
      e ≤ 1 →
      (eq.taps % 2 ≠ 0 ∧ 15 ≤ eq.taps ∧ eq.taps ≤ 63) →
      eq.rate ≤ 3 →
      u8 p.params 3 ≤ 1 →
      eq.hold ≠ 0 →
      eq.hold ≤ 1000 →
      leNat (bytesAt 6 2 p.params) = 0 →
      exec (.dspEqSet p) s₀ = .next (answered 0x0403 p s₀ .ok [] (modEngine e (fun x => { x with eq := eq }) s))) ∧
    (∀ (p : Packet) (s₀ s : State),
      Granted (modCmd 0x0404 16) p s₀ s →
      let e := u8 p.params 0;
      let n : NlcCfg := ⟨u8 p.params 1, u16 p.params 2, u16 p.params 4, u16 p.params 6, u16 p.params 8, u16 p.params 10, s16
        p.params 12⟩;
      let on := decide (0 < n.stages);
      e ≤ 1 →
      n.stages ≤ 8 →
      (on = true → n.spans ≠ 0) →
      (on = true → n.spans ≤ 250) →
      (on = true → 100 ≤ n.spanLength ∧ n.spanLength ≤ 1500) →
      (on = true → 100 ≤ n.dispersion ∧ n.dispersion ≤ 2500) →
      (on = true → 500 ≤ n.gamma ∧ n.gamma ≤ 3000) →
      (on = true → 140 ≤ n.attenuation ∧ n.attenuation ≤ 300) →
      (on = true → n.power.natAbs ≤ 1000) →
      leNat (bytesAt 14 2 p.params) = 0 →
      exec (.dspNlcSet p) s₀ = .next (answered 0x0404 p s₀ .ok [] (modEngine e (fun x =>
        { x with nlc := if on then n else { x.nlc with stages := 0 }, nlcComputing := true, nlcReady := x.nlcInUse }) s))) ∧
    (∀ (p : Packet) (s₀ s : State),
      Granted (modCmd 0x0405 16) p s₀ s →
      let e := u8 p.params 0;
      let rx : RxCfg := ⟨u16 p.params 2, u16 p.params 4, fourS16 p.params 8⟩;
      (∀ chk ∈ [badParam 0 (1 < e), reservedBytes p.params 1 1, badParam 2 (rx.losSet < 8 ∨ 511 < rx.losSet), badParam 4
        (rx.losClear ≤ rx.losSet ∨ 512 < rx.losClear), reservedBytes p.params 6 2] ++ (List.range 4).map (fun l => badParam
        (8 + 2 * l) (10000 < (s16 p.params (8 + 2 * l)).natAbs)), chk.bad = false) →
      exec (.dspRxSet p) s₀ = .next (answered 0x0405 p s₀ .ok [] (modEngine e (fun x => { x with rx := rx }) s))) ∧
    (∀ (p : Packet) (s₀ s : State),
      Granted (modCmd 0x0406 24) p s₀ s →
      let e := u8 p.params 0;
      let f := u8 p.params 1;
      let tx : TxCfg := ⟨bit f 0, u8 p.params 2, u8 p.params 3, fourS16 p.params 4, s16 p.params 12, s16 p.params 14, s16
        p.params 16, s16 p.params 18⟩;
      let x := s.engine e;
      let store := fun (u : State) => modEngine e (fun y =>
        let y1 := { y with tx := tx, txReady := none }; if bit f 1 then
        { y1 with respHost := true, respApplied := y.respStaged, respStaged := [] } else if bit f 2 then
        { y1 with respHost := false, respApplied := [], respStaged := [] } else y1) u;
      (∀ chk ∈ [badParam 0 (1 < e), badParam 1 (8 ≤ f ∨ (bit f 1 ∧ bit f 2)), badParam 2 (15 < tx.maxBoost), badParam 3 (80 <
        tx.drive)] ++ (List.range 4).map (fun l => badParam (4 + 2 * l) (10000 < (s16 p.params (4 + 2 * l)).natAbs)) ++
        [badParam 12 (100 < tx.xGain.natAbs), badParam 14 (1000 < tx.xPhase.natAbs), badParam 16 (100 < tx.yGain.natAbs),
        badParam 18 (1000 < tx.yPhase.natAbs), reservedBytes p.params 20 4, failIf .badState (bit f 1 && !respComplete x),
        failIf .busy (x.recomputing && decide (s.dev.mode ≠ .standby))], chk.bad = false) →
      (s.dev.mode = .standby →
          exec (.dspTxSet p) s₀ = .next (answered 0x0406 p s₀ .ok [] (store s))) ∧
      (s.dev.mode ≠ .standby →
          s.hif.deferred.length < 64 →
          exec (.dspTxSet p) s₀ = .next (endOrigin (startTxpd e (store (deferredAs 0x0406 p s₀ e 4 5 (leBytes 1 e ++ leBytes 1 13 ++ leBytes 2 0) s)))))) ∧
    (∀ (p : Packet) (s₀ s : State),
      Granted { modCmd 0x0407 0 with lenOk := fun ps => 8 ≤ ps.length } p s₀ s →
      let e := u8 p.params 0;
      let lane := u8 p.params 1;
      let first := u8 p.params 2;
      let count := u8 p.params 3;
      (∀ chk ∈ [badParam 0 (1 < e), badParam 1 (3 < lane), badParam 2 (63 < first), badLen 3 (count = 0), badLen 3 (fromBmc p
        && decide (54 < count)), badLen 3 (p.params.length ≠ 8 + 4 * count), badParam 3 (64 < first + count), reservedBytes
        p.params 4 4] ++ (List.range count).flatMap (fun n => [badParam (8 + 4 * n) (2000 < (s16 p.params (8 + 4 *
        n)).natAbs), badParam (10 + 4 * n) (18000 < (s16 p.params (10 + 4 * n)).natAbs)]), chk.bad = false) →
      exec (.dspTxRespLoad p) s₀ = .next (answered 0x0407 p s₀ .ok [] (modEngine e (fun x => { x with
          respStaged := (List.range count).foldl (fun t n => tabInsert t (lane * 64 + first + n) (s16 p.params (8 + 4 * n),
            s16 p.params (10 + 4 * n))) x.respStaged }) s))) ∧
    (∀ (p : Packet) (s₀ s : State),
      Granted (modCmd 0x0408 4) p s₀ s →
      let e := u8 p.params 0;
      let enter := decide (u8 p.params 1 = 1);
      let x := s.engine e;
      e ≤ 1 →
      u8 p.params 1 ≤ 1 →
      leNat (bytesAt 2 2 p.params) = 0 →
      (enter = true → x.eqForce.fsopEn = true ∧ x.state = .locked) →
      exec (.dspFastsopForce p) s₀ = .next (answered 0x0408 p s₀ .ok [] (if enter then fastRequest e 1 s else if
        x.fast.isSome then modEngine e (fun y => { y with fastExit := true }) s else s))) ∧
    (∀ (p : Packet) (s₀ s : State),
      Granted { modCmd 0x0409 8 with maintenance := true } p s₀ s →
      let e := u8 p.params 0;
      e ≤ 1 →
      u8 p.params 1 ≤ 3 →
      leNat (bytesAt 2 2 p.params) = 0 →
      (s32 p.params 4).natAbs ≤ 160000 →
      (s.engine e).state ≠ .off →
      exec (.dspTestPattern p) s₀ = .next (answered 0x0409 p s₀ .ok [] (modEngine e (fun x =>
        { x with test := u8 p.params 1, tone := s32 p.params 4 }) s))) ∧
    (∀ (p : Packet) (s₀ s : State),
      Granted (readCmd 0x040A 4) p s₀ s →
      let e := u8 p.params 0;
      e ≤ 1 →
      leNat (bytesAt 1 3 p.params) = 0 →
      (s.engine e).state ≠ .off →
      exec (.dspQualityGet p) s₀ = .next (answered 0x040A p s₀ .ok (qualityRecord e s) s))

/-- The events and commands of the soft-decision FEC (chapter 07): each event answers a next state with all of its effect, and
each granted command whose own checks pass answers as its rule says. -/
def Obligations.Soft_decision_rows_take_their_effect : Prop :=
    (∀ (engine : Fin 2) (bits : Nat) (zeroAt : Option Nat) (s : State),
      (s.fec.powered = true ∧ (s.engine engine.val).state = .locked) →
      let s1 := fecRecompute { s with fec := { s.fec with ceilUse := s.fec.ceilCfg, reserveUse := s.fec.reserve } };
      let c := ceilingForce s1;
      let ofec := engineOfec engine.val s1;
      let b : CodeBlock := ⟨s1.fec.nextBlock, engine.val, if ofec then bits else 245760, c, s1.tim.now + 1000 *
        decoderLatency ofec c, zeroAt, 0, .waiting, false⟩;
      exec (.fecBlockArrival engine bits zeroAt) s = .next
        ({ s1 with fec := { s1.fec with blocks := s1.fec.blocks ++ [b], nextBlock := s1.fec.nextBlock + 1 } })) ∧
    (∀ (s : State),
      let s1 := (List.range 48).foldl (fun u k => endIteration k u) s;
      let s2 := (List.range 48).foldl (fun u k => assignCore k u) s1;
      exec .fecIterationBoundary s = .next ((List.range 48).foldl (fun u k => yieldCore k u) s2)) ∧
    (∀ (block : Nat) (result : DecodeResult) (s : State),
      ∀ b, s.block block = some b →
      let starved := s.fec.overload && !startedFirst b && !b.poison;
      let poison := b.poison || starved;
      let uncorr := poison || result.uncorrected;
      let s1 := modFecEngine b.engine (countBlock b poison uncorr result) (lifeBlock (if poison then 0 else result.corrected)
        (discardBlocks (fun x => x.id ≠ block) s));
      exec (.fecBlockDelivery block result) s = .next (countFill b.engine result.fillErr (countUncorr b.engine uncorr
        { s1 with fec := { s1.fec with overloadPoison := s1.fec.overloadPoison + b2n starved } }))) ∧
    (∀ (core : Fin 48) (s : State),
      let c := s.core core.val;
      exec (.fecKatDue core) s = .next (if s.fec.powered && !c.retired && !c.retest then modCore core.val (fun x =>
        { x with kat := true }) s else s)) ∧
    (∀ (core : Fin 48) (passed : Bool) (s : State),
      let c := s.core core.val;
      c.kat = true →
      (passed = true →
          exec (.fecKatComplete core passed) s = .next (modCore core.val (fun x =>
            { x with kat := false, katAfterError := false, katPass := satAdd 0xFFFF x.katPass 1 }) s)) ∧
      (passed = false →
          exec (.fecKatComplete core passed) s = .next (retireCore core.val c.katAfterError s))) ∧
    (∀ (engine : Fin 2) (s : State),
      let x := s.fecEngine engine.val;
      let t := thresholds engine.val s;
      s.fec.powered = true →
      (x.winBlocks = 0 →
          exec (.fecWindowEnd engine) s = .next (modFecEngine engine.val (fun y =>
            { y with noBlocks := true, skeon := y.skeonNext, ofec := y.ofecNext }) s)) ∧
      (x.winBlocks ≠ 0 →
          let sat := decide (x.winBlocks < 100 * x.winUncorr);
          let ber := if sat then 1000000000 else x.winCorrected * 1000000000 / x.winBits;
          exec (.fecWindowEnd engine) s = .next (frmWindow engine.val (decide (t.sd ≤ ber)) (decide (t.sf ≤ ber))
            (modFecEngine engine.val (fun y => { y with
                noBlocks := false
                sat := sat
                ber := ber
                sd := decide (t.sd ≤ ber)
                sf := decide (t.sf ≤ ber)
                winBlocks := 0
                winBits := 0
                winCorrected := 0
                winUncorr := 0
                skeon := y.skeonNext
                ofec := y.ofecNext
                live := { y.live with
                    sdWindows := y.live.sdWindows + b2n (decide (t.sd ≤ ber))
                    sfWindows := y.live.sfWindows + b2n (decide (t.sf ≤ ber)) } }) s)))) ∧
    (∀ (s : State),
      exec .fecCeilingPacingEnd s = .next (ceilingCheck { s with fec := { s.fec with pacing := false } })) ∧
    (∀ (core : Fin 48) (passed : Nat) (s : State),
      (s.core core.val).retest = true →
      let ok := decide (1000 ≤ passed);
      let s1 := modCore core.val (fun c =>
        { c with retest := false, retired := !ok, katPass := satAdd 0xFFFF c.katPass passed }) s;
      let s2 := if ok then fecRecompute (logCores s1) else s1;
      let st : Status := if ok then .ok else .integrity;
      exec (.coreRetestComplete core passed) s = .next (completeOr 0x0505 core.val st 5 4 (leBytes 1 core.val ++ leBytes 1
        st.code ++ leBytes 2 0 ++ leBytes 4 passed) s2)) ∧
    (∀ (failed : BitVec 48) (s : State),
      (modePowered s.dev.mode = true ∧ s.fec.powered = false) →
      let s1 := (List.range 48).foldl (fun u k => if (u.core k).retired then u else if failed.getLsbD k then retireCore k
        false u else modCore k (fun c => { c with katPass := satAdd 0xFFFF c.katPass 1 }) u) s;
      let s2 := { s1 with
          fec := { s1.fec with powered := true, ceilUse := s1.fec.ceilCfg, reserveUse := s1.fec.reserve, pacing := false } };
      exec (.poolSelfcheckComplete failed) s = .next (overloadCheck
        { s2 with fec := { s2.fec with reported := ceilingForce s2 } })) ∧
    (∀ (p : Packet) (s₀ s : State),
      Granted (modCmd 0x0501 4) p s₀ s →
      let c := u8 p.params 0;
      let w := u8 p.params 1;
      (2 ≤ c ∧ c ≤ 24) →
      w ≤ 3 →
      leNat (bytesAt 2 2 p.params) = 0 →
      exec (.fecCfgSet p) s₀ = .next (answered 0x0501 p s₀ .ok []
        { s with fec := { s.fec with ceilCfg := c, windowCfg := w } })) ∧
    (∀ (p : Packet) (s₀ s : State),
      Granted (modCmd 0x0502 12) p s₀ s →
      let e := u8 p.params 0;
      let t : FecThr := ⟨u32 p.params 4, u32 p.params 8⟩;
      e ≤ 1 →
      u8 p.params 1 ≤ 1 →
      leNat (bytesAt 2 2 p.params) = 0 →
      (t.sd ≠ 0 ∧ t.sd ≤ 1000000000) →
      (t.sd ≤ t.sf ∧ t.sf ≤ 1000000000) →
      exec (.fecThrSet p) s₀ = .next (answered 0x0502 p s₀ .ok [] (modFecEngine e (fun x => if u8 p.params 1 = 0 then
        { x with skeonNext := t } else { x with ofecNext := t }) s))) ∧
    (∀ (p : Packet) (s₀ s : State),
      Granted (readCmd 0x0503 4) p s₀ s →
      let e := u8 p.params 0;
      modePowered s.dev.mode = true →
      e ≤ 1 →
      leNat (bytesAt 1 3 p.params) = 0 →
      exec (.fecStatsGet p) s₀ = .next (answered 0x0503 p s₀ .ok (statsRecord e s) s)) ∧
    (∀ (p : Packet) (s₀ s : State),
      Granted (readCmd 0x0504 0) p s₀ s →
      exec (.fecPoolGet p) s₀ = .next (answered 0x0504 p s₀ .ok (poolRecord s) s)) ∧
    (∀ (p : Packet) (s₀ s : State),
      Granted (modCmd 0x0505 4) p s₀ s →
      let k := u8 p.params 0;
      s.dev.mode = .standby →
      k ≤ 47 →
      leNat (bytesAt 1 3 p.params) = 0 →
      (s.core k).retired = true →
      s.fec.cores.toList.any (fun c => c.retest) = false →
      s.hif.deferred.length < 64 →
      exec (.fecCoreRetest p) s₀ = .next (endOrigin (modCore k (fun c => { c with retest := true }) (deferredAs 0x0505 p s₀ k 5 4
        (leBytes 1 k ++ leBytes 1 13 ++ leBytes 6 0) s)))) ∧
    (∀ (p : Packet) (s₀ s : State),
      Granted { modCmd 0x0506 8 with maintenance := true } p s₀ s →
      let e := u8 p.params 0;
      e ≤ 1 →
      leNat (bytesAt 1 3 p.params) = 0 →
      u32 p.params 4 ≤ 100000000 →
      (s.engine e).state ≠ .off →
      exec (.fecErrInject p) s₀ = .next (answered 0x0506 p s₀ .ok [] (modFecEngine e (fun x =>
        { x with inject := u32 p.params 4 }) s)))

/-- The events and commands of framing and performance monitoring (chapter 08): each event answers a next state with all of
its effect, and each granted command whose own checks pass answers as its rule says. -/
def Obligations.Framing_rows_take_their_effect : Prop :=
    (∀ (writer : Writer) (value : Word) (s : State),
      (writer = .host ∨ writer = .ac ∨ writer = .tc) →
      let v := value.toNat;
      let old := s.frm.sel.toNat;
      let kind := bits v 1 0;
      let bin := if bits v 12 8 ≤ 18 then bits v 12 8 else bits old 12 8;
      let unit := if bits v 31 24 < kindSize kind then bits v 31 24 else bits old 31 24;
      exec (.frmPmSelWrite writer value) s = .next ({ s with
          frm := { s.frm with
              sel := BitVec.ofNat 32 (kind + 2 ^ 8 * bin + 2 ^ 24 * unit)
              selData := historyRecord (s.pmUnit (kind * 256 + unit)) bin } })) ∧
    (∀ (scope : Fin 3) (unit : Fin 256) (frame : FrameIn) (s : State),
      (scope.val = 0 →
          (unit.val < 2 ∧ (s.engine unit.val).state = .locked) →
          exec (.frmFrameReceived scope unit frame) s = .next (afterFrame 0 unit.val (modUnit (engineKey unit.val) (unitFrame
            (s.unit (engineKey unit.val)).flexoSync (engineCounts unit.val s) frame) s))) ∧
      (scope.val ≠ 0 →
          (scope.val = 1 →
              ∀ x, s.entry unit.val = some x →
              ((s.engine x.engine).state = .locked ∧ engineAligned x.engine s = true) →
              let s1 := modUnit (tribKey unit.val) (tribFrame (engineCounts x.engine s) frame) s;
              exec (.frmFrameReceived scope unit frame) s = .next (afterFrame 1 unit.val (takeDelay unit.val frame s1))) ∧
          (scope.val ≠ 1 →
              let u := s.unit (cifKey unit.val);
              (unit.val < 32 ∧ u.otn ≠ 0) →
              exec (.frmFrameReceived scope unit frame) s = .next (afterFrame 2 unit.val (modUnit (cifKey unit.val) (unitFrame
                (cifFed unit.val s) true { frame with rsUncorr := if u.otn = 1 then frame.rsUncorr else 0 }) s))))) ∧
    (∀ (scope : Fin 3) (unit : Fin 256) (mfas : Nat) (s : State),
      (scope.val = 0 →
          (unit.val < 2 ∧ modePowered s.dev.mode = true) →
          exec (.frameBoundary scope unit mfas) s = .next (tidied unit.val (sendOverhead 0 unit.val (pktRefresh (unitBoundary 0 unit.val
            mfas (engineTidy unit.val s)))))) ∧
      (scope.val ≠ 0 →
          (scope.val = 1 →
              (s.entry unit.val).isSome = true →
              modePowered s.dev.mode = true →
              let s1 := if s.dev.mode = .quiesce then modPort unit.val (fun y => { y with stopped := true }) s else s;
              exec (.frameBoundary scope unit mfas) s = .next (tidied (256 + unit.val) (sendOverhead 1 unit.val (pktRefresh
                (tribBoundary unit.val (cphTribBoundary unit.val (unitBoundary 1 unit.val mfas s1))))))) ∧
          (scope.val ≠ 1 →
              unit.val < 32 →
              let s1 := clnCifBoundary unit.val (unitBoundary 2 unit.val mfas s);
              exec (.frameBoundary scope unit mfas) s = .next (tidied (512 + unit.val) (sendOverhead 2 unit.val (pktRefresh
                ((s1.map.plan.filter (fun x => x.2.cif = unit.val)).foldl (fun u x => tribBoundary x.1 u) s1))))))) ∧
    (∀ (scope : Fin 3) (unit : Fin 256) (codes : BitVec 21) (s : State),
      exec (.defectDeclared scope unit codes) s = .next (pktRefresh (declareDefects scope.val unit.val codes s))) ∧
    (∀ (scope : Fin 3) (unit : Fin 256) (codes : BitVec 21) (s : State),
      exec (.defectCleared scope unit codes) s = .next (pktRefresh (clearDefects scope.val unit.val codes s))) ∧
    (∀ (scope : Fin 3) (unit : Fin 256) (s : State),
      let k := scope.val * 256 + unit.val;
      let u := s.unit k;
      u.pacing = true →
      (u.changed = 0 →
          exec (.defectPacingEnd scope unit) s = .next (modUnit k (fun v => { v with pacing := false }) s)) ∧
      (u.changed ≠ 0 →
          exec (.defectPacingEnd scope unit) s = .next (reportDefects k s))) ∧
    (∀ (p : Packet) (s₀ s : State),
      Granted (modCmd 0x0601 8) p s₀ s →
      let scope := u8 p.params 0;
      let code := u8 p.params 1;
      let unit := u16 p.params 2;
      let set := u16 p.params 4;
      let clear := u16 p.params 6;
      let windows := decide (code = 8) || decide (code = 9);
      let deg := decide (code = 7) || decide (code = 15);
      scope ≤ 2 →
      (scopeCodes scope).contains code = true →
      (unit ≠ 0xFFFF → unit < scopeSize scope) →
      (windows = true → set ≠ 0) →
      (if windows then set ≤ 255 else if deg then set ≠ 0 ∧ set ≤ 10000 else set ≤ 10000) →
      (windows = true → clear ≠ 0) →
      (if windows then clear ≤ 255 else if deg then 2 ≤ clear ∧ clear ≤ 10 else clear ≤ 10000) →
      exec (.frmDefectCfgSet p) s₀ = .next (answered 0x0601 p s₀ .ok [] (writeCfg scope (namedUnits (scopeSize scope) unit)
        (fun c => { c with times := tabInsert c.times code (set, clear) }) s))) ∧
    (∀ (p : Packet) (s₀ s : State),
      Granted (modCmd 0x0602 136) p s₀ s →
      let layer := u8 p.params 0;
      let unit := u16 p.params 2;
      let fl := u8 p.params 4;
      let new := fun (c : TtiCfg) => TtiCfg.mk (u8 p.params 1) (bit fl 0) (if bit fl 1 then bytesAt 8 64 p.params else c.tx)
        (if bit fl 2 then bytesAt 72 64 p.params else c.exp);
      layer ≤ 3 →
      u8 p.params 1 ≤ 3 →
      unit < scopeSize (ttiScope layer) →
      ttiPresent layer unit s = true →
      fl ≤ 7 →
      leNat (bytesAt 5 3 p.params) = 0 →
      exec (.frmTtiSet p) s₀ = .next (answered 0x0602 p s₀ .ok [] (writeCfg (ttiScope layer) [unit] (fun c => if ttiIsSm
        layer then { c with sm := new c.sm } else { c with pm := new c.pm }) s))) ∧
    (∀ (p : Packet) (s₀ s : State),
      Granted (readCmd 0x0603 4) p s₀ s →
      let layer := u8 p.params 0;
      let unit := u16 p.params 2;
      let u := s.unit (ttiScope layer * 256 + unit);
      let c := ttiOf u.cfg layer;
      let l := if ttiIsSm layer then u.sm else u.pm;
      layer ≤ 3 →
      leNat (bytesAt 1 1 p.params) = 0 →
      unit < scopeSize (ttiScope layer) →
      ttiPresent layer unit s = true →
      exec (.frmTtiGet p) s₀ = .next (answered 0x0603 p s₀ .ok (leBytes 1 (packBits [l.tti.value.isSome, u.declared.getLsbD
        (if ttiIsSm layer then 4 else 13)]) ++ leBytes 1 c.mode ++ leBytes 1 (b2n c.timAct) ++ leBytes 1 0 ++ bytesAt 0 64
        (l.tti.value.getD []) ++ bytesAt 0 64 c.exp ++ bytesAt 0 64 c.tx) s)) ∧
    (∀ (p : Packet) (s₀ s : State),
      Granted (modCmd 0x0604 4) p s₀ s →
      u8 p.params 0 ≤ 1 →
      u8 p.params 1 ≤ 7 →
      leNat (bytesAt 2 2 p.params) = 0 →
      exec (.frmCaSet p) s₀ = .next (answered 0x0604 p s₀ .ok [] (writeCfg 0 [u8 p.params 0] (fun c =>
        { c with ca := u8 p.params 1 }) s))) ∧
    (∀ (p : Packet) (s₀ s : State),
      Granted (modCmd 0x0605 8) p s₀ s →
      (u8 p.params 0 ≠ 0 ∧ u8 p.params 0 ≤ 100) →
      leNat (bytesAt 1 3 p.params) = 0 →
      u32 p.params 4 ≤ 86399 →
      exec (.frmPmCfgSet p) s₀ = .next (answered 0x0605 p s₀ .ok [] (changeDayOffset (u32 p.params 4)
        { s with frm := { s.frm with sesThr := u8 p.params 0 } }))) ∧
    (∀ (p : Packet) (s₀ s : State),
      Granted (readCmd 0x0606 8) p s₀ s →
      let kind := u8 p.params 0;
      let first := u8 p.params 1;
      let unit := u16 p.params 2;
      let n := u8 p.params 4;
      kind ≤ 3 →
      first ≤ 18 →
      (unit < kindSize kind ∧ monitored kind unit s = true) →
      (n ≠ 0 ∧ (fromBmc p = true → n ≤ 3)) →
      first + n ≤ 19 →
      leNat (bytesAt 5 3 p.params) = 0 →
      exec (.frmPmRead p) s₀ = .next (answered 0x0606 p s₀ .ok (leBytes 1 n ++ leBytes 7 0 ++ (List.range n).flatMap (fun i
        => historyRecord (s.pmUnit (kind * 256 + unit)) (first + i))) s)) ∧
    (∀ (p : Packet) (s₀ s : State),
      Granted (modCmd 0x0607 4) p s₀ s →
      let kind := u8 p.params 0;
      let mask := u8 p.params 1;
      let unit := u16 p.params 2;
      let size := if kind = 0xFF then 256 else kindSize kind;
      (3 < kind → kind = 0xFF) →
      mask ≤ 7 →
      (unit ≠ 0xFFFF → unit < size) →
      exec (.frmPmClear p) s₀ = .next (answered 0x0607 p s₀ .ok [] { s with
          frm := { s.frm with
              pm := s.frm.pm.map (fun x => if (kind = 0xFF ∨ x.1 / 256 = kind) ∧ (unit = 0xFFFF ∨ x.1 % 256 = unit) then
                (x.1, clearPm mask x.2) else x) } })) ∧
    (∀ (p : Packet) (s₀ s : State),
      Granted (modCmd 0x0608 36) p s₀ s →
      u8 p.params 0 ≤ 3 →
      u8 p.params 1 ≤ 1 →
      leNat (bytesAt 2 2 p.params) = 0 →
      exec (.frmTcaSet p) s₀ = .next (answered 0x0608 p s₀ .ok [] { s with
          frm := { s.frm with
              tca := tabInsert s.frm.tca (u8 p.params 0 * 2 + u8 p.params 1) ((List.range 8).map (fun i => u32 p.params (4 +
                4 * i))) } })) ∧
    (∀ (p : Packet) (s₀ s : State),
      Granted { modCmd 0x0609 8 with maintenance := true } p s₀ s →
      let scope := u8 p.params 0;
      let action := u8 p.params 1;
      let unit := u16 p.params 2;
      let rate := u32 p.params 4;
      scope ≤ 2 →
      (action ≤ 5 ∧ (scope = 2 → 1 ≤ action → 3 < action)) →
      unit < scopeSize scope →
      (action = 5 → rate ≠ 0 ∧ rate ≤ 1000000) →
      exec (.frmMaintInsert p) s₀ = .next (answered 0x0609 p s₀ .ok [] (modUnit (scope * 256 + unit) (fun u =>
        { u with inserts := if action = 0 then [] else tabInsert u.inserts action (if action = 5 then rate else 0) }) s)))

/-- The events and commands of mapping and protection (chapter 09): each event answers a next state with all of its effect,
and each granted command whose own checks pass answers as its rule says. -/
def Obligations.Mapping_rows_take_their_effect : Prop :=
    (∀ (engine : Fin 2) (s : State),
      ∀ p, s.map.pending = some p →
      (modePowered s.dev.mode = true ∧ (if engine.val = 0 then p.done0 else p.done1) = false) →
      let s1 := advanceToTod p.seconds p.nanoseconds s;
      exec (.mapPlanApply engine) s = .next (if joinsSwitch engine.val p s1 then s1 else applyPart engine.val p s1)) ∧
    (∀ (trib : Fin 256) (s : State),
      ∀ x, s.entry trib.val = some x →
      (modePowered s.dev.mode = true ∧ pathSf trib.val s = false ∧ engineOut x.engine s = false) →
      exec (.demapperLocked trib) s = .next (pktRefresh (modTrib trib.val (fun y => { y with locked := true }) s))) ∧
    (∀ (working : Fin 256) (s : State),
      exec (.apsHoldoffExpiry working) s = .next (withGroup working.val (fun g u => if g.holding then setApsGroup working.val
        (apsDecide u.tim.now (workFails g.req) false { g with req := g.raw, holding := false }) u else u) s)) ∧
    (∀ (working : Fin 256) (s : State),
      exec (.apsWtrExpiry working) s = .next (withGroup working.val (fun g u => if g.wtrEnd.isSome then setApsGroup
        working.val (apsDecide u.tim.now false true { g with wtrEnd := none }) u else u) s)) ∧
    (∀ (working : Fin 256) (s : State),
      exec (.apsSelectorSwitch working) s = .next (withGroup working.val (fun g u => if g.want = g.sel ∨ modePowered
        u.dev.mode = false then u else
          let hit := decide (5 ≤ g.why) || delayExcess g || g.raw.sfW || g.raw.sfP; let g1 := { g with
            sel := g.want
            switches := satAdd 0xFFFFFFFF g.switches 1
            switchesRc := satAdd 0xFFFFFFFF g.switchesRc 1
            changes := g.changes + 1
            hit := g.hit || hit
            cause := g.why }; if g.pacing then setApsGroup working.val g1 u else apsReport working.val g1 u) s)) ∧
    (∀ (working : Fin 256) (far : FarEnd) (s : State),
      exec (.apsPccReceived working far) s = .next (withGroup working.val (fun g u => if !g.bidir then u else setApsGroup
        working.val (apsDecide u.tim.now (workFails g.req) false
        { g with farRank := far.rank.val, farProtection := far.protection, mismatchNow := far.differs || far.disagrees }) u)
        s)) ∧
    (∀ (working : Fin 256) (s : State),
      exec (.apsMismatchHeld working) s = .next (withGroup working.val (fun g u => if g.mismatch = g.mismatchNow then u else
        emit 7 3 (leBytes 2 working.val ++ leBytes 1 (b2n g.mismatchNow) ++ leBytes 1 g.farRank) (setApsGroup working.val
        { g with mismatch := g.mismatchNow } u)) s)) ∧
    (∀ (working : Fin 256) (s : State),
      exec (.apsPacingEnd working) s = .next (withGroup working.val (fun g u => if !g.pacing then u else if g.changes = 0
        then setApsGroup working.val { g with pacing := false } u else apsReport working.val g u) s)) ∧
    (∀ (p : Packet) (s₀ s : State),
      Granted (modCmd 0x0701 4) p s₀ s →
      u8 p.params 0 ≤ 1 →
      leNat (bytesAt 1 3 p.params) = 0 →
      exec (.mapPlanBegin p) s₀ = .next (answered 0x0701 p s₀ .ok []
        { s with map := { s.map with staging := some (if u8 p.params 0 = 1 then s.map.plan else []) } })) ∧
    (∀ (p : Packet) (s₀ s : State),
      Granted { modCmd 0x0702 0 with lenOk := fun b => b.length = 8 + 96 * u8 b 0 } p s₀ s →
      let n := u8 p.params 0;
      ∀ st, s.map.staging = some st →
      (∀ chk ∈ [badLen 0 (decide (n = 0) || decide ((if fromBmc p then 2 else 42) < n)), reservedBytes p.params 1 7] ++
        (loadEntries p.params n).flatMap (fun e => entryChecks e.1 e.2), chk.bad = false) →
      exec (.mapPlanLoad p) s₀ = .next (answered 0x0702 p s₀ .ok [] { s with
          map := { s.map with
              staging := some ((loadEntries p.params n).foldl (fun t e =>
                match parseEntry e.2 with | some x => tabInsert t (u16 e.2 0) x | none => tabErase t (u16 e.2 0)) st) } })) ∧
    (∀ (p : Packet) (s₀ s : State),
      Granted (modCmd 0x0703 20) p s₀ s →
      let sec := u48 p.params 8;
      let ns := u32 p.params 16;
      ∀ plan, s.map.staging = some plan →
      u32 p.params 0 ≠ 0 →
      u32 p.params 4 = planCrc plan →
      todAhead sec ns 1000 s = false →
      leNat (bytesAt 14 2 p.params) = 0 →
      ns < 1000000000 →
      planFails plan s = none →
      s.map.pending.isSome = false →
      let id := BitVec.ofNat 32 (u32 p.params 0);
      (s.dev.mode = .standby →
          exec (.mapPlanCommit p) s₀ = .next (answered 0x0703 p s₀ .ok (leBytes 4 0)
            { s with map := { s.map with staging := none, stored := some (id, plan) } })) ∧
      (s.dev.mode ≠ .standby →
          s.hif.deferred.length < 64 →
          let u := beginOrigin p.tag p.chan.val (answered 0x0703 p s₀ .deferred (leBytes 4 0) (addDeferred (senderOf 0x0703 p
            s₀) 0 7 1 (committedPayload id .aborted 0 0 0) s)); exec (.mapPlanCommit p) s₀ = .next (endOrigin
            ({ u with map := { u.map with staging := none, pending := some ⟨id, sec, ns, max (todOf sec ns) u.tim.tod, plan, false, false, []⟩ } })))) ∧
    (∀ (p : Packet) (s₀ s : State),
      Granted (modCmd 0x0704 0) p s₀ s →
      ∀ c, s.map.pending = some c →
      todPast c.seconds c.nanoseconds s = false →
      exec (.mapPlanAbort p) s₀ = .next (answered 0x0704 p s₀ .ok [] (planAbort s))) ∧
    (∀ (p : Packet) (s₀ s : State),
      Granted (readCmd 0x0705 8) p s₀ s →
      let first := u16 p.params 2;
      let n := u8 p.params 4;
      let plan := if u8 p.params 0 = 0 then s.map.plan else s.map.staging.getD [];
      u8 p.params 0 ≤ 1 →
      leNat (bytesAt 1 1 p.params) = 0 →
      first ≤ 255 →
      (n ≠ 0 ∧ n ≤ (if fromBmc p then 2 else 42)) →
      first + n ≤ 256 →
      leNat (bytesAt 5 3 p.params) = 0 →
      exec (.mapPlanGet p) s₀ = .next (answered 0x0705 p s₀ .ok (leBytes 4 (if u8 p.params 0 = 0 then s.map.planId.toNat else
        0) ++ leBytes 4 (planCrc plan) ++ leBytes 1 n ++ leBytes 7 0 ++ (List.range n).flatMap (fun i => entryBytes (first +
        i) (planFind plan (first + i)))) s)) ∧
    (∀ (p : Packet) (s₀ s : State),
      Granted (modCmd 0x0706 8) p s₀ s →
      let w := u16 p.params 0;
      ∀ g, s.apsGroup w = some g →
      u8 p.params 2 ≤ 3 →
      leNat (bytesAt 3 1 p.params) = 0 →
      u16 p.params 4 ≤ 100 →
      (60 ≤ u16 p.params 6 ∧ u16 p.params 6 ≤ 720) →
      exec (.apsCfgSet p) s₀ = .next (answered 0x0706 p s₀ .ok [] (setApsGroup w (configureGroup s.tim.now (bit (u8 p.params
        2) 0) (bit (u8 p.params 2) 1) (u16 p.params 4) (u16 p.params 6) g) s))) ∧
    (∀ (p : Packet) (s₀ s : State),
      Granted (modCmd 0x0707 4) p s₀ s →
      let w := u16 p.params 0;
      ∀ g, s.apsGroup w = some g →
      u8 p.params 2 ≤ 4 →
      leNat (bytesAt 3 1 p.params) = 0 →
      exec (.apsCmd p) s₀ = .next (answered 0x0707 p s₀ .ok [] (setApsGroup w (externalCommand s.tim.now (u8 p.params 2) g)
        s))) ∧
    (∀ (p : Packet) (s₀ s : State),
      Granted (readCmd 0x0708 4) p s₀ s →
      let w := u16 p.params 0;
      ∀ g, s.apsGroup w = some g →
      leNat (bytesAt 2 2 p.params) = 0 →
      exec (.apsStatusGet p) s₀ = .next (answered 0x0708 p s₀ .ok (groupStatus s.tim.now w g) s))

/-- The events of the cipher engine (chapter 10): each event answers a next state, with all of its effect. -/
def Obligations.Cipher_events_take_their_effect : Prop :=
    (∀ (s : State),
      exec .cphDctrLoRead s = .next (if s.dev.variantN then s else
        { s with cph := { s.cph with dctrHi := s.cph.dctr / 2 ^ 32 } })) ∧
    (∀ (trib : Fin 256) (group : TxGroup) (s : State),
      ∀ x, s.entry trib.val = some x →
      x.encrypt = true →
      let s0 := addTwins trib.val false group.mismatched.length s;
      let c := sendGroup trib.val group (s0.cphTrib trib.val);
      let due := switchDue c s0;
      let c1 := if due then { c with
          txCur := c.txNext
          txNext := none
          txCtr := some 0
          switchAt := none
          exhausted := false
          lowReported := false
          faultTx := false } else advanceEpoch c;
      let low := match c1.txCur, c1.txCtr with | some e, some n => !c1.lowReported && decide (e.limit ≤ n + 2 ^ 20) | _, _ => false;
      let enc := c1.txCur.isSome && !c1.exhausted && !c1.faultTx && !c1.rebuildTx;
      let bitNow := (c1.txCur.map (fun e => e.bit)).getD false;
      let header := cobHeader enc bitNow ((c1.txCur.map (fun e => e.keyRef)).getD 0) (c1.txCtr.getD 0);
      let wasEnc := bit (u8 c.txHeader 1) 0;
      let c2 := { c1 with
          txHeader := header
          txTag := endedTag trib.val group c
          txCob := cobBytes c.txTag c.txInfo header
          txInfo := BitVec.ofNat 8 (128 * b2n wasEnc + 64 * b2n (wasEnc && bit (u8 c.txHeader 1) 1))
          lowReported := c1.lowReported || low };
      let s1 := tellFramer trib.val (modCphTrib trib.val (fun _ => c2) s0);
      let s2 := match due, c1.txCur with | true, some e => completeOr 0x0806 trib.val .ok 8 1 (switchedPayload trib.val false e (c.txCtr.getD 0)) s1 | _, _ => s1;
      let s3 := if low then emit 8 2 (leBytes 2 trib.val ++ leBytes 6 0 ++ leBytes 8 (c1.txCtr.getD 0)) s2 else s2;
      exec (.cphTxGroupBoundary trib group) s = .next (if c1.exhausted && !c.exhausted then emit 8 4 (leBytes 2 trib.val ++
        leBytes 6 0 ++ leBytes 8 ((c1.txCur.map (fun e => e.limit)).getD 0)) s3 else s3)) ∧
    (∀ (trib : Fin 256) (group : RxGroup) (s : State),
      ∀ x, s.entry trib.val = some x →
      x.encrypt = true →
      (groupsMasked trib.val s = true →
          exec (.cphRxGroupCheck trib group) s = .next (modCphTrib trib.val skipGroup s)) ∧
      (groupsMasked trib.val s = false →
          let s1 := addTwins trib.val true group.mismatched.length s;
          (∀ cause, groupFailure trib.val group (s1.cphTrib trib.val) = some cause →
              exec (.cphRxGroupCheck trib group) s = .next (tellFramer trib.val (groupFails trib.val x.kind cause group s1)))
                ∧
          (groupFailure trib.val group (s1.cphTrib trib.val) = none →
              exec (.cphRxGroupCheck trib group) s = .next (tellFramer trib.val (groupPasses trib.val group (addLife 10 1
                s1)))))) ∧
    (∀ (job : Fin 65536) (end_ : JobEnd) (s : State),
      ∀ j, s.job job.val = some j →
      (j.cancel = true →
          exec (.cphJobComplete job end_) s = .next (jobDone j .aborted end_.processed []
            (writeOutput j end_ end_.processed s))) ∧
      (j.cancel = false →
          s.hif.dmaUp = true →
          (∀ form addr, j.save = some (form, addr) →
              exec (.cphJobComplete job end_) s = .next (saveJob form addr j end_ s)) ∧
          (j.save = none →
              (end_.contextError = true →
                  exec (.cphJobComplete job end_) s = .next (jobDone j .integrity end_.processed []
                    (writeOutput j end_ end_.processed s))) ∧
              (end_.contextError = false →
                  (runningJob s).map (fun x => x.id) = some j.id →
                  (end_.mismatch = true →
                      exec (.cphJobComplete job end_) s = .next (logRecord 0x0033 0 (leBytes 2 j.id) (jobDone j .integrity
                        end_.processed [] (zeroFill j (u64 j.desc 24) s)))) ∧
                  (end_.mismatch = false →
                      let r := jobResult j end_;
                      let len := u64 j.desc 24;
                      let checks := decide (u8 j.desc 0 = 2) || decide (u8 j.desc 0 = 6);
                      ((checks = true ∧ bytesAt 0 16 r.2 ≠ bytesAt 64 16 j.desc) →
                          exec (.cphJobComplete job end_) s = .next (jobDone j .integrity len r.2 (zeroFill j len s))) ∧
                      ((checks = true → bytesAt 0 16 r.2 = bytesAt 64 16 j.desc) →
                          exec (.cphJobComplete job end_) s = .next (jobDone j .ok len r.2 (writeOutput j end_ len s)))))))) ∧
    (∀ (trib : Fin 256) (receive : Bool) (s : State),
      exec (.epochRebuildComplete trib receive) s = .next (rebuilt (.epoch trib.val receive) false (modCphTrib trib.val (fun
        c => if receive then { c with rebuildRx := false } else { c with rebuildTx := false }) s)))

/-- The commands of group 0x08 (chapter 10): where the pipeline grants its packet and its own checks pass, each command
answers as its rule says. -/
def Obligations.Cipher_commands_take_their_effect : Prop :=
    (∀ (p : Packet) (s₀ s : State),
      Granted (modCmd 0x0801 88) p s₀ s →
      let k := u16 p.params 0;
      let kek := beNat (bytesAt 14 2 p.params);
      let usage := beNat (bytesAt 10 2 p.params);
      let wrap := s.keySlot kek;
      let text := gcmDecrypt wrap.key (blobIv p.params) (blobAad p.params) (blobWrapped p.params);
      let vol := bit (u8 p.params 9) 0;
      k ≤ 1023 →
      slotBound k s ≤ 0 →
      leNat (bytesAt 2 2 p.params) = 0 →
      beNat (bytesAt 4 4 p.params) = 0x4B424C31 →
      u8 p.params 8 = 1 →
      u8 p.params 9 ≤ 1 →
      usage ≤ 31 →
      usageOk usage = true →
      beNat (bytesAt 12 2 p.params) = k →
      kek ≤ 1023 →
      (wrap.loaded = true ∧ bit wrap.usage 4 = true) →
      leNat (bytesAt 28 8 p.params) = 0 →
      gcmTag wrap.key (blobIv p.params) (blobAad p.params) (blobWrapped p.params) = bytesAt 72 16 p.params →
      (s.keySlot k).history.contains (kcvOf (keyOf text)) = false →
      (vol = false → s.flashOk = true) →
      ((vol = true ∧ (s.keySlot k).lasting = false) →
          exec (.cphKeyImport p) s₀ = .next (answered 0x0801 p s₀ .ok (kcvOf (keyOf text)) (importKey k vol usage text s))) ∧
      ((vol = true → (s.keySlot k).lasting = true) →
          let w := takeKey (importKey k vol usage text s); exec (.cphKeyImport p) s₀ = .next (waiting
            0x0801 p s₀ w.1 (waitCommit w.1 (kcvOf (keyOf text)) w.2)))) ∧
    (∀ (p : Packet) (s₀ s : State),
      Granted (modCmd 0x0802 104) p s₀ s →
      let k := u16 p.params 0;
      let point := bytesAt 4 97 p.params;
      let vol := bit (u8 p.params 2) 0;
      let text := derive (keyOf (Config.agreeSecret point)) labelKek (bytesAt 1 32 point) 288;
      let kcv := kcvOf (keyOf text);
      let head := bytesAt 0 97 Config.agreePoint ++ leBytes 3 0 ++ kcv;
      k ≤ 1023 →
      slotBound k s ≤ 0 →
      u8 p.params 2 ≤ 1 →
      leNat (bytesAt 3 1 p.params) = 0 →
      (u8 p.params 4 = 4 ∧ onCurve point = true) →
      leNat (bytesAt 101 3 p.params) = 0 →
      (s.keySlot k).history.contains kcv = false →
      (vol = false → s.flashOk = true) →
      let s1 := logSlot (s.keySlot k) k (modKeySlot k (loadKey vol 16 text) s);
      let resp := head ++ bytesAt 0 96 (Config.attestSign (sha384 (head ++ point)));
      ((vol = true ∧ (s.keySlot k).lasting = false) →
          exec (.cphKeyAgree p) s₀ = .next (answered 0x0802 p s₀ .ok resp s1)) ∧
      ((vol = true → (s.keySlot k).lasting = true) →
          let w := takeKey s1; exec (.cphKeyAgree p) s₀ = .next (waiting 0x0802 p s₀ w.1 (waitCommit w.1 resp w.2)))) ∧
    (∀ (p : Packet) (s₀ s : State),
      Granted (modCmd 0x0803 4) p s₀ s →
      let k := u16 p.params 0;
      k ≤ 1023 →
      slotBound k s ≤ 0 →
      leNat (bytesAt 2 2 p.params) = 0 →
      exec (.cphKeyErase p) s₀ = .next (answered 0x0803 p s₀ .ok [] (if (s.keySlot k).loaded then logSlot (s.keySlot k) k
        (modKeySlot k retireKey s) else s))) ∧
    (∀ (p : Packet) (s₀ s : State),
      Granted (readCmd 0x0804 4) p s₀ s →
      let k := u16 p.params 0;
      let x := s.keySlot k;
      k ≤ 1023 →
      leNat (bytesAt 2 2 p.params) = 0 →
      exec (.cphKeyInfo p) s₀ = .next (answered 0x0804 p s₀ .ok (leBytes 4 (slotStatus k s) ++ (if x.loaded then kcvOf x.key
        else leBytes 8 0) ++ leBytes 8 x.invocation) s)) ∧
    (∀ (p : Packet) (s₀ s : State),
      Granted (modCmd 0x0805 64) p s₀ s →
      let t := u16 p.params 0;
      let receive := decide (u8 p.params 2 = 1);
      let derived := decide (u8 p.params 3 = 1);
      let k := u16 p.params 4;
      let limit := u64 p.params 8;
      let host := bytesAt 32 32 p.params;
      let root := s.keySlot k;
      t ≤ 255 →
      ((s.entry t).map (fun x => x.encrypt)).getD false = true →
      u8 p.params 2 ≤ 1 →
      u8 p.params 3 ≤ 1 →
      k ≤ 1023 →
      (if derived then root.loaded = true ∧ bit root.usage 3 = true else slotUsable k receive s = true) →
      u16 p.params 6 ≠ 0 →
      (receive = false → limit ≠ 0) →
      (receive = false → 2 ^ 21 ≤ limit) →
      (receive = true → derived = true → u64 p.params 16 ≠ 0) →
      (derived = true → receive = false → dctrReady s = true) →
      let s1 := if derived && !receive then nextDctr s else s;
      let dctr := if derived then (if receive then u64 p.params 16 else s1.cph.dctr) else 0;
      let serial := if receive then u64 p.params 24 else s.dev.serial.toNat;
      let material := deriveTrib root.key host serial dctr t;
      let e : Epoch := if derived then ⟨none, k, host, dctr, serial, keyOf material, saltOf material, u16 p.params 6, limit,
        false⟩ else ⟨some k, k, host, 0, serial, root.key, root.salt, u16 p.params 6, limit, false⟩;
      let s2 := if !derived && !receive then bindSlot k s1 else s1;
      let r := installEpoch t receive e s2;
      exec (.cphEpochSet p) s₀ = .next (answered 0x0805 p s₀ .ok (leBytes 1 (b2n r.2) ++ leBytes 7 0 ++ leBytes 8 dctr ++
        kcvOf e.key) r.1)) ∧
    (∀ (p : Packet) (s₀ s : State),
      Granted (modCmd 0x0806 16) p s₀ s →
      let t := u16 p.params 0;
      let c := s.cphTrib t;
      ∀ e, c.txNext = some e →
      t ≤ 255 →
      leNat (bytesAt 2 2 p.params) = 0 →
      todAhead (u48 p.params 4) (u32 p.params 12) 1000 s = false →
      leNat (bytesAt 10 2 p.params) = 0 →
      u32 p.params 12 < 1000000000 →
      c.switchAt.isSome = false →
      s.hif.deferred.length < 64 →
      exec (.cphEpochSwitch p) s₀ = .next (endOrigin (modCphTrib t (fun x =>
        { x with switchAt := some (u48 p.params 4, u32 p.params 12) }) (deferredAs 0x0806 p s₀ t 8 1 (switchedPayload t false
        e (c.txCtr.getD 0)) s)))) ∧
    (∀ (p : Packet) (s₀ s : State),
      Granted (modCmd 0x0807 4) p s₀ s →
      let t := u16 p.params 0;
      t ≤ 255 →
      ((s.entry t).map (fun x => x.encrypt)).getD false = true →
      u8 p.params 2 ≤ 1 →
      leNat (bytesAt 3 1 p.params) = 0 →
      exec (.cphTribSet p) s₀ = .next (answered 0x0807 p s₀ .ok [] (modCphTrib t (fun c =>
        { c with sav := bit (u8 p.params 2) 0 }) s))) ∧
    (∀ (p : Packet) (s₀ s : State),
      Granted (readCmd 0x0808 4) p s₀ s →
      let t := u16 p.params 0;
      let c := s.cphTrib t;
      t ≤ 255 →
      leNat (bytesAt 2 2 p.params) = 0 →
      exec (.cphTribGet p) s₀ = .next (answered 0x0808 p s₀ .ok (leBytes 4 (tribCipherStatus t s) ++ leBytes 8 (c.txCtr.getD
        0) ++ leBytes 8 ((c.txCur.map (fun e => e.limit)).getD 0) ++ leBytes 8 (c.rxLast.getD 0) ++ leBytes 2 ((c.txCur.map
        (fun e => e.keyRef)).getD 0) ++ leBytes 2 ((c.rxCur.map (fun e => e.keyRef)).getD 0)) s)) ∧
    (∀ (p : Packet) (s₀ s : State),
      Granted (modCmd 0x0809 128) p s₀ s →
      let op := u8 p.params 0;
      let derived := decide (u8 p.params 2 = 1);
      let k := u16 p.params 4;
      let id := u16 p.params 6;
      let slot := s.keySlot k;
      let enc := encryptType op;
      (op ≠ 0 ∧ op ≤ 6) →
      u8 p.params 1 ≤ 3 →
      u8 p.params 2 ≤ 1 →
      u8 p.params 3 ≤ 1 →
      k ≤ 1023 →
      (slot.loaded = true ∧ bit slot.usage (if derived then 3 else 2) = true) →
      (s.job id).isSome = false →
      (u64 p.params 24 = 0 → op ≠ 3 ∧ op ≠ 4) →
      u64 p.params 24 ≤ 4294967296 →
      u32 p.params 40 ≤ 65536 →
      (derived = true → (enc != decide (u64 p.params 112 = 0)) = false) →
      leNat (bytesAt 120 8 p.params) = 0 →
      s.cph.jobs.length < 32 →
      (derived = true → enc = true → dctrReady s = true) →
      s.hif.deferred.length < 64 →
      let u := (deferredAs 0x0809 p s₀ id 8 6 (leBytes 2 id ++ leBytes 38 0) s);
      let u1 := if derived && enc then nextDctr u else u;
      let dctr := if derived then (if enc then u1.cph.dctr else u64 p.params 112) else 0;
      let u2 := modKeySlot k (fun x => { x with invocation := x.invocation + 1 }) u1;
      let key := if derived then keyOf (deriveJob slot.key (bytesAt 80 32 p.params) u.dev.serial.toNat dctr) else slot.key;
      let j : Job := ⟨id, p.params, u8 p.params 1, key, (u2.keySlot k).invocation, dctr, 0, false, false, none, []⟩;
      exec (.cphJobSubmit p) s₀ = .next (endOrigin ({ u2 with cph := { u2.cph with jobs := u2.cph.jobs ++ [j] } }))) ∧
    (∀ (p : Packet) (s₀ s : State),
      Granted (modCmd 0x080A 4) p s₀ s →
      (s.job (u16 p.params 0)).isNone = false →
      leNat (bytesAt 2 2 p.params) = 0 →
      exec (.cphJobCancel p) s₀ = .next (answered 0x080A p s₀ .ok [] (modJob (u16 p.params 0) (fun j =>
        { j with cancel := true }) s))) ∧
    (∀ (p : Packet) (s₀ s : State),
      Granted (modCmd 0x080B 12) p s₀ s →
      let form := u8 p.params 2;
      ∀ j, s.job (u16 p.params 0) = some j →
      let clearOk := bit (u8 j.desc 3) 0 && (decide (u8 j.desc 0 = 3) || decide (u8 j.desc 0 = 4));
      (form ≠ 0 ∧ form ≤ 2) →
      (form = 2 → clearOk = true) →
      leNat (bytesAt 3 1 p.params) = 0 →
      u64 p.params 4 % 8 = 0 →
      exec (.cphCtxSave p) s₀ = .next (answered 0x080B p s₀ .ok [] (modJob (u16 p.params 0) (fun x =>
        { x with save := some (form, u64 p.params 4) }) s))) ∧
    (∀ (p : Packet) (s₀ s : State),
      Granted (modCmd 0x080C 24) p s₀ s →
      ∀ x, contextFor p.hostData s = some x →
      let j := x.job;
      ((s.keySlot (u16 j.desc 4)).loaded = true ∧ kcvOf (contextKey j s) = kcvOf j.key ∧ (s.job j.id).isSome = false) →
      s.cph.jobs.length < 32 →
      s.hif.deferred.length < 64 →
      let u := (deferredAs 0x080C p s₀ j.id 8 6 (jobPayload j 0 []) s);
      let d := bytesAt 0 8 j.desc ++ (if u64 p.params 8 = 0 then bytesAt 8 8 j.desc else bytesAt 8 8 p.params) ++ (if u64
        p.params 16 = 0 then bytesAt 16 8 j.desc else bytesAt 16 8 p.params) ++ bytesAt 24 104 j.desc;
      exec (.cphCtxRestore p) s₀ = .next (endOrigin ({ u with
          cph := { u.cph with
              jobs := u.cph.jobs ++ [{ j with desc := d, restored := true, cancel := false }]
              saved := u.cph.saved.map (fun y => if y.exportNo = x.exportNo then { y with used := true } else y) } })))

/-- The events of the packet traffic manager (chapter 11): each event answers a next state, with all of its effect. -/
def Obligations.Packet_events_take_their_effect : Prop :=
    (∀ (port : Fin 288) (frame : RxFrame) (s : State),
      let x := s.port port.val;
      (s.pkt.ready = true ∧ x.ingressUp = true ∧ (x.stopped = true → frame.begun = true)) →
      ((frame.fcsOk = false ∨ frame.len < 64 ∨ x.cfg.mtu < frame.len ∨ frame.control = true) →
          exec (.pktFrameReceived port frame) s = .next (modLive port.val (fun c => { c with dropMac := sat32 c.dropMac 1 })
            s)) ∧
      ((frame.fcsOk = true ∧ 64 ≤ frame.len ∧ frame.len ≤ x.cfg.mtu ∧ frame.control = false) →
          (frame.authBad = true →
              exec (.pktFrameReceived port frame) s = .next (modLive port.val (fun c =>
                { c with dropAuth := sat32 c.dropAuth 1 }) s)) ∧
          (frame.authBad = false →
              let s1 := countRx port.val frame.len s;
              let miss := modLive port.val (fun c => { c with dropCls := sat32 c.dropCls 1 }) s1;
              (lookup (frameKey port.val x.cfg frame) x.cfg s = none →
                  exec (.pktFrameReceived port frame) s = .next miss) ∧
              (∀ sub, lookup (frameKey port.val x.cfg frame) x.cfg s = some sub →
                  (forwardOk port.val sub s = true →
                      exec (.pktFrameReceived port frame) s = .next (admitFrame port.val sub frame s1)) ∧
                  (forwardOk port.val sub s = false →
                      exec (.pktFrameReceived port frame) s = .next (statDrop sub miss)))))) ∧
    (∀ (port : Fin 288) (read : TxRead) (s : State),
      let x := s.port port.val;
      (s.pkt.ready = true ∧ x.egressUp = true ∧ x.held = false) →
      (∀ s1, choose port.val (s.pkt.frames.length + 1) s = .nothing s1 →
          exec (.pktTxOpportunity port read) s = .next s1) ∧
      (∀ f len s1, choose port.val (s.pkt.frames.length + 1) s = .send f len s1 →
          let crcErr := fun (u : State) => { u with pkt := { u.pkt with tileCrcErr := sat32 u.pkt.tileCrcErr 1 } };
          (firstBadTile f read = some 0 →
              exec (.pktTxOpportunity port read) s = .next (reportCorrupt port.val 0 1 0 (crcErr (dropFrame f s1)))) ∧
          (∀ i, firstBadTile f read = some i → i ≠ 0 →
              exec (.pktTxOpportunity port read) s = .next (reportCorrupt port.val 0 0 1 (crcErr (sendFrame port.val f
                len true s1)))) ∧
          (firstBadTile f read = none →
              let s2 := sendFrame port.val f len read.authBad s1;
              (read.authBad = true →
                  exec (.pktTxOpportunity port read) s = .next (countStopped f.ingress s2)) ∧
              (read.authBad = false →
                  exec (.pktTxOpportunity port read) s = .next s2)))) ∧
    (∀ (slot : Fin 4096) (s : State),
      let cur := s.tim.now / 8000;
      let start := (cur + (slot.val + 4096 - cur % 4096) % 4096) * 8000;
      let s1 := advancePs (start - s.tim.now) s;
      exec (.pktFineWheelSlot slot) s = .next
        ({ s1 with pkt := { s1.pkt with fine := s1.pkt.fine.filter (fun x => x.1 ≠ slot.val) } })) ∧
    (∀ (slot : Fin 4096) (s : State),
      let cur := s.tim.now / 32768000;
      let start := (cur + (slot.val + 4096 - cur % 4096) % 4096) * 32768000;
      let s1 := advancePs (start - s.tim.now) s;
      let move := s1.pkt.coarse.filter (fun x => x.1 = slot.val);
      exec (.pktCoarseWheelSlot slot) s = .next ({ s1 with
          pkt := { s1.pkt with
              coarse := s1.pkt.coarse.filter (fun x => x.1 ≠ slot.val)
              fine := s1.pkt.fine ++ move.map (fun x => (wheelTime x.2 s1 / fxSlot % 4096, x.2)) } })) ∧
    (∀ (port : Fin 288) (s : State),
      let g := (s.port port.val).gates;
      ∀ l, g.list = some l → g.restart = none →
      g.entry + 1 < l.windows.length →
      let s1 := advanceToUnits (g.cycleStart + entryOffset l (g.entry + 1) * unitsPerNs) s;
      exec (.pktGateEntryEnd port) s = .next (modPort port.val (fun x => { x with
          gates := { x.gates with
              entry := g.entry + 1
              states := if gateBroken port.val s then g.states else ((l.windows[g.entry + 1]?).map (fun w => w.1)).getD
                g.states } }) s1)) ∧
    (∀ (port : Fin 288) (s : State),
      let g := (s.port port.val).gates;
      ∀ l, g.list = some l → g.restart = none →
      let start := g.cycleStart + l.cycle * unitsPerNs;
      let s1 := advanceToUnits start s;
      (g.disable = true →
          let t := start / unitsPerNs;
          exec (.pktGateCycleStart port) s = .next (completeOr 0x0907 port.val .ok 9 1 (gateStarted port.val false 0 0 (t /
            1000000000, t % 1000000000)) (modPort port.val (fun x =>
            { x with gates := openGates (gateBroken port.val s) x.gates }) s1))) ∧
      (g.disable = false →
          exec (.pktGateCycleStart port) s = .next (modPort port.val (fun x => { x with
              gates := { x.gates with
                  entry := 0
                  cycleStart := start
                  states := if gateBroken port.val s then g.states else ((l.windows.head?).map (fun w => w.1)).getD g.states }
                }) s1))) ∧
    (∀ (port : Fin 288) (s : State),
      let g := (s.port port.val).gates;
      (∀ l, g.restart = some l → (∀ p, g.pending = some p → l.startTod ≤ p.startTod) →
          (g.disable = false →
              exec (.pktGateListStart port) s = .next (emit 9 1 (gateStarted port.val true 1 l.advanced l.start) (modPort
                port.val (fun x => { x with gates := installList l true (gateBroken port.val s) x.gates }) (advanceToUnits l.startTod s)))) ∧
          (g.disable = true →
              exec (.pktGateListStart port) s = .next (completeOr 0x0907 port.val .ok 9 1 (gateStarted port.val false 0 0 l.start)
                (modPort port.val (fun x => { x with gates := openGates (gateBroken port.val s) x.gates }) (advanceToUnits l.startTod s))))) ∧
      (∀ l, g.pending = some l → (∀ r, g.restart = some r → l.startTod < r.startTod) →
          exec (.pktGateListStart port) s = .next (completeOr 0x0907 port.val .ok 9 1 (gateStarted port.val true 0 l.advanced
            l.start) (modPort port.val (fun x => { x with gates := { installList l false (gateBroken port.val s) x.gates with pending := none } })
            (advanceToUnits l.startTod s))))) ∧
    (∀ (s : State),
      (s.pkt.powered = true ∧ s.pkt.ready = false) →
      let s1 := (cinderTiles s).foldl (fun u t => retireTile t u) s;
      let s2 := (cinderBanks s).foldl (fun u b => retireBank b u) s1;
      exec .pktInitComplete s = .next ({ s2 with pkt := { s2.pkt with ready := true } }))

/-- The commands of group 0x09 (chapter 11): where the pipeline grants its packet and its own checks pass, each command
answers as its rule says. -/
def Obligations.Packet_commands_take_their_effect : Prop :=
    (∀ (p : Packet) (s₀ s : State),
      Granted (modCmd 0x0901 32) p s₀ s →
      let q := u16 p.params 0;
      let old := (s.port q).cfg;
      let w := (List.range 8).map (fun i => u8 p.params (20 + i));
      let new : PortCfg := ⟨u8 p.params 2, bit (u8 p.params 3) 0, bit (u8 p.params 3) 1, u16 p.params 4, u16 p.params 6, u32
        p.params 8, u32 p.params 12, u8 p.params 16, s8 p.params 17, u8 p.params 18, w, u16 p.params 28⟩;
      let s1 := modPort q (fun x => { x with cfg := new }) s;
      (∀ chk ∈ [badParam 0 (decide (287 < q)), badParam 2 (decide (3 < u8 p.params 2)), failIf .badState (decide (new.mode ≠
        old.mode) && s.pkt.rules.any (fun r => r.1.1 = q)), badParam 3 (decide (3 < u8 p.params 3)), badParam 4 (decide (u16
        p.params 4 < 1518) || decide (16000 < u16 p.params 4)), badParam 8 (decide (458752 < u32 p.params 8)), badParam 8
        (decide (activeTiles s.pkt < resSum s1.pkt + 65536)), badLen 12 (decide (u32 p.params 12 = 0)), badParam 12 (decide (u32
        p.params 12 < 63) || decide (524288 < u32 p.params 12) || decide (u32 p.params 12 < u32 p.params 8)), badParam
        16 (decide (7 < u8 p.params 16)), badParam 17 (decide (s8 p.params 17 < -32) || decide (64 < s8 p.params 17)),
        reservedBytes p.params 19 1] ++ (List.range 8).map (fun i => badLen (20 + i) (decide (u8 p.params (20 + i) = 0))) ++
        [reservedBytes p.params 30 2], chk.bad = false) →
      exec (.pktPortSet p) s₀ = .next (answered 0x0901 p s₀ .ok [] s1)) ∧
    (∀ (p : Packet) (s₀ s : State),
      Granted { modCmd 0x0902 0 with lenOk := fun b => b.length = 8 + 32 * u16 b 4 } p s₀ s →
      let kind := u8 p.params 0;
      let first := u16 p.params 2;
      let n := u16 p.params 4;
      let es := (List.range n).map (fun i => (8 + 32 * i, (entityKey kind (first + i), bytesAt (8 + 32 * i) 32 p.params)));
      (∀ chk ∈ [badParam 0 (decide (1 < kind)), reservedBytes p.params 1 1, badParam 2 (decide (entityRange kind ≤ first)),
        badLen 4 (decide (n = 0) || decide ((if fromBmc p then 6 else 126) < n)), badParam 4 (decide (entityRange kind <
        first + n)), reservedBytes p.params 6 2] ++ es.flatMap (fun e => entityChecks kind e.1 e.2.2) ++ es.map (fun e =>
        failIf .busy (entityBusy kind e.2.1 (parseEntity e.2.2) s)), chk.bad = false) →
      exec (.pktEntitySet p) s₀ = .next (answered 0x0902 p s₀ .ok [] { s with
          pkt := { s.pkt with entities := es.foldl (fun t e => tabSet Entity.none t e.2.1 (parseEntity e.2.2)) s.pkt.entities }
            })) ∧
    (∀ (p : Packet) (s₀ s : State),
      Granted (readCmd 0x0903 8) p s₀ s →
      let kind := u8 p.params 0;
      let first := u16 p.params 2;
      let n := u16 p.params 4;
      kind ≤ 1 →
      leNat (bytesAt 1 1 p.params) = 0 →
      first < entityRange kind →
      n ≠ 0 →
      (n ≤ (if fromBmc p then 6 else 126) ∧ first + n ≤ entityRange kind) →
      leNat (bytesAt 6 2 p.params) = 0 →
      exec (.pktEntityGet p) s₀ = .next (answered 0x0903 p s₀ .ok (leBytes 2 n ++ leBytes 6 0 ++ (List.range n).flatMap (fun
        i => let k := entityKey kind (first + i); entityBytes (s.entity k) (peakForce k s))) s)) ∧
    (∀ (p : Packet) (s₀ s : State),
      Granted { modCmd 0x0904 0 with lenOk := fun b => b.length = 8 + 16 * u16 b 0 } p s₀ s →
      let n := u16 p.params 0;
      let rs := (List.range n).map (fun i => (8 + 16 * i, bytesAt (8 + 16 * i) 16 p.params));
      (∀ chk ∈ [badLen 0 (decide (n = 0) || decide ((if fromBmc p then 13 else 253) < n)), reservedBytes p.params
        2 6] ++ rs.flatMap (fun r => ruleChecks r.1 r.2 s), chk.bad = false) →
      let r := addRules (rs.map (fun x => parseRule x.2)) 0 s;
      exec (.pktRuleAdd p) s₀ = .next (answered 0x0904 p s₀ (if r.1 = n then .ok else .partly) (leBytes 2 r.1) r.2)) ∧
    (∀ (p : Packet) (s₀ s : State),
      Granted { modCmd 0x0905 0 with lenOk := fun b => b.length = 8 + 16 * u16 b 0 } p s₀ s →
      let n := u16 p.params 0;
      let all := bit (u8 p.params 2) 0;
      let rs := (List.range n).map (fun i => (8 + 16 * i, bytesAt (8 + 16 * i) 16 p.params));
      let keys := rs.map (fun r => (parseRule r.2).1);
      let keep := s.pkt.rules.filter (fun r => if all then decide (r.1.1 ≠ u16 p.params 4) else !keys.contains r.1);
      (∀ chk ∈ [badLen 0 ((all == decide (n ≠ 0)) || decide ((if fromBmc p then 13 else 253) < n)), badParam 2
        (decide (1 < u8 p.params 2)), reservedBytes p.params 3 1, badParam 4 (all && decide (287 < u16 p.params 4)), reservedBytes p.params 6 2] ++ rs.flatMap (fun r => ruleChecks r.1 r.2 s), chk.bad =
        false) →
      exec (.pktRuleDel p) s₀ = .next (answered 0x0905 p s₀ .ok (leBytes 4 (s.pkt.rules.length - keep.length))
        { s with pkt := { s.pkt with rules := keep } })) ∧
    (∀ (p : Packet) (s₀ s : State),
      Granted { modCmd 0x0906 0 with lenOk := fun b => b.length = 8 + 4 * u16 b 4 } p s₀ s →
      let q := u16 p.params 0;
      let first := u16 p.params 2;
      let n := u16 p.params 4;
      (∀ chk ∈ [badParam 0 (decide (287 < q)), badParam 2 (decide (1023 < first)), badLen 4 (decide (n = 0) ||
        decide ((if fromBmc p then 54 else 1014) < n)), badParam 4 (decide (1024 < first + n)), reservedBytes p.params 6 2] ++
        (List.range n).map (fun i => badLen (8 + 4 * i) (decide (u32 p.params (8 + 4 * i) / 256 = 0))), chk.bad = false) →
      exec (.pktGateLoad p) s₀ = .next (answered 0x0906 p s₀ .ok [] (modPort q (fun x => { x with
          gates := { x.gates with
              staged := (List.range n).foldl (fun t i => tabInsert t (first + i) ⟨u32 p.params (8 + 4 * i) % 256, u32
                p.params (8 + 4 * i) / 256⟩) x.gates.staged } }) s))) ∧
    (∀ (p : Packet) (s₀ s : State),
      Granted (modCmd 0x0907 24) p s₀ s →
      let q := u16 p.params 0;
      let enable := bit (u8 p.params 2) 0;
      let cancel := bit (u8 p.params 2) 1;
      let cycle := u32 p.params 4;
      let n := u16 p.params 8;
      let base := (u48 p.params 12, u32 p.params 20);
      let g := (s.port q).gates;
      let a := anchor base cycle s;
      let baseNs := base.1 * 1000000000 + base.2;
      let nowNs := s.tim.tod / unitsPerNs;
      q ≤ 287 →
      u8 p.params 2 ≤ 3 →
      leNat (bytesAt 3 1 p.params) = 0 →
      leNat (bytesAt 10 2 p.params) = 0 →
      leNat (bytesAt 18 2 p.params) = 0 →
      (cancel = true →
          exec (.pktGateSet p) s₀ = .next (answered 0x0907 p s₀ .ok [] (gateCancel q s))) ∧
      (cancel = false →
          (enable = false →
              (g.pending.isSome = false ∧ g.disable = false) →
              (g.list.isNone = true →
                  exec (.pktGateSet p) s₀ = .next (answered 0x0907 p s₀ .ok [] (modPort q (fun x =>
                    { x with gates := openGates (gateBroken q s) { x.gates with staged := [] } }) s))) ∧
              (g.list.isNone = false →
                  s.hif.deferred.length < 64 →
                  exec (.pktGateSet p) s₀ = .next (endOrigin (modPort q (fun x =>
                    { x with gates := { x.gates with disable := true, staged := [] } }) (deferredAs 0x0907 p s₀ q 9 1
                    (gateStarted q false 0 0 (0, 0)) s))))) ∧
          (enable = true →
              (1000 ≤ cycle ∧ cycle ≤ 1000000000 ∧ cycle % 8 = 0) →
              n ≠ 0 →
              n ≤ 1024 →
              base.2 < 1000000000 →
              nowNs ≤ baseNs + 2 ^ 32 * cycle →
              baseNs + a.1 * cycle ≤ nowNs + 1000000000000 →
              (g.pending.isSome = false ∧ g.disable = false) →
              ∀ es, stagedList g n = some es →
              s.hif.deferred.length < 64 →
              exec (.pktGateSet p) s₀ = .next (endOrigin (modPort q (fun x =>
                { x with gates := { x.gates with staged := [], pending := some ⟨es, cycle, base, a.2, a.1⟩ } }) (deferredAs
                0x0907 p s₀ q 9 1 (gateStarted q true 0 a.1 a.2) s)))))) ∧
    (∀ (p : Packet) (s₀ s : State),
      Granted (readCmd 0x0908 8) p s₀ s →
      let kind := u8 p.params 0;
      let first := u16 p.params 2;
      let n := u16 p.params 4;
      kind ≤ 1 →
      leNat (bytesAt 1 1 p.params) = 0 →
      first < entityRange kind →
      n ≠ 0 →
      (n ≤ (if fromBmc p then 9 else 169) ∧ first + n ≤ entityRange kind) →
      leNat (bytesAt 6 2 p.params) = 0 →
      exec (.pktStatsGet p) s₀ = .next (answered 0x0908 p s₀ .ok (leBytes 6 s.pkt.statsSecond ++ leBytes 2 n ++ (List.range
        n).flatMap (fun i =>
        let x := tabGet Stats.zero s.pkt.statsCopy (entityKey kind (first + i)); leBytes 8 x.frames ++ leBytes 8 x.bytes ++
        leBytes 8 x.drops)) s))

/-- The events and commands of the client lanes (chapter 12): each event answers a next state with all of its effect, and each
granted command whose own checks pass answers as its rule says. -/
def Obligations.Client_rows_take_their_effect : Prop :=
    (∀ (lane : Fin 32) (signalLost : Bool) (s : State),
      laneOn lane.val s = true →
      exec (.clnLaneFault lane signalLost) s = .next (laneFaults lane.val (if signalLost then 1 else 2) (modLane lane.val
        (fun x => { x with signal := x.signal && !signalLost, cdr := false, trained := false }) s))) ∧
    (∀ (lane : Fin 32) (s : State),
      let x := s.lane lane.val;
      (laneOn lane.val s = true ∧ x.train = true ∧ x.trained = false) →
      let s1 := modLane lane.val (fun y => { y with timedOut := true }) s;
      (∀ c, laneCif lane.val s1 = some c →
          exec (.clnTrainingTimeout lane) s = .next (cifDown c 3 (cifLos c s1)))) ∧
    (∀ (lane : Fin 32) (s : State),
      laneOn lane.val s = true →
      let s1 := modLane lane.val (fun x => { x with signal := true, cdr := true, timedOut := false }) (trainLane lane.val s);
      (∀ c, laneCif lane.val s1 = some c →
          exec (.clnLaneClean lane) s = .next (cifLos c s1))) ∧
    (∀ (cif : Fin 32) (pcsLanes : List Nat) (s : State),
      let x := s.cif cif.val;
      (s.cln.powered = true ∧ x.typ ≠ 0 ∧ x.up = false ∧ anyLane cif.val Lane.faulted s = false ∧ anyLane cif.val
        Lane.diverted s = false) →
      let s1 := (List.range x.lanes).foldl (fun u i => modLane (cif.val + i) (fun y =>
        { y with pcsLane := pcsLanes.getD i 0 % 32 }) u) s;
      let s2 := cifEvent cif.val 0 (modCif cif.val (fun y => { y with up := true, aligned := true, hiErr := false }) s1);
      let s3 := if otnOf x.typ = 0 then s2 else cifFramerUp false cif.val (otnOf x.typ) false s2;
      exec (.clnCifUp cif pcsLanes) s = .next (pktRefresh (apsRefresh s3))) ∧
    (∀ (cif : Fin 32) (cause : AlignLoss) (s : State),
      (s.cif cif.val).up = true →
      let high := decide (cause = .highErrors);
      let s1 := modCif cif.val (fun x => { x with aligned := x.aligned && high, hiErr := high }) s;
      let s2 := if otnOf (s.cif cif.val).typ = 0 then s1 else modUnit (cifKey cif.val) (fun u =>
        u.restart (u.otn - 1)) s1;
      exec (.pcsAlignmentLost cif cause) s = .next (cifDown cif.val (if high then 5 else 4) s2)) ∧
    (∀ (cif : Fin 32) (localFault remoteFault : Bool) (s : State),
      let x := s.cif cif.val;
      (x.up = true ∧ x.typ < 3) →
      exec (.localFaultReceived cif localFault remoteFault) s = .next (modCif cif.val (fun y =>
        { y with rxLf := localFault, rxRf := remoteFault }) s)) ∧
    (∀ (p : Packet) (s₀ s : State),
      Granted (modCmd 0x0A01 8) p s₀ s →
      let c := u8 p.params 0;
      let n := u8 p.params 1;
      let typ := u8 p.params 2;
      let gen := generation typ (u8 p.params 3) n;
      let x : Cif := { Cif.reset with
          lanes := n
          typ := typ
          rate := u8 p.params 3
          fec := if typ ≤ 2 then u8 p.params 4 else 0
          gen := gen.getD 0
          group := if typ = 4 then u8 p.params 5 else 0
          position := if typ = 4 then u8 p.params 6 else 0 };
      let busy := cifNamed c s || decide ((s.cif c).loop ≠ 0) || anyLane c (fun l => decide (l.loop ≠ 0) || l.gen || l.check)
        s;
      c ≤ 31 →
      typ ≤ 4 →
      u8 p.params 3 ≤ 4 →
      u8 p.params 4 ≤ 2 →
      u8 p.params 5 ≤ 15 →
      u8 p.params 6 ≤ 15 →
      busy = false →
      (typ = 0 →
          exec (.clnCifSet p) s₀ = .next (answered 0x0A01 p s₀ .ok [] (cifRemove c s))) ∧
      (typ ≠ 0 →
          (n = 1 ∨ n = 2 ∨ n = 4 ∨ n = 8) →
          c % n = 0 →
          gen.isNone = false →
          fecAllowed typ (u8 p.params 3) n (u8 p.params 4) = true →
          flexoBad c x s = false →
          (List.range n).any (fun i => (laneCif (c + i) s).isSome) = false →
          synthClash c x s = false →
          exec (.clnCifSet p) s₀ = .next (answered 0x0A01 p s₀ .ok [] (cifConfigure c x s)))) ∧
    (∀ (p : Packet) (s₀ s : State),
      Granted (modCmd 0x0A02 8) p s₀ s →
      let l := u8 p.params 0;
      let f := u8 p.params 1;
      let gen := (laneCif l s).map (fun c => (s.cif c).gen);
      (∀ chk ∈ [badParam 0 (decide (31 < l)), badParam 1 (decide (15 < f)), badParam 1 (bit f 2 && !(decide (gen = some 0) ||
        decide (gen = some 1)))] ++ tapChecks p.params ++ [reservedBytes p.params 7 1], chk.bad = false) →
      exec (.clnLaneSet p) s₀ = .next (answered 0x0A02 p s₀ .ok [] (modLane l (fun x => { x with
          taps := tapsOf p.params
          inForce := if x.trained && bit f 2 then x.inForce else tapsOf p.params
          held := if x.rxFreeze && bit f 3 then x.held else none
          txInv := bit f 0
          rxInv := bit f 1
          train := bit f 2
          rxFreeze := bit f 3
          trained := x.trained && bit f 2
          timedOut := x.timedOut && bit f 2 }) s))) ∧
    (∀ (p : Packet) (s₀ s : State),
      Granted { modCmd 0x0A03 4 with maintenance := true } p s₀ s →
      let unit := u8 p.params 1;
      let put := fun (x : Lane) => { x with loop := u8 p.params 2 };
      u8 p.params 0 ≤ 1 →
      unit ≤ 31 →
      u8 p.params 2 ≤ 3 →
      leNat (bytesAt 3 1 p.params) = 0 →
      (if u8 p.params 0 = 0 then (laneCif unit s).isNone = false else (s.cif unit).typ ≠ 0) →
      (u8 p.params 0 = 0 →
          exec (.clnLoop p) s₀ = .next (answered 0x0A03 p s₀ .ok [] (loopEnds unit (divertLane unit put s)))) ∧
      (u8 p.params 0 ≠ 0 →
          exec (.clnLoop p) s₀ = .next (answered 0x0A03 p s₀ .ok [] ((List.range (s.cif unit).lanes).foldl (fun u i =>
            divertLane (unit + i) put u) (modCif unit (fun x => { x with loop := u8 p.params 2 }) s))))) ∧
    (∀ (p : Packet) (s₀ s : State),
      Granted { modCmd 0x0A04 4 with maintenance := true } p s₀ s →
      let l := u8 p.params 0;
      let pat := u8 p.params 1;
      let nrz := ((laneCif l s).map (fun c => decide ((s.cif c).gen = 3) || decide ((s.cif c).gen = 4))).getD false;
      l ≤ 31 →
      (pat ≤ 3 ∧ (2 ≤ pat → nrz = false)) →
      u8 p.params 2 ≤ 3 →
      leNat (bytesAt 3 1 p.params) = 0 →
      exec (.clnPrbs p) s₀ = .next (answered 0x0A04 p s₀ .ok [] (divertLane l (fun x => { x with
          prbs := pat
          gen := decide (pat ≠ 0) && bit (u8 p.params 2) 0
          check := decide (pat ≠ 0) && bit (u8 p.params 2) 1 }) s))) ∧
    (∀ (p : Packet) (s₀ s : State),
      Granted (readCmd 0x0A05 4) p s₀ s →
      let c := u8 p.params 0;
      c ≤ 31 →
      leNat (bytesAt 1 3 p.params) = 0 →
      (s.cif c).typ ≠ 0 →
      exec (.clnCifGet p) s₀ = .next (answered 0x0A05 p s₀ .ok (leBytes 4 (cifCfgWord (s.cif c)) ++ leBytes 4 (cifStatusWord
        c s) ++ (List.range 8).flatMap (fun i => leBytes 4 (if i < (s.cif c).lanes then laneStatusWord (s.lane (c + i)) else
        0))) s))

/-- The events and commands of the peer link (chapter 12): each event answers a next state with all of its effect, and each
granted command whose own checks pass answers as its rule says. -/
def Obligations.Peer_rows_take_their_effect : Prop :=
    (∀ (lane : Fin 16) (s : State),
      plkRunning s = true →
      exec (.plkLaneCdrLocked lane) s = .next (plkProgress (modPeer lane.val (fun x => { x with cdr := true }) s))) ∧
    (∀ (lane : Fin 16) (s : State),
      plkRunning s = true →
      exec (.plkDfeConverged lane) s = .next (plkProgress (modPeer lane.val (fun x => { x with dfe := x.cdr }) s))) ∧
    (∀ (lane : Fin 16) (s : State),
      plkRunning s = true →
      exec (.plkLaneLoss lane) s = .next (plkProgress (modPeer lane.val (fun x =>
        { markDead x with cdr := false, dfe := false, found := false, mkrLock := false, deskewed := false, errRun := 0 }) s))) ∧
    (∀ (lane : Fin 16) (marker : MarkerIn) (s : State),
      (plkRunning s = true ∧ (s.peerLane lane.val).cdr = true) →
      let gap := behind marker s.plk.firsts;
      let known := s.plk.firsts.any (fun x => decide (x.1 = markerCount marker));
      let s1 := modPeer lane.val (markerStep lane.val (decide (skewSymbols < gap)) marker) s;
      ((markerValid lane.val marker = true ∧ (s1.peerLane lane.val).mkrLock = true
          ∧ (s1.peerLane lane.val).foundAt = marker.symbol) →
          let first :=
            match s.plk.rxFrom with | some (c, k) => decide (c ≠ markerCount marker) || decide (lane.val ≤ k) | none => true;
          exec (.plkMarkerReceived lane marker) s = .next (plkMirror (plkProgress { s1 with
              plk := { s1.plk with
                  remoteAlive := markerAlive marker
                  firsts := noteFirst marker s.plk.firsts
                  skew := min 65535 (if known then max s.plk.skew (gap * 8 / 85) else 0)
                  rxStripe := if first then markerStripe marker else s1.plk.rxStripe
                  rxRow := if first && decide (markerStripe marker ≠ s1.plk.rxStripe) then 0 else s1.plk.rxRow
                  rxFrom := if first then some (markerCount marker, lane.val) else s1.plk.rxFrom } }))) ∧
      ((markerValid lane.val marker = true → (s1.peerLane lane.val).mkrLock = true →
          (s1.peerLane lane.val).foundAt ≠ marker.symbol) →
          exec (.plkMarkerReceived lane marker) s = .next (plkMirror (plkProgress s1)))) ∧
    (∀ (stuffed : List Nat) (s : State),
      plkRunning s = true →
      let n := (s.plk.count + 1) % 2 ^ 24;
      let s1 := { s with
          plk := { s.plk with
              count := n
              txStripe := stripeNow s.plk
              txRow := if stripeNow s.plk = s.plk.txStripe then s.plk.txRow else 0
              lanes := vecMap (fun l x => if s.plk.mask.getLsbD l && decide (s.plk.loop ≠ 3) then
                x.mark l (localAlive s.plk) (stripeNow s.plk) n else x) s.plk.lanes } };
      let s2 := if stripeNow s.plk = s.plk.txStripe then s1 else lanesEvent s1;
      exec (.plkMarkerPeriodStart stuffed) s = .next (plkMirror (plkRefresh (plkProgress s2)))) ∧
    (∀ (ready : List TribBlock) (s : State),
      (plkRunning s = true ∧ s.plk.loop ≠ 3 ∧ s.plk.txStripe = 0) →
      exec (.plkBlockTransmit ready) s = .next ({ s with plk := sendZeros s.plk })) ∧
    (∀ (ready : List TribBlock) (s : State),
      (plkRunning s = true ∧ s.plk.loop ≠ 3 ∧ s.plk.txStripe ≠ 0) →
      let s1 := accrue (plkApsDue s);
      let owed := (apsOwed s1).filter (fun x => s1.plk.apsDue.contains x.1);
      (owed ≠ [] →
          let now := owed.take 30;
          let ids := now.map (fun x => x.1);
          let s2 := sendBlock 2 0 0 (now.flatMap (fun x => beBytes 2 x.1 ++ leBytes 1 x.2 ++ leBytes 1 0)) s1;
          exec (.plkBlockTransmit ready) s = .next ({ s2 with
              plk := { s2.plk with
                  apsDue := (s2.plk.apsDue.filter (fun w => !ids.contains w))
                  apsSent := now.foldl (fun t x => tabInsert t x.1 x.2) s2.plk.apsSent } })) ∧
      (owed = [] →
          (s1.plk.helloReady = true →
              let s2 := sendBlock 3 0 0 (beBytes 8 s1.dev.serial.toNat ++ leBytes 1 1 ++ leBytes 1 (b2n s1.plk.xferEn) ++
                beBytes 2 (plkDemand s1) ++ leBytes 4 0) s1;
              exec (.plkBlockTransmit ready) s = .next
                ({ s2 with plk := { s2.plk with helloReady := false, apsDue := [] } })) ∧
          (s1.plk.helloReady = false →
              let able := ready.filter (fun b => decide (b.data ≠ []) && (xferChannels s1).any (fun x => x.1 = b.chan));
              let best := able.foldl (fun (m : Option TribBlock) b =>
                match m with | none => some b | some a => if tabGet 0 s1.plk.credit a.chan < tabGet 0 s1.plk.credit b.chan then some b else some a)
                none;
              (∀ b, best = some b →
                  exec (.plkBlockTransmit ready) s = .next (sendTrib b s1)) ∧
              (best = none →
                  exec (.plkBlockTransmit ready) s = .next (sendBlock 0 0 0 [] s1))))) ∧
    (∀ (chan : Fin 256) (block : BlockIn) (s : State),
      let u := receiveWords block.words s;
      ((plkRunning s = true ∧ s.plk.loop ≠ 2) →
          exec (.plkTribBlockReceived chan block) s = .next (takeBlock u.plk.rxBlock u)) ∧
      ((plkRunning s = true ∧ s.plk.loop = 2) →
          exec (.plkTribBlockReceived chan block) s = .next u)) ∧
    (∀ (block : BlockIn) (entries : List (Nat × Byte)) (s : State),
      let u := receiveWords block.words s;
      ((plkRunning s = true ∧ s.plk.loop ≠ 2) →
          exec (.plkApsBlockReceived block entries) s = .next (takeBlock u.plk.rxBlock u)) ∧
      ((plkRunning s = true ∧ s.plk.loop = 2) →
          exec (.plkApsBlockReceived block entries) s = .next u)) ∧
    (∀ (hello : HelloIn) (s : State),
      let u := receiveWords hello.words s;
      ((plkRunning s = true ∧ s.plk.loop ≠ 2) →
          exec (.plkHelloReceived hello) s = .next (takeBlock u.plk.rxBlock u)) ∧
      ((plkRunning s = true ∧ s.plk.loop = 2) →
          exec (.plkHelloReceived hello) s = .next u)) ∧
    (∀ (b : List Byte) (s : State),
      (blockRight b = false → takeBlock b s = { s with plk := { s.plk with blkCrc := sat32 s.plk.blkCrc 1 } }) ∧
      (blockRight b = true → blockType b = 0 → takeBlock b s = s) ∧
      (blockRight b = true → blockType b = 1 → takeBlock b s = takeTrib b s) ∧
      (blockRight b = true → blockType b = 2 → takeBlock b s = takeAps b s) ∧
      (blockRight b = true → blockType b = 3 → takeBlock b s = takeHello b s) ∧
      (blockRight b = true → 4 ≤ blockType b → takeBlock b s = { s with plk := { s.plk with blkBad := sat32 s.plk.blkBad 1 } })) ∧
    (∀ (s : State),
      plkRunning s = true →
      exec .plkHelloTimer s = .next ({ s with plk := { s.plk with helloReady := true } })) ∧
    (∀ (s : State),
      plkRunning s = true →
      exec .plkApsRefreshTimer s = .next ({ s with plk := { s.plk with apsDue := (apsOwed s).map (fun x => x.1) } })) ∧
    (∀ (working : Fin 256) (s : State),
      exec (.plkApsEntryTimeout working) s = .next (plkRefresh
        { s with plk := { s.plk with apsRx := s.plk.apsRx.filter (fun e => e.1 ≠ working.val) } })) ∧
    (∀ (s : State),
      s.plk.state = .up →
      exec .plkHelloTimeout s = .next (setPlk .hello 1 s)) ∧
    (∀ (p : Packet) (s₀ s : State),
      Granted (modCmd 0x0B01 4) p s₀ s →
      let mask := BitVec.ofNat 16 (u16 p.params 2);
      let en := bit (u8 p.params 0) 0;
      u8 p.params 0 ≤ 3 →
      u8 p.params 1 ≠ 0 →
      mask ≠ 0 →
      (u8 p.params 1 ≤ 16 ∧ u8 p.params 1 ≤ laneCount mask) →
      let s1 := { s with plk := { s.plk with en := en, xferEn := bit (u8 p.params 0) 1, minLanes := u8 p.params 1, mask := mask } };
      (en = true →
          exec (.plkCfgSet p) s₀ = .next (answered 0x0B01 p s₀ .ok [] (plkRefresh (plkProgress (plkStart 5 s1))))) ∧
      (en = false →
          exec (.plkCfgSet p) s₀ = .next (answered 0x0B01 p s₀ .ok [] (plkStop 5 s1)))) ∧
    (∀ (p : Packet) (s₀ s : State),
      Granted (modCmd 0x0B02 8) p s₀ s →
      let f := u8 p.params 1;
      (∀ chk ∈ [badParam 0 (decide (15 < u8 p.params 0)), badParam 1 (decide (15 < f) || bit f 2)] ++ tapChecks p.params ++
        [reservedBytes p.params 7 1], chk.bad = false) →
      exec (.plkLaneSet p) s₀ = .next (answered 0x0B02 p s₀ .ok [] (modPeer (u8 p.params 0) (fun x =>
        { x with
            held := if x.rxFreeze && bit f 3 then x.held else none
            taps := tapsOf p.params
            txInv := bit f 0
            rxInv := bit f 1
            rxFreeze := bit f 3 }) s))) ∧
    (∀ (p : Packet) (s₀ s : State),
      Granted { modCmd 0x0B03 4 with maintenance := true } p s₀ s →
      u8 p.params 0 ≤ 3 →
      leNat (bytesAt 1 3 p.params) = 0 →
      exec (.plkLoop p) s₀ = .next (answered 0x0B03 p s₀ .ok [] (plkSetLoop (u8 p.params 0) s))) ∧
    (∀ (p : Packet) (s₀ s : State),
      Granted (readCmd 0x0B04 0) p s₀ s →
      exec (.plkStatusGet p) s₀ = .next (answered 0x0B04 p s₀ .ok (leBytes 4 (plkStatusWord s) ++ leBytes 4 (plkAliveWord s)
        ++ leBytes 4 (plkStripeWord s) ++ leBytes 4 (plkXferWord s) ++ leBytes 32 (plkShedMap s) ++ leBytes 8
        s.plk.peerSerial.toNat ++ leBytes 8 0) s))

/-- The events and commands of the monitor chain (chapter 13): each event answers a next state with all of its effect, and
each granted command whose own checks pass answers as its rule says. -/
def Obligations.Monitor_rows_take_their_effect : Prop :=
    (∀ (ring : RingId) (value : Word) (s : State),
      let v := value.toNat;
      let put := fun n => if v < (s.ring n).size then modRing n (fun r => { r with head := v }) s else s;
      (ring = .ptp →
          exec (.dmaRingHeadWrite ring value) s = .next (if v < s.tim.ring.size then
            { s with tim := { s.tim with ring := { s.tim.ring with head := v } } } else s)) ∧
      (∀ c, ring = .monitor c →
          exec (.dmaRingHeadWrite ring value) s = .next (put c.val)) ∧
      (∀ k, ring = .hka k →
          exec (.dmaRingHeadWrite ring value) s = .next (put (16 + k.val)))) ∧
    (∀ (chan : Fin 16) (inputs : List Int) (s : State),
      let x := s.chan chan.val;
      (stopCause chan.val s = 0 ∧ x.running = true) →
      let r := x.filter.pass x.chain inputs;
      let s1 := modChan chan.val (fun z => { z with filter := r.2 }) s;
      (x.filling = true →
          exec (.monOutputSample chan inputs) s = .next s1) ∧
      (x.filling = false →
          exec (.monOutputSample chan inputs) s = .next (outputSample chan.val r.1 s1))) ∧
    (∀ (c : Nat) (y : Int) (s : State),
      let v := satSample y;
      let a := v.natAbs;
      let sat := decide (v ≠ y);
      let s1 := closeFull c s;
      let x := s1.chan c;
      let e := nextEnv x.env a (attackOf c s1) (releaseOf c s1);
      let above := nextAbove x.above e (thrOf c s1) (hystOf c s1);
      let s2 := modChan c (fun z => { z with
          env := e
          above := above
          crossDue := z.crossDue || (!isFsop c s1 && z.force.envEvt && decide (above ≠ z.above))
          sat := satAdd 0xFFFFFFFF z.sat (b2n sat)
          peakWin := z.peakWin.push a s1
          rmsWin := z.rmsWin.push a s1 }) s1;
      let s3 := if isFsop c s2 && above && !x.above then sendFsop (c / 8) s2 else s2;
      outputSample c y s = addSample c v sat (envCross c s3)) ∧
    (∀ (engine : Fin 2) (s : State),
      let c := 8 * engine.val + (s.fsop engine.val).chan;
      exec (.monFsopRepeat engine) s = .next (if (s.chan c).above && delivers c s then sendFsop engine.val s else s)) ∧
    (∀ (chan : Fin 16) (s : State),
      exec (.monChainFilled chan) s = .next (modChan chan.val (fun x => { x with filling := false }) s)) ∧
    (∀ (chan : Fin 16) (isRms : Bool) (s : State),
      let x := s.chan chan.val;
      (isRms = true →
          exec (.monDetectorWindowEnd chan isRms) s = .next (if 2 ^ rmsExpOf chan.val s ≤ x.rmsWin.count then closeRms
            chan.val s else s)) ∧
      (isRms = false →
          exec (.monDetectorWindowEnd chan isRms) s = .next (if 2 ^ peakExpOf chan.val s ≤ x.peakWin.count then closePeak
            chan.val s else s))) ∧
    (∀ (chan : Fin 16) (s : State),
      exec (.monRecordWrite chan) s = .next (if 12 ≤ (s.chan chan.val).samples.length then flushRecord chan.val s else s)) ∧
    (∀ (p : Packet) (s₀ s : State),
      Granted (modCmd 0x0C01 24) p s₀ s →
      let c := u8 p.params 0;
      let g := parseChan p.params;
      c ≤ 15 →
      u8 p.params 1 ≤ 7 →
      g.source ≤ 10 →
      (3 ≤ g.n ∧ g.n ≤ 5) →
      (3 ≤ g.dexp ∧ g.dexp ≤ 12) →
      (1 ≤ g.m ∧ g.m ≤ 2) →
      g.phase ≤ 4095 →
      (g.bin ≤ 511 ∧ (g.bin = 0 ∨ g.source = 5 ∨ g.source = 6)) →
      g.attack ≤ 15 →
      g.release ≤ 15 →
      g.pkExp ≤ 20 →
      g.rmsExp ≤ 20 →
      leNat (bytesAt 14 2 p.params) = 0 →
      g.hyst ≤ g.thr →
      isFsop c s = false →
      loadWith c g s ≤ loadLimit →
      exec (.monChSet p) s₀ = .next (answered 0x0C01 p s₀ .ok [] (storeChan c g s))) ∧
    (∀ (p : Packet) (s₀ s : State),
      Granted (modCmd 0x0C02 8) p s₀ s →
      let e := u8 p.params 0;
      let k := u8 p.params 1;
      e ≤ 1 →
      k ≤ 7 →
      u16 p.params 2 ≠ 0 →
      u16 p.params 2 ≤ 10000 →
      u16 p.params 4 < u16 p.params 2 →
      u8 p.params 6 ≤ 15 →
      leNat (bytesAt 7 1 p.params) = 0 →
      loadFsop e k s ≤ loadLimit →
      let s1 := modFsop e (fun x => { x with next := some ⟨k, u16 p.params 2, u16 p.params 4, u8 p.params 6⟩ }) s;
      exec (.monFsopSet p) s₀ = .next (answered 0x0C02 p s₀ .ok [] (if (s.engine e).state = .off then modFsop e Fsop.put s1
        else s1))) ∧
    (∀ (p : Packet) (s₀ s : State),
      Granted (readCmd 0x0C03 4) p s₀ s →
      let x := s.chan (u8 p.params 0);
      u8 p.params 0 ≤ 15 →
      leNat (bytesAt 1 3 p.params) = 0 →
      exec (.monDetGet p) s₀ = .next (answered 0x0C03 p s₀ .ok (leBytes 4 x.peak ++ leBytes 6 x.peakSec ++ leBytes 2 0 ++
        leBytes 4 x.peakNs ++ leBytes 4 x.rms ++ leBytes 4 x.env ++ leBytes 4 (chanStatus (u8 p.params 0) s) ++ leBytes 4 0)
        s)) ∧
    (∀ (p : Packet) (s₀ s : State),
      Granted (modCmd 0x0C04 16) p s₀ s →
      let n := u8 p.params 0;
      let en := bit (u8 p.params 1) 0;
      let base := u64 p.params 4;
      let size := u32 p.params 12;
      n ≤ 17 →
      u8 p.params 1 ≤ 1 →
      leNat (bytesAt 2 2 p.params) = 0 →
      base % 64 = 0 →
      (en = true → size ≠ 0) →
      (en = true → ringSizeOk size = true) →
      exec (.monRingSet p) s₀ = .next (answered 0x0C04 p s₀ .ok [] (modRing n (fun _ => if en then ⟨true, BitVec.ofNat 64
        base, size, 0, 0, true, false, 0, []⟩ else DmaRing.reset) s)))

/-- The events and commands of the housekeeping converters (chapter 13): each event answers a next state with all of its
effect, and each granted command whose own checks pass answers as its rule says. -/
def Obligations.Housekeeping_rows_take_their_effect : Prop :=
    (∀ (sar : Fin 2) (raw : Nat) (ovr : Option Bool) (s : State),
      ((s.sar sar.val).work = .settling →
          exec (.hkaConversionDone sar raw ovr) s = .next (sarStep sar.val (modSar sar.val (fun x =>
            { x with settleFrom := none }) s))) ∧
      ((s.sar sar.val).work = .injected →
          exec (.hkaConversionDone sar raw ovr) s = .next (sarStep sar.val (doneInjected sar.val raw ovr s))) ∧
      ((s.sar sar.val).work = .system →
          exec (.hkaConversionDone sar raw ovr) s = .next (sarStep sar.val (doneSystem sar.val raw ovr s))) ∧
      ((s.sar sar.val).work = .regular →
          exec (.hkaConversionDone sar raw ovr) s = .next (sarStep sar.val (doneRegular sar.val raw ovr s)))) ∧
    (∀ (s : State),
      exec .hkaSystemTick s = .next (systemDue 1 (systemDue 0 (markTick (toTick s))))) ∧
    (∀ (sar : Fin 2) (s : State),
      let x := s.sar sar.val;
      x.seq.en = true →
      ((x.seqLeft.isEmpty = true ∧ x.regAvg.isNone = true) →
          exec (.hkaSeqPeriodStart sar) s = .next (sarKick sar.val (modSar sar.val startSeq s))) ∧
      ((x.seqLeft.isEmpty = true → x.regAvg.isNone = false) →
          exec (.hkaSeqPeriodStart sar) s = .next (modSar sar.val (fun y => { y with seqDue := true, overrun := true }) s))) ∧
    (∀ (sar : Fin 2) (s : State),
      (s.mon.calPeriod ≠ 0 ∧ (s.sar sar.val).started = true ∧ (s.sar sar.val).cal = .none) →
      exec (.hkaCalTimer sar) s = .next (calBegin sar.val 1 s)) ∧
    (∀ (sar : Fin 2) (s : State),
      (s.sar sar.val).cal = .running →
      let s1 := calReport sar.val .ok s;
      let s2 := modSar sar.val (fun x => { x with cal := .none, calValid := true, trims := some s.tim.now, calAbort := false })
        { s1 with mon := { s1.mon with calDone := satAdd 0xFFFF s1.mon.calDone 1 } };
      exec (.hkaCalComplete sar) s = .next (sarStep sar.val s2)) ∧
    (∀ (sar : Fin 2) (s : State),
      ((s.sar sar.val).cal = .running ∧ (s.sar sar.val).calAbort = true) →
      let s1 := calReport sar.val .aborted s;
      let s2 := modSar sar.val (fun x => { x with cal := .waiting, calOrigin := 2, calAbort := false })
        { s1 with mon := { s1.mon with calAborted := satAdd 0xFFFF s1.mon.calAborted 1 } };
      exec (.hkaCalStepAbort sar) s = .next (sarStep sar.val s2)) ∧
    (∀ (p : Packet) (s₀ s : State),
      Granted { modCmd 0x0C05 0 with lenOk := fun ps => decide (ps.length = 8 + 2 * u8 ps 2) } p s₀ s →
      let k := u8 p.params 0;
      let n := u8 p.params 2;
      let es := parseEntries p.params 8 n;
      let q : SeqCfg := ⟨bit (u8 p.params 1) 0, bit (u8 p.params 1) 1, u32 p.params 4, es⟩;
      (∀ chk ∈ [badParam 0 (1 < k), badParam 1 (3 < u8 p.params 1), badLen 2 (n = 0), badParam 2 (16 < n), reservedBytes
        p.params 3 1, badLen 4 (q.period = 0), badParam 4 (q.period < 10 ∨ 1000000 < q.period)] ++ hkaEntryChecks 8 es,
        chk.bad = false) →
      exec (.hkaSeqSet p) s₀ = .next (answered 0x0C05 p s₀ .ok [] (sarKick k (modSar k (setSeq q) s)))) ∧
    (∀ (p : Packet) (s₀ s : State),
      Granted { readCmd 0x0C06 0 with lenOk := fun ps => decide (ps.length = 4 + 2 * u8 ps 2) } p s₀ s →
      let k := u8 p.params 0;
      let n := u8 p.params 2;
      let es := parseEntries p.params 4 n;
      let urgent := bit (u8 p.params 1) 0;
      let want := (es.map (fun e => 2 ^ e.shift)).foldl (· + ·) 0;
      (∀ chk ∈ [badParam 0 (1 < k), badParam 1 (1 < u8 p.params 1), badLen 2 (n = 0), badParam 2 (4 < n), reservedBytes
        p.params 3 1] ++ hkaEntryChecks 4 es ++ [failIf .noResource (4 < pendingConversions (s.sar k) + want)], chk.bad =
        false) →
      let kk := takeKey s;
      exec (.hkaInject p) s₀ = .next (waiting 0x0C06 p s₀ kk.1 (sarKick k (modSar k (fun x => { x with
          injected := x.injected ++ [⟨kk.1, urgent, false, es, none, 0, []⟩]
          calAbort := x.calAbort || (urgent && decide (x.cal = .running)) }) kk.2)))) ∧
    (∀ (p : Packet) (s₀ s : State),
      Granted (modCmd 0x0C07 4) p s₀ s →
      let k := u8 p.params 0;
      k ≤ 1 →
      leNat (bytesAt 1 3 p.params) = 0 →
      (s.sar k).cal = .none →
      s.hif.deferred.length < 64 →
      exec (.hkaCal p) s₀ = .next (endOrigin (calBegin k 0 (deferredAs 0x0C07 p s₀ k 12 3 (leBytes 1 k ++ leBytes 1 13 ++ leBytes 6 0)
        s)))) ∧
    (∀ (p : Packet) (s₀ s : State),
      Granted (modCmd 0x0C08 8) p s₀ s →
      let off := s16 p.params 2;
      let gain := s16 p.params 4;
      u8 p.params 0 ≤ 1 →
      u8 p.params 1 ≤ 15 →
      off.natAbs ≤ 2048 →
      gain.natAbs ≤ 4096 →
      leNat (bytesAt 6 2 p.params) = 0 →
      exec (.hkaCorrSet p) s₀ = .next (answered 0x0C08 p s₀ .ok [] (modSar (u8 p.params 0) (fun x =>
        { x with corr := tabInsert x.corr (u8 p.params 1) (off, gain) }) s))) ∧
    (∀ (p : Packet) (s₀ s : State),
      Granted (modCmd 0x0C09 4) p s₀ s →
      u8 p.params 0 ≠ 0 →
      u8 p.params 0 ≤ 64 →
      u8 p.params 1 ≤ 240 →
      leNat (bytesAt 2 2 p.params) = 0 →
      exec (.hkaCfgSet p) s₀ = .next (answered 0x0C09 p s₀ .ok []
        { s with mon := { s.mon with xchkTol := u8 p.params 0, calPeriod := u8 p.params 1 } }))

/-- The events and commands of thermal management and power (chapter 14): each event answers a next state with all of its
effect, and each granted command whose own checks pass answers as its rule says. -/
def Obligations.Thermal_rows_take_their_effect : Prop :=
    (∀ (readings : List SensorIn) (s : State),
      (s.pins.vddAon = true ∧ readings.length = 74 ∧ s.clocked = false) →
      exec (.thmSample readings) s = .next (tripStep (cadenceStep (takeReadings readings s)))) ∧
    (∀ (readings : List SensorIn) (s : State),
      (s.pins.vddAon = true ∧ readings.length = 74 ∧ s.clocked = true) →
      let s0 := advancePs (s.thm.lastSample + samplePeriod s.thm - s.tim.now) s;
      let s1 := takeReadings readings (modThm (fun t => { t with lastSample := s0.tim.now }) s0);
      let s2 := cadenceStep (degradedStep (invalidEvents s0 s1));
      let s3 := coolStep (tripStep (windowStep s2));
      exec (.thmSample readings) s = .next (thmMirror (cnvOnTemp 1 (cnvOnTemp 0 (ladder s3))))) ∧
    (∀ (s : State),
      (s.clocked = true ∧ s.thm.pacing = true) →
      exec .thmLevelPacingEnd s = .next (levelEvent (modThm (fun t => { t with pacing := false }) s))) ∧
    (∀ (s : State),
      (s.clocked = true ∧ s.thm.coolSince.isNone = false) →
      let s1 := modThm (fun t => { t with coolMet := true, following := false }) s;
      ((s.dev.mode = .ember ∧ s.thm.latched = false) →
          exec .coolingRuleMet s = .next (leaveEmber 4 true s1)) ∧
      ((s.dev.mode = .ember → s.thm.latched = true) →
          ((s.dev.mode = .lockout ∧ s.thm.trip = true) →
              exec .coolingRuleMet s = .next
                (flashWake { s1 with thm := { s1.thm with trip := false }, pins := { s1.pins with thermTripN := true } })) ∧
          ((s.dev.mode = .lockout → s.thm.trip = false) →
              exec .coolingRuleMet s = .next s1))) ∧
    (∀ (margin : Nat) (s : State),
      (s.pins.vddAon = true ∧ s.clocked = true) →
      let s0 := advancePs (s.thm.lastAvs + 1000000000 - s.tim.now) s;
      let s1 := modThm (fun t => { t with lastAvs := s0.tim.now, margin := min 255 margin }) s0;
      exec (.avsEvaluation margin) s = .next (avsMirror (avsCheck (avsStep margin s1)))) ∧
    (∀ (s : State),
      exec .crystalLoss s = .next (modThm (fun t => { t with crystalLost := true }) s)) ∧
    (∀ (p : Packet) (s₀ s : State),
      Granted (modCmd 0x0D01 4) p s₀ s →
      let start := u8 p.params 0;
      let span := u8 p.params 1;
      let trip := u8 p.params 2;
      let floor := u8 p.params 3;
      (85 ≤ start ∧ start ≤ 108) →
      (2 ≤ span ∧ span ≤ 20) →
      (100 ≤ trip ∧ trip ≤ 118) →
      trip ≤ s.thm.tripLimit →
      (2 ≤ floor ∧ floor ≤ 12) →
      start + span ≤ trip →
      exec (.thmLimitSet p) s₀ = .next (answered 0x0D01 p s₀ .ok [] (modThm (fun t =>
        { t with thrStart := start, span := span, tripLimit := trip, fecFloor := floor }) s))) ∧
    (∀ (p : Packet) (s₀ s : State),
      Granted (readCmd 0x0D02 0) p s₀ s →
      let t := s.thm;
      exec (.thmStatusGet p) s₀ = .next (answered 0x0D02 p s₀ .ok (leBytes 1 t.level ++ leBytes 1 (rungCount t) ++ leBytes 1
        t.step1 ++ leBytes 1 t.step2 ++ leBytes 1 t.step3 ++ leBytes 1 t.step4 ++ leBytes 1 (statusBits s) ++ leBytes 1
        t.hotSensor ++ leBytesInt 2 t.hottest ++ leBytes 2 0 ++ zoneTemps s ++ leBytes 2 t.degraded.toNat ++ leBytes 2 0 ++
        leBytes 12 (invalidMap s)) s)) ∧
    (∀ (p : Packet) (s₀ s : State),
      Granted (readCmd 0x0D03 4) p s₀ s →
      let first := u8 p.params 0;
      let count := u8 p.params 1;
      first ≤ 73 →
      (count ≠ 0 ∧ (fromBmc p = true → count ≤ 55)) →
      first + count ≤ 74 →
      leNat (bytesAt 2 2 p.params) = 0 →
      exec (.thmSensorGet p) s₀ = .next (answered 0x0D03 p s₀ .ok (leBytes 1 count ++ leBytes 3 0 ++ (List.range
        count).flatMap (fun i => leBytes 4 (sensorWord (s.sensor (first + i))))) s)) ∧
    (∀ (p : Packet) (s₀ s : State),
      Granted (readCmd 0x0D04 0) p s₀ s →
      let r := s.thm.record;
      exec (.thmTripGet p) s₀ = .next (answered 0x0D04 p s₀ .ok (leBytes 6 r.seconds ++ leBytes 2 0 ++ leBytes 4
        r.nanoseconds ++ leBytesInt 2 r.peak ++ leBytes 1 r.sensor ++ leBytes 1 (packBits [r.valid, decide (r.cause = 1),
        r.flashWait]) ++ leBytes 2 s.thm.trips ++ leBytes 1 (recentTrips s) ++ leBytes 1 (b2n s.thm.latched) ++ leBytes 4
        (coolSeconds s)) s)) ∧
    (∀ (p : Packet) (s₀ s : State),
      Granted (readCmd 0x0D05 0) p s₀ s →
      let t := s.thm;
      exec (.pwrAvsGet p) s₀ = .next (answered 0x0D05 p s₀ .ok (leBytes 2 (targetMv s) ++ leBytes 2 t.floor ++ leBytes 2
        t.measured ++ leBytes 1 t.margin ++ leBytes 1 (packBits [t.atMax, t.fixed.isSome, t.fault]) ++ leBytes 1 t.target ++
        leBytes 1 t.seq ++ leBytes 2 0) s)) ∧
    (∀ (p : Packet) (s₀ s : State),
      Granted { modCmd 0x0D06 4 with maintenance := true } p s₀ s →
      let fix := u8 p.params 0;
      let v := u16 p.params 2;
      fix ≤ 1 →
      leNat (bytesAt 1 1 p.params) = 0 →
      (fix = 1 → v % 25 = 0 ∧ 10 * s.thm.floor ≤ v ∧ v ≤ 8000) →
      exec (.pwrAvsFix p) s₀ = .next (answered 0x0D06 p s₀ .ok [] (if fix = 1 then setTarget ((v - 5000) / 25) 2 (modThm (fun
        t => { t with fixed := some ((v - 5000) / 25) }) s) else avsRelease s)))

/-- The events and commands of memory integrity (chapter 15): each event answers a next state with all of its effect, and each
granted command whose own checks pass answers as its rule says. -/
def Obligations.Memory_rows_take_their_effect : Prop :=
    (∀ (target : UeTarget) (faulty : Bool) (s : State),
      s.mi.awaiting.any (fun a => a.1 = target) = true →
      exec (.configEntryRebuilt target faulty) s = .next (rebuiltEffect target (rebuilt target faulty s))) ∧
    (∀ (cls : Fin 14) (inst row : Nat) (scrub : Bool) (found : CeFound) (s : State),
      (rowLive cls.val inst s = true ∧ isError found cls.val inst row s = true) →
      let injected := flipPending cls.val inst row s;
      let s1 := countScrub cls.val inst row scrub (fun x => { x with corrected := x.corrected + 1 }) (countCe cls.val inst
        row (useFlip cls.val inst row (setValid cls.val inst row s)));
      ((isStuck found = true ∧ injected = false) →
          exec (.memoryCorrectableError cls inst row scrub found) s = .next (countScrub cls.val inst row scrub (fun x =>
            { x with retired := x.retired + b2n (decide (cls.val = 3) || decide (sparesLeft cls.val inst s1 ≠ 0)) })
            (stuckRow cls.val inst row s1))) ∧
      ((isStuck found = true → injected = true) →
          exec (.memoryCorrectableError cls inst row scrub found) s = .next s1)) ∧
    (∀ (cls : Fin 14) (inst row : Nat) (scrub : Bool) (target : UeTarget) (s : State),
      (rowLive cls.val inst s = true ∧ unwritten cls.val inst row s = false) →
      let t := classTarget cls.val scrub target;
      ((s.memClass cls.val).poisoned.contains (inst, row) = true →
          scrub = false →
          exec (.memoryUncorrectableError cls inst row scrub target) s = .next (ueEffect cls.val inst row t
            { s with mi := { s.mi with poisonRd := satAdd 0xFFFFFFFF s.mi.poisonRd 1 } })) ∧
      ((s.memClass cls.val).poisoned.contains (inst, row) = false →
          let injected := flipPending cls.val inst row s;
          let s1 := countScrub cls.val inst row scrub (fun x => { x with fresh := x.fresh + 1 }) (useFlip cls.val inst row
            (setValid cls.val inst row s));
          let s2 := if keepsPoison cls.val t then poisonRow cls.val inst row (awaits cls.val t) s1 else s1;
          exec (.memoryUncorrectableError cls inst row scrub target) s = .next (ueEffect cls.val inst row t (reportUe
            cls.val inst row injected scrub (ueCode cls.val inst row t s) s2)))) ∧
    (∀ (cls : Fin 14) (s : State),
      classPowered cls.val s = true →
      exec (.miPatrolRead cls) s = .next (modClass cls.val (fun c => if c.patrolPos + 1 < classRows cls.val then
        { c with patrolPos := c.patrolPos + 1 } else if c.patrolInst + 1 < classInstances cls.val then
        { c with patrolPos := 0, patrolInst := c.patrolInst + 1 } else
        { c with patrolPos := 0, patrolInst := 0, swept := true, sweepAge := 0 }) s)) ∧
    (∀ (ok : Bool) (s : State),
      s.mi.reloading.isNone = false →
      let s1 := rebuilt .codePage false { s with mi := { s.mi with reloading := none } };
      ((ok = true ∨ resetAllowed s1.dev.mode = false) →
          exec (.acmPageReloadComplete ok) s = .next s1) ∧
      ((ok = false ∧ resetAllowed s1.dev.mode = true) →
          exec (.acmPageReloadComplete ok) s = .next (startAppReset 3 false s1))) ∧
    (∀ (tile : Nat) (passed : Bool) (s : State),
      s.pkt.marching.contains tile = true →
      let s1 := clearTile tile { s with pkt := { s.pkt with marching := s.pkt.marching.filter (fun x => x ≠ tile) } };
      (passed = true →
          exec (.wpTileMarchComplete tile passed) s = .next s1) ∧
      (passed = false →
          exec (.wpTileMarchComplete tile passed) s = .next (retireWpTile tile 0 s1))) ∧
    (∀ (cls : Fin 14) (unwritten : Nat) (s : State),
      ∀ x, (s.memClass cls.val).range = some x →
      let n := unwrittenIn cls.val x x.count unwritten s;
      exec (.scrubRangeComplete cls unwritten) s = .next (completeOr 0x0E01 cls.val .ok 14 4 (scrubSummary cls.val .ok x
        (x.count - n) n (poisonedIn (s.memClass cls.val) x x.count) ((s.tim.now - x.startPs)
        / 1000000)) (modClass cls.val (fun c => { c with range := none }) s))) ∧
    (∀ (p : Packet) (s₀ s : State),
      Granted (modCmd 0x0E01 12) p s₀ s →
      let k := u8 p.params 0;
      let x : Scrub := ⟨u16 p.params 2, u32 p.params 4, u32 p.params 8, s.tim.now, 0, 0, 0⟩;
      k ≤ 13 →
      leNat (bytesAt 1 1 p.params) = 0 →
      x.inst < classInstances k →
      x.first + x.count ≤ classRows k →
      (x.count = 0 →
          exec (.miScrubRange p) s₀ = .next (answered 0x0E01 p s₀ .ok (scrubSummary k .ok x 0 0 0 0) s)) ∧
      (x.count ≠ 0 →
          classPowered k s = true →
          ((s.memClass k).range.isSome = false ∧ ((List.range 14).filter (fun j => (s.memClass j).range.isSome)).length < 4) →
          s.hif.deferred.length < 64 →
          exec (.miScrubRange p) s₀ = .next (endOrigin (modClass k (fun c => { c with range := some x }) (deferredAs 0x0E01 p s₀ k 14 4
            (scrubSummary k .aborted x 0 0 0 0) s))))) ∧
    (∀ (p : Packet) (s₀ s : State),
      Granted (modCmd 0x0E02 4) p s₀ s →
      let n := u8 p.params 0;
      n ≠ 0 →
      n ≤ 168 →
      leNat (bytesAt 1 3 p.params) = 0 →
      exec (.miPatrolSet p) s₀ = .next (answered 0x0E02 p s₀ .ok [] { s with mi := { s.mi with periodH := n } })) ∧
    (∀ (p : Packet) (s₀ s : State),
      Granted (modCmd 0x0E03 24) p s₀ s →
      let k := u8 p.params 0;
      let mode := u8 p.params 1;
      let inst := u16 p.params 2;
      let row := u32 p.params 4;
      let dm := u64 p.params 8;
      let cm := u8 p.params 16;
      let m := s.dev.mode;
      k ≤ 13 →
      mode ≤ 2 →
      (mode = 1 → 3 ≤ k) →
      (mode = 2 → k = 3) →
      (if mode = 2 then inst ≤ 287 else inst < classInstances k) →
      (mode = 1 → row < classRows k) →
      (mode = 2 → row ≠ 0) →
      (mode = 2 → row ≤ 16) →
      (mode = 0 → maskBits dm cm ≤ 2) →
      leNat (bytesAt 17 3 p.params) = 0 →
      (mode = 2 → u32 p.params 20 ≠ 0) →
      (if mode = 0 then m = .standby ∨ ladderActive m = true else m = .maintenance) →
      classPowered k s = true →
      (mode = 2 → portExists inst s = true) →
      (mode = 0 →
          exec (.miFlipTest p) s₀ = .next (conclude (senderOf 0x0E03 p s₀) s (flipMode0 k dm cm s))) ∧
      (mode ≠ 0 →
          (mode = 1 →
              exec (.miFlipTest p) s₀ = .next (conclude (senderOf 0x0E03 p s₀) s (flipMode1 k inst row s))) ∧
          (mode ≠ 1 →
              exec (.miFlipTest p) s₀ = .next (conclude (senderOf 0x0E03 p s₀) s (flipMode2 inst row s))))) ∧
    (∀ (p : Packet) (s₀ s : State),
      Granted (readCmd 0x0E04 4) p s₀ s →
      let first := u16 p.params 0;
      let want := u16 p.params 2;
      let held := s.mi.cinders.length;
      let got := (s.mi.cinders.drop first).take want;
      (first ≤ held ∧ (first = held → held = 0)) →
      (want ≠ 0 ∧ want ≤ (if fromBmc p then 13 else 253)) →
      exec (.miCinderRead p) s₀ = .next (answered 0x0E04 p s₀ .ok (leBytes 2 held ++ leBytes 2 got.length ++ leBytes 4 0 ++
        got.flatMap (fun c => c.bytes)) s)) ∧
    (∀ (p : Packet) (s₀ s : State),
      Granted (readCmd 0x0E05 4) p s₀ s →
      let k := u8 p.params 0;
      k ≤ 13 →
      leNat (bytesAt 1 3 p.params) = 0 →
      exec (.miClassGet p) s₀ = .next (answered 0x0E05 p s₀ .ok ((classWords k s).flatMap (fun w => leBytes 4 w) ++ leBytes 4
        (classRows k) ++ leBytes 4 (classInstances k)) s))

/-- The events and commands of the Logbook (chapter 16): each event answers a next state with all of its effect, and each
granted command whose own checks pass answers as its rule says. -/
def Obligations.Logbook_rows_take_their_effect : Prop :=
    (∀ (result : FlashEnd) (s : State),
      ∀ copyB b r rest, s.log.work = .program copyB b → s.log.queue = r :: rest →
      let s1 := modLog (fun l => countPage (setBlock b (fun x => { x with pages := x.pages + 1 }) l)) s;
      (result = .ok →
          (copyB = true →
              let done := { r with blockB := some b };
              exec (.flashPageProgrammed result) s = .next (workDone (answerWaits (commitHook done (modLog (fun l => commit
                done { l with queue := rest }) s1))))) ∧
          (copyB = false →
              exec (.flashPageProgrammed result) s = .next (workDone (modLog (fun l =>
                { l with queue := { r with blockA := some b } :: rest }) s1)))) ∧
      ((result = .programFailed ∨ result = .readBackFailed) →
          let again := { r with blockA := none, blockB := none };
          exec (.flashPageProgrammed result) s = .next (workDone (retireFlash b (if result = .programFailed then 1 else 2)
            (modLog (fun l => { l with queue := again :: rest, work := .idle }) s1))))) ∧
    (∀ (ok : Bool) (s : State),
      ∀ b role, s.log.work = .erase b role →
      (ok = false →
          exec (.flashBlockErased ok) s = .next (workDone (retireFlash b 0 (modLog (fun l => { l with work := .idle }) s)))) ∧
      (ok = true →
          let s1 := modLog (fun l => setBlock b (fun x => { x with erases := x.erases + 1, role := .free, pages := 0 })
            { l with compacting := if l.compacting = some b then none else l.compacting }) s;
          let s2 := eraseCounted s1;
          (20000 ≤ (s2.log.block b).erases →
              exec (.flashBlockErased ok) s = .next (workDone (retireFlash b 3 (modLog (fun l => { l with work := .idle })
                s2)))) ∧
          ((s2.log.block b).erases < 20000 →
              (role = .free →
                  exec (.flashBlockErased ok) s = .next (workDone s2)) ∧
              (role ≠ .free →
                  exec (.flashBlockErased ok) s = .next (workDone (openBlock b role s2)))))) ∧
    (∀ (s : State),
      s.pins.vddAon = true →
      let s0 := advancePs (s.log.lastLife + 1000000000000 - s.tim.now) s;
      let s1 := modLog (fun l => { l with lastLife := s0.tim.now }) s0;
      (s1.log.ready = true →
          exec .lifeClockSecond s = .next (lifeSecond s1)) ∧
      (s1.log.ready = false →
          exec .lifeClockSecond s = .next (modLog (fun l => { l with unreadLife := l.unreadLife + 1 }) s1))) ∧
    (∀ (s : State),
      s.log.ready = true →
      exec .countersHourlyDue s = .next (miHour (logCounters (orderlyMode s.dev.mode) s))) ∧
    (∀ (shifts : List Int) (s : State),
      (s.log.ready = true ∧ shifts.length = 16) →
      let s1 := logRecord 0x0051 0 (agePayload shifts s) s;
      exec (.ageingDayDue shifts) s = .next (miDay (modLog (fun l => { l with
          shifts := shifts
          shiftSeconds := s.tim.seconds
          bands := List.replicate 6 0
          targetMin := 0
          targetMax := 0
          targetSum := 0
          targetCount := 0
          worst0 := 0
          worst1 := 0 }) s1))) ∧
    (∀ (s : State),
      s.log.ready = true →
      let days := lastN 30 (payloads 0x51 s.log);
      let worst := fun e => (days.map (dayRatio e)).foldl max 0;
      exec .ageingMonthDue s = .next (logRecord 0x0052 0 (leBytesInt 2 ((maxInt (days.map dayShift)).getD 0) ++ leBytes 2
        (days.foldl (fun m b => min m (dayTarget b)) 8000) ++ leBytes 4 (worst 0) ++ leBytes 4 (worst 1)) s)) ∧
    (∀ (s : State),
      (s.log.ready = true ∧ s.log.refresh.isSome = false) →
      exec .logRefreshPassDue s = .next (modLog (fun l => { l with refresh := some ⟨false⟩ }) s)) ∧
    (∀ (failed : List Nat) (s : State),
      (s.log.refresh.isNone = false ∧ s.thm.flashOk = true) →
      let rs := s.log.records.filter (fun r => failed.contains r.seq || staleBlock s r.blockA || staleBlock s r.blockB);
      let s1 := modLog (fun l => moveRecords rs { l with
          refresh := none
          refreshLife := vecGet 0 l.life 0
          refreshSeconds := s.tim.seconds
          refreshCount := rs.length }) s;
      exec (.logRefreshPassComplete failed) s = .next (flashKick (completeOr 0x0F07 0 .ok 15 4 (leBytes 1 0 ++ leBytes 3 0 ++
        leBytes 4 rs.length ++ leBytes 4 (s.log.records.filter (fun r => failed.contains r.seq)).length) s1))) ∧
    (∀ (s : State),
      s.log.ready = true →
      ((s.thm.flashOk = true ∧ s.log.plan.isNone = true) →
          exec .planYearDue s = .next (planStart false false s)) ∧
      ((s.thm.flashOk = false ∨ s.log.plan.isNone = false) →
          exec .planYearDue s = .next (modLog (fun l =>
            { l with planDue := true, planStatus := if s.thm.flashOk then l.planStatus else 3 }) s))) ∧
    (∀ (s : State),
      ∀ p, s.log.plan = some p →
      (p.dry = true →
          exec .marginPlanComplete s = .next (planWaiting (planDone 4 p.floor p.reserve (decide (p.floor ≠ s.thm.floor))
            (decide (p.reserve ≠ s.fec.reserve)) (modLog (fun l => { l with plan := none }) s)))) ∧
      (p.dry = false →
          s.log.queue.any (fun r => r.seq = p.seq) = false →
          exec .marginPlanComplete s = .next (planWaiting (planApply p s)))) ∧
    (∀ (failed : List (Nat × Bool)) (s : State),
      ∀ x, s.log.exporting = some x →
      let all := (exported x s.log).filterMap (exportCopy failed);
      let fit := all.take (x.bytes / 256 - 1);
      exec (.logExportComplete failed) s = .next (exportEnd x fit (if fit.length < all.length then .partly else .ok) s)) ∧
    (∀ (p : Packet) (s₀ s : State),
      Granted { readCmd 0x0F01 24 with bmcDenied := true } p s₀ s →
      let size := u32 p.params 8;
      (notReady s).bad = false →
      u64 p.params 0 % 256 = 0 →
      size ≠ 0 →
      (size % 256 = 0 ∧ 512 ≤ size) →
      leNat (bytesAt 22 2 p.params) = 0 →
      s.dev.mode ≠ .ember →
      s.log.exporting.isSome = false →
      s.hif.deferred.length < 64 →
      exec (.logExport p) s₀ = .next (endOrigin (modLog (fun l =>
        { l with exporting := some ⟨u64 p.params 0, size, u64 p.params 12, u16 p.params 20, l.seq⟩ }) (deferredAs 0x0F01 p s₀
        0 15 3 (leBytes 1 13 ++ leBytes 15 0) s)))) ∧
    (∀ (p : Packet) (s₀ s : State),
      Granted (readCmd 0x0F02 0) p s₀ s →
      (notReady s).bad = false →
      exec (.logCountersGet p) s₀ = .next (answered 0x0F02 p s₀ .ok (leBytes 6 s.tim.seconds ++ leBytes 2 0 ++
        s.log.life.toList.flatMap (fun n => leBytes 8 n)) s)) ∧
    (∀ (p : Packet) (s₀ s : State),
      Granted (readCmd 0x0F03 0) p s₀ s →
      (notReady s).bad = false →
      exec (.logPlanGet p) s₀ = .next (answered 0x0F03 p s₀ .ok (bytesAt 0 220 ((payloads 0x53 s.log).getLastD [])) s)) ∧
    (∀ (p : Packet) (s₀ s : State),
      Granted (modCmd 0x0F04 4) p s₀ s →
      let dry := u8 p.params 0;
      (notReady s).bad = false →
      dry ≤ 1 →
      leNat (bytesAt 1 3 p.params) = 0 →
      s.log.plan.isSome = false →
      (dry = 0 → s.thm.flashOk = true) →
      s.hif.deferred.length < 64 →
      exec (.logPlanRun p) s₀ = .next (endOrigin (planStart (decide (dry = 1)) true (deferredAs 0x0F04 p s₀ 0 15 1 (leBytes 6 0) s)))) ∧
    (∀ (p : Packet) (s₀ s : State),
      Granted { modCmd 0x0F05 0 with lenOk := fun b => decide (4 ≤ b.length) } p s₀ s →
      let n := u8 p.params 0;
      (notReady s).bad = false →
      (n ≠ 0 ∧ n ≤ 200) →
      p.params.length = 4 + n →
      leNat (bytesAt 1 3 p.params) = 0 →
      queueStuck s.log = false →
      exec (.logNote p) s₀ = .next (answered 0x0F05 p s₀ .ok (leBytes 8 s.log.seq) (logRecord 0x0060 0 (p.params.drop 4) s))) ∧
    (∀ (p : Packet) (s₀ s : State),
      Granted (readCmd 0x0F06 0) p s₀ s →
      (notReady s).bad = false →
      exec (.logAgeingGet p) s₀ = .next (answered 0x0F06 p s₀ .ok (s.log.shifts.flatMap (fun d => leBytesInt 2 d) ++ leBytes
        6 s.log.shiftSeconds) s)) ∧
    (∀ (p : Packet) (s₀ s : State),
      Granted (modCmd 0x0F07 0) p s₀ s →
      (notReady s).bad = false →
      (s.log.refresh.isSome = false ∧ hasDeferred 0x0F04 0 s = false) →
      s.thm.flashOk = true →
      s.hif.deferred.length < 64 →
      exec (.logRefresh p) s₀ = .next (endOrigin (modLog (fun l => { l with refresh := some ⟨true⟩ }) (deferredAs 0x0F07 p s₀ 0 15 4
        (leBytes 1 13 ++ leBytes 11 0) s))))
end

