-- ==== Sys2Proof/Laws/Bits.lean ====
section
/-! SUPPORT. Laws of byte lists, vectors, sparse tables and the CRC. -/

set_option Elab.async false

namespace Sys2Proof.Machine

@[simp] theorem leBytes_length (n v : Nat) : (leBytes n v).length = n := by
  induction n generalizing v with
  | zero => rfl
  | succ n ih => simp [leBytes, ih]

@[simp] theorem bytesAt_length (off n : Nat) (bs : List Byte) : (bytesAt off n bs).length = n := by
  simp only [bytesAt, List.length_append, List.length_take, List.length_replicate]
  omega

theorem leNat_lt (bs : List Byte) : leNat bs < 256 ^ bs.length := by
  induction bs with
  | nil => exact Nat.one_pos
  | cons b bs ih =>
    have hb : b.toNat < 256 := b.isLt
    simp only [leNat, List.length_cons, Nat.pow_succ]
    omega

/-! ### Vectors -/

theorem vecGet_vecMod {α : Type} {n : Nat} (d : α) (v : Vector α n) (i j : Nat) (f : α → α) :
    vecGet d (vecMod v i f) j = if i = j ∧ i < n then f (vecGet d v i) else vecGet d v j := by
  unfold vecGet vecMod
  by_cases h : i < n
  · by_cases g : j < n
    · by_cases e : i = j
      · subst e; simp [h, Vector.getD]
      · simp [h, e, Vector.getD, g]
    · have e : i ≠ j := by omega
      simp [h, e, Vector.getD, g]
  · simp [h]

@[simp] theorem vecGet_replicate {α : Type} (n : Nat) (d : α) (i : Nat) : vecGet d (Vector.replicate n d) i = d := by
  change (Array.replicate n d).getD i d = d
  unfold Array.getD
  split <;> simp

/-! ### Sparse tables -/

theorem tabRises_mono {α : Type} {t : Tab α} {lo lo' : Nat} (h : tabRises lo t = true) (g : lo' ≤ lo) : tabRises lo' t = true := by
  cases t with
  | nil => rfl
  | cons e t =>
    simp only [tabRises, Bool.and_eq_true, decide_eq_true_eq] at h ⊢
    exact ⟨Nat.le_trans g h.1, h.2⟩

/-- Below the first index nothing is listed. -/
theorem tabGet_below {α : Type} (d : α) {t : Tab α} {lo k : Nat} (h : tabRises lo t = true) (g : k < lo) : tabGet d t k = d := by
  induction t generalizing lo with
  | nil => rfl
  | cons e t ih =>
    simp only [tabRises, Bool.and_eq_true, decide_eq_true_eq] at h
    have n : e.1 ≠ k := by omega
    simp only [tabGet, n, if_false]
    exact ih h.2 (by omega)

theorem tabGet_tabInsert {α : Type} (d : α) (t : Tab α) (k j : Nat) (x : α) (lo : Nat) (h : tabRises lo t = true) :
    tabGet d (tabInsert t k x) j = if k = j then x else tabGet d t j := by
  induction t generalizing lo with
  | nil => rfl
  | cons e t ih =>
    simp only [tabRises, Bool.and_eq_true, decide_eq_true_eq] at h
    simp only [tabInsert]
    split
    · rfl
    · split
      · rename_i a b
        simp only [tabGet, b]
        split <;> rfl
      · simp only [tabGet, ih _ h.2]
        split
        · rename_i a b c
          have n : k ≠ j := by omega
          simp [n]
        · rfl

theorem tabGet_tabErase {α : Type} (d : α) (t : Tab α) (k j : Nat) (lo : Nat) (h : tabRises lo t = true) :
    tabGet d (tabErase t k) j = if k = j then d else tabGet d t j := by
  induction t generalizing lo with
  | nil => simp [tabErase, tabGet]
  | cons e t ih =>
    simp only [tabRises, Bool.and_eq_true, decide_eq_true_eq] at h
    simp only [tabErase]
    split
    · rename_i a
      by_cases g : k = j
      · rw [if_pos g, ← g, ← a]
        exact tabGet_below d h.2 (Nat.lt_succ_self _)
      · rw [if_neg g]
        simp only [tabGet, a, g, if_false]
    · simp only [tabGet, ih _ h.2]
      split
      · rename_i a b
        have n : k ≠ j := by omega
        simp [n]
      · rfl

/-- Reading a table after a write: the value written there, what stood there elsewhere. -/
theorem tabGet_tabSet {α : Type} [DecidableEq α] (d : α) (t : Tab α) (k j : Nat) (x : α) (h : tabWf d t = true) :
    tabGet d (tabSet d t k x) j = if k = j then x else tabGet d t j := by
  have r : tabRises 0 t = true := by
    simp only [tabWf, Bool.and_eq_true] at h; exact h.1
  unfold tabSet
  split
  · rename_i e; rw [tabGet_tabErase d t k j 0 r, e]
  · exact tabGet_tabInsert d t k j x 0 r

theorem tabErase_rises {α : Type} (t : Tab α) (k lo : Nat) (h : tabRises lo t = true) : tabRises lo (tabErase t k) = true := by
  induction t generalizing lo with
  | nil => rfl
  | cons e t ih =>
    simp only [tabErase]
    have h' := h
    simp only [tabRises, Bool.and_eq_true, decide_eq_true_eq] at h'
    split
    · exact tabRises_mono h'.2 (by omega)
    · simp only [tabRises, Bool.and_eq_true, decide_eq_true_eq]; exact ⟨h'.1, ih _ h'.2⟩

theorem tabInsert_rises {α : Type} (t : Tab α) (k lo : Nat) (x : α) (h : tabRises lo t = true) (g : lo ≤ k) :
    tabRises lo (tabInsert t k x) = true := by
  induction t generalizing lo with
  | nil => simp [tabInsert, tabRises, g]
  | cons e t ih =>
    have h' := h
    simp only [tabRises, Bool.and_eq_true, decide_eq_true_eq] at h'
    simp only [tabInsert]
    split
    · rename_i a
      simp only [tabRises, Bool.and_eq_true, decide_eq_true_eq]
      exact ⟨g, by omega, h'.2⟩
    · split
      · rename_i a b
        simp only [tabRises, Bool.and_eq_true, decide_eq_true_eq]
        exact ⟨g, b ▸ h'.2⟩
      · rename_i a b
        simp only [tabRises, Bool.and_eq_true, decide_eq_true_eq]
        exact ⟨h'.1, ih _ h'.2 (by omega)⟩

theorem tabErase_mem {α : Type} {t : Tab α} {k : Nat} {e : Nat × α} (h : e ∈ tabErase t k) : e ∈ t := by
  induction t with
  | nil => exact h
  | cons a t ih =>
    simp only [tabErase] at h
    split at h
    · exact List.mem_cons_of_mem _ h
    · rcases List.mem_cons.mp h with rfl | g
      · exact List.mem_cons_self
      · exact List.mem_cons_of_mem _ (ih g)

theorem tabInsert_mem {α : Type} {t : Tab α} {k : Nat} {x : α} {e : Nat × α} (h : e ∈ tabInsert t k x) : e = (k, x) ∨ e ∈ t := by
  induction t with
  | nil => exact .inl (by simpa [tabInsert] using h)
  | cons a t ih =>
    simp only [tabInsert] at h
    split at h
    · rcases List.mem_cons.mp h with rfl | g
      · exact .inl rfl
      · exact .inr g
    · split at h
      · rcases List.mem_cons.mp h with rfl | g
        · exact .inl rfl
        · exact .inr (List.mem_cons_of_mem _ g)
      · rcases List.mem_cons.mp h with rfl | g
        · exact .inr List.mem_cons_self
        · rcases ih g with r | r
          · exact .inl r
          · exact .inr (List.mem_cons_of_mem _ r)

/-- A write keeps the canonical form of a table. -/
theorem tabSet_wf {α : Type} [DecidableEq α] (d : α) (t : Tab α) (k : Nat) (x : α) (h : tabWf d t = true) :
    tabWf d (tabSet d t k x) = true := by
  simp only [tabWf, Bool.and_eq_true, List.all_eq_true, decide_eq_true_eq] at h ⊢
  unfold tabSet
  split
  · exact ⟨tabErase_rises t k 0 h.1, fun e he => h.2 e (tabErase_mem he)⟩
  · rename_i n
    refine ⟨tabInsert_rises t k 0 x h.1 (Nat.zero_le _), fun e he => ?_⟩
    rcases tabInsert_mem he with rfl | g
    · exact n
    · exact h.2 e g

/-! ### The CRC register -/

theorem crcBit_lt {c : Nat} (h : c < 2 ^ 32) : crcBit c < 2 ^ 32 := by
  unfold crcBit
  have h2 : c / 2 < 2 ^ 32 := by omega
  split
  · exact Nat.xor_lt_two_pow h2 (by decide)
  · exact h2

theorem crcByte_lt {c : Nat} (h : c < 2 ^ 32) (b : Byte) : crcByte c b < 2 ^ 32 := by
  unfold crcByte
  have hb : c ^^^ b.toNat < 2 ^ 32 := Nat.xor_lt_two_pow h (Nat.lt_of_lt_of_le b.isLt (by decide))
  exact crcBit_lt (crcBit_lt (crcBit_lt (crcBit_lt (crcBit_lt (crcBit_lt (crcBit_lt (crcBit_lt hb)))))))

theorem crcRun_lt {c : Nat} (h : c < 2 ^ 32) (bs : List Byte) : crcRun c bs < 2 ^ 32 := by
  induction bs generalizing c with
  | nil => exact h
  | cons b bs ih => exact ih (crcByte_lt h b)

/-- The CRC is a 32-bit value. -/
theorem crc32c_lt (bs : List Byte) : crc32c bs < 2 ^ 32 :=
  Nat.xor_lt_two_pow (crcRun_lt (by decide) bs) (by decide)

end Sys2Proof.Machine
end

