-- ==== Sys2Proof/Laws/Crypto.lean ====
section
/-! SUPPORT. Laws of the stream ciphers: what they keep, and that each undoes itself. -/

namespace Sys2Proof.Laws
open Sys2Proof.Machine

theorem zipWith_xor_twice : ∀ (a b : List Byte), a.length ≤ b.length →
    List.zipWith (· ^^^ ·) (List.zipWith (· ^^^ ·) a b) b = a
  | [], _, _ => by simp
  | x :: xs, [], h => by simp at h
  | x :: xs, y :: ys, h => by
    have ih := zipWith_xor_twice xs ys (by simpa using h)
    simp only [List.zipWith_cons_cons, ih, BitVec.xor_assoc, BitVec.xor_self, BitVec.xor_zero]

@[simp] theorem streamXor_length (ks : List (List Nat)) (ctr : Nat → Nat) (t : List Byte) :
    (streamXor ks ctr t).length = t.length := by simp [streamXor]

@[simp] theorem streamXor_twice (ks : List (List Nat)) (ctr : Nat → Nat) (t : List Byte) :
    streamXor ks ctr (streamXor ks ctr t) = t := by
  have h := streamXor_length ks ctr t
  unfold streamXor at h ⊢
  simp only [h]
  exact zipWith_xor_twice _ _ (by simp)

/-- A text deciphers to what it was (R268, R291, R298). -/
@[simp] theorem gcmDecrypt_gcmEncrypt (k : BitVec 256) (iv aad t : List Byte) : gcmDecrypt k iv aad (gcmEncrypt k iv aad t) = t := by
  simp only [gcmDecrypt, gcmEncrypt, streamXor_twice]

@[simp] theorem aesCtr_aesCtr (k : BitVec 256) (c t : List Byte) : aesCtr k c (aesCtr k c t) = t := by
  simp only [aesCtr, streamXor_twice]

@[simp] theorem gcmEncrypt_length (k : BitVec 256) (iv aad t : List Byte) : (gcmEncrypt k iv aad t).length = t.length := by
  simp [gcmEncrypt]
@[simp] theorem gcmTag_length (k : BitVec 256) (iv aad ct : List Byte) : (gcmTag k iv aad ct).length = 16 := by
  simp [gcmTag, beBytes]
@[simp] theorem cmac_length (k : BitVec 256) (t : List Byte) : (cmac k t).length = 16 := by simp [cmac, beBytes]

end Sys2Proof.Laws
end

