-- ==== Sys2Proof/Laws/Pipeline.lean ====
section
/-! SUPPORT. The command pipeline and the answers: all that each can do. -/

set_option Elab.async false

namespace Sys2Proof.Machine

/-- A granted packet is answered by what the command's own part says. -/
theorem runCommand_granted {c : CmdInfo} {body : Packet → State → Reply} {p : Packet} {s₀ s : State} (h : Granted c p s₀ s) :
    runCommand c body p s₀ = conclude (senderOf c.opcode p s₀) s (body p s) := by
  obtain ⟨h1, h2, rfl, h4⟩ := h
  unfold runCommand
  simp [h1, h2, h4]

/-- All that the pipeline can do with a packet (R67, R71, R86): it does not start, the kept response stands, the admission
rejects it, or the command's own part answers. -/
theorem runCommand_cases (c : CmdInfo) (body : Packet → State → Reply) (p : Packet) (s : State) :
    (startable p s = false ∧ runCommand c body p s = notStarted c.opcode p s)
    ∨ (startable p s = true ∧ isRetry p s = true
        ∧ runCommand c body p s = { s with hif := { s.hif with mgmt := { s.hif.mgmt with state := 2 } } })
    ∨ (startable p s = true ∧ isRetry p s = false ∧ admission c p (takePacket p s) = .integrity
        ∧ runCommand c body p s = reply (senderOf c.opcode p s) .integrity 0xFFFF [] (countBadCrc (takePacket p s)))
    ∨ (startable p s = true ∧ isRetry p s = false ∧ admission c p (takePacket p s) ≠ .ok
        ∧ admission c p (takePacket p s) ≠ .integrity
        ∧ runCommand c body p s
          = reply (senderOf c.opcode p s) (admission c p (takePacket p s)) 0xFFFF [] (takePacket p s))
    ∨ Granted c p s (takePacket p s) := by
  unfold runCommand Granted
  cases h1 : startable p s
  · exact .inl ⟨rfl, by simp⟩
  cases h2 : isRetry p s
  · simp only [Bool.not_true, Bool.false_eq_true, if_false]
    cases h3 : admission c p (takePacket p s) <;> simp
  · exact .inr (.inl ⟨rfl, rfl, by simp⟩)

/-- Each check that must pass does: the command goes on. -/
theorem checked_pass {s : State} {cs : List Check} {r : Reply} (h : ∀ k ∈ cs, k.bad = false) : checked s cs r = r := by
  induction cs with
  | nil => rfl
  | cons k cs ih =>
    simp only [checked, h k List.mem_cons_self, Bool.false_eq_true, if_false]
    exact ih (fun k' hk => h k' (List.mem_cons_of_mem _ hk))

/-- All that the checks can do: the first that is bad answers its status and offset, else the command goes on. -/
theorem checked_cases (s : State) (cs : List Check) (r : Reply) :
    ((∀ k ∈ cs, k.bad = false) ∧ checked s cs r = r)
    ∨ ∃ k ∈ cs, k.bad = true ∧ checked s cs r = .failAt k.status k.offset s := by
  induction cs with
  | nil => exact .inl ⟨by simp, rfl⟩
  | cons k cs ih =>
    cases hk : k.bad
    · rcases ih with ⟨h, e⟩ | ⟨k', h, hb, e⟩
      · refine .inl ⟨fun k' hk' => ?_, by simp [checked, hk, e]⟩
        rcases List.mem_cons.mp hk' with rfl | g
        · exact hk
        · exact h k' g
      · exact .inr ⟨k', List.mem_cons_of_mem _ h, hb, by simp [checked, hk, e]⟩
    · exact .inr ⟨k, List.mem_cons_self, hk, by simp [checked, hk]⟩

/-! ### What an answer or an event changes: the host interface alone -/

/-- Two states that differ in the host interface alone. -/
def OnlyHif (s t : State) : Prop := t = { s with hif := t.hif }

theorem OnlyHif.refl (s : State) : OnlyHif s s := rfl
theorem OnlyHif.trans {s t u : State} (h : OnlyHif s t) (g : OnlyHif t u) : OnlyHif s u := by
  unfold OnlyHif at *
  rw [g, h]

theorem signalVector_onlyHif (v : Nat) (s : State) : OnlyHif s (signalVector v s) := by
  unfold signalVector
  repeat' split
  all_goals rfl

theorem toRing_onlyHif (e : Event) (s : State) : OnlyHif s (toRing e s) := by
  unfold toRing
  repeat' split
  · rfl
  · rfl
  · rfl
  · exact OnlyHif.trans (t := { s with hif := { s.hif with events := s.hif.events.write e } }) rfl (signalVector_onlyHif ..)

theorem toBmc_onlyHif (e : Event) (s : State) : OnlyHif s (toBmc e s) := by
  unfold toBmc
  split <;> rfl

theorem raiseEvent_onlyHif (e : Event) (s : State) : OnlyHif s (raiseEvent e s) := by
  unfold raiseEvent
  split
  · exact OnlyHif.trans (OnlyHif.trans (t := { s with hif := { s.hif with eventSeq := s.hif.eventSeq + 1 } }) rfl
      (toRing_onlyHif ..)) (toBmc_onlyHif ..)
  · exact OnlyHif.refl s

theorem emit_onlyHif (group code : Nat) (payload : List Byte) (s : State) : OnlyHif s (emit group code payload s) := by
  unfold emit
  split
  · exact raiseEvent_onlyHif ..
  · exact raiseEvent_onlyHif ..

theorem stallEvent_onlyHif (n : Nat) (s : State) : OnlyHif s (stallEvent n s) := raiseEvent_onlyHif ..

theorem writeResponse_onlyHif (e : CqEntry) (s : State) : OnlyHif s (writeResponse e s) := by
  unfold writeResponse
  split <;> rfl

theorem completionEvent_onlyHif (d : Deferred) (st : Status) (payload : List Byte) (s : State) :
    OnlyHif s (completionEvent d st payload s) := by
  unfold completionEvent
  split
  · rfl
  · exact raiseEvent_onlyHif ..

theorem completeOr_onlyHif (opcode unit : Nat) (st : Status) (group code : Nat) (payload : List Byte) (s : State) :
    OnlyHif s (completeOr opcode unit st group code payload s) := by
  unfold completeOr
  split
  · rename_i d _
    exact OnlyHif.trans (t := { s with hif := { s.hif with deferred := dropDeferred opcode unit s.hif.deferred } }) rfl
      (completionEvent_onlyHif ..)
  · exact emit_onlyHif ..

theorem postCompletion_onlyHif (n : Nat) (e : CqEntry) (s : State) : OnlyHif s (postCompletion n e s) := by
  unfold postCompletion
  dsimp only
  split
  · rfl
  · split
    · split
      · exact OnlyHif.trans (OnlyHif.trans (writeResponse_onlyHif e s)
          (u := (writeResponse e s).setQueue n ((s.queue n).write e)) rfl) (signalVector_onlyHif ..)
      · exact OnlyHif.trans (writeResponse_onlyHif e s) rfl
    · split
      · exact OnlyHif.trans (t := s.setQueue n _) rfl (stallEvent_onlyHif ..)
      · rfl

theorem finish_onlyHif (f : InFlight) (st : Status) (detail : Nat) (resp : List Byte) (s : State) :
    OnlyHif s (finish f st detail resp s) := by
  unfold finish
  dsimp only
  split
  · rfl
  · split
    · rfl
    · exact postCompletion_onlyHif ..

theorem reply_onlyHif (f : InFlight) (st : Status) (detail : Nat) (resp : List Byte) (s : State) :
    OnlyHif s (reply f st detail resp s) :=
  OnlyHif.trans (t := endOrigin s) rfl (finish_onlyHif ..)

theorem countBadFetch_onlyHif (s : State) : OnlyHif s (countBadFetch s) :=
  OnlyHif.trans (t := { s with hif := { s.hif with badFetch := satAdd 255 s.hif.badFetch 1 } }) rfl (signalVector_onlyHif ..)

theorem notStarted_onlyHif (opcode : Nat) (p : Packet) (s : State) : OnlyHif s (notStarted opcode p s) := by
  unfold notStarted
  dsimp only
  split
  · rfl
  · split
    · rfl
    · unfold fetchFailed
      dsimp only
      exact OnlyHif.trans (OnlyHif.trans (t := s.setQueue p.chan.val _) rfl (countBadFetch_onlyHif _)) (postCompletion_onlyHif ..)

theorem takePacket_onlyHif (p : Packet) (s : State) : OnlyHif s (takePacket p s) := by
  unfold takePacket
  dsimp only
  split <;> rfl

theorem countBadCrc_onlyHif (s : State) : OnlyHif s (countBadCrc s) :=
  OnlyHif.trans (t := { s with hif := { s.hif with badCrc := satAdd 255 s.hif.badCrc 1 } }) rfl (signalVector_onlyHif ..)

theorem beginOrigin_onlyHif (tag : Half) (chan : Nat) (s : State) : OnlyHif s (beginOrigin tag chan s) := rfl
theorem endOrigin_onlyHif (s : State) : OnlyHif s (endOrigin s) := rfl

/-! ### What a command changes -/

/-- A relation between a state and what a command's own part answers from it. -/
def Reply.Frame (R : State → State → Prop) (s : State) : Reply → Prop
  | .done _ _ _ t => R s t
  | .later _ _ _ _ eff => ∀ u, R u (eff u)
  | .laterWith _ _ _ _ _ eff => ∀ u, R u (eff u)
  | .wait _ t => R s t

/-- A relation that every change of the host interface alone satisfies, and that composes. -/
structure Framed (R : State → State → Prop) : Prop where
  hif : ∀ {s t}, OnlyHif s t → R s t
  comp : ∀ {s t u}, R s t → R t u → R s u

theorem checked_frame {R : State → State → Prop} (F : Framed R) {s : State} {cs : List Check} {r : Reply} (h : r.Frame R s) :
    (checked s cs r).Frame R s := by
  rcases checked_cases s cs r with ⟨_, e⟩ | ⟨_, _, _, e⟩ <;> rw [e]
  · exact h
  · exact F.hif (OnlyHif.refl s)

theorem conclude_frame {R : State → State → Prop} (F : Framed R) {f : InFlight} {s : State} {r : Reply} (h : r.Frame R s) :
    R s (conclude f s r) := by
  cases r with
  | done st d resp t => exact F.comp h (F.hif (reply_onlyHif ..))
  | later u g c a eff =>
    dsimp only [conclude]
    split
    · exact F.hif (reply_onlyHif ..)
    · exact F.comp (F.comp (F.comp (F.comp (F.hif (t := addDeferred f u g c a s) rfl) (F.hif (reply_onlyHif ..)))
        (F.hif (beginOrigin_onlyHif ..))) (h _)) (F.hif (endOrigin_onlyHif _))
  | laterWith resp u g c a eff =>
    dsimp only [conclude]
    split
    · exact F.hif (reply_onlyHif ..)
    · exact F.comp (F.comp (F.comp (F.comp (F.hif (t := addDeferred f u g c a s) rfl) (F.hif (reply_onlyHif ..)))
        (F.hif (beginOrigin_onlyHif ..))) (h _)) (F.hif (endOrigin_onlyHif _))
  | wait k t =>
    exact F.comp h (F.hif (t := conclude f s (.wait k t)) rfl)

/-- What the command's own part satisfies, the whole command satisfies. -/
theorem runCommand_frame {R : State → State → Prop} (F : Framed R) {c : CmdInfo} {body : Packet → State → Reply} {p : Packet}
    {s : State} (h : ∀ u, (body p u).Frame R u) : R s (runCommand c body p s) := by
  rcases runCommand_cases c body p s with ⟨_, e⟩ | ⟨_, _, e⟩ | ⟨_, _, _, e⟩ | ⟨_, _, _, _, e⟩ | g
  · rw [e]; exact F.hif (notStarted_onlyHif ..)
  · rw [e]; exact F.hif rfl
  · rw [e]
    exact F.comp (F.comp (F.hif (takePacket_onlyHif ..)) (F.hif (countBadCrc_onlyHif _))) (F.hif (reply_onlyHif ..))
  · rw [e]
    exact F.comp (F.hif (takePacket_onlyHif ..)) (F.hif (reply_onlyHif ..))
  · rw [runCommand_granted g]
    exact F.comp (F.hif (takePacket_onlyHif ..)) (conclude_frame F (h _))

end Sys2Proof.Machine
end

