-- ==== Sys2Proof/Laws/Spine.lean ====
section
/-! SUPPORT. The spine of a state: the few fields that only a mode change or a reset moves, and the rules that carry it
through record updates, conditionals and folds. -/

set_option Elab.async false

namespace Sys2Proof.Machine

/-- What only a mode change, a reset, an image load or the sender moves: the mode and the change in progress (R30, R34), the
fuses (R1, R41, R89), READY and the squelch of the outputs (R30), the leases (R81), and the queue of waiting commands. -/
structure Spine where
  mode : Mode
  changing : Option ModeChange
  svnMinTc : Nat
  svnMinAc : Nat
  variantN : Bool
  serial : Long
  ready : Bool
  squelched : Bool
  leases : List Lease
  pending : List Instr

/-- The spine of a state. -/
def State.spine (s : State) : Spine :=
  ⟨s.dev.mode, s.dev.changing, s.dev.svnMinTc, s.dev.svnMinAc, s.dev.variantN, s.dev.serial, s.pins.ready, s.pins.squelched,
    s.hif.leases, s.pending⟩

theorem State.spine_mk (dev hif tim cnv dsp fec frm map cph pkt cln plk mon thm mi log pins atTrip snap latched snapBusy free
    pending) :
    State.spine ⟨dev, hif, tim, cnv, dsp, fec, frm, map, cph, pkt, cln, plk, mon, thm, mi, log, pins, atTrip, snap, latched,
      snapBusy, free, pending⟩
    = ⟨dev.mode, dev.changing, dev.svnMinTc, dev.svnMinAc, dev.variantN, dev.serial, pins.ready, pins.squelched, hif.leases, pending⟩ :=
  rfl

/-- The fields of the spine, read through it. -/
theorem State.by_spine (s : State) :
    s.dev.mode = s.spine.mode ∧ s.dev.changing = s.spine.changing ∧ s.dev.svnMinTc = s.spine.svnMinTc
    ∧ s.dev.svnMinAc = s.spine.svnMinAc ∧ s.dev.variantN = s.spine.variantN ∧ s.dev.serial = s.spine.serial
    ∧ s.pins.ready = s.spine.ready ∧ s.pins.squelched = s.spine.squelched ∧ s.hif.leases = s.spine.leases
    ∧ s.pending = s.spine.pending :=
  ⟨rfl, rfl, rfl, rfl, rfl, rfl, rfl, rfl, rfl, rfl⟩

theorem ite_spine (c : Prop) [Decidable c] (a b : State) : (if c then a else b).spine = if c then a.spine else b.spine :=
  apply_ite State.spine c a b

theorem foldl_spine {α : Type} (f : State → α → State) (h : ∀ u a, (f u a).spine = u.spine) (l : List α) (s : State) :
    (l.foldl f s).spine = s.spine := by
  induction l generalizing s with
  | nil => rfl
  | cons a l ih => rw [List.foldl_cons, ih, h]

end Sys2Proof.Machine
end

