-- ==== Sys2Proof/Laws/SpineOps.lean ====
section
/-! SUPPORT. Every shared operation that is no mode change leaves the spine. -/

set_option Elab.async false

namespace Sys2Proof.Machine

/-! ### Events, completion and the command pipeline -/

@[simp] theorem signalVector_spine (v : Nat) (s : State) :
    (signalVector v s).spine = s.spine := by
  simp only [signalVector, State.spine_mk, State.by_spine, ite_spine, ite_self]

@[simp] theorem countBadAccess_spine (s : State) :
    (countBadAccess s).spine = s.spine := by
  simp only [countBadAccess, State.spine_mk, State.by_spine, signalVector_spine]

@[simp] theorem countBadDb_spine (s : State) :
    (countBadDb s).spine = s.spine := by
  simp only [countBadDb, State.spine_mk, State.by_spine, signalVector_spine]

@[simp] theorem countBadFetch_spine (s : State) :
    (countBadFetch s).spine = s.spine := by
  simp only [countBadFetch, State.spine_mk, State.by_spine, signalVector_spine]

@[simp] theorem countBadCrc_spine (s : State) :
    (countBadCrc s).spine = s.spine := by
  simp only [countBadCrc, State.spine_mk, State.by_spine, signalVector_spine]

@[simp] theorem toRing_spine (e : Event) (s : State) :
    (toRing e s).spine = s.spine := by
  simp only [toRing, State.spine_mk, State.by_spine, ite_spine, ite_self, signalVector_spine]

@[simp] theorem toBmc_spine (e : Event) (s : State) :
    (toBmc e s).spine = s.spine := by
  simp only [toBmc, State.spine_mk, State.by_spine, ite_spine, ite_self]

@[simp] theorem raiseEvent_spine (e : Event) (s : State) :
    (raiseEvent e s).spine = s.spine := by
  simp only [raiseEvent, State.spine_mk, State.by_spine, ite_spine, ite_self, foldl_spine, implies_true, toBmc_spine,
    toRing_spine]

@[simp] theorem deviceEvent_spine (group code : Nat) (payload : List Byte) (s : State) :
    (deviceEvent group code payload s).spine = s.spine := by
  simp only [deviceEvent, State.spine_mk, State.by_spine, ite_spine, ite_self, foldl_spine, implies_true, raiseEvent_spine]

@[simp] theorem emit_spine (group code : Nat) (payload : List Byte) (s : State) :
    (emit group code payload s).spine = s.spine := by
  unfold emit
  repeat' split
  all_goals simp only [State.spine_mk, State.by_spine, ite_spine, ite_self, foldl_spine, implies_true, deviceEvent_spine,
    raiseEvent_spine]

@[simp] theorem completionEvent_spine (d : Deferred) (status : Status) (payload : List Byte) (s : State) :
    (completionEvent d status payload s).spine = s.spine := by
  simp only [completionEvent, ite_spine, ite_self, raiseEvent_spine]

@[simp] theorem completeOr_spine (opcode unit : Nat) (status : Status) (group code : Nat) (payload : List Byte) (s : State) :
    (completeOr opcode unit status group code payload s).spine = s.spine := by
  unfold completeOr
  repeat' split
  all_goals simp only [State.spine_mk, State.by_spine, emit_spine, completionEvent_spine]

@[simp] theorem completeDeferred_spine (opcode unit : Nat) (status : Status) (payload : List Byte) (s : State) :
    (completeDeferred opcode unit status payload s).spine = s.spine := by
  unfold completeDeferred
  repeat' split
  all_goals simp only [State.spine_mk, State.by_spine, completionEvent_spine]

@[simp] theorem abortEach_spine (ds : List Deferred) (s : State) : (abortEach ds s).spine = s.spine := by
  induction ds generalizing s with
  | nil => rfl
  | cons d ds ih => rw [abortEach, ih, completionEvent_spine]

@[simp] theorem abortDeferred_spine (f : Deferred → Bool) (s : State) : (abortDeferred f s).spine = s.spine := by
  rw [abortDeferred, abortEach_spine]; rfl

@[simp] theorem takeFree_spine (s : State) : (takeFree s).2.spine = s.spine := rfl
@[simp] theorem takeKey_spine (s : State) : (takeKey s).2.spine = s.spine := rfl

@[simp] theorem State.setQueue_spine (s : State) (n : Nat) (q : QueuePair) :
    (State.setQueue s n q).spine = s.spine := by
  simp only [State.setQueue, State.spine_mk, State.by_spine]

@[simp] theorem stallEvent_spine (n : Nat) (s : State) :
    (stallEvent n s).spine = s.spine := by
  simp only [stallEvent, State.spine_mk, State.by_spine, ite_spine, ite_self, foldl_spine, implies_true, deviceEvent_spine]

@[simp] theorem hostWrite_spine (addr : Nat) (bs : List Byte) (s : State) :
    (hostWrite addr bs s).spine = s.spine := by
  simp only [hostWrite, State.spine_mk, State.by_spine, ite_spine, ite_self, foldl_spine, implies_true]

@[simp] theorem writeResponse_spine (e : CqEntry) (s : State) :
    (writeResponse e s).spine = s.spine := by
  unfold writeResponse
  repeat' split
  all_goals simp only [State.spine_mk, State.by_spine, ite_spine, ite_self, foldl_spine, implies_true, hostWrite_spine]

@[simp] theorem postCompletion_spine (n : Nat) (e : CqEntry) (s : State) :
    (postCompletion n e s).spine = s.spine := by
  simp only [postCompletion, State.spine_mk, State.by_spine, ite_spine, ite_self, foldl_spine, implies_true,
    State.setQueue_spine, signalVector_spine, stallEvent_spine, writeResponse_spine]

@[simp] theorem flushHeld_spine (n : Nat) (s : State) :
    (flushHeld n s).spine = s.spine := by
  simp only [flushHeld, State.spine_mk, State.by_spine, ite_spine, ite_self, foldl_spine, implies_true, State.setQueue_spine,
    signalVector_spine, stallEvent_spine, writeResponse_spine]

@[simp] theorem reportLost_spine (s : State) :
    (reportLost s).spine = s.spine := by
  simp only [reportLost, State.spine_mk, State.by_spine, ite_spine, ite_self, foldl_spine, implies_true, deviceEvent_spine]

@[simp] theorem resumeDma_spine (s : State) :
    (resumeDma s).spine = s.spine := by
  simp only [resumeDma, flushHeld_spine, reportLost_spine, foldl_spine, implies_true]

@[simp] theorem finish_spine (f : InFlight) (status : Status) (detail : Nat) (resp : List Byte) (s : State) :
    (finish f status detail resp s).spine = s.spine := by
  simp only [finish, State.spine_mk, State.by_spine, ite_spine, ite_self, postCompletion_spine, hostWrite_spine]

@[simp] theorem beginOrigin_spine (tag : Half) (chan : Nat) (s : State) :
    (beginOrigin tag chan s).spine = s.spine := by
  simp only [beginOrigin, State.spine_mk, State.by_spine, ite_spine, ite_self, foldl_spine, implies_true]

@[simp] theorem takePacket_spine (p : Packet) (s0 : State) :
    (takePacket p s0).spine = s0.spine := by
  simp only [takePacket, State.spine_mk, State.by_spine, ite_spine, ite_self, foldl_spine, implies_true, State.setQueue_spine,
    beginOrigin_spine]

@[simp] theorem addDeferred_spine (f : InFlight) (unit group code : Nat) (abortPayload : List Byte) (s : State) :
    (addDeferred f unit group code abortPayload s).spine = s.spine := by
  simp only [addDeferred, State.spine_mk, State.by_spine]

/-- What a command's own part answers leaves the spine of the state it was given, and its first effect leaves any spine. -/
def Reply.Keeps (s : State) : Reply → Prop
  | .done _ _ _ t => t.spine = s.spine
  | .later _ _ _ _ eff => ∀ u, (eff u).spine = u.spine
  | .laterWith _ _ _ _ _ eff => ∀ u, (eff u).spine = u.spine
  | .wait _ t => t.spine = s.spine

theorem Reply.keeps_ok {s t : State} (h : t.spine = s.spine) : (Reply.ok t).Keeps s := h
theorem Reply.keeps_answer {s t : State} {resp : List Byte} (h : t.spine = s.spine) : (Reply.answer resp t).Keeps s := h
theorem Reply.keeps_fail {s t : State} {st : Status} (h : t.spine = s.spine) : (Reply.fail st t).Keeps s := h
theorem Reply.keeps_failAt {s t : State} {st : Status} {off : Nat} (h : t.spine = s.spine) : (Reply.failAt st off t).Keeps s := h

theorem checked_keeps {s : State} {cs : List Check} {r : Reply} (h : r.Keeps s) : (checked s cs r).Keeps s := by
  induction cs with
  | nil => exact h
  | cons c cs ih =>
    unfold checked
    split
    · rfl
    · exact ih

@[simp] theorem endOrigin_spine (s : State) :
    (endOrigin s).spine = s.spine := by
  simp only [endOrigin, State.spine_mk, State.by_spine, ite_spine, ite_self, foldl_spine, implies_true]

@[simp] theorem reply_spine (f : InFlight) (status : Status) (detail : Nat) (resp : List Byte) (s : State) :
    (reply f status detail resp s).spine = s.spine := by
  unfold reply
  repeat' split
  all_goals simp only [State.spine_mk, State.by_spine, ite_spine, ite_self, foldl_spine, implies_true, endOrigin_spine,
    finish_spine]

theorem conclude_spine {f : InFlight} {s : State} {r : Reply} (h : r.Keeps s) : (conclude f s r).spine = s.spine := by
  cases r with
  | done st d resp t => exact (reply_spine ..).trans h
  | later u g c a eff =>
    dsimp only [conclude]
    split
    · exact reply_spine ..
    · rw [endOrigin_spine, h, beginOrigin_spine, reply_spine, addDeferred_spine]
  | laterWith resp u g c a eff =>
    dsimp only [conclude]
    split
    · exact reply_spine ..
    · rw [endOrigin_spine, h, beginOrigin_spine, reply_spine, addDeferred_spine]
  | wait k t => exact (endOrigin_spine t).trans h

@[simp] theorem fetchFailed_spine (n : Nat) (s : State) :
    (fetchFailed n s).spine = s.spine := by
  simp only [fetchFailed, State.spine_mk, State.by_spine, ite_spine, ite_self, foldl_spine, implies_true,
    State.setQueue_spine, countBadFetch_spine, postCompletion_spine]

@[simp] theorem holdEntry_spine (n : Nat) (x : Option (Nat × Packet)) (s : State) :
    (holdEntry n x s).spine = s.spine := by
  simp only [holdEntry, State.spine_mk, State.by_spine, ite_spine, ite_self, foldl_spine, implies_true, State.setQueue_spine]

@[simp] theorem notStarted_spine (opcode : Nat) (p : Packet) (s : State) :
    (notStarted opcode p s).spine = s.spine := by
  unfold notStarted
  repeat' split
  all_goals simp only [State.spine_mk, State.by_spine, ite_spine, ite_self, foldl_spine, implies_true, fetchFailed_spine,
    holdEntry_spine]

/-- A command whose own part leaves the spine leaves it. -/
theorem runCommand_spine {c : CmdInfo} {body : Packet → State → Reply} {p : Packet} {s : State} (h : ∀ u, (body p u).Keeps u) :
    (runCommand c body p s).spine = s.spine := by
  unfold runCommand
  split
  · exact notStarted_spine ..
  split
  · rfl
  dsimp only
  split
  · exact (conclude_spine (h _)).trans (takePacket_spine ..)
  · rw [reply_spine, countBadCrc_spine, takePacket_spine]
  · rw [reply_spine, takePacket_spine]

/-- A meaning answers a next state with the same spine. -/
def OutcomeKeeps (s : State) (o : Host.Outcome State Fault Refusal) : Prop := ∃ t, o = .next t ∧ t.spine = s.spine

theorem keeps_next {s t : State} (h : t.spine = s.spine) : OutcomeKeeps s (.next t) := ⟨t, rfl, h⟩
theorem keeps_run {c : CmdInfo} {body : Packet → State → Reply} {p : Packet} {s : State} (h : ∀ u, (body p u).Keeps u) :
    OutcomeKeeps s (.next (runCommand c body p s)) := keeps_next (runCommand_spine h)

@[simp] theorem finishWaiting_spine (key : Nat) (status : Status) (resp : List Byte) (s : State) :
    (finishWaiting key status resp s).spine = s.spine := by
  unfold finishWaiting
  repeat' split
  all_goals simp only [State.spine_mk, State.by_spine, finish_spine]

/-! ### Clock -/

@[simp] theorem advancePs_spine (n : Nat) (s : State) :
    (advancePs n s).spine = s.spine := by
  simp only [advancePs, State.spine_mk, State.by_spine, ite_spine, ite_self, foldl_spine, implies_true]

@[simp] theorem advanceToUnits_spine (target : Nat) (s : State) :
    (advanceToUnits target s).spine = s.spine := by
  simp only [advanceToUnits, ite_spine, ite_self, advancePs_spine]

@[simp] theorem advanceToTod_spine (seconds nanoseconds : Nat) (s : State) :
    (advanceToTod seconds nanoseconds s).spine = s.spine := by
  simp only [advanceToTod, advanceToUnits_spine]

@[simp] theorem synceEvent_spine (n : Nat) (x : SyncE) (s : State) :
    (synceEvent n x s).spine = s.spine := by
  simp only [synceEvent, emit_spine]

@[simp] theorem synceSquelchOne_spine (lane n : Nat) (s : State) :
    (synceSquelchOne lane n s).spine = s.spine := by
  simp only [synceSquelchOne, State.spine_mk, State.by_spine, ite_spine, ite_self, synceEvent_spine]

@[simp] theorem synceSquelch_spine (lane : Nat) (s : State) :
    (synceSquelch lane s).spine = s.spine := by
  simp only [synceSquelch, synceSquelchOne_spine]

/-! ### Monitor -/

@[simp] theorem modChan_spine (c : Nat) (f : Chan → Chan) (s : State) :
    (modChan c f s).spine = s.spine := by
  simp only [modChan, State.spine_mk, State.by_spine]

@[simp] theorem modFsop_spine (e : Nat) (f : Fsop → Fsop) (s : State) :
    (modFsop e f s).spine = s.spine := by
  simp only [modFsop, State.spine_mk, State.by_spine]

@[simp] theorem modRing_spine (n : Nat) (f : DmaRing → DmaRing) (s : State) :
    (modRing n f s).spine = s.spine := by
  simp only [modRing, State.spine_mk, State.by_spine]

@[simp] theorem writeRing_spine (n : Nat) (entry : Bool → Bool → List Byte) (s : State) :
    (writeRing n entry s).spine = s.spine := by
  simp only [writeRing, State.spine_mk, State.by_spine, ite_spine, ite_self, signalVector_spine, modRing_spine]

@[simp] theorem flushRecord_spine (c : Nat) (s : State) :
    (flushRecord c s).spine = s.spine := by
  simp only [flushRecord, ite_spine, ite_self, modChan_spine, writeRing_spine]

@[simp] theorem restartChan_spine (c : Nat) (s : State) :
    (restartChan c s).spine = s.spine := by
  simp only [restartChan, modChan_spine, flushRecord_spine]

@[simp] theorem takeDetectors_spine (c : Nat) (s : State) :
    (takeDetectors c s).spine = s.spine := by
  simp only [takeDetectors, modChan_spine, flushRecord_spine, ite_spine, ite_self]

@[simp] theorem stopChan_spine (c : Nat) (s : State) : (stopChan c s).spine = s.spine := by
  simp only [stopChan, modChan_spine, flushRecord_spine]

@[simp] theorem monStop_spine (e : Nat) (s : State) :
    (monStop e s).spine = s.spine := by
  simp only [monStop, stopChan_spine, foldl_spine, implies_true]

@[simp] theorem chanBlock_spine (c : Nat) (named : Bool) (s : State) : (chanBlock c named s).spine = s.spine := by
  simp only [chanBlock, stopChan_spine, restartChan_spine, takeDetectors_spine, ite_spine, ite_self]

@[simp] theorem monBlock_spine (e : Nat) (s : State) :
    (monBlock e s).spine = s.spine := by
  simp only [monBlock, State.spine_mk, State.by_spine, modFsop_spine, chanBlock_spine, foldl_spine, implies_true]

@[simp] theorem monThrottle_spine (level : Nat) (s : State) :
    (monThrottle level s).spine = s.spine := by
  simp only [monThrottle, State.spine_mk, State.by_spine]

@[simp] theorem monRingSecond_spine (n : Nat) (s : State) :
    (monRingSecond n s).spine = s.spine := by
  simp only [monRingSecond, ite_spine, ite_self, emit_spine, modRing_spine]

@[simp] theorem hkaOvrSecond_spine (k : Nat) (s : State) :
    (hkaOvrSecond k s).spine = s.spine := by
  simp only [hkaOvrSecond, State.spine_mk, State.by_spine, ite_spine, ite_self, emit_spine]

@[simp] theorem monSecond_spine (s : State) :
    (monSecond s).spine = s.spine := by
  simp only [monSecond, State.spine_mk, State.by_spine, monRingSecond_spine, hkaOvrSecond_spine, foldl_spine, implies_true]

/-! ### Coherent DSP -/

@[simp] theorem modEngine_spine (e : Nat) (f : Engine → Engine) (s : State) :
    (modEngine e f s).spine = s.spine := by
  simp only [modEngine, State.spine_mk, State.by_spine]

@[simp] theorem fastExitNow_spine (e : Nat) (s : State) :
    (fastExitNow e s).spine = s.spine := by
  unfold fastExitNow
  repeat' split
  all_goals simp only [emit_spine, modEngine_spine]

@[simp] theorem setLock_spine (e : Nat) (st : LockState) (dlos : Bool) (cause : Nat) (s : State) :
    (setLock e st dlos cause s).spine = s.spine := by
  simp only [setLock, ite_spine, ite_self, emit_spine, modEngine_spine, fastExitNow_spine]

@[simp] theorem profileDone_spine (e : Nat) (st : Status) (s : State) :
    (profileDone e st s).spine = s.spine := by
  simp only [profileDone]
  repeat' split
  all_goals simp only [completeOr_spine, modEngine_spine]

@[simp] theorem searchDone_spine (e : Nat) (st : Status) (found : Int) (s : State) :
    (searchDone e st found s).spine = s.spine := by
  simp only [searchDone, ite_spine, ite_self, emit_spine, completeOr_spine, modEngine_spine]

@[simp] theorem engineOff_spine (e cause : Nat) (s : State) :
    (engineOff e cause s).spine = s.spine := by
  rw [engineOff, monStop_spine, modEngine_spine, setLock_spine, searchDone_spine, profileDone_spine]

@[simp] theorem engineStart_spine (e : Nat) (s : State) :
    (engineStart e s).spine = s.spine := by
  simp only [engineStart, ite_spine, ite_self, modEngine_spine, setLock_spine]

@[simp] theorem toCdAcq_spine (e cause : Nat) (s : State) :
    (toCdAcq e cause s).spine = s.spine := by
  simp only [toCdAcq, modEngine_spine, setLock_spine]

@[simp] theorem reacquire_spine (e cause : Nat) (s : State) :
    (reacquire e cause s).spine = s.spine := by
  simp only [reacquire, ite_spine, ite_self, toCdAcq_spine]

@[simp] theorem fastRequest_spine (e source : Nat) (s : State) :
    (fastRequest e source s).spine = s.spine := by
  simp only [fastRequest, modEngine_spine]

@[simp] theorem startTxpd_spine (e : Nat) (s : State) :
    (startTxpd e s).spine = s.spine := by
  simp only [startTxpd, modEngine_spine]

@[simp] theorem startSwitch_spine (e : Nat) (s : State) :
    (startSwitch e s).spine = s.spine := by
  unfold startSwitch
  repeat' split
  all_goals simp only [modEngine_spine, fastExitNow_spine, setLock_spine, searchDone_spine, startTxpd_spine]

@[simp] theorem switchTx_spine (e : Nat) (s : State) :
    (switchTx e s).spine = s.spine := by
  simp only [switchTx, modEngine_spine]

/-! ### Defects -/

@[simp] theorem modUnit_spine (k : Nat) (f : FrmUnit → FrmUnit) (s : State) :
    (modUnit k f s).spine = s.spine := by
  simp only [modUnit, State.spine_mk, State.by_spine]

/-! ### Thermal -/

@[simp] theorem modSensor_spine (n : Nat) (f : Sensor → Sensor) (s : State) :
    (modSensor n f s).spine = s.spine := by
  simp only [modSensor, State.spine_mk, State.by_spine]

/-! ### Logbook -/

@[simp] theorem flashKick_spine (s : State) :
    (flashKick s).spine = s.spine := by
  simp only [flashKick, State.spine_mk, State.by_spine, ite_spine, ite_self]

@[simp] theorem logInjected_spine (injected : Bool) (type item : Nat) (payload : List Byte) (s : State) :
    (logInjected injected type item payload s).spine = s.spine := by
  simp only [logInjected, State.spine_mk, State.by_spine, flashKick_spine]

@[simp] theorem logRecord_spine (type item : Nat) (payload : List Byte) (s : State) :
    (logRecord type item payload s).spine = s.spine := by
  simp only [logRecord, logInjected_spine]

@[simp] theorem waitCommit_spine (key : Nat) (resp : List Byte) (s : State) :
    (waitCommit key resp s).spine = s.spine := by
  simp only [waitCommit, State.spine_mk, State.by_spine]

@[simp] theorem retireFlash_spine (b cause : Nat) (s : State) :
    (retireFlash b cause s).spine = s.spine := by
  simp only [retireFlash, State.spine_mk, State.by_spine, emit_spine]

@[simp] theorem flashSleep_spine (s : State) :
    (flashSleep s).spine = s.spine := by
  unfold flashSleep
  repeat' split
  all_goals simp only [State.spine_mk, State.by_spine]

@[simp] theorem flashWake_spine (s : State) :
    (flashWake s).spine = s.spine := by
  simp only [flashWake, State.spine_mk, State.by_spine, flashKick_spine]

@[simp] theorem reserveDctr_spine (s : State) :
    (reserveDctr s).spine = s.spine := by
  simp only [reserveDctr, State.spine_mk, State.by_spine, ite_spine, ite_self, logRecord_spine]

@[simp] theorem addLife_spine (k n : Nat) (s : State) :
    (addLife k n s).spine = s.spine := by
  simp only [addLife, State.spine_mk, State.by_spine]

@[simp] theorem lifeBlock_spine (corrected : Nat) (s : State) :
    (lifeBlock corrected s).spine = s.spine := by
  simp only [lifeBlock, State.spine_mk, State.by_spine, addLife_spine]

@[simp] theorem lifeBytes_spine (len : Nat) (s : State) :
    (lifeBytes len s).spine = s.spine := by
  simp only [lifeBytes, State.spine_mk, State.by_spine, addLife_spine]

@[simp] theorem logCounters_spine (orderly : Bool) (s : State) :
    (logCounters orderly s).spine = s.spine := by
  simp only [logCounters, logRecord_spine]

/-! ### Memory integrity -/

@[simp] theorem modClass_spine (k : Nat) (f : MemClass → MemClass) (s : State) :
    (modClass k f s).spine = s.spine := by
  simp only [modClass, State.spine_mk, State.by_spine]

@[simp] theorem logCinder_spine (index : Nat) (s : State) :
    (logCinder index s).spine = s.spine := by
  simp only [logCinder, logRecord_spine]

@[simp] theorem addCinder_spine (c : Cinder) (s : State) :
    (addCinder c s).spine = s.spine := by
  simp only [addCinder, State.spine_mk, State.by_spine, ite_spine, ite_self, emit_spine, logCinder_spine]

@[simp] theorem retiredEvent_spine (k kind inst addr left : Nat) (persisted : Bool) (s : State) :
    (retiredEvent k kind inst addr left persisted s).spine = s.spine := by
  simp only [retiredEvent, emit_spine]

@[simp] theorem retireRow_spine (k inst row cause : Nat) (s : State) :
    (retireRow k inst row cause s).spine = s.spine := by
  simp only [retireRow, ite_spine, ite_self, modClass_spine, addCinder_spine, retiredEvent_spine]

@[simp] theorem countCe_spine (k inst row : Nat) (s : State) :
    (countCe k inst row s).spine = s.spine := by
  simp only [countCe, modClass_spine]

@[simp] theorem reportUe_spine (k inst row : Nat) (injected scrub : Bool) (response : Nat) (s : State) :
    (reportUe k inst row injected scrub response s).spine = s.spine := by
  simp only [reportUe, State.spine_mk, State.by_spine, ite_spine, ite_self, emit_spine, logInjected_spine, modClass_spine]

@[simp] theorem miSummary_spine (k period n row : Nat) (s : State) :
    (miSummary k period n row s).spine = s.spine := by
  simp only [miSummary, logRecord_spine]

@[simp] theorem miHour_spine (s : State) :
    (miHour s).spine = s.spine := by
  simp only [miHour, ite_spine, ite_self, modClass_spine, miSummary_spine, foldl_spine, implies_true]

@[simp] theorem miDay_spine (s : State) :
    (miDay s).spine = s.spine := by
  simp only [miDay, ite_spine, ite_self, modClass_spine, miSummary_spine, foldl_spine, implies_true]

@[simp] theorem poisonRow_spine (k inst row : Nat) (await : Option UeTarget) (s : State) :
    (poisonRow k inst row await s).spine = s.spine := by
  unfold poisonRow
  repeat' split
  all_goals simp only [State.spine_mk, State.by_spine, modClass_spine]

@[simp] theorem clearPoison_spine (k inst row : Nat) (s : State) :
    (clearPoison k inst row s).spine = s.spine := by
  simp only [clearPoison, State.spine_mk, State.by_spine, modClass_spine]

@[simp] theorem setValid_spine (k inst row : Nat) (s : State) :
    (setValid k inst row s).spine = s.spine := by
  simp only [setValid, modClass_spine]

@[simp] theorem fullWrite_spine (k inst row : Nat) (s : State) :
    (fullWrite k inst row s).spine = s.spine := by
  simp only [fullWrite, clearPoison_spine, setValid_spine]

@[simp] theorem rebuilt_spine (t : UeTarget) (faulty : Bool) (s : State) :
    (rebuilt t faulty s).spine = s.spine := by
  simp only [rebuilt, ite_spine, ite_self, retireRow_spine, fullWrite_spine, foldl_spine, implies_true]

@[simp] theorem scrubAbort_spine (k : Nat) (s : State) :
    (scrubAbort k s).spine = s.spine := by
  unfold scrubAbort
  repeat' split
  all_goals simp only [completeOr_spine, modClass_spine, takeFree_spine]

@[simp] theorem miPower_spine (level : Nat) (s : State) :
    (miPower level s).spine = s.spine := by
  simp only [miPower, State.spine_mk, State.by_spine, modClass_spine, scrubAbort_spine, foldl_spine, implies_true]

@[simp] theorem miDropFlips_spine (s : State) :
    (miDropFlips s).spine = s.spine := by
  simp only [miDropFlips, State.spine_mk, State.by_spine]

@[simp] theorem miSecondClass_spine (k : Nat) (s : State) :
    (miSecondClass k s).spine = s.spine := by
  simp only [miSecondClass, ite_spine, ite_self, emit_spine, modClass_spine]

@[simp] theorem miSecond_spine (s : State) :
    (miSecond s).spine = s.spine := by
  simp only [miSecond, State.spine_mk, State.by_spine, miSecondClass_spine, foldl_spine, implies_true]

@[simp] theorem miReads_spine (m : SecondMeasure) (s : State) : (miReads m s).spine = s.spine := by
  simp only [miReads, State.spine_mk, State.by_spine]

/-! ### Protection -/

@[simp] theorem setApsGroup_spine (w : Nat) (g : ApsGroup) (s : State) :
    (setApsGroup w g s).spine = s.spine := by
  simp only [setApsGroup, State.spine_mk, State.by_spine]

@[simp] theorem apsRefreshOne_spine (w : Nat) (g : ApsGroup) (s : State) :
    (apsRefreshOne w g s).spine = s.spine := by
  simp only [apsRefreshOne, ite_spine, ite_self, setApsGroup_spine]

@[simp] theorem apsRefresh_spine (s : State) :
    (apsRefresh s).spine = s.spine := by
  simp only [apsRefresh, apsRefreshOne_spine, foldl_spine, implies_true]

@[simp] theorem apsReport_spine (w : Nat) (g : ApsGroup) (s : State) :
    (apsReport w g s).spine = s.spine := by
  simp only [apsReport, emit_spine, setApsGroup_spine]

@[simp] theorem modTrib_spine (t : Nat) (f : TribStatus → TribStatus) (s : State) :
    (modTrib t f s).spine = s.spine := by
  simp only [modTrib, State.spine_mk, State.by_spine]

@[simp] theorem modCphTrib_spine (t : Nat) (f : CphTrib → CphTrib) (s : State) :
    (modCphTrib t f s).spine = s.spine := by
  simp only [modCphTrib, State.spine_mk, State.by_spine]

@[simp] theorem tribBoundary_spine (t : Nat) (s : State) :
    (tribBoundary t s).spine = s.spine := by
  simp only [tribBoundary, modTrib_spine]

@[simp] theorem unlockFailed_spine (s : State) :
    (unlockFailed s).spine = s.spine := by
  simp only [unlockFailed, ite_spine, ite_self, modTrib_spine, foldl_spine, implies_true]

/-! ### Framer -/

@[simp] theorem reportDefects_spine (k : Nat) (s : State) :
    (reportDefects k s).spine = s.spine := by
  simp only [reportDefects, emit_spine, modUnit_spine]

@[simp] theorem setDeclared_spine (k : Nat) (w : BitVec 21) (s : State) :
    (setDeclared k w s).spine = s.spine := by
  simp only [setDeclared, ite_spine, ite_self, modUnit_spine, reportDefects_spine]

@[simp] theorem cphMasked_spine (t : Nat) (s : State) :
    (cphMasked t s).spine = s.spine := by
  simp only [cphMasked, ite_spine, ite_self, modCphTrib_spine]

@[simp] theorem setUnmasked_spine (scope unit : Nat) (w : BitVec 21) (s : State) :
    (setUnmasked scope unit w s).spine = s.spine := by
  simp only [setUnmasked, ite_spine, ite_self, cphMasked_spine, modUnit_spine, setDeclared_spine]

@[simp] theorem remaskTribs_spine (e : Nat) (s : State) :
    (remaskTribs e s).spine = s.spine := by
  simp only [remaskTribs, setUnmasked_spine, foldl_spine, implies_true]

@[simp] theorem afterDefects_spine (scope unit : Nat) (s : State) :
    (afterDefects scope unit s).spine = s.spine := by
  simp only [afterDefects, ite_spine, ite_self, apsRefresh_spine, unlockFailed_spine, remaskTribs_spine]

@[simp] theorem changeDefects_spine (scope unit : Nat) (w : BitVec 21) (s : State) :
    (changeDefects scope unit w s).spine = s.spine := by
  simp only [changeDefects, State.spine_mk, State.by_spine, ite_spine, ite_self, foldl_spine, implies_true,
    afterDefects_spine, setUnmasked_spine]

@[simp] theorem declareDefects_spine (scope unit : Nat) (codes : BitVec 21) (s : State) :
    (declareDefects scope unit codes s).spine = s.spine := by
  simp only [declareDefects, State.spine_mk, State.by_spine, ite_spine, ite_self, foldl_spine, implies_true,
    changeDefects_spine]

@[simp] theorem clearDefects_spine (scope unit : Nat) (codes : BitVec 21) (s : State) :
    (clearDefects scope unit codes s).spine = s.spine := by
  simp only [clearDefects, State.spine_mk, State.by_spine, ite_spine, ite_self, foldl_spine, implies_true, changeDefects_spine]

@[simp] theorem countUncorr_spine (e : Nat) (uncorr : Bool) (s : State) :
    (countUncorr e uncorr s).spine = s.spine := by
  simp only [countUncorr, ite_spine, ite_self, modUnit_spine]

@[simp] theorem frmWindow_spine (e : Nat) (sd sf : Bool) (s : State) :
    (frmWindow e sd sf s).spine = s.spine := by
  simp only [frmWindow, modUnit_spine]

@[simp] theorem framerRestart_spine (e : Nat) (s : State) :
    (framerRestart e s).spine = s.spine := by
  simp only [framerRestart, modUnit_spine]

@[simp] theorem framerUp_spine (e : Nat) (s : State) :
    (framerUp e s).spine = s.spine := by
  simp only [framerUp, State.spine_mk, State.by_spine, ite_spine, ite_self, foldl_spine, implies_true, declareDefects_spine,
    framerRestart_spine, modUnit_spine]

@[simp] theorem cifFramerUp_spine (powerUp : Bool) (c otn : Nat) (los : Bool) (s : State) :
    (cifFramerUp powerUp c otn los s).spine = s.spine := by
  simp only [cifFramerUp, State.spine_mk, State.by_spine, ite_spine, ite_self, foldl_spine, implies_true,
    declareDefects_spine, modUnit_spine]

@[simp] theorem unitOff_spine (k : Nat) (s : State) :
    (unitOff k s).spine = s.spine := by
  simp only [unitOff, State.spine_mk, State.by_spine, ite_spine, ite_self, foldl_spine, implies_true, modUnit_spine,
    setDeclared_spine]

@[simp] theorem cifFramerDown_spine (c : Nat) (s : State) :
    (cifFramerDown c s).spine = s.spine := by
  simp only [cifFramerDown, State.spine_mk, State.by_spine, ite_spine, ite_self, foldl_spine, implies_true, apsRefresh_spine,
    modUnit_spine, unitOff_spine]

@[simp] theorem framerDown_spine (s : State) :
    (framerDown s).spine = s.spine := by
  simp only [framerDown, State.spine_mk, State.by_spine, ite_spine, ite_self, foldl_spine, implies_true, unitOff_spine]

@[simp] theorem setPmUnit_spine (k : Nat) (u : PmUnit) (s : State) :
    (setPmUnit k u s).spine = s.spine := by
  simp only [setPmUnit, State.spine_mk, State.by_spine]

@[simp] theorem uasEvent_spine (k dir label : Nat) (was now : Bool) (s : State) :
    (uasEvent k dir label was now s).spine = s.spine := by
  simp only [uasEvent, ite_spine, ite_self, emit_spine]

theorem foldl_spine_pair {α β : Type} (f : State × β → α → State × β) (h : ∀ u a, (f u a).1.spine = u.1.spine) (l : List α)
    (x : State × β) : (l.foldl f x).1.spine = x.1.spine := by
  induction l generalizing x with
  | nil => rfl
  | cons a l ih => rw [List.foldl_cons, ih, h]

@[simp] theorem tcaCheck_spine (k period : Nat) (old new : Bin) (s : State) : (tcaCheck k period old new s).1.spine = s.spine := by
  rw [tcaCheck, foldl_spine_pair]
  intro u a
  simp only [apply_ite Prod.fst, ite_spine, emit_spine, ite_self]

@[simp] theorem commitUnit_spine (w : List PmSecond) (x : PmSecond) (start15 start24 : Nat) (k : Nat) (x0 : SecFacts) (s :
    State) :
    (commitUnit w x start15 start24 k x0 s).spine = s.spine := by
  unfold commitUnit
  repeat' split
  all_goals simp only [State.spine_mk, State.by_spine, ite_spine, ite_self, foldl_spine, implies_true, setPmUnit_spine,
    tcaCheck_spine, uasEvent_spine]

@[simp] theorem close15_spine (force : Bool) (s : State) :
    (close15 force s).spine = s.spine := by
  unfold close15
  repeat' split
  all_goals simp only [State.spine_mk, State.by_spine, emit_spine]

@[simp] theorem close24_spine (force : Bool) (s : State) :
    (close24 force s).spine = s.spine := by
  unfold close24
  repeat' split
  all_goals simp only [State.spine_mk, State.by_spine, emit_spine]

@[simp] theorem openBins_spine (label : Nat) (s : State) :
    (openBins label s).spine = s.spine := by
  simp only [openBins, State.spine_mk, State.by_spine, ite_spine, ite_self, close15_spine, close24_spine]

@[simp] theorem commitOldest_spine (s : State) :
    (commitOldest s).spine = s.spine := by
  unfold commitOldest
  split
  · rfl
  split
  · rfl
  simp only [State.spine_mk, State.by_spine, ite_spine, ite_self, close15_spine, close24_spine, openBins_spine, foldl_spine, commitUnit_spine, implies_true]

@[simp] theorem frmSecond_spine (label : Nat) (irreg : Bool) (s : State) :
    (frmSecond label irreg s).spine = s.spine := by
  simp only [frmSecond, State.spine_mk, State.by_spine, ite_spine, ite_self, commitOldest_spine]

/-! ### Cipher -/

@[simp] theorem modKeySlot_spine (k : Nat) (f : KeySlot → KeySlot) (s : State) :
    (modKeySlot k f s).spine = s.spine := by
  simp only [modKeySlot, State.spine_mk, State.by_spine]

@[simp] theorem nextDctr_spine (s : State) :
    (nextDctr s).spine = s.spine := by
  simp only [nextDctr, State.spine_mk, State.by_spine, reserveDctr_spine]

@[simp] theorem logSlot_spine (old : KeySlot) (k : Nat) (s : State) :
    (logSlot old k s).spine = s.spine := by
  simp only [logSlot, ite_spine, ite_self, logRecord_spine]

@[simp] theorem tellFramer_spine (t : Nat) (s : State) :
    (tellFramer t s).spine = s.spine := by
  simp only [tellFramer, modUnit_spine]

@[simp] theorem addTwins_spine (t : Nat) (receive : Bool) (n : Nat) (s : State) :
    (addTwins t receive n s).spine = s.spine := by
  simp only [addTwins, State.spine_mk, State.by_spine, ite_spine, ite_self, emit_spine, logRecord_spine, modCphTrib_spine]

@[simp] theorem switchAbort_spine (t : Nat) (s : State) :
    (switchAbort t s).spine = s.spine := by
  simp only [switchAbort]
  repeat' split
  all_goals simp only [completeDeferred_spine, modCphTrib_spine]

@[simp] theorem cphTribEnd_spine (t : Nat) (s : State) :
    (cphTribEnd t s).spine = s.spine := by
  simp only [cphTribEnd, modCphTrib_spine, switchAbort_spine]

@[simp] theorem cphTribStart_spine (_t : Nat) (_x : PlanEntry) (s : State) :
    (cphTribStart _t _x s).spine = s.spine := by
  simp only [cphTribStart]

@[simp] theorem cphTribBoundary_spine (t : Nat) (s : State) :
    (cphTribBoundary t s).spine = s.spine := by
  simp only [cphTribBoundary, modCphTrib_spine]

@[simp] theorem epochFault_spine (t : Nat) (receive : Bool) (s : State) :
    (epochFault t receive s).spine = s.spine := by
  simp only [epochFault, modCphTrib_spine]

@[simp] theorem cphClearEpochs_spine (s0 : State) :
    (cphClearEpochs s0).spine = s0.spine := by
  simp only [cphClearEpochs, State.spine_mk, State.by_spine, ite_spine, ite_self, foldl_spine, implies_true,
    abortDeferred_spine]

@[simp] theorem cphSecond_spine (s : State) :
    (cphSecond s).spine = s.spine := by
  simp only [cphSecond, State.spine_mk, State.by_spine]

@[simp] theorem installEpoch_spine (t : Nat) (receive : Bool) (e : Epoch) (s : State) : (installEpoch t receive e s).1.spine = s.spine := by
  unfold installEpoch
  dsimp only
  split
  · exact modCphTrib_spine ..
  · exact modCphTrib_spine ..

@[simp] theorem rekeyTrib_spine (t : Nat) (e : Epoch) (s : State) :
    (rekeyTrib t e s).spine = s.spine := by
  simp only [rekeyTrib, State.spine_mk, State.by_spine, ite_spine, ite_self, emit_spine, reserveDctr_spine, installEpoch_spine, nextDctr_spine]

@[simp] theorem rekeyWaiting_spine (s : State) :
    (rekeyWaiting s).spine = s.spine := by
  simp only [rekeyWaiting, State.spine_mk, State.by_spine, rekeyTrib_spine, foldl_spine, implies_true]

@[simp] theorem cphResume_spine (old : Cph) (s : State) :
    (cphResume old s).spine = s.spine := by
  rw [cphResume, foldl_spine]
  · rfl
  intro u a
  exact foldl_spine _ (fun v e => rekeyTrib_spine a.1 e v) _ _

@[simp] theorem modJob_spine (id : Nat) (f : Job → Job) (s : State) :
    (modJob id f s).spine = s.spine := by
  simp only [modJob, State.spine_mk, State.by_spine]

@[simp] theorem dropJob_spine (id : Nat) (s : State) :
    (dropJob id s).spine = s.spine := by
  simp only [dropJob, State.spine_mk, State.by_spine]

@[simp] theorem jobDone_spine (j : Job) (st : Status) (processed : Nat) (tag : List Byte) (s : State) :
    (jobDone j st processed tag s).spine = s.spine := by
  simp only [jobDone, completeOr_spine, dropJob_spine]

/-! ### Packets -/

@[simp] theorem modPort_spine (q : Nat) (f : Port → Port) (s : State) :
    (modPort q f s).spine = s.spine := by
  simp only [modPort, State.spine_mk, State.by_spine]

@[simp] theorem modLive_spine (q : Nat) (f : PortCounts → PortCounts) (s : State) :
    (modLive q f s).spine = s.spine := by
  simp only [modLive, modPort_spine]

@[simp] theorem modShape_spine (k : Nat) (f : Shape → Shape) (s : State) :
    (modShape k f s).spine = s.spine := by
  simp only [modShape, State.spine_mk, State.by_spine]

@[simp] theorem addStats_spine (sub : Nat) (f : Stats → Stats) (s : State) :
    (addStats sub f s).spine = s.spine := by
  simp only [addStats, State.spine_mk, State.by_spine]

@[simp] theorem statDrop_spine (sub : Nat) (s : State) :
    (statDrop sub s).spine = s.spine := by
  simp only [statDrop, addStats_spine]

@[simp] theorem releaseTiles_spine (f : Frame) (s : State) :
    (releaseTiles f s).spine = s.spine := by
  simp only [releaseTiles, State.spine_mk, State.by_spine, modPort_spine]

@[simp] theorem retireTile_spine (t : Nat) (s : State) :
    (retireTile t s).spine = s.spine := by
  simp only [retireTile, State.spine_mk, State.by_spine]

@[simp] theorem retireBank_spine (b : Nat) (s : State) :
    (retireBank b s).spine = s.spine := by
  simp only [retireBank, State.spine_mk, State.by_spine, ite_spine, ite_self, emit_spine]

@[simp] theorem chargeEntity_spine (k len : Nat) (committed : Bool) (s : State) :
    (chargeEntity k len committed s).spine = s.spine := by
  simp only [chargeEntity, modShape_spine]

@[simp] theorem wheelPlace_spine (k : Nat) (s : State) :
    (wheelPlace k s).spine = s.spine := by
  simp only [wheelPlace, State.spine_mk, State.by_spine, ite_spine, ite_self]

@[simp] theorem pktTimeStep_spine (s : State) :
    (pktTimeStep s).spine = s.spine := by
  simp only [pktTimeStep, State.spine_mk, State.by_spine]

@[simp] theorem dropFrame_spine (f : Frame) (s : State) :
    (dropFrame f s).spine = s.spine := by
  simp only [dropFrame, modPort_spine, statDrop_spine, releaseTiles_spine, wheelPlace_spine]

theorem flushFrames_spine (f : Frame → Bool) (count : Nat → State → State) (h : ∀ q u, (count q u).spine = u.spine) (s : State) :
    (flushFrames f count s).spine = s.spine := by
  rw [flushFrames, foldl_spine]
  intro u a
  rw [h, dropFrame_spine]

@[simp] theorem countDown_spine (q : Nat) (s : State) :
    (countDown q s).spine = s.spine := by
  simp only [countDown, modLive_spine]

@[simp] theorem countCorrupt_spine (q : Nat) (s : State) :
    (countCorrupt q s).spine = s.spine := by
  simp only [countCorrupt, modLive_spine]

@[simp] theorem flushPort_spine (q : Nat) (s : State) :
    (flushPort q s).spine = s.spine := by
  exact flushFrames_spine _ _ countDown_spine s

@[simp] theorem portEvent_spine (q : Nat) (s : State) :
    (portEvent q s).spine = s.spine := by
  simp only [portEvent, emit_spine]

@[simp] theorem refreshPort_spine (q : Nat) (s : State) :
    (refreshPort q s).spine = s.spine := by
  unfold refreshPort
  dsimp only
  split
  · rfl
  simp only [ite_spine, ite_self, portEvent_spine, flushPort_spine, modPort_spine]

@[simp] theorem pktRefresh_spine (s : State) :
    (pktRefresh s).spine = s.spine := by
  simp only [pktRefresh, refreshPort_spine, foldl_spine, implies_true]

@[simp] theorem pktTribEnd_spine (t : Nat) (s : State) :
    (pktTribEnd t s).spine = s.spine := by
  simp only [pktTribEnd, ite_spine, ite_self, portEvent_spine, flushPort_spine, modPort_spine]

@[simp] theorem pktTribStart_spine (_t : Nat) (_x : PlanEntry) (s : State) :
    (pktTribStart _t _x s).spine = s.spine := by
  simp only [pktTribStart]

@[simp] theorem pktAuthFail_spine (t : Nat) (ids : List Nat) (s : State) :
    (pktAuthFail t ids s).spine = s.spine := by
  simp only [pktAuthFail, State.spine_mk, State.by_spine]

@[simp] theorem pktUp_spine (s : State) :
    (pktUp s).spine = s.spine := by
  simp only [pktUp, State.spine_mk, State.by_spine, pktRefresh_spine]

@[simp] theorem pktDown_spine (s : State) :
    (pktDown s).spine = s.spine := by
  simp only [pktDown, State.spine_mk, State.by_spine, pktRefresh_spine]

@[simp] theorem pktSecond_spine (s : State) :
    (pktSecond s).spine = s.spine := by
  simp only [pktSecond, State.spine_mk, State.by_spine]

/-! ### Machine/Cipher -/

@[simp] theorem groupPasses_spine (t : Nat) (g : RxGroup) (s : State) :
    (groupPasses t g s).spine = s.spine := by
  simp only [groupPasses, ite_spine, modCphTrib_spine]
  repeat' split
  all_goals simp only [emit_spine, modCphTrib_spine]

@[simp] theorem groupFails_spine (t kind cause : Nat) (g : RxGroup) (s : State) :
    (groupFails t kind cause g s).spine = s.spine := by
  simp only [groupFails, ite_spine, ite_self, emit_spine, modCphTrib_spine, pktAuthFail_spine]

@[simp] theorem writeOutput_spine (j : Job) (e : JobEnd) (n : Nat) (s : State) :
    (writeOutput j e n s).spine = s.spine := by
  simp only [writeOutput, ite_spine, ite_self, hostWrite_spine]

@[simp] theorem saveJob_spine (form addr : Nat) (j : Job) (e : JobEnd) (s : State) :
    (saveJob form addr j e s).spine = s.spine := by
  simp only [saveJob, State.spine_mk, State.by_spine, hostWrite_spine, jobDone_spine, writeOutput_spine]

@[simp] theorem zeroFill_spine (j : Job) (n : Nat) (s : State) :
    (zeroFill j n s).spine = s.spine := by
  simp only [zeroFill, ite_spine, ite_self, foldl_spine, implies_true, hostWrite_spine]

/-! ### Client lanes -/

@[simp] theorem modCif_spine (c : Nat) (f : Cif → Cif) (s : State) :
    (modCif c f s).spine = s.spine := by
  simp only [modCif, State.spine_mk, State.by_spine]

@[simp] theorem modLane_spine (l : Nat) (f : Lane → Lane) (s : State) :
    (modLane l f s).spine = s.spine := by
  simp only [modLane, State.spine_mk, State.by_spine]

@[simp] theorem cifEvent_spine (c cause : Nat) (s : State) :
    (cifEvent c cause s).spine = s.spine := by
  simp only [cifEvent, emit_spine]

@[simp] theorem cifDown_spine (c cause : Nat) (s : State) :
    (cifDown c cause s).spine = s.spine := by
  simp only [cifDown, ite_spine, ite_self, apsRefresh_spine, pktRefresh_spine, modCif_spine, cifEvent_spine]

@[simp] theorem cifLos_spine (c : Nat) (s : State) :
    (cifLos c s).spine = s.spine := by
  simp only [cifLos, ite_spine, ite_self, modUnit_spine]

@[simp] theorem clearLoops_spine (c : Nat) (s : State) :
    (clearLoops c s).spine = s.spine := by
  simp only [clearLoops, modCif_spine, modLane_spine, cifLos_spine, cifDown_spine, ite_spine, ite_self, foldl_spine, implies_true]

@[simp] theorem clnCifBoundary_spine (c : Nat) (s : State) :
    (clnCifBoundary c s).spine = s.spine := by
  simp only [clnCifBoundary, State.by_spine, ite_spine, ite_self, modPort_spine, clearLoops_spine]

@[simp] theorem startLanes_spine (c : Nat) (s : State) :
    (startLanes c s).spine = s.spine := by
  simp only [startLanes, modLane_spine, synceSquelch_spine, ite_spine, ite_self, foldl_spine, implies_true]

@[simp] theorem clnUp_spine (s : State) :
    (clnUp s).spine = s.spine := by
  simp only [clnUp, State.spine_mk, State.by_spine, ite_spine, ite_self, foldl_spine, implies_true, cifFramerUp_spine,
    startLanes_spine]

@[simp] theorem clnDown_spine (s : State) :
    (clnDown s).spine = s.spine := by
  simp only [clnDown, State.spine_mk, State.by_spine, cifDown_spine, clearLoops_spine, startLanes_spine, foldl_spine, implies_true]

/-! ### Peer link -/

@[simp] theorem modPeer_spine (l : Nat) (f : PeerLane → PeerLane) (s : State) :
    (modPeer l f s).spine = s.spine := by
  simp only [modPeer, State.spine_mk, State.by_spine]

@[simp] theorem plkShed_spine (s : State) :
    (plkShed s).spine = s.spine := by
  simp only [plkShed, State.spine_mk, State.by_spine, ite_spine, ite_self, emit_spine]

@[simp] theorem plkApsDue_spine (s : State) :
    (plkApsDue s).spine = s.spine := by
  simp only [plkApsDue, State.spine_mk, State.by_spine]

@[simp] theorem plkRefresh_spine (s : State) :
    (plkRefresh s).spine = s.spine := by
  simp only [plkRefresh, State.spine_mk, State.by_spine, apsRefresh_spine, plkShed_spine, plkApsDue_spine]

@[simp] theorem setPlk_spine (st : PlkLink) (cause : Nat) (s : State) :
    (setPlk st cause s).spine = s.spine := by
  simp only [setPlk, State.spine_mk, State.by_spine, ite_spine, ite_self, emit_spine, plkRefresh_spine]

@[simp] theorem plkProgress_spine (s : State) :
    (plkProgress s).spine = s.spine := by
  simp only [plkProgress]
  repeat' split
  all_goals simp only [setPlk_spine]

@[simp] theorem lanesEvent_spine (s : State) :
    (lanesEvent s).spine = s.spine := by
  simp only [lanesEvent, emit_spine]

@[simp] theorem plkAnew_spine (st : PlkLink) (cause : Nat) (s : State) :
    (plkAnew st cause s).spine = s.spine := by
  simp only [plkAnew, State.spine_mk, State.by_spine, ite_spine, ite_self, setPlk_spine, lanesEvent_spine]

@[simp] theorem plkStart_spine (cause : Nat) (s : State) :
    (plkStart cause s).spine = s.spine := by
  simp only [plkStart, ite_spine, ite_self, plkAnew_spine]

@[simp] theorem plkStop_spine (cause : Nat) (s : State) :
    (plkStop cause s).spine = s.spine := by
  simp only [plkStop, plkRefresh_spine, plkAnew_spine]

@[simp] theorem plkUp_spine (s : State) :
    (plkUp s).spine = s.spine := by
  simp only [plkUp, State.spine_mk, State.by_spine, plkRefresh_spine, plkStart_spine]

@[simp] theorem plkDown_spine (s : State) :
    (plkDown s).spine = s.spine := by
  simp only [plkDown, State.spine_mk, State.by_spine, plkStop_spine, plkRefresh_spine]

@[simp] theorem plkSetLoop_spine (n : Nat) (s : State) :
    (plkSetLoop n s).spine = s.spine := by
  simp only [plkSetLoop, State.spine_mk, State.by_spine, ite_spine, ite_self, plkRefresh_spine, plkAnew_spine, setPlk_spine]

@[simp] theorem takeTrib_spine (b : List Byte) (s : State) :
    (takeTrib b s).spine = s.spine := by
  simp only [takeTrib, State.spine_mk, State.by_spine]

@[simp] theorem takeAps_spine (b : List Byte) (s : State) :
    (takeAps b s).spine = s.spine := by
  simp only [takeAps, State.spine_mk, State.by_spine, plkRefresh_spine]

@[simp] theorem takeHello_spine (b : List Byte) (s : State) :
    (takeHello b s).spine = s.spine := by
  simp only [takeHello, State.spine_mk, State.by_spine, ite_spine, ite_self, plkRefresh_spine, setPlk_spine]

@[simp] theorem takeBlock_spine (b : List Byte) (s : State) :
    (takeBlock b s).spine = s.spine := by
  unfold takeBlock
  repeat' split
  all_goals simp only [State.spine_mk, State.by_spine, takeTrib_spine, takeAps_spine, takeHello_spine]

@[simp] theorem receiveWords_spine (ws : List Long) (s : State) :
    (receiveWords ws s).spine = s.spine := by
  simp only [receiveWords, State.spine_mk, State.by_spine]

@[simp] theorem receiveBlock_spine (ws : List Long) (s : State) :
    (receiveBlock ws s).spine = s.spine := by
  simp only [receiveBlock, ite_spine, ite_self, takeBlock_spine, receiveWords_spine]

@[simp] theorem plkMirror_spine (s : State) :
    (plkMirror s).spine = s.spine := by
  simp only [plkMirror, State.spine_mk, State.by_spine]

@[simp] theorem sendBlock_spine (typ fs chan : Nat) (payload : List Byte) (s : State) :
    (sendBlock typ fs chan payload s).spine = s.spine := by
  simp only [sendBlock, State.spine_mk, State.by_spine, ite_spine, ite_self, takeBlock_spine]

@[simp] theorem sendTrib_spine (b : TribBlock) (s : State) :
    (sendTrib b s).spine = s.spine := by
  simp only [sendTrib, State.spine_mk, State.by_spine, sendBlock_spine]

@[simp] theorem accrue_spine (s : State) :
    (accrue s).spine = s.spine := by
  simp only [accrue, State.spine_mk, State.by_spine]

/-! ### Machine/ClientLanes -/

@[simp] theorem laneFaults_spine (l cause : Nat) (s : State) :
    (laneFaults l cause s).spine = s.spine := by
  unfold laneFaults
  dsimp only
  split
  · rw [cifDown_spine, cifLos_spine, synceSquelch_spine]
  · exact synceSquelch_spine ..

@[simp] theorem cifRemove_spine (c : Nat) (s : State) :
    (cifRemove c s).spine = s.spine := by
  simp only [cifRemove, ite_spine, ite_self, apsRefresh_spine, cifFramerDown_spine, pktRefresh_spine, modCif_spine, cifDown_spine, startLanes_spine]

@[simp] theorem cifConfigure_spine (c : Nat) (x : Cif) (s : State) :
    (cifConfigure c x s).spine = s.spine := by
  simp only [cifConfigure, State.spine_mk, State.by_spine, ite_spine, ite_self, foldl_spine, implies_true, apsRefresh_spine,
    cifFramerUp_spine, modCif_spine, modUnit_spine, pktRefresh_spine, startLanes_spine]

@[simp] theorem divertLane_spine (l : Nat) (f : Lane → Lane) (s : State) :
    (divertLane l f s).spine = s.spine := by
  simp only [divertLane]
  repeat' split
  all_goals simp only [modLane_spine, cifDown_spine, cifLos_spine]

/-! ### Converters -/

@[simp] theorem modGroup_spine (g : Nat) (f : Group → Group) (s : State) :
    (modGroup g f s).spine = s.spine := by
  simp only [modGroup, State.spine_mk, State.by_spine]

@[simp] theorem modAdc_spine (g a : Nat) (f : Adc → Adc) (s : State) :
    (modAdc g a f s).spine = s.spine := by
  simp only [modAdc, modGroup_spine]

@[simp] theorem reinterpolate_spine (g : Nat) (s : State) :
    (reinterpolate g s).spine = s.spine := by
  simp only [reinterpolate]
  repeat' split
  all_goals simp only [modGroup_spine]

@[simp] theorem saveBlock_spine (g set conv : Nat) (s : State) :
    (saveBlock g set conv s).spine = s.spine := by
  simp only [saveBlock, logRecord_spine, modGroup_spine]

@[simp] theorem fileBlock_spine (g set conv : Nat) (b : TempBlock) (s : State) :
    (fileBlock g set conv b s).spine = s.spine := by
  unfold fileBlock
  repeat' split
  all_goals simp only [modGroup_spine, saveBlock_spine]

@[simp] theorem logUnit_spine (g a : Nat) (s : State) :
    (logUnit g a s).spine = s.spine := by
  simp only [logUnit, logRecord_spine]

@[simp] theorem consumeSpare_spine (g a p : Nat) (s : State) :
    (consumeSpare g a p s).spine = s.spine := by
  simp only [consumeSpare, emit_spine, modAdc_spine, logUnit_spine]

@[simp] theorem retireSpare_spine (g a : Nat) (s : State) :
    (retireSpare g a s).spine = s.spine := by
  simp only [retireSpare, emit_spine, modAdc_spine, logUnit_spine]

@[simp] theorem sliceFailure_spine (g a p : Nat) (s : State) :
    (sliceFailure g a p s).spine = s.spine := by
  simp only [sliceFailure, ite_spine, ite_self, modAdc_spine, consumeSpare_spine]

@[simp] theorem startRefresh_spine (g trigger : Nat) (s : State) :
    (startRefresh g trigger s).spine = s.spine := by
  simp only [startRefresh, ite_spine, ite_self, modGroup_spine]

@[simp] theorem cnvOnTemp_spine (g : Nat) (s : State) :
    (cnvOnTemp g s).spine = s.spine := by
  simp only [cnvOnTemp, ite_spine, ite_self, reinterpolate_spine, startRefresh_spine]

@[simp] theorem refreshDone_spine (g trigger : Nat) (st : Status) (failures : Nat) (setByte : Nat) (s : State) :
    (refreshDone g trigger st failures setByte s).spine = s.spine := by
  simp only [refreshDone, ite_spine, ite_self, emit_spine, completeOr_spine]

@[simp] theorem groupDown_spine (g : Nat) (goal : GroupState) (s : State) :
    (groupDown g goal s).spine = s.spine := by
  simp only [groupDown, modGroup_spine]
  repeat' split
  all_goals simp only [refreshDone_spine]

@[simp] theorem dropSnaps_spine (g : Nat) (s : State) :
    (dropSnaps g s).spine = s.spine := by
  simp only [dropSnaps, State.spine_mk, State.by_spine, ite_spine, ite_self, foldl_spine, implies_true]

@[simp] theorem groupUp_spine (g : Nat) (s : State) :
    (groupUp g s).spine = s.spine := by
  simp only [groupUp, State.spine_mk, State.by_spine, ite_spine, ite_self, foldl_spine, implies_true, dropSnaps_spine,
    modGroup_spine]

@[simp] theorem fgFinish_spine (g : Nat) (aborted : Bool) (s : State) :
    (fgFinish g aborted s).spine = s.spine := by
  unfold fgFinish
  repeat' split
  all_goals simp only [State.spine_mk, State.by_spine, ite_spine, ite_self, foldl_spine, implies_true, completeOr_spine,
    modGroup_spine]

@[simp] theorem rebuildCoef_spine (g a n : Nat) (s : State) :
    (rebuildCoef g a n s).spine = s.spine := by
  simp only [rebuildCoef, modAdc_spine]

@[simp] theorem restoreBlock_spine (g set conv : Nat) (s : State) :
    (restoreBlock g set conv s).spine = s.spine := by
  simp only [restoreBlock, modGroup_spine]

/-! ### Decoder pool -/

@[simp] theorem modCore_spine (k : Nat) (f : Core → Core) (s : State) :
    (modCore k f s).spine = s.spine := by
  simp only [modCore, State.spine_mk, State.by_spine]

@[simp] theorem modFecEngine_spine (e : Nat) (f : FecEngine → FecEngine) (s : State) :
    (modFecEngine e f s).spine = s.spine := by
  simp only [modFecEngine, State.spine_mk, State.by_spine]

@[simp] theorem reportCeiling_spine (s : State) :
    (reportCeiling s).spine = s.spine := by
  simp only [reportCeiling, State.spine_mk, State.by_spine, emit_spine]

@[simp] theorem ceilingCheck_spine (s : State) :
    (ceilingCheck s).spine = s.spine := by
  simp only [ceilingCheck, ite_spine, ite_self, reportCeiling_spine]

@[simp] theorem overloadCheck_spine (s : State) :
    (overloadCheck s).spine = s.spine := by
  simp only [overloadCheck, State.spine_mk, State.by_spine, ite_spine, ite_self, emit_spine]

@[simp] theorem fecRecompute_spine (s : State) :
    (fecRecompute s).spine = s.spine := by
  simp only [fecRecompute, ceilingCheck_spine, overloadCheck_spine]

@[simp] theorem logCores_spine (s : State) :
    (logCores s).spine = s.spine := by
  simp only [logCores, logRecord_spine]

@[simp] theorem poisonBlock_spine (id : Nat) (s : State) :
    (poisonBlock id s).spine = s.spine := by
  simp only [poisonBlock, State.spine_mk, State.by_spine]

@[simp] theorem loadedBehind_spine (s : State) : (loadedBehind s).2.spine = s.spine := rfl

@[simp] theorem retireCore_spine (k : Nat) (afterError : Bool) (s : State) :
    (retireCore k afterError s).spine = s.spine := by
  simp only [retireCore, loadedBehind_spine, emit_spine, modCore_spine, fecRecompute_spine, logCores_spine, poisonBlock_spine, foldl_spine, implies_true]

@[simp] theorem coreMemoryError_spine (k : Nat) (s : State) :
    (coreMemoryError k s).spine = s.spine := by
  simp only [coreMemoryError, ite_spine, ite_self, modCore_spine, poisonBlock_spine, foldl_spine, implies_true]

@[simp] theorem modBlock_spine (id : Nat) (f : CodeBlock → CodeBlock) (s : State) :
    (modBlock id f s).spine = s.spine := by
  simp only [modBlock, State.spine_mk, State.by_spine]

@[simp] theorem endIteration_spine (k : Nat) (s : State) :
    (endIteration k s).spine = s.spine := by
  unfold endIteration
  repeat' split
  all_goals simp only [State.spine_mk, State.by_spine, ite_spine, ite_self, modCore_spine, modFecEngine_spine, modBlock_spine]

@[simp] theorem serveBlock_spine (k : Nat) (b : CodeBlock) (s : State) :
    (serveBlock k b s).spine = s.spine := by
  simp only [serveBlock, State.spine_mk, State.by_spine, ite_spine, ite_self, foldl_spine, implies_true, modBlock_spine,
    modCore_spine]

@[simp] theorem assignCore_spine (k : Nat) (s : State) :
    (assignCore k s).spine = s.spine := by
  unfold assignCore
  repeat' split
  all_goals simp only [State.spine_mk, State.by_spine, ite_spine, ite_self, foldl_spine, implies_true, serveBlock_spine]

@[simp] theorem yieldCore_spine (k : Nat) (s : State) :
    (yieldCore k s).spine = s.spine := by
  unfold yieldCore
  repeat' split
  all_goals simp only [State.spine_mk, State.by_spine, ite_spine, ite_self, foldl_spine, implies_true, modBlock_spine,
    modCore_spine, serveBlock_spine]

@[simp] theorem discardBlocks_spine (keep : CodeBlock → Bool) (s : State) :
    (discardBlocks keep s).spine = s.spine := by
  simp only [discardBlocks, State.spine_mk, State.by_spine]

@[simp] theorem fecSwitch_spine (e : Nat) (s : State) :
    (fecSwitch e s).spine = s.spine := by
  simp only [fecSwitch, modFecEngine_spine, fecRecompute_spine, discardBlocks_spine]

@[simp] theorem poolDown_spine (s : State) :
    (poolDown s).spine = s.spine := by
  simp only [poolDown, State.spine_mk, State.by_spine, ite_spine, ite_self, foldl_spine, implies_true, discardBlocks_spine,
    overloadCheck_spine]

/-! ### Map plan -/

@[simp] theorem tribEnd_spine (t : Nat) (s : State) :
    (tribEnd t s).spine = s.spine := by
  simp only [tribEnd, State.spine_mk, State.by_spine, ite_spine, ite_self, foldl_spine, implies_true, cphTribEnd_spine,
    modTrib_spine, pktTribEnd_spine, unitOff_spine]

@[simp] theorem tribStart_spine (t : Nat) (x : PlanEntry) (s : State) :
    (tribStart t x s).spine = s.spine := by
  simp only [tribStart, State.spine_mk, State.by_spine, ite_spine, ite_self, foldl_spine, implies_true, cphTribStart_spine,
    modTrib_spine, modUnit_spine, pktTribStart_spine, unitOff_spine]

@[simp] theorem installPlan_spine (new : List (Nat × PlanEntry)) (s : State) :
    (installPlan new s).spine = s.spine := by
  rw [installPlan, pktRefresh_spine, plkRefresh_spine, foldl_spine]
  · simp only [State.spine_mk, State.by_spine, foldl_spine, tribEnd_spine, implies_true]
  · intro u a
    split
    · exact tribStart_spine ..
    · rfl

@[simp] theorem planCommitted_spine (p : PendingPlan) (s : State) :
    (planCommitted p s).spine = s.spine := by
  simp only [planCommitted, State.spine_mk, State.by_spine, completeOr_spine]

@[simp] theorem planAbort_spine (s : State) :
    (planAbort s).spine = s.spine := by
  unfold planAbort
  repeat' split
  all_goals simp only [State.spine_mk, State.by_spine, completeOr_spine]

@[simp] theorem planAbortEarly_spine (s : State) :
    (planAbortEarly s).spine = s.spine := by
  unfold planAbortEarly
  repeat' split
  all_goals simp only [planAbort_spine]

@[simp] theorem mapUp_spine (s : State) :
    (mapUp s).spine = s.spine := by
  unfold mapUp
  dsimp only
  split
  · simp only [State.spine_mk, State.by_spine, foldl_spine, tribStart_spine, installPlan_spine, implies_true]
  · simp only [State.spine_mk, State.by_spine, foldl_spine, tribStart_spine, implies_true]

@[simp] theorem mapDown_spine (s : State) :
    (mapDown s).spine = s.spine := by
  simp only [mapDown, State.spine_mk, State.by_spine, planAbort_spine]

/-! ### Machine/Housekeeping -/

@[simp] theorem modSar_spine (k : Nat) (f : Sar → Sar) (s : State) :
    (modSar k f s).spine = s.spine := by
  simp only [modSar, State.spine_mk, State.by_spine]

@[simp] theorem putResult_spine (k : Nat) (d : HkaDone) (s : State) :
    (putResult k d s).spine = s.spine := by
  simp only [putResult, modSar_spine]

@[simp] theorem xchkEvent_spine (raised : Bool) (s : State) :
    (xchkEvent raised s).spine = s.spine := by
  simp only [xchkEvent, emit_spine]

@[simp] theorem crossCheck_spine (s : State) :
    (crossCheck s).spine = s.spine := by
  simp only [crossCheck, State.spine_mk, State.by_spine, ite_spine, ite_self, modSar_spine, xchkEvent_spine]

@[simp] theorem sarKick_spine (k : Nat) (s : State) :
    (sarKick k s).spine = s.spine := by
  simp only [sarKick, ite_spine, ite_self, modSar_spine]

@[simp] theorem sarStep_spine (k : Nat) (s : State) :
    (sarStep k s).spine = s.spine := by
  simp only [sarStep, modSar_spine]

@[simp] theorem doneInjected_spine (k raw : Nat) (ovr : Option Bool) (s : State) :
    (doneInjected k raw ovr s).spine = s.spine := by
  unfold doneInjected
  repeat' split
  all_goals simp only [ite_spine, ite_self, finishWaiting_spine, modSar_spine, putResult_spine]

@[simp] theorem takeRail_spine (k : Nat) (d : HkaDone) (s : State) :
    (takeRail k d s).spine = s.spine := by
  simp only [takeRail, State.spine_mk, State.by_spine, ite_spine, ite_self]

@[simp] theorem doneSystem_spine (k raw : Nat) (ovr : Option Bool) (s : State) :
    (doneSystem k raw ovr s).spine = s.spine := by
  simp only [doneSystem]
  repeat' split
  all_goals simp only [writeRing_spine, modSar_spine, putResult_spine, crossCheck_spine, takeRail_spine]

@[simp] theorem doneRegular_spine (k raw : Nat) (ovr : Option Bool) (s : State) :
    (doneRegular k raw ovr s).spine = s.spine := by
  simp only [doneRegular]
  repeat' split
  all_goals simp only [writeRing_spine, modSar_spine, putResult_spine]

@[simp] theorem systemDue_spine (k : Nat) (s : State) :
    (systemDue k s).spine = s.spine := by
  simp only [systemDue, ite_spine, ite_self, modSar_spine, sarKick_spine]

@[simp] theorem toTick_spine (s : State) :
    (toTick s).spine = s.spine := by
  simp only [toTick, ite_spine, ite_self, advanceToUnits_spine]

@[simp] theorem markTick_spine (s : State) :
    (markTick s).spine = s.spine := by
  simp only [markTick, State.spine_mk, State.by_spine]

@[simp] theorem calBegin_spine (k origin : Nat) (s : State) :
    (calBegin k origin s).spine = s.spine := by
  simp only [calBegin, modSar_spine, sarKick_spine]

@[simp] theorem calReport_spine (k : Nat) (st : Status) (s : State) :
    (calReport k st s).spine = s.spine := by
  simp only [calReport, ite_spine, ite_self, emit_spine, completeOr_spine]

@[simp] theorem hkaStart_spine (s : State) :
    (hkaStart s).spine = s.spine := by
  simp only [hkaStart, ite_spine, ite_self, modSar_spine, calBegin_spine]

@[simp] theorem hkaAppReset_spine (s : State) :
    (hkaAppReset s).spine = s.spine := by
  simp only [hkaAppReset, ite_spine, ite_self, modSar_spine, sarStep_spine]

/-! ### Machine/ThmControl -/

@[simp] theorem modThm_spine (f : Thm → Thm) (s : State) :
    (modThm f s).spine = s.spine := by
  simp only [modThm, State.spine_mk, State.by_spine]

@[simp] theorem pushLevel_spine (s : State) :
    (pushLevel s).spine = s.spine := by
  simp only [pushLevel, State.spine_mk, State.by_spine, monThrottle_spine, fecRecompute_spine]

@[simp] theorem accThrottle_spine (s : State) :
    (accThrottle s).spine = s.spine := by
  unfold accThrottle
  repeat' split
  all_goals simp only [State.spine_mk, State.by_spine]

@[simp] theorem levelEvent_spine (s : State) :
    (levelEvent s).spine = s.spine := by
  simp only [levelEvent, State.spine_mk, State.by_spine, ite_spine, ite_self, emit_spine]

@[simp] theorem ladder_spine (s : State) :
    (ladder s).spine = s.spine := by
  simp only [ladder, State.by_spine, ite_spine, ite_self, modThm_spine, pushLevel_spine, accThrottle_spine, levelEvent_spine]

@[simp] theorem ladderMode_spine (s : State) :
    (ladderMode s).spine = s.spine := by
  simp only [ladderMode, State.by_spine, ite_spine, ite_self, ladder_spine]

@[simp] theorem setTarget_spine (code cause : Nat) (s : State) :
    (setTarget code cause s).spine = s.spine := by
  simp only [setTarget, ite_spine, ite_self, emit_spine, modThm_spine]

@[simp] theorem avsRelease_spine (s : State) :
    (avsRelease s).spine = s.spine := by
  simp only [avsRelease, ite_spine, ite_self, modThm_spine, setTarget_spine]

@[simp] theorem avsStep_spine (m : Nat) (s : State) :
    (avsStep m s).spine = s.spine := by
  simp only [avsStep, ite_spine, ite_self, modThm_spine, setTarget_spine]

@[simp] theorem avsFaultEvent_spine (raised : Bool) (s : State) :
    (avsFaultEvent raised s).spine = s.spine := by
  simp only [avsFaultEvent, emit_spine, modThm_spine]

@[simp] theorem avsCheck_spine (s : State) :
    (avsCheck s).spine = s.spine := by
  simp only [avsCheck, ite_spine, ite_self, modThm_spine, avsFaultEvent_spine]

@[simp] theorem thmSecond_spine (s : State) : (thmSecond s).2.spine = s.spine := by
  simp only [thmSecond, modThm_spine, accThrottle_spine]

/-! ### Device modes -/

@[simp] theorem fecUp_spine (s : State) :
    (fecUp s).spine = s.spine := by
  simp only [fecUp, State.spine_mk, State.by_spine, ite_spine, ite_self, foldl_spine, implies_true]

@[simp] theorem installProfile_spine (e : Nat) (s : State) :
    (installProfile e s).spine = s.spine := by
  simp only [installProfile, State.spine_mk, State.by_spine, ite_spine, ite_self, foldl_spine, implies_true, modEngine_spine]

@[simp] theorem powerUp_spine (s : State) :
    (powerUp s).spine = s.spine := by
  simp only [powerUp, State.spine_mk, State.by_spine, ite_spine, ite_self, foldl_spine, implies_true, clnUp_spine,
    fecUp_spine, framerUp_spine, groupUp_spine, installProfile_spine, mapUp_spine, miPower_spine, pktRefresh_spine,
    pktUp_spine, plkUp_spine]

@[simp] theorem powerCalibrate_spine (s : State) :
    (powerCalibrate s).spine = s.spine := by
  simp only [powerCalibrate, miPower_spine, groupUp_spine]

@[simp] theorem stopForeground_spine (g : Nat) (s : State) :
    (stopForeground g s).spine = s.spine := by
  simp only [stopForeground, ite_spine, ite_self, fgFinish_spine]

@[simp] theorem powerDown_spine (goal : GroupState) (cause : Nat) (s : State) :
    (powerDown goal cause s).spine = s.spine := by
  simp only [powerDown, engineOff_spine, framerDown_spine, pktDown_spine, clnDown_spine, plkDown_spine, groupDown_spine, poolDown_spine, mapDown_spine, stopForeground_spine]

@[simp] theorem powerOff_spine (s : State) :
    (powerOff s).spine = s.spine := by
  simp only [powerOff, State.spine_mk, State.by_spine, miPower_spine, powerDown_spine]

@[simp] theorem leaveMaintenance_spine (s : State) :
    (leaveMaintenance s).spine = s.spine := by
  simp only [leaveMaintenance, State.spine_mk, State.by_spine, miDropFlips_spine, plkSetLoop_spine, avsRelease_spine]

@[simp] theorem resumePorts_spine (s : State) :
    (resumePorts s).spine = s.spine := by
  simp only [resumePorts, State.spine_mk, State.by_spine, pktRefresh_spine]

@[simp] theorem quiesced_spine (d : Drain) (frames tiles : Nat) (s : State) :
    (quiesced d frames tiles s).spine = s.spine := by
  simp only [quiesced, emit_spine]

@[simp] theorem endRetest_spine (s : State) :
    (endRetest s).spine = s.spine := by
  simp only [endRetest, State.spine_mk, State.by_spine, ite_spine, ite_self, foldl_spine, implies_true, abortDeferred_spine]

@[simp] theorem modeEffect_spine (old new : Mode) (s : State) :
    (modeEffect old new s).spine = s.spine := by
  unfold modeEffect
  repeat' split
  all_goals simp only [State.spine_mk, State.by_spine, ite_spine, ite_self, foldl_spine, implies_true, cphClearEpochs_spine,
    endRetest_spine, leaveMaintenance_spine, pktRefresh_spine, plkRefresh_spine, powerCalibrate_spine, powerDown_spine,
    powerOff_spine, powerUp_spine, resumePorts_spine]

@[simp] theorem abortInflight_spine (s : State) :
    (abortInflight s).spine = s.spine := by
  simp only [abortInflight, State.spine_mk, State.by_spine, finish_spine, foldl_spine, implies_true]

@[simp] theorem datapathReset_spine (s : State) :
    (datapathReset s).spine = s.spine := by
  simp only [datapathReset, State.spine_mk, State.by_spine, miPower_spine]

@[simp] theorem endLeases_spine (s : State) :
    (endLeases s).spine = { s.spine with leases := [] } := by
  simp only [endLeases, State.spine_mk, State.by_spine, emit_spine, foldl_spine, implies_true]

@[simp] theorem startEngineReset_spine (e : Nat) (s : State) :
    (startEngineReset e s).spine = s.spine := by
  simp only [startEngineReset, State.spine_mk, State.by_spine, engineOff_spine, framerRestart_spine, pktRefresh_spine, plkRefresh_spine, groupDown_spine, groupUp_spine, discardBlocks_spine, planAbortEarly_spine, stopForeground_spine]

@[simp] theorem engineReady_spine (e : Nat) (s : State) :
    (engineReady e s).spine = s.spine := by
  simp only [engineReady, State.spine_mk, State.by_spine, ite_spine, ite_self, completeOr_spine, pktRefresh_spine, plkRefresh_spine]

/-! ### Machine/CoherentDsp -/

@[simp] theorem fastEnter_spine (e source : Nat) (s : State) :
    (fastEnter e source s).spine = s.spine := by
  simp only [fastEnter, ite_spine, ite_self, emit_spine, modEngine_spine]

/-! ### Machine/Converters -/

@[simp] theorem groupSeeded_spine (g : Nat) (s : State) :
    (groupSeeded g s).spine = s.spine := by
  simp only [groupSeeded, ite_spine, ite_self, modGroup_spine, startRefresh_spine]

@[simp] theorem inPlace_spine (g a n : Nat) (c : Coef) (s : State) :
    (inPlace g a n c s).spine = s.spine := by
  simp only [inPlace, ite_spine, ite_self, emit_spine, modAdc_spine, logUnit_spine]

@[simp] theorem windowAccepted_spine (g a n : Nat) (c : Coef) (s : State) :
    (windowAccepted g a n c s).spine = s.spine := by
  simp only [windowAccepted, ite_spine, ite_self, emit_spine, modAdc_spine, groupSeeded_spine, inPlace_spine]

@[simp] theorem spareFailure_spine (g a : Nat) (s : State) :
    (spareFailure g a s).spine = s.spine := by
  simp only [spareFailure, State.spine_mk, State.by_spine, ite_spine, ite_self, foldl_spine, implies_true, modAdc_spine,
    retireSpare_spine]

@[simp] theorem fgAttempt_spine (g a : Nat) (u : State) (x : Fin 64 × AttemptEnd) :
    (fgAttempt g a u x).spine = u.spine := by
  unfold fgAttempt
  repeat' split
  all_goals simp only [State.spine_mk, State.by_spine, ite_spine, ite_self, foldl_spine, implies_true, modAdc_spine,
    sliceFailure_spine, spareFailure_spine]

@[simp] theorem fgStoreAdc_spine (g : Nat) (t : Int) (old : State) (e : FgAdc × Nat) (u : State) :
    (fgStoreAdc g t old e u).spine = u.spine := by
  simp only [fgStoreAdc, State.spine_mk, State.by_spine, ite_spine, ite_self, foldl_spine, implies_true, fgAttempt_spine,
    fileBlock_spine, modAdc_spine]

@[simp] theorem fgStoreDac_spine (g : Nat) (t : Int) (old : State) (e : FgDac × Nat) (u : State) :
    (fgStoreDac g t old e u).spine = u.spine := by
  simp only [fgStoreDac, logRecord_spine, modGroup_spine, fileBlock_spine]

/-! ### Machine/LogPlan -/

@[simp] theorem exportEnd_spine (x : Export) (rs : List (LogRecord × Bool)) (st : Status) (s : State) :
    (exportEnd x rs st s).spine = s.spine := by
  simp only [exportEnd, State.spine_mk, State.by_spine, ite_spine, ite_self, completeOr_spine, hostWrite_spine]

@[simp] theorem exportTrip_spine (s : State) :
    (exportTrip s).spine = s.spine := by
  unfold exportTrip
  split
  · rfl
  · simp only [exportEnd_spine, takeFree_spine]

@[simp] theorem planDone_spine (st floor reserve : Nat) (floorChanged reserveChanged : Bool) (s : State) :
    (planDone st floor reserve floorChanged reserveChanged s).spine = s.spine := by
  simp only [planDone, completeOr_spine]

@[simp] theorem planStart_spine (dry byCommand : Bool) (s : State) :
    (planStart dry byCommand s).spine = s.spine := by
  simp only [planStart, State.spine_mk, State.by_spine, ite_spine, ite_self, logRecord_spine, planDone_spine]

@[simp] theorem planWaiting_spine (s : State) :
    (planWaiting s).spine = s.spine := by
  simp only [planWaiting, ite_spine, ite_self, planStart_spine]

@[simp] theorem adviceStep_spine (e given : Nat) (adv : Option Nat) (r p : Nat) (s : State) :
    (adviceStep e given adv r p s).spine = s.spine := by
  unfold adviceStep
  repeat' split
  all_goals simp only [State.spine_mk, State.by_spine, emit_spine]

@[simp] theorem planApply_spine (p : PlanRun) (s : State) :
    (planApply p s).spine = s.spine := by
  simp only [planApply, State.spine_mk, State.by_spine, ite_spine, ite_self, emit_spine, planDone_spine, adviceStep_spine]

@[simp] theorem planRestore_spine (s : State) :
    (planRestore s).spine = s.spine := by
  unfold planRestore
  repeat' split
  all_goals simp only [State.spine_mk, State.by_spine]

/-! ### Machine/Resume -/

@[simp] theorem restoreItem_spine (item : Nat) (k : Kept) (s : State) :
    (restoreItem item k s).spine = s.spine := by
  unfold restoreItem
  repeat' split
  all_goals simp only [State.spine_mk, State.by_spine, modKeySlot_spine, modGroup_spine, modAdc_spine]

@[simp] theorem replayLog_spine (s : State) :
    (replayLog s).spine = s.spine := by
  simp only [replayLog, State.spine_mk, State.by_spine, addLife_spine, planRestore_spine, restoreItem_spine, foldl_spine, implies_true]

@[simp] theorem resumeConfig_spine (d : Datapath) (s : State) :
    (resumeConfig d s).spine = s.spine := by
  rw [resumeConfig, cphResume_spine]; rfl

/-! ### Machine/Device -/

@[simp] theorem loadGo_spine (s : State) :
    (loadGo s).spine = s.spine := by
  simp only [loadGo, State.spine_mk, State.by_spine, ite_spine, ite_self, modDev]

@[simp] theorem fetchDone_spine (n : Nat) (s : State) :
    (fetchDone n s).spine = s.spine := by
  simp only [fetchDone, State.spine_mk, State.by_spine, ite_spine, ite_self, modDev]

@[simp] theorem extendChain_spine (m : List Byte) (s : State) :
    (extendChain m s).spine = s.spine := by
  simp only [extendChain, State.spine_mk, State.by_spine, modDev]

@[simp] theorem bootRecord_spine (s : State) :
    (bootRecord s).spine = s.spine := by
  simp only [bootRecord, logRecord_spine]

@[simp] theorem imageLoaded_spine (i : ImageIn) (target : Nat) (st : Status) (s : State) :
    (imageLoaded i target st s).spine = s.spine := by
  simp only [imageLoaded, State.spine_mk, State.by_spine, completeOr_spine, modDev]

/-! ### Machine/RegLine -/

@[simp] theorem cnvClear_spine (g off : Nat) (s : State) :
    (cnvClear g off s).spine = s.spine := by
  simp only [cnvClear, ite_spine, ite_self, modAdc_spine]

@[simp] theorem cnvWrite_spine (g off v : Nat) (s : State) :
    (cnvWrite g off v s).spine = s.spine := by
  simp only [cnvWrite, ite_spine, ite_self, modGroup_spine]

/-! ### Machine/Framing -/

@[simp] theorem unitBoundary_spine (scope unit mfas : Nat) (s : State) :
    (unitBoundary scope unit mfas s).spine = s.spine := by
  simp only [unitBoundary, State.by_spine, modUnit_spine, afterDefects_spine]

@[simp] theorem engineTidy_spine (e : Nat) (s : State) :
    (engineTidy e s).spine = s.spine := by
  simp only [engineTidy, State.by_spine, ite_spine, ite_self, modEngine_spine, reacquire_spine, modGroup_spine, modFecEngine_spine]

@[simp] theorem writeCfg_spine (scope : Nat) (units : List Nat) (f : UnitCfg → UnitCfg) (s : State) :
    (writeCfg scope units f s).spine = s.spine := by
  simp only [writeCfg, modUnit_spine, foldl_spine, implies_true]

@[simp] theorem changeDayOffset_spine (offset : Nat) (s : State) :
    (changeDayOffset offset s).spine = s.spine := by
  simp only [changeDayOffset, State.spine_mk, State.by_spine, ite_spine, ite_self, close15_spine, close24_spine, openBins_spine]

/-! ### Machine/RegFec -/

@[simp] theorem fecSecond_spine (began : Nat) (s : State) :
    (fecSecond began s).spine = s.spine := by
  simp only [fecSecond, State.spine_mk, State.by_spine]

/-! ### Machine/Mapping -/

@[simp] theorem sendStructure_spine (scope unit : Nat) (s : State) :
    (sendStructure scope unit s).spine = s.spine := by
  simp only [sendStructure, modUnit_spine]

@[simp] theorem applyPart_spine (e : Nat) (p : PendingPlan) (s : State) :
    (applyPart e p s).spine = s.spine := by
  simp only [applyPart, State.spine_mk, State.by_spine, ite_spine, ite_self, foldl_spine, implies_true, sendStructure_spine,
    installPlan_spine, planCommitted_spine]

theorem withGroup_spine (w : Nat) (f : ApsGroup → State → State) (h : ∀ g u, (f g u).spine = u.spine) (s : State) :
    (withGroup w f s).spine = s.spine := by
  unfold withGroup
  split
  · exact h ..
  · rfl

/-! ### Machine/RegMap -/

@[simp] theorem mapClear_spine (off : Nat) (s : State) :
    (mapClear off s).spine = s.spine := by
  simp only [mapClear, ite_spine]
  repeat' split
  all_goals simp only [setApsGroup_spine]

@[simp] theorem cphClear_spine (off : Nat) (s : State) :
    (cphClear off s).spine = s.spine := by
  simp only [cphClear, State.spine_mk, State.by_spine, ite_spine, ite_self]

@[simp] theorem clnClear_spine (off : Nat) (s : State) :
    (clnClear off s).spine = s.spine := by
  simp only [clnClear, ite_spine, ite_self, modCif_spine]

@[simp] theorem clnSecond_spine (m : SecondMeasure) (s : State) :
    (clnSecond m s).spine = s.spine := by
  simp only [clnSecond, modCif_spine, modLane_spine, foldl_spine, implies_true]

/-! ### Machine/Packet -/

@[simp] theorem admitFrame_spine (q sub : Nat) (f : RxFrame) (s : State) :
    (admitFrame q sub f s).spine = s.spine := by
  simp only [admitFrame, State.by_spine, ite_spine, statDrop_spine, countDown_spine]
  repeat' split
  all_goals simp only [State.spine_mk, State.by_spine, modPort_spine, modLive_spine, statDrop_spine, wheelPlace_spine]

@[simp] theorem putDeficits_spine (keys : List Nat) (d : Tab Int) (s : State) :
    (putDeficits keys d s).spine = s.spine := by
  simp only [putDeficits, modShape_spine, foldl_spine, implies_true]

@[simp] theorem dropOversize_spine (q c len : Nat) (f : Frame) (s : State) :
    (dropOversize q c len f s).spine = s.spine := by
  simp only [dropOversize, ite_spine, ite_self, emit_spine, modPort_spine, modLive_spine, dropFrame_spine]

@[simp] theorem reportCorrupt_spine (q cause dropped ended : Nat) (s : State) :
    (reportCorrupt q cause dropped ended s).spine = s.spine := by
  simp only [reportCorrupt, ite_spine, ite_self, emit_spine, modLive_spine]

@[simp] theorem sendFrame_spine (q : Nat) (f : Frame) (len : Nat) (bad : Bool) (s : State) :
    (sendFrame q f len bad s).spine = s.spine := by
  simp only [sendFrame, State.spine_mk, State.by_spine, ite_spine, ite_self, lifeBytes_spine, modPort_spine, modLive_spine, modShape_spine, addStats_spine, releaseTiles_spine, chargeEntity_spine, wheelPlace_spine]

@[simp] theorem gateCancel_spine (q : Nat) (s : State) :
    (gateCancel q s).spine = s.spine := by
  simp only [gateCancel]
  repeat' split
  all_goals simp only [completeDeferred_spine, modPort_spine]

/-! ### Machine/RegPkt -/

@[simp] theorem pktClear_spine (off : Nat) (s : State) :
    (pktClear off s).spine = s.spine := by
  simp only [pktClear, State.spine_mk, State.by_spine, ite_spine, ite_self]

/-! ### Machine/Monitor -/

@[simp] theorem closePeak_spine (c : Nat) (s : State) :
    (closePeak c s).spine = s.spine := by
  simp only [closePeak, modChan_spine]

@[simp] theorem closeRms_spine (c : Nat) (s : State) :
    (closeRms c s).spine = s.spine := by
  simp only [closeRms, modChan_spine]

@[simp] theorem closeFull_spine (c : Nat) (s : State) :
    (closeFull c s).spine = s.spine := by
  simp only [closeFull, ite_spine, ite_self, closePeak_spine, closeRms_spine]

@[simp] theorem sendFsop_spine (e : Nat) (s : State) :
    (sendFsop e s).spine = s.spine := by
  simp only [sendFsop, modFsop_spine, fastRequest_spine]

@[simp] theorem envCross_spine (c : Nat) (s : State) :
    (envCross c s).spine = s.spine := by
  simp only [envCross, ite_spine, ite_self, emit_spine, modChan_spine]

@[simp] theorem addSample_spine (c : Nat) (v : Int) (sat : Bool) (s : State) :
    (addSample c v sat s).spine = s.spine := by
  simp only [addSample, ite_spine, ite_self, modChan_spine, flushRecord_spine]

/-! ### Machine/Thermal -/

@[simp] theorem takeReadings_spine (rs : List SensorIn) (s : State) :
    (takeReadings rs s).spine = s.spine := by
  simp only [takeReadings, modThm_spine]

@[simp] theorem invalidEvents_spine (old : State) (s : State) :
    (invalidEvents old s).spine = s.spine := by
  simp only [invalidEvents, ite_spine, ite_self, emit_spine, foldl_spine, implies_true]

@[simp] theorem degradedStep_spine (s : State) :
    (degradedStep s).spine = s.spine := by
  simp only [degradedStep, ite_spine, ite_self, emit_spine, modThm_spine, foldl_spine, implies_true]

@[simp] theorem cadenceStep_spine (s : State) :
    (cadenceStep s).spine = s.spine := by
  simp only [cadenceStep, modThm_spine]

@[simp] theorem windowStep_spine (s : State) :
    (windowStep s).spine = s.spine := by
  simp only [windowStep, ite_spine, ite_self, emit_spine, flashKick_spine, modThm_spine, planWaiting_spine]

@[simp] theorem coolStep_spine (s : State) :
    (coolStep s).spine = s.spine := by
  simp only [coolStep, modThm_spine]

/-! ### Machine/MemoryIntegrity -/

@[simp] theorem relogCinders_spine (first oldLen : Nat) (s : State) :
    (relogCinders first oldLen s).spine = s.spine := by
  simp only [relogCinders, logCinder_spine, foldl_spine, implies_true]

@[simp] theorem retireWpBank_spine (b cause : Nat) (s : State) :
    (retireWpBank b cause s).spine = s.spine := by
  simp only [retireWpBank, State.spine_mk, State.by_spine, addCinder_spine, retiredEvent_spine, retireBank_spine, relogCinders_spine]

@[simp] theorem retireWpTile_spine (t cause : Nat) (s : State) :
    (retireWpTile t cause s).spine = s.spine := by
  simp only [retireWpTile, ite_spine, ite_self, addCinder_spine, retiredEvent_spine, retireTile_spine, retireWpBank_spine]

@[simp] theorem clearTile_spine (t : Nat) (s : State) :
    (clearTile t s).spine = s.spine := by
  simp only [clearTile, State.spine_mk, State.by_spine, clearPoison_spine, foldl_spine, implies_true]

@[simp] theorem useFlip_spine (k inst row : Nat) (s : State) :
    (useFlip k inst row s).spine = s.spine := by
  simp only [useFlip, modClass_spine]

@[simp] theorem countScrub_spine (k inst row : Nat) (scrub : Bool) (f : Scrub → Scrub) (s : State) :
    (countScrub k inst row scrub f s).spine = s.spine := by
  simp only [countScrub, ite_spine, ite_self, modClass_spine]

@[simp] theorem stuckRow_spine (k inst row : Nat) (s : State) :
    (stuckRow k inst row s).spine = s.spine := by
  simp only [stuckRow, ite_spine, ite_self, retireRow_spine, miSummary_spine, retireWpTile_spine]

@[simp] theorem tileError_spine (t : Nat) (s : State) :
    (tileError t s).spine = s.spine := by
  simp only [tileError, State.spine_mk, State.by_spine, ite_spine, ite_self]

@[simp] theorem jobError_spine (id : Nat) (s : State) :
    (jobError id s).spine = s.spine := by
  unfold jobError
  repeat' split
  all_goals simp only [jobDone_spine]

@[simp] theorem stagedCommand_spine (chan : Nat) (s : State) :
    (stagedCommand chan s).spine = s.spine := by
  unfold stagedCommand
  repeat' split
  all_goals simp only [finishWaiting_spine]

@[simp] theorem stagedEvent_spine (s : State) :
    (stagedEvent s).spine = s.spine := by
  simp only [stagedEvent, State.spine_mk, State.by_spine, ite_spine, ite_self, foldl_spine, implies_true, reportLost_spine]

@[simp] theorem firReloaded_spine (e : Nat) (s : State) :
    (firReloaded e s).spine = s.spine := by
  simp only [firReloaded, modChan_spine, foldl_spine, implies_true]

@[simp] theorem gatesBack_spine (e : ConfigEntry) (s : State) :
    (gatesBack e s).spine = s.spine := by
  unfold gatesBack
  repeat' split
  all_goals simp only [ite_spine, ite_self, modPort_spine]

@[simp] theorem rebuiltEffect_spine (target : UeTarget) (s : State) :
    (rebuiltEffect target s).spine = s.spine := by
  unfold rebuiltEffect
  repeat' split
  all_goals simp only [State.spine_mk, State.by_spine, pktRefresh_spine, plkRefresh_spine, modSar_spine, firReloaded_spine,
    gatesBack_spine]

/-! ### Machine/Logbook -/

@[simp] theorem modLog_spine (f : Log → Log) (s : State) :
    (modLog f s).spine = s.spine := by
  simp only [modLog, State.spine_mk, State.by_spine]

@[simp] theorem answerWaits_spine (s : State) :
    (answerWaits s).spine = s.spine := by
  simp only [answerWaits, finishWaiting_spine, modLog_spine, foldl_spine, implies_true]

@[simp] theorem commitHook_spine (r : LogRecord) (s : State) :
    (commitHook r s).spine = s.spine := by
  unfold commitHook
  repeat' split
  all_goals simp only [State.spine_mk, State.by_spine, rekeyWaiting_spine, modLog_spine]

@[simp] theorem workDone_spine (s : State) :
    (workDone s).spine = s.spine := by
  simp only [workDone, State.spine_mk, State.by_spine, ite_spine, ite_self, flashKick_spine, modLog_spine]

@[simp] theorem openBlock_spine (b : Nat) (role : Role) (s : State) :
    (openBlock b role s).spine = s.spine := by
  simp only [openBlock, modLog_spine]

@[simp] theorem eraseCounted_spine (s : State) :
    (eraseCounted s).spine = s.spine := by
  simp only [eraseCounted, ite_spine, ite_self, logRecord_spine, modLog_spine]

@[simp] theorem lifeSecond_spine (s : State) :
    (lifeSecond s).spine = s.spine := by
  simp only [lifeSecond, State.by_spine, ite_spine, ite_self, addLife_spine, accThrottle_spine, modLog_spine]

/-! ### Machine/RegMon -/

@[simp] theorem monClear_spine (off : Nat) (s : State) :
    (monClear off s).spine = s.spine := by
  simp only [monClear, State.spine_mk, State.by_spine, ite_spine, ite_self, modSar_spine]

@[simp] theorem miClear_spine (off : Nat) (s : State) :
    (miClear off s).spine = s.spine := by
  simp only [miClear, State.spine_mk, State.by_spine, ite_spine, ite_self, modClass_spine]

/-! ### Machine/RegDev -/

@[simp] theorem devWrite_spine (off v : Nat) (s : State) :
    (devWrite off v s).spine = s.spine := by
  simp only [devWrite, State.spine_mk, State.by_spine, ite_spine, ite_self, loadGo_spine, modDev]

@[simp] theorem hifClear_spine (off : Nat) (s : State) :
    (hifClear off s).spine = s.spine := by
  simp only [hifClear, State.spine_mk, State.by_spine, ite_spine, ite_self]

@[simp] theorem hifWrite_spine (off v : Nat) (s : State) :
    (hifWrite off v s).spine = s.spine := by
  simp only [hifWrite, State.spine_mk, State.by_spine, ite_spine, ite_self]

@[simp] theorem msixWrite_spine (off v : Nat) (s : State) :
    (msixWrite off v s).spine = s.spine := by
  simp only [msixWrite, State.spine_mk, State.by_spine, ite_spine, ite_self, signalVector_spine]

@[simp] theorem timClear_spine (off : Nat) (s : State) :
    (timClear off s).spine = s.spine := by
  simp only [timClear, State.spine_mk, State.by_spine, ite_spine, ite_self]

@[simp] theorem synceWrite_spine (n v : Nat) (s : State) :
    (synceWrite n v s).spine = s.spine := by
  simp only [synceWrite, State.spine_mk, State.by_spine, ite_spine, ite_self, synceEvent_spine]

@[simp] theorem timWrite_spine (off v : Nat) (s : State) :
    (timWrite off v s).spine = s.spine := by
  simp only [timWrite, State.spine_mk, State.by_spine, ite_spine, ite_self, synceWrite_spine]

/-! ### Machine/RegAll -/

@[simp] theorem holdEq_spine (base off v : Nat) (s : State) : (holdEq base off v s).spine = s.spine := by
  simp only [holdEq, ite_spine, ite_self, modLane_spine, modPeer_spine]

@[simp] theorem copySnap_spine (base : Nat) (l : List Nat) (s : State) : (copySnap base l s).spine = s.spine := by
  induction l generalizing s with
  | nil => rfl
  | cons o l ih =>
    rw [copySnap]
    split
    · split
      · exact (ih _).trans rfl
      · exact (ih _).trans ((holdEq_spine ..).trans rfl)
    · exact (ih _).trans rfl

@[simp] theorem snapRequest_spine (base : Nat) (s : State) : (snapRequest base s).spine = s.spine := by
  unfold snapRequest
  split
  · rfl
  · exact (copySnap_spine ..).trans rfl

/-! ### Machine/Registers -/

@[simp] theorem modHif_spine (f : Hif → Hif) (s : State) (h : (f s.hif).leases = s.hif.leases) :
    (modHif f s).spine = s.spine := by
  simp only [modHif, State.spine_mk, State.by_spine, h]

@[simp] theorem deleteQueue_spine (n : Nat) (s : State) :
    (deleteQueue n s).spine = s.spine := by
  simp only [deleteQueue, State.spine_mk, State.by_spine, abortDeferred_spine, State.setQueue_spine]

@[simp] theorem enableQ0_spine (s : State) :
    (enableQ0 s).spine = s.spine := by
  simp only [enableQ0, ite_spine, ite_self, State.setQueue_spine, modHif_spine]

@[simp] theorem disableQ0_spine (s : State) :
    (disableQ0 s).spine = s.spine := by
  simp only [disableQ0, modHif_spine, deleteQueue_spine]

@[simp] theorem enableEq_spine (s : State) :
    (enableEq s).spine = s.spine := by
  simp only [enableEq, ite_spine, ite_self, modHif_spine]

@[simp] theorem disableEq_spine (s : State) :
    (disableEq s).spine = s.spine := by
  simp only [disableEq, modHif_spine]

@[simp] theorem ctrlWrite_spine (v : Nat) (s : State) :
    (ctrlWrite v s).spine = s.spine := by
  simp only [ctrlWrite, ite_spine, ite_self, modHif_spine, enableQ0_spine, disableQ0_spine, enableEq_spine, disableEq_spine]

@[simp] theorem refuseTc_spine (host : Bool) (addr : Nat) (s : State) :
    (refuseTc host addr s).spine = s.spine := by
  simp only [refuseTc, State.spine_mk, State.by_spine, ite_spine, ite_self, logRecord_spine, modDev]

@[simp] theorem ringHead_spine (n v : Nat) (s : State) :
    (ringHead n v s).spine = s.spine := by
  simp only [ringHead, ite_spine, ite_self, modRing_spine]

@[simp] theorem monWrite_spine (off v : Nat) (s : State) :
    (monWrite off v s).spine = s.spine := by
  simp only [monWrite, ite_spine, ite_self, ringHead_spine]

@[simp] theorem readClear_spine (addr : Nat) (s : State) :
    (readClear addr s).spine = s.spine := by
  simp only [readClear, ite_spine, ite_self, cnvClear_spine, mapClear_spine, cphClear_spine, clnClear_spine, pktClear_spine, monClear_spine, miClear_spine, hifClear_spine, timClear_spine]

/-! ### Machine/HostInterface -/

@[simp] theorem setLink_spine (gen width : Nat) (s : State) :
    (setLink gen width s).spine = s.spine := by
  simp only [setLink, ite_spine, ite_self, emit_spine, resumeDma_spine, modHif_spine]

@[simp] theorem leaseEnded_spine (id : Word) (cause : Nat) (s : State) :
    (leaseEnded id cause s).spine = s.spine := by
  simp only [leaseEnded, emit_spine]

@[simp] theorem dropLease_spine (id : Word) (s : State) :
    (dropLease id s).spine = { s.spine with leases := s.spine.leases.filter (fun l => l.id ≠ id) } := rfl

/-! ### Machine/Latch -/

@[simp] theorem dspSecond_spine (s : State) :
    (dspSecond s).spine = s.spine := by
  simp only [dspSecond, State.spine_mk, State.by_spine]

@[simp] theorem cnvSecond_spine (s : State) :
    (cnvSecond s).spine = s.spine := by
  simp only [cnvSecond, State.spine_mk, State.by_spine]

@[simp] theorem refusedSecond_spine (s : State) :
    (refusedSecond s).spine = s.spine := by
  unfold refusedSecond
  repeat' split
  all_goals simp only [State.spine_mk, State.by_spine, emit_spine, modDev]

@[simp] theorem latchSecond_spine (m : SecondMeasure) (atStep : Bool) (s : State) : (latchSecond m atStep s).spine = s.spine := by
  simp only [latchSecond, refusedSecond_spine, miSecond_spine, miReads_spine, monSecond_spine, cnvSecond_spine, pktSecond_spine,
    cphSecond_spine, fecSecond_spine, frmSecond_spine, State.spine_mk, State.by_spine, thmSecond_spine, clnSecond_spine, dspSecond_spine]

@[simp] theorem refsReturn_spine (s : State) :
    (refsReturn s).spine = s.spine := by
  simp only [refsReturn, State.spine_mk, State.by_spine]

/-! ### Machine/Time -/

@[simp] theorem modTim_spine (f : Tim → Tim) (s : State) :
    (modTim f s).spine = s.spine := by
  simp only [modTim, State.spine_mk, State.by_spine]

@[simp] theorem openLate_spine (label : Nat) (s : State) : (openLate label s).spine = s.spine := by
  simp only [openLate, State.spine_mk, State.by_spine, openBins_spine]

@[simp] theorem stepBins_spine (old new : Nat) (s : State) :
    (stepBins old new s).spine = s.spine := by
  simp only [stepBins, State.spine_mk, State.by_spine, ite_spine, ite_self, foldl_spine, implies_true, openLate_spine, openBins_spine]

@[simp] theorem stepTo_spine (target : Nat) (s : State) :
    (stepTo target s).spine = s.spine := by
  simp only [stepTo, State.spine_mk, State.by_spine, ite_spine, ite_self, foldl_spine, implies_true, emit_spine,
    latchSecond_spine, modTim_spine, pktTimeStep_spine, stepBins_spine]

@[simp] theorem setServo_spine (x : Servo) (s : State) :
    (setServo x s).spine = s.spine := by
  simp only [setServo, State.spine_mk, State.by_spine, ite_spine, ite_self, emit_spine]

@[simp] theorem applyLabel_spine (s : State) :
    (applyLabel s).spine = s.spine := by
  unfold applyLabel
  repeat' split
  all_goals simp only [modTim_spine, stepTo_spine]

@[simp] theorem ptpUpdate_spine (s : State) :
    (ptpUpdate s).spine = s.spine := by
  unfold ptpUpdate
  repeat' split
  all_goals simp only [modTim_spine, setServo_spine]

@[simp] theorem lineReturn_spine (s : State) :
    (lineReturn s).spine = s.spine := by
  simp only [lineReturn, State.spine_mk, State.by_spine, ite_spine, ite_self, foldl_spine, implies_true, cifFramerUp_spine,
    framerUp_spine, groupUp_spine, pktRefresh_spine]

@[simp] theorem lineLost_spine (e : Nat) (s0 : State) :
    (lineLost e s0).spine = s0.spine := by
  simp only [lineLost, ite_spine, ite_self, engineOff_spine, framerRestart_spine, pktRefresh_spine, plkRefresh_spine, groupDown_spine, discardBlocks_spine, planAbortEarly_spine, stopForeground_spine]

@[simp] theorem linesLost_spine (s : State) :
    (linesLost s).spine = s.spine := by
  simp only [linesLost, ite_spine, ite_self, framerDown_spine, poolDown_spine]

@[simp] theorem refEvent_spine (s : State) :
    (refEvent s).spine = s.spine := by
  simp only [refEvent, emit_spine]

@[simp] theorem takeSnapshots_spine (key : Nat) (mask : Half) (s : State) :
    (takeSnapshots key mask s).spine = s.spine := by
  simp only [takeSnapshots, completeOr_spine, snapRequest_spine, foldl_spine, implies_true]

@[simp] theorem selectSource_spine (x : TimeSource) (s : State) :
    (selectSource x s).spine = s.spine := by
  simp only [selectSource, ite_spine, ite_self, modTim_spine, setServo_spine]

/-! ### What a block, a boundary and a frame do between their row and the shared operations -/

@[simp] theorem txTake_spine (e : Nat) (s : State) : (txTake e s).spine = s.spine := by
  simp only [txTake, modEngine_spine]

@[simp] theorem cnvBlock_spine (g : Nat) (s : State) : (cnvBlock g s).spine = s.spine := by
  unfold cnvBlock
  split <;> simp only [modGroup_spine]

@[simp] theorem convertersBlock_spine (e : Nat) (s : State) : (convertersBlock e s).spine = s.spine := by
  unfold convertersBlock
  dsimp only
  repeat' split
  all_goals simp only [startTxpd_spine, modEngine_spine, cnvBlock_spine]

@[simp] theorem cdBlock_spine (e : Nat) (s : State) : (cdBlock e s).spine = s.spine := by
  unfold cdBlock
  dsimp only
  repeat' split
  all_goals simp only [pktRefresh_spine, toCdAcq_spine, modEngine_spine]

@[simp] theorem cdAgain_spine (e : Nat) (s : State) : (cdAgain e s).spine = s.spine := by
  unfold cdAgain
  split <;> simp only [pktRefresh_spine, toCdAcq_spine, modEngine_spine]

@[simp] theorem applyAtSwitch_spine (e : Nat) (s : State) : (applyAtSwitch e s).spine = s.spine := by
  unfold applyAtSwitch
  repeat' split
  all_goals simp only [applyPart_spine]

@[simp] theorem countFill_spine (e errors : Nat) (s : State) : (countFill e errors s).spine = s.spine := by
  simp only [countFill, modUnit_spine]

@[simp] theorem afterFrame_spine (scope unit : Nat) (s : State) : (afterFrame scope unit s).spine = s.spine := by
  simp only [afterFrame, pktRefresh_spine, declareDefects_spine]

@[simp] theorem takeDelay_spine (t : Nat) (frame : FrameIn) (s : State) : (takeDelay t frame s).spine = s.spine := by
  unfold takeDelay
  split <;> simp only [setApsGroup_spine]

@[simp] theorem sendOverhead_spine (scope unit : Nat) (s : State) : (sendOverhead scope unit s).spine = s.spine := by
  simp only [sendOverhead, modUnit_spine]

/-! ### Machine/Management -/

@[simp] theorem modPort16_spine (f : MgmtPort → MgmtPort) (s : State) :
    (modPort16 f s).spine = s.spine := by
  simp only [modPort16, modHif_spine]

/-! ### Machine/Step -/

@[simp] theorem State.withFetchWord_spine (s : State) (nbits w : Nat) :
    (State.withFetchWord s nbits w).spine = s.spine := by
  cases s; rfl

end Sys2Proof.Machine
end

