-- ==== Sys2Proof/Laws/SpineCommands.lean ====
section
/-! SUPPORT. The meanings that leave the spine, and what their commands answer. -/

set_option Elab.async false

namespace Sys2Proof.Machine

/-! ### Events, completion and the command pipeline -/

theorem Reply.ok_keeps (s : State) : (Reply.ok s).Keeps s := by
  unfold Reply.ok
  repeat' (first | rfl | exact Reply.ok_keeps .. | apply checked_keeps | split | exact fun _ => rfl)
  all_goals (first | (intro u; simp only [State.spine_mk, State.by_spine, ite_spine, ite_self]; done) | (dsimp only [Reply.ok, Reply.answer, Reply.fail, Reply.failAt, Reply.Keeps]; simp only [State.spine_mk, State.by_spine, ite_spine, ite_self]))

theorem Reply.answer_keeps (resp : List Byte) (s : State) : (Reply.answer resp s).Keeps s := by
  unfold Reply.answer
  repeat' (first | rfl | exact Reply.ok_keeps .. | apply checked_keeps | split | exact fun _ => rfl)
  all_goals (first | (intro u; simp only [State.spine_mk, State.by_spine, ite_spine, ite_self]; done) | (dsimp only [Reply.ok, Reply.answer, Reply.fail, Reply.failAt, Reply.Keeps]; simp only [State.spine_mk, State.by_spine, ite_spine, ite_self]))

theorem Reply.fail_keeps (st : Status) (s : State) : (Reply.fail st s).Keeps s := by
  unfold Reply.fail
  repeat' (first | rfl | apply checked_keeps | split | exact fun _ => rfl)
  all_goals (first | (intro u; simp only [State.spine_mk, State.by_spine, ite_spine, ite_self]; done) | (dsimp only [Reply.ok, Reply.answer, Reply.fail, Reply.failAt, Reply.Keeps]; simp only [State.spine_mk, State.by_spine, ite_spine, ite_self]))

theorem Reply.failAt_keeps (st : Status) (off : Nat) (s : State) : (Reply.failAt st off s).Keeps s := by
  unfold Reply.failAt
  repeat' (first | rfl | apply checked_keeps | split | exact fun _ => rfl)
  all_goals (first | (intro u; simp only [State.spine_mk, State.by_spine, ite_spine, ite_self]; done) | (dsimp only [Reply.ok, Reply.answer, Reply.fail, Reply.failAt, Reply.Keeps]; simp only [State.spine_mk, State.by_spine, ite_spine, ite_self]))

/-! ### Machine/Cipher -/

theorem execCphDctrLoRead_keeps (s : State) : OutcomeKeeps s (execCphDctrLoRead s) := by
  unfold execCphDctrLoRead
  dsimp only
  repeat' split
  all_goals (refine keeps_next ?_; simp only [State.spine_mk, State.by_spine])

theorem execCphTxGroupBoundary_keeps (trib : Fin 256) (group : TxGroup) (s : State) : OutcomeKeeps s (execCphTxGroupBoundary trib group s) := by
  unfold execCphTxGroupBoundary
  dsimp only
  repeat' split
  all_goals (refine keeps_next ?_; simp only [emit_spine, completeOr_spine, modCphTrib_spine, tellFramer_spine, addTwins_spine])

theorem execCphRxGroupCheck_keeps (trib : Fin 256) (group : RxGroup) (s : State) : OutcomeKeeps s (execCphRxGroupCheck trib group s) := by
  unfold execCphRxGroupCheck
  dsimp only
  repeat' split
  all_goals (refine keeps_next ?_; simp only [addLife_spine, modCphTrib_spine, tellFramer_spine, addTwins_spine, groupPasses_spine, groupFails_spine])

theorem execEpochRebuildComplete_keeps (trib : Fin 256) (receive : Bool) (s : State) : OutcomeKeeps s (execEpochRebuildComplete trib receive s) := by
  unfold execEpochRebuildComplete
  refine keeps_next ?_
  simp only [rebuilt_spine, modCphTrib_spine]

theorem durable_keeps (vol : Bool) (resp : List Byte) (s : State) : (durable vol resp s).Keeps s := by
  unfold durable
  split
  · rfl
  · exact waitCommit_spine ..

theorem durable_spine (vol : Bool) (resp : List Byte) {s t : State} (h : t.spine = s.spine) : (durable vol resp t).Keeps s := by
  unfold durable
  split
  · exact h
  · exact (waitCommit_spine ..).trans h

@[simp] theorem importKey_spine (k : Nat) (vol : Bool) (usage : Nat) (material : List Byte) (s : State) :
    (importKey k vol usage material s).spine = s.spine := by
  simp only [importKey, logSlot_spine, State.spine_mk, State.by_spine, modKeySlot_spine]

@[simp] theorem bindSlot_spine (k : Nat) (s : State) : (bindSlot k s).spine = s.spine := by
  simp only [bindSlot, logSlot_spine, State.spine_mk, State.by_spine, modKeySlot_spine]

theorem replyCphKeyImport_keeps (p : Packet) (s : State) : (replyCphKeyImport p s).Keeps s := by
  unfold replyCphKeyImport
  refine checked_keeps (durable_spine _ _ ?_)
  exact importKey_spine ..

theorem execCphKeyImport_keeps (p : Packet) (s : State) : OutcomeKeeps s (execCphKeyImport p s) := by
  exact keeps_run (fun u => replyCphKeyImport_keeps ..)

theorem replyCphKeyAgree_keeps (p : Packet) (s : State) : (replyCphKeyAgree p s).Keeps s := by
  unfold replyCphKeyAgree
  refine checked_keeps (durable_spine _ _ ?_)
  rw [logSlot_spine, modKeySlot_spine]

theorem execCphKeyAgree_keeps (p : Packet) (s : State) : OutcomeKeeps s (execCphKeyAgree p s) := by
  exact keeps_run (fun u => replyCphKeyAgree_keeps ..)

theorem replyCphKeyErase_keeps (p : Packet) (s : State) : (replyCphKeyErase p s).Keeps s := by
  unfold replyCphKeyErase
  repeat' (first | rfl | exact Reply.ok_keeps .. | apply checked_keeps | split | exact fun _ => rfl)
  all_goals (first | (intro u; simp only [State.spine_mk, State.by_spine, ite_spine, ite_self, modKeySlot_spine, logSlot_spine]; done) | (dsimp only [Reply.ok, Reply.answer, Reply.fail, Reply.failAt, Reply.Keeps]; simp only [modKeySlot_spine, logSlot_spine]))

theorem execCphKeyErase_keeps (p : Packet) (s : State) : OutcomeKeeps s (execCphKeyErase p s) := by
  exact keeps_run (fun u => replyCphKeyErase_keeps ..)

theorem replyCphKeyInfo_keeps (p : Packet) (s : State) : (replyCphKeyInfo p s).Keeps s := by
  unfold replyCphKeyInfo
  repeat' (first | rfl | exact Reply.answer_keeps .. | apply checked_keeps | split | exact fun _ => rfl)
  all_goals (first | (intro u; simp only [State.spine_mk, State.by_spine, ite_spine, ite_self]; done) | (dsimp only [Reply.ok, Reply.answer, Reply.fail, Reply.failAt, Reply.Keeps]; simp only [State.spine_mk, State.by_spine, ite_spine, ite_self]))

theorem execCphKeyInfo_keeps (p : Packet) (s : State) : OutcomeKeeps s (execCphKeyInfo p s) := by
  exact keeps_run (fun u => replyCphKeyInfo_keeps ..)

theorem replyCphEpochSet_keeps (p : Packet) (s : State) : (replyCphEpochSet p s).Keeps s := by
  unfold replyCphEpochSet
  refine checked_keeps ?_
  dsimp only [Reply.answer, Reply.Keeps]
  simp only [installEpoch_spine, State.by_spine, ite_spine, ite_self, nextDctr_spine, bindSlot_spine]

theorem execCphEpochSet_keeps (p : Packet) (s : State) : OutcomeKeeps s (execCphEpochSet p s) := by
  exact keeps_run (fun u => replyCphEpochSet_keeps ..)

theorem replyCphEpochSwitch_keeps (p : Packet) (s : State) : (replyCphEpochSwitch p s).Keeps s := by
  unfold replyCphEpochSwitch
  dsimp only
  repeat' (first | rfl | exact Reply.failAt_keeps .. | exact Reply.fail_keeps .. | apply checked_keeps | split | exact fun _ => rfl)
  all_goals (first | (intro u; simp only [State.spine_mk, State.by_spine, ite_spine, ite_self, modCphTrib_spine]; done) | (dsimp only [Reply.ok, Reply.answer, Reply.fail, Reply.failAt, Reply.Keeps]; simp only [State.spine_mk, State.by_spine, ite_spine, ite_self, modCphTrib_spine]))

theorem execCphEpochSwitch_keeps (p : Packet) (s : State) : OutcomeKeeps s (execCphEpochSwitch p s) := by
  exact keeps_run (fun u => replyCphEpochSwitch_keeps ..)

theorem replyCphTribSet_keeps (p : Packet) (s : State) : (replyCphTribSet p s).Keeps s := by
  unfold replyCphTribSet
  repeat' (first | rfl | exact Reply.ok_keeps .. | apply checked_keeps | split | exact fun _ => rfl)
  all_goals (first | (intro u; simp only [State.spine_mk, State.by_spine, ite_spine, ite_self, modCphTrib_spine]; done) | (dsimp only [Reply.ok, Reply.answer, Reply.fail, Reply.failAt, Reply.Keeps]; simp only [State.spine_mk, State.by_spine, ite_spine, ite_self, modCphTrib_spine]))

theorem execCphTribSet_keeps (p : Packet) (s : State) : OutcomeKeeps s (execCphTribSet p s) := by
  exact keeps_run (fun u => replyCphTribSet_keeps ..)

theorem replyCphTribGet_keeps (p : Packet) (s : State) : (replyCphTribGet p s).Keeps s := by
  unfold replyCphTribGet
  repeat' (first | rfl | exact Reply.answer_keeps .. | apply checked_keeps | split | exact fun _ => rfl)
  all_goals (first | (intro u; simp only [State.spine_mk, State.by_spine, ite_spine, ite_self]; done) | (dsimp only [Reply.ok, Reply.answer, Reply.fail, Reply.failAt, Reply.Keeps]; simp only [State.spine_mk, State.by_spine, ite_spine, ite_self]))

theorem execCphTribGet_keeps (p : Packet) (s : State) : OutcomeKeeps s (execCphTribGet p s) := by
  exact keeps_run (fun u => replyCphTribGet_keeps ..)

theorem replyCphJobSubmit_keeps (p : Packet) (s : State) : (replyCphJobSubmit p s).Keeps s := by
  unfold replyCphJobSubmit
  repeat' (first | rfl | apply checked_keeps | split | exact fun _ => rfl)
  all_goals (first | (intro u; simp only [State.spine_mk, State.by_spine, modKeySlot_spine, nextDctr_spine]; done) | (dsimp only [Reply.ok, Reply.answer, Reply.fail, Reply.failAt, Reply.Keeps]; simp only [State.spine_mk, State.by_spine, ite_spine, ite_self, modKeySlot_spine, nextDctr_spine]))

theorem execCphJobSubmit_keeps (p : Packet) (s : State) : OutcomeKeeps s (execCphJobSubmit p s) := by
  exact keeps_run (fun u => replyCphJobSubmit_keeps ..)

theorem execCphJobComplete_keeps (job : Fin 65536) (end_ : JobEnd) (s : State) : OutcomeKeeps s (execCphJobComplete job end_ s) := by
  unfold execCphJobComplete
  dsimp only
  repeat' split
  all_goals (refine keeps_next ?_; simp only [writeOutput_spine, logRecord_spine, jobDone_spine, saveJob_spine, zeroFill_spine])

theorem replyCphJobCancel_keeps (p : Packet) (s : State) : (replyCphJobCancel p s).Keeps s := by
  unfold replyCphJobCancel
  repeat' (first | rfl | exact Reply.ok_keeps .. | apply checked_keeps | split | exact fun _ => rfl)
  all_goals (first | (intro u; simp only [State.spine_mk, State.by_spine, ite_spine, ite_self, modJob_spine]; done) | (dsimp only [Reply.ok, Reply.answer, Reply.fail, Reply.failAt, Reply.Keeps]; simp only [State.spine_mk, State.by_spine, ite_spine, ite_self, modJob_spine]))

theorem execCphJobCancel_keeps (p : Packet) (s : State) : OutcomeKeeps s (execCphJobCancel p s) := by
  exact keeps_run (fun u => replyCphJobCancel_keeps ..)

theorem replyCphCtxSave_keeps (p : Packet) (s : State) : (replyCphCtxSave p s).Keeps s := by
  unfold replyCphCtxSave
  dsimp only
  repeat' (first | rfl | exact Reply.failAt_keeps .. | exact Reply.ok_keeps .. | apply checked_keeps | split | exact fun _ => rfl)
  all_goals (first | (intro u; simp only [State.spine_mk, State.by_spine, ite_spine, ite_self, modJob_spine]; done) | (dsimp only [Reply.ok, Reply.answer, Reply.fail, Reply.failAt, Reply.Keeps]; simp only [State.spine_mk, State.by_spine, ite_spine, ite_self, modJob_spine]))

theorem execCphCtxSave_keeps (p : Packet) (s : State) : OutcomeKeeps s (execCphCtxSave p s) := by
  exact keeps_run (fun u => replyCphCtxSave_keeps ..)

theorem replyCphCtxRestore_keeps (p : Packet) (s : State) : (replyCphCtxRestore p s).Keeps s := by
  unfold replyCphCtxRestore
  repeat' (first | rfl | exact Reply.fail_keeps .. | apply checked_keeps | split | exact fun _ => rfl)
  all_goals (first | (intro u; simp only [State.spine_mk, State.by_spine, ite_spine, ite_self]; done) | (dsimp only [Reply.ok, Reply.answer, Reply.fail, Reply.failAt, Reply.Keeps]; simp only [State.spine_mk, State.by_spine, ite_spine, ite_self]))

theorem execCphCtxRestore_keeps (p : Packet) (s : State) : OutcomeKeeps s (execCphCtxRestore p s) := by
  exact keeps_run (fun u => replyCphCtxRestore_keeps ..)

/-! ### Machine/ClientLanes -/

theorem execClnLaneFault_keeps (lane : Fin 32) (signalLost : Bool) (s : State) : OutcomeKeeps s (execClnLaneFault lane signalLost s) := by
  unfold execClnLaneFault
  repeat' split
  all_goals (refine keeps_next ?_; first | rfl | (simp only [modLane_spine, laneFaults_spine]; done) | (repeat' split) <;> simp only [State.spine_mk, State.by_spine, ite_spine, ite_self, modLane_spine, laneFaults_spine])

theorem execClnTrainingTimeout_keeps (lane : Fin 32) (s : State) : OutcomeKeeps s (execClnTrainingTimeout lane s) := by
  unfold execClnTrainingTimeout
  dsimp only
  repeat' split
  all_goals (refine keeps_next ?_; first | rfl | simp only [modLane_spine, cifDown_spine, cifLos_spine])

@[simp] theorem trainLane_spine (l : Nat) (s : State) : (trainLane l s).spine = s.spine := by
  simp only [trainLane, modLane_spine, takeFree_spine, ite_spine, ite_self]

theorem execClnLaneClean_keeps (lane : Fin 32) (s : State) : OutcomeKeeps s (execClnLaneClean lane s) := by
  unfold execClnLaneClean
  dsimp only
  repeat' split
  all_goals (refine keeps_next ?_; first | rfl | (simp only [cifLos_spine, modLane_spine, trainLane_spine]; done) | rfl | (simp only [State.spine_mk, State.by_spine, ite_spine, ite_self, modLane_spine]; done) | (repeat' split) <;> simp only [State.spine_mk, State.by_spine, ite_spine, ite_self, modLane_spine])

theorem execClnCifUp_keeps (cif : Fin 32) (pcsLanes : List Nat) (s : State) : OutcomeKeeps s (execClnCifUp cif pcsLanes s) := by
  unfold execClnCifUp
  dsimp only
  repeat' split
  all_goals (refine keeps_next ?_; simp only [apsRefresh_spine, cifFramerUp_spine, pktRefresh_spine, modCif_spine, modLane_spine, cifEvent_spine, foldl_spine, implies_true])

theorem execPcsAlignmentLost_keeps (cif : Fin 32) (cause : AlignLoss) (s : State) : OutcomeKeeps s (execPcsAlignmentLost cif cause s) := by
  unfold execPcsAlignmentLost
  dsimp only
  repeat' split
  all_goals (refine keeps_next ?_; simp only [modUnit_spine, modCif_spine, cifDown_spine])

theorem execLocalFaultReceived_keeps (cif : Fin 32) (localFault remoteFault : Bool) (s : State) : OutcomeKeeps s (execLocalFaultReceived cif localFault remoteFault s) := by
  unfold execLocalFaultReceived
  dsimp only
  repeat' split
  all_goals (refine keeps_next ?_; simp only [modCif_spine])

theorem replyClnCifSet_keeps (p : Packet) (s : State) : (replyClnCifSet p s).Keeps s := by
  unfold replyClnCifSet
  refine checked_keeps ?_
  split
  · exact cifRemove_spine ..
  · exact checked_keeps (cifConfigure_spine ..)

theorem execClnCifSet_keeps (p : Packet) (s : State) : OutcomeKeeps s (execClnCifSet p s) := by
  exact keeps_run (fun u => replyClnCifSet_keeps ..)

theorem replyClnLaneSet_keeps (p : Packet) (s : State) : (replyClnLaneSet p s).Keeps s := by
  unfold replyClnLaneSet
  repeat' (first | rfl | exact Reply.ok_keeps .. | apply checked_keeps | split | exact fun _ => rfl)
  all_goals (first | (intro u; simp only [State.spine_mk, State.by_spine, ite_spine, ite_self, modLane_spine]; done) | (dsimp only [Reply.ok, Reply.answer, Reply.fail, Reply.failAt, Reply.Keeps]; simp only [State.spine_mk, State.by_spine, ite_spine, ite_self, modLane_spine]))

theorem execClnLaneSet_keeps (p : Packet) (s : State) : OutcomeKeeps s (execClnLaneSet p s) := by
  exact keeps_run (fun u => replyClnLaneSet_keeps ..)

@[simp] theorem loopEnds_spine (l : Nat) (s : State) : (loopEnds l s).spine = s.spine := by
  unfold loopEnds
  repeat' split
  all_goals (first | rfl | simp only [ite_spine, ite_self, modCif_spine])

theorem replyClnLoop_keeps (p : Packet) (s : State) : (replyClnLoop p s).Keeps s := by
  unfold replyClnLoop
  refine checked_keeps ?_
  split
  · exact (loopEnds_spine ..).trans (divertLane_spine ..)
  · dsimp only [Reply.ok, Reply.Keeps]
    simp only [modCif_spine, divertLane_spine, foldl_spine, implies_true]

theorem execClnLoop_keeps (p : Packet) (s : State) : OutcomeKeeps s (execClnLoop p s) := by
  exact keeps_run (fun u => replyClnLoop_keeps ..)

theorem replyClnPrbs_keeps (p : Packet) (s : State) : (replyClnPrbs p s).Keeps s := by
  unfold replyClnPrbs
  repeat' (first | rfl | exact Reply.ok_keeps .. | apply checked_keeps | split | exact fun _ => rfl)
  all_goals (first | (intro u; simp only [State.spine_mk, State.by_spine, ite_spine, ite_self, divertLane_spine]; done) | (dsimp only [Reply.ok, Reply.answer, Reply.fail, Reply.failAt, Reply.Keeps]; simp only [divertLane_spine]))

theorem execClnPrbs_keeps (p : Packet) (s : State) : OutcomeKeeps s (execClnPrbs p s) := by
  exact keeps_run (fun u => replyClnPrbs_keeps ..)

theorem replyClnCifGet_keeps (p : Packet) (s : State) : (replyClnCifGet p s).Keeps s := by
  unfold replyClnCifGet
  repeat' (first | rfl | exact Reply.answer_keeps .. | apply checked_keeps | split | exact fun _ => rfl)
  all_goals (first | (intro u; simp only [State.spine_mk, State.by_spine, ite_spine, ite_self]; done) | (dsimp only [Reply.ok, Reply.answer, Reply.fail, Reply.failAt, Reply.Keeps]; simp only [State.spine_mk, State.by_spine, ite_spine, ite_self]))

theorem execClnCifGet_keeps (p : Packet) (s : State) : OutcomeKeeps s (execClnCifGet p s) := by
  exact keeps_run (fun u => replyClnCifGet_keeps ..)

/-! ### Machine/Housekeeping -/

theorem execHkaConversionDone_keeps (sar : Fin 2) (raw : Nat) (ovr : Option Bool) (s : State) : OutcomeKeeps s (execHkaConversionDone sar raw ovr s) := by
  unfold execHkaConversionDone
  dsimp only
  repeat' split
  all_goals (refine keeps_next ?_; simp only [modSar_spine, sarStep_spine, doneInjected_spine, doneSystem_spine, doneRegular_spine])

theorem execHkaSystemTick_keeps (s : State) : OutcomeKeeps s (execHkaSystemTick s) := by
  unfold execHkaSystemTick
  refine keeps_next ?_
  simp only [systemDue_spine, toTick_spine, markTick_spine]

theorem execHkaSeqPeriodStart_keeps (sar : Fin 2) (s : State) : OutcomeKeeps s (execHkaSeqPeriodStart sar s) := by
  unfold execHkaSeqPeriodStart
  dsimp only
  repeat' split
  all_goals (refine keeps_next ?_; simp only [modSar_spine, sarKick_spine])

theorem execHkaCalTimer_keeps (sar : Fin 2) (s : State) : OutcomeKeeps s (execHkaCalTimer sar s) := by
  unfold execHkaCalTimer
  dsimp only
  repeat' split
  all_goals (refine keeps_next ?_; simp only [calBegin_spine])

theorem execHkaCalComplete_keeps (sar : Fin 2) (s : State) : OutcomeKeeps s (execHkaCalComplete sar s) := by
  unfold execHkaCalComplete
  dsimp only
  repeat' split
  all_goals (refine keeps_next ?_; simp only [State.spine_mk, State.by_spine, modSar_spine, sarStep_spine, calReport_spine])

theorem execHkaCalStepAbort_keeps (sar : Fin 2) (s : State) : OutcomeKeeps s (execHkaCalStepAbort sar s) := by
  unfold execHkaCalStepAbort
  dsimp only
  repeat' split
  all_goals (refine keeps_next ?_; simp only [State.spine_mk, State.by_spine, modSar_spine, sarStep_spine, calReport_spine])

theorem replyHkaSeqSet_keeps (p : Packet) (s : State) : (replyHkaSeqSet p s).Keeps s := by
  unfold replyHkaSeqSet
  repeat' (first | rfl | exact Reply.ok_keeps .. | apply checked_keeps | split | exact fun _ => rfl)
  all_goals (first | (intro u; simp only [State.spine_mk, State.by_spine, ite_spine, ite_self, modSar_spine, sarKick_spine]; done) | (dsimp only [Reply.ok, Reply.answer, Reply.fail, Reply.failAt, Reply.Keeps]; simp only [modSar_spine, sarKick_spine]))

theorem execHkaSeqSet_keeps (p : Packet) (s : State) : OutcomeKeeps s (execHkaSeqSet p s) := by
  exact keeps_run (fun u => replyHkaSeqSet_keeps ..)

theorem replyHkaInject_keeps (p : Packet) (s : State) : (replyHkaInject p s).Keeps s := by
  unfold replyHkaInject
  repeat' (first | rfl | apply checked_keeps | split | exact fun _ => rfl)
  all_goals (first | (intro u; simp only [State.spine_mk, State.by_spine, ite_spine, ite_self, modSar_spine, sarKick_spine, takeKey_spine, foldl_spine, implies_true]; done) | (dsimp only [Reply.ok, Reply.answer, Reply.fail, Reply.failAt, Reply.Keeps]; simp only [modSar_spine, sarKick_spine, takeKey_spine]))

theorem execHkaInject_keeps (p : Packet) (s : State) : OutcomeKeeps s (execHkaInject p s) := by
  exact keeps_run (fun u => replyHkaInject_keeps ..)

theorem replyHkaCal_keeps (p : Packet) (s : State) : (replyHkaCal p s).Keeps s := by
  unfold replyHkaCal
  repeat' (first | rfl | apply checked_keeps | split | exact fun _ => rfl)
  all_goals (first | (intro u; simp only [calBegin_spine]; done) | (dsimp only [Reply.ok, Reply.answer, Reply.fail, Reply.failAt, Reply.Keeps]; simp only [State.spine_mk, State.by_spine, ite_spine, ite_self, calBegin_spine]))

theorem execHkaCal_keeps (p : Packet) (s : State) : OutcomeKeeps s (execHkaCal p s) := by
  exact keeps_run (fun u => replyHkaCal_keeps ..)

theorem replyHkaCorrSet_keeps (p : Packet) (s : State) : (replyHkaCorrSet p s).Keeps s := by
  unfold replyHkaCorrSet
  repeat' (first | rfl | exact Reply.ok_keeps .. | apply checked_keeps | split | exact fun _ => rfl)
  all_goals (first | (intro u; simp only [State.spine_mk, State.by_spine, ite_spine, ite_self, modSar_spine]; done) | (dsimp only [Reply.ok, Reply.answer, Reply.fail, Reply.failAt, Reply.Keeps]; simp only [State.spine_mk, State.by_spine, ite_spine, ite_self, modSar_spine]))

theorem execHkaCorrSet_keeps (p : Packet) (s : State) : OutcomeKeeps s (execHkaCorrSet p s) := by
  exact keeps_run (fun u => replyHkaCorrSet_keeps ..)

theorem replyHkaCfgSet_keeps (p : Packet) (s : State) : (replyHkaCfgSet p s).Keeps s := by
  unfold replyHkaCfgSet
  repeat' (first | rfl | exact Reply.ok_keeps .. | apply checked_keeps | split | exact fun _ => rfl)
  all_goals (first | (intro u; simp only [State.spine_mk, State.by_spine, ite_spine, ite_self]; done) | (dsimp only [Reply.ok, Reply.answer, Reply.fail, Reply.failAt, Reply.Keeps]; simp only [State.spine_mk, State.by_spine, ite_spine, ite_self]))

theorem execHkaCfgSet_keeps (p : Packet) (s : State) : OutcomeKeeps s (execHkaCfgSet p s) := by
  exact keeps_run (fun u => replyHkaCfgSet_keeps ..)

/-! ### Machine/CoherentDsp -/

theorem execDspBlockBoundary_keeps (engine : Fin 2) (meas : DspMeasure) (s : State) : OutcomeKeeps s (execDspBlockBoundary engine meas s) := by
  unfold execDspBlockBoundary
  dsimp only
  repeat' split
  all_goals (refine keeps_next ?_; simp only [monBlock_spine, cdBlock_spine, fastExitNow_spine, modEngine_spine, convertersBlock_spine])

theorem execDspLosDeclared_keeps (engine : Fin 2) (s : State) : OutcomeKeeps s (execDspLosDeclared engine s) := by
  unfold execDspLosDeclared
  dsimp only
  repeat' split
  all_goals (refine keeps_next ?_; simp only [modEngine_spine, setLock_spine, pktRefresh_spine])

theorem execDspLosCleared_keeps (engine : Fin 2) (s : State) : OutcomeKeeps s (execDspLosCleared engine s) := by
  unfold execDspLosCleared
  refine keeps_next ?_
  simp only [ite_spine, ite_self, toCdAcq_spine]

theorem execDspCdFilterSet_keeps (engine : Fin 2) (s : State) : OutcomeKeeps s (execDspCdFilterSet engine s) := by
  unfold execDspCdFilterSet
  dsimp only
  repeat' split
  all_goals (refine keeps_next ?_; simp only [modEngine_spine, setLock_spine])

theorem execDspClockAcquired_keeps (engine : Fin 2) (s : State) : OutcomeKeeps s (execDspClockAcquired engine s) := by
  unfold execDspClockAcquired
  dsimp only
  repeat' split
  all_goals (refine keeps_next ?_; simp only [setLock_spine, pktRefresh_spine])

theorem execDspEqPreconverged_keeps (engine : Fin 2) (s : State) : OutcomeKeeps s (execDspEqPreconverged engine s) := by
  unfold execDspEqPreconverged
  refine keeps_next ?_
  simp only [ite_spine, ite_self, setLock_spine]

theorem execDspSyncWordFound_keeps (engine : Fin 2) (s : State) : OutcomeKeeps s (execDspSyncWordFound engine s) := by
  unfold execDspSyncWordFound
  dsimp only
  repeat' split
  all_goals (refine keeps_next ?_; simp only [modEngine_spine, setLock_spine, profileDone_spine, framerRestart_spine, pktRefresh_spine, plkRefresh_spine, engineReady_spine])

theorem execDspAcqStageTimeout_keeps (engine : Fin 2) (s : State) : OutcomeKeeps s (execDspAcqStageTimeout engine s) := by
  unfold execDspAcqStageTimeout
  dsimp only
  repeat' split
  all_goals (refine keeps_next ?_; simp only [modEngine_spine, toCdAcq_spine, pktRefresh_spine])

theorem execDspSyncLost_keeps (engine : Fin 2) (s : State) : OutcomeKeeps s (execDspSyncLost engine s) := by
  unfold execDspSyncLost
  refine keeps_next ?_
  simp only [ite_spine, ite_self, modEngine_spine, setLock_spine]

theorem execDspCdSearchComplete_keeps (engine : Fin 2) (found : Option Int) (s : State) : OutcomeKeeps s (execDspCdSearchComplete engine found s) := by
  unfold execDspCdSearchComplete
  dsimp only
  repeat' split
  all_goals (refine keeps_next ?_; simp only [modEngine_spine, setLock_spine, searchDone_spine, pktRefresh_spine])

theorem execFastsopEntry_keeps (engine : Fin 2) (s : State) : OutcomeKeeps s (execFastsopEntry engine s) := by
  unfold execFastsopEntry
  dsimp only
  repeat' split
  all_goals (refine keeps_next ?_; simp only [fastEnter_spine, fastExitNow_spine, fastRequest_spine, modEngine_spine])

theorem execFastsopHoldExpiry_keeps (engine : Fin 2) (s : State) : OutcomeKeeps s (execFastsopHoldExpiry engine s) := by
  unfold execFastsopHoldExpiry
  refine keeps_next ?_
  simp only [State.spine_mk, State.by_spine, ite_spine, ite_self, foldl_spine, implies_true, modEngine_spine]

theorem execNlcComputeComplete_keeps (engine : Fin 2) (s : State) : OutcomeKeeps s (execNlcComputeComplete engine s) := by
  unfold execNlcComputeComplete
  refine keeps_next ?_
  simp only [modEngine_spine]

theorem execTxpdRecomputeComplete_keeps (engine : Fin 2) (boostLimited : BitVec 4) (s : State) :
    OutcomeKeeps s (execTxpdRecomputeComplete engine boostLimited s) := by
  unfold execTxpdRecomputeComplete
  dsimp only
  repeat' split
  all_goals (refine keeps_next ?_; simp only [completeOr_spine, modEngine_spine])

@[simp] theorem switchNow_spine (e : Nat) (s : State) : (switchNow e s).spine = s.spine := by
  simp only [switchNow, startSwitch_spine, framerRestart_spine, pktRefresh_spine, plkRefresh_spine, fecSwitch_spine]

theorem execProfileSwitchInstant_keeps (engine : Fin 2) (s : State) : OutcomeKeeps s (execProfileSwitchInstant engine s) := by
  unfold execProfileSwitchInstant
  repeat' split
  all_goals (refine keeps_next ?_; simp only [advanceToTod_spine, switchNow_spine])

theorem execProfileTxBoundary_keeps (engine : Fin 2) (s : State) : OutcomeKeeps s (execProfileTxBoundary engine s) := by
  unfold execProfileTxBoundary
  repeat' split
  all_goals (refine keeps_next ?_; simp only [sendStructure_spine, framerRestart_spine, pktRefresh_spine, plkRefresh_spine, switchTx_spine, applyAtSwitch_spine])

theorem execProfileSwitchTimeout_keeps (engine : Fin 2) (s : State) : OutcomeKeeps s (execProfileSwitchTimeout engine s) := by
  unfold execProfileSwitchTimeout
  repeat' split
  all_goals (refine keeps_next ?_; first | rfl | (simp only [profileDone_spine]; done) | (repeat' split) <;> simp only [State.spine_mk, State.by_spine, ite_spine, ite_self, profileDone_spine])

theorem replyDspProfileSet_keeps (p : Packet) (s : State) : (replyDspProfileSet p s).Keeps s := by
  unfold replyDspProfileSet
  repeat' (first | rfl | exact Reply.ok_keeps .. | apply checked_keeps | split | exact fun _ => rfl)
  all_goals (first | (intro u; simp only [ite_spine, ite_self, modEngine_spine, switchNow_spine]; done) | (dsimp only [Reply.ok, Reply.answer, Reply.fail, Reply.failAt, Reply.Keeps]; simp only [State.spine_mk, State.by_spine, ite_spine, ite_self, modEngine_spine, switchNow_spine]))

theorem execDspProfileSet_keeps (p : Packet) (s : State) : OutcomeKeeps s (execDspProfileSet p s) := by
  exact keeps_run (fun u => replyDspProfileSet_keeps ..)

theorem replyDspCdSet_keeps (p : Packet) (s : State) : (replyDspCdSet p s).Keeps s := by
  unfold replyDspCdSet
  dsimp only
  apply checked_keeps
  split
  · simp only [Reply.ok, Reply.Keeps, modEngine_spine]
  split
  · intro u
    simp only [cdAgain_spine, modEngine_spine]
  · simp only [Reply.ok, Reply.Keeps, modEngine_spine, cdAgain_spine]

theorem execDspCdSet_keeps (p : Packet) (s : State) : OutcomeKeeps s (execDspCdSet p s) := by
  exact keeps_run (fun u => replyDspCdSet_keeps ..)

theorem replyDspEqSet_keeps (p : Packet) (s : State) : (replyDspEqSet p s).Keeps s := by
  unfold replyDspEqSet
  repeat' (first | rfl | exact Reply.ok_keeps .. | apply checked_keeps | split | exact fun _ => rfl)
  all_goals (first | (intro u; simp only [State.spine_mk, State.by_spine, ite_spine, ite_self, modEngine_spine]; done) | (dsimp only [Reply.ok, Reply.answer, Reply.fail, Reply.failAt, Reply.Keeps]; simp only [State.spine_mk, State.by_spine, ite_spine, ite_self, modEngine_spine]))

theorem execDspEqSet_keeps (p : Packet) (s : State) : OutcomeKeeps s (execDspEqSet p s) := by
  exact keeps_run (fun u => replyDspEqSet_keeps ..)

theorem replyDspNlcSet_keeps (p : Packet) (s : State) : (replyDspNlcSet p s).Keeps s := by
  unfold replyDspNlcSet
  repeat' (first | rfl | exact Reply.ok_keeps .. | apply checked_keeps | split | exact fun _ => rfl)
  all_goals (first | (intro u; simp only [State.spine_mk, State.by_spine, ite_spine, ite_self, modEngine_spine]; done) | (dsimp only [Reply.ok, Reply.answer, Reply.fail, Reply.failAt, Reply.Keeps]; simp only [State.spine_mk, State.by_spine, ite_spine, ite_self, modEngine_spine]))

theorem execDspNlcSet_keeps (p : Packet) (s : State) : OutcomeKeeps s (execDspNlcSet p s) := by
  exact keeps_run (fun u => replyDspNlcSet_keeps ..)

theorem replyDspRxSet_keeps (p : Packet) (s : State) : (replyDspRxSet p s).Keeps s := by
  unfold replyDspRxSet
  repeat' (first | rfl | exact Reply.ok_keeps .. | apply checked_keeps | split | exact fun _ => rfl)
  all_goals (first | (intro u; simp only [State.spine_mk, State.by_spine, ite_spine, ite_self, modEngine_spine]; done) | (dsimp only [Reply.ok, Reply.answer, Reply.fail, Reply.failAt, Reply.Keeps]; simp only [State.spine_mk, State.by_spine, ite_spine, ite_self, modEngine_spine]))

theorem execDspRxSet_keeps (p : Packet) (s : State) : OutcomeKeeps s (execDspRxSet p s) := by
  exact keeps_run (fun u => replyDspRxSet_keeps ..)

theorem replyDspTxSet_keeps (p : Packet) (s : State) : (replyDspTxSet p s).Keeps s := by
  unfold replyDspTxSet
  repeat' (first | rfl | exact Reply.ok_keeps .. | apply checked_keeps | split | exact fun _ => rfl)
  all_goals (first | (intro u; simp only [State.spine_mk, State.by_spine, ite_spine, ite_self, modEngine_spine]; done) | (dsimp only [Reply.ok, Reply.answer, Reply.fail, Reply.failAt, Reply.Keeps]; simp only [State.spine_mk, State.by_spine, ite_spine, ite_self, modEngine_spine]))

theorem execDspTxSet_keeps (p : Packet) (s : State) : OutcomeKeeps s (execDspTxSet p s) := by
  exact keeps_run (fun u => replyDspTxSet_keeps ..)

theorem replyDspTxRespLoad_keeps (p : Packet) (s : State) : (replyDspTxRespLoad p s).Keeps s := by
  unfold replyDspTxRespLoad
  repeat' (first | rfl | exact Reply.ok_keeps .. | apply checked_keeps | split | exact fun _ => rfl)
  all_goals (first | (intro u; simp only [State.spine_mk, State.by_spine, ite_spine, ite_self, modEngine_spine, foldl_spine, implies_true]; done) | (dsimp only [Reply.ok, Reply.answer, Reply.fail, Reply.failAt, Reply.Keeps]; simp only [State.spine_mk, State.by_spine, ite_spine, ite_self, modEngine_spine, foldl_spine, implies_true]))

theorem execDspTxRespLoad_keeps (p : Packet) (s : State) : OutcomeKeeps s (execDspTxRespLoad p s) := by
  exact keeps_run (fun u => replyDspTxRespLoad_keeps ..)

theorem replyDspFastsopForce_keeps (p : Packet) (s : State) : (replyDspFastsopForce p s).Keeps s := by
  unfold replyDspFastsopForce
  repeat' (first | rfl | exact Reply.ok_keeps .. | apply checked_keeps | split | exact fun _ => rfl)
  all_goals (first | (intro u; simp only [State.spine_mk, State.by_spine, ite_spine, ite_self, modEngine_spine, fastRequest_spine]; done) | (dsimp only [Reply.ok, Reply.answer, Reply.fail, Reply.failAt, Reply.Keeps]; simp only [State.spine_mk, State.by_spine, ite_spine, ite_self, modEngine_spine, fastRequest_spine]))

theorem execDspFastsopForce_keeps (p : Packet) (s : State) : OutcomeKeeps s (execDspFastsopForce p s) := by
  exact keeps_run (fun u => replyDspFastsopForce_keeps ..)

theorem replyDspTestPattern_keeps (p : Packet) (s : State) : (replyDspTestPattern p s).Keeps s := by
  unfold replyDspTestPattern
  repeat' (first | rfl | exact Reply.ok_keeps .. | apply checked_keeps | split | exact fun _ => rfl)
  all_goals (first | (intro u; simp only [State.spine_mk, State.by_spine, ite_spine, ite_self, modEngine_spine]; done) | (dsimp only [Reply.ok, Reply.answer, Reply.fail, Reply.failAt, Reply.Keeps]; simp only [State.spine_mk, State.by_spine, ite_spine, ite_self, modEngine_spine]))

theorem execDspTestPattern_keeps (p : Packet) (s : State) : OutcomeKeeps s (execDspTestPattern p s) := by
  exact keeps_run (fun u => replyDspTestPattern_keeps ..)

theorem replyDspQualityGet_keeps (p : Packet) (s : State) : (replyDspQualityGet p s).Keeps s := by
  unfold replyDspQualityGet
  repeat' (first | rfl | exact Reply.answer_keeps .. | apply checked_keeps | split | exact fun _ => rfl)
  all_goals (first | (intro u; simp only [State.spine_mk, State.by_spine, ite_spine, ite_self]; done) | (dsimp only [Reply.ok, Reply.answer, Reply.fail, Reply.failAt, Reply.Keeps]; simp only [State.spine_mk, State.by_spine, ite_spine, ite_self]))

theorem execDspQualityGet_keeps (p : Packet) (s : State) : OutcomeKeeps s (execDspQualityGet p s) := by
  exact keeps_run (fun u => replyDspQualityGet_keeps ..)

/-! ### Machine/Converters -/

theorem execCnvStepStart_keeps (group : Fin 2) (s : State) : OutcomeKeeps s (execCnvStepStart group s) := by
  unfold execCnvStepStart
  dsimp only
  repeat' split
  all_goals (refine keeps_next ?_; simp only [modGroup_spine])

theorem execCnvSpareSettled_keeps (group : Fin 2) (s : State) : OutcomeKeeps s (execCnvSpareSettled group s) := by
  unfold execCnvSpareSettled
  refine keeps_next ?_
  simp only [modGroup_spine]

theorem execCnvMatchDone_keeps (group : Fin 2) (adc : Fin 4) (stats : PairStats) (s : State) : OutcomeKeeps s (execCnvMatchDone group adc stats s) := by
  unfold execCnvMatchDone
  dsimp only
  repeat' split
  all_goals (refine keeps_next ?_; simp only [modAdc_spine, spareFailure_spine])

theorem execCnvTrimDone_keeps (group : Fin 2) (adc : Fin 4) (selfTest : Bool) (s : State) : OutcomeKeeps s (execCnvTrimDone group adc selfTest s) := by
  unfold execCnvTrimDone
  dsimp only
  repeat' split
  all_goals (refine keeps_next ?_; simp only [modAdc_spine, sliceFailure_spine])

theorem execCnvVerifyDone_keeps (group : Fin 2) (adc : Fin 4) (stats : PairStats) (s : State) : OutcomeKeeps s (execCnvVerifyDone group adc stats s) := by
  unfold execCnvVerifyDone
  dsimp only
  repeat' split
  all_goals (refine keeps_next ?_; simp only [modAdc_spine, sliceFailure_spine])

theorem execCnvStatsWindowDone_keeps (group : Fin 2) (adc : Fin 4) (slice : Fin 65) (stats : WindowStats) (s : State) : OutcomeKeeps s (execCnvStatsWindowDone group adc slice stats s) := by
  unfold execCnvStatsWindowDone
  dsimp only
  repeat' split
  all_goals (refine keeps_next ?_; simp only [emit_spine, modAdc_spine, windowAccepted_spine])

theorem execCnvRefreshInterval_keeps (group : Fin 2) (s : State) : OutcomeKeeps s (execCnvRefreshInterval group s) := by
  unfold execCnvRefreshInterval
  dsimp only
  repeat' split
  all_goals (refine keeps_next ?_; simp only [startRefresh_spine])

theorem execCnvRefreshComplete_keeps (group : Fin 2) (s : State) : OutcomeKeeps s (execCnvRefreshComplete group s) := by
  unfold execCnvRefreshComplete
  dsimp only
  repeat' split
  all_goals (refine keeps_next ?_; simp only [modGroup_spine, fileBlock_spine, startRefresh_spine, refreshDone_spine, foldl_spine, implies_true])

theorem execCnvSliceClockLocked_keeps (group : Fin 2) (s : State) : OutcomeKeeps s (execCnvSliceClockLocked group s) := by
  unfold execCnvSliceClockLocked
  dsimp only
  repeat' split
  all_goals (refine keeps_next ?_; simp only [engineStart_spine, txTake_spine, modGroup_spine])

theorem execCnvTsetSaveDue_keeps (group : Fin 2) (set : Fin 8) (converter : Fin 8) (s : State) : OutcomeKeeps s (execCnvTsetSaveDue group set converter s) := by
  unfold execCnvTsetSaveDue
  repeat' split
  all_goals (refine keeps_next ?_; first | rfl | (simp only [saveBlock_spine]; done) | (repeat' split) <;> simp only [State.spine_mk, State.by_spine, ite_spine, ite_self, saveBlock_spine])

theorem replyCnvFgCal_keeps (p : Packet) (s : State) : (replyCnvFgCal p s).Keeps s := by
  unfold replyCnvFgCal
  repeat' (first | rfl | apply checked_keeps | split | exact fun _ => rfl)
  all_goals (first | (intro u; simp only [State.spine_mk, State.by_spine, modGroup_spine, foldl_spine, implies_true]; done) | (dsimp only [Reply.ok, Reply.answer, Reply.fail, Reply.failAt, Reply.Keeps]; simp only [State.spine_mk, State.by_spine, ite_spine, ite_self, modGroup_spine, foldl_spine, implies_true]))

theorem execCnvFgCal_keeps (p : Packet) (s : State) : OutcomeKeeps s (execCnvFgCal p s) := by
  exact keeps_run (fun u => replyCnvFgCal_keeps ..)

theorem replyCnvRefresh_keeps (p : Packet) (s : State) : (replyCnvRefresh p s).Keeps s := by
  unfold replyCnvRefresh
  repeat' (first | rfl | apply checked_keeps | split | exact fun _ => rfl)
  all_goals (first | (intro u; simp only [startRefresh_spine]; done) | (dsimp only [Reply.ok, Reply.answer, Reply.fail, Reply.failAt, Reply.Keeps]; simp only [State.spine_mk, State.by_spine, ite_spine, ite_self, startRefresh_spine]))

theorem execCnvRefresh_keeps (p : Packet) (s : State) : OutcomeKeeps s (execCnvRefresh p s) := by
  exact keeps_run (fun u => replyCnvRefresh_keeps ..)

theorem replyCnvCfgSet_keeps (p : Packet) (s : State) : (replyCnvCfgSet p s).Keeps s := by
  unfold replyCnvCfgSet
  repeat' (first | rfl | exact Reply.ok_keeps .. | apply checked_keeps | split | exact fun _ => rfl)
  all_goals (first | (intro u; simp only [State.spine_mk, State.by_spine, ite_spine, ite_self, modGroup_spine]; done) | (dsimp only [Reply.ok, Reply.answer, Reply.fail, Reply.failAt, Reply.Keeps]; simp only [State.spine_mk, State.by_spine, ite_spine, ite_self, modGroup_spine]))

theorem execCnvCfgSet_keeps (p : Packet) (s : State) : OutcomeKeeps s (execCnvCfgSet p s) := by
  exact keeps_run (fun u => replyCnvCfgSet_keeps ..)

theorem replyCnvTsetRead_keeps (p : Packet) (s : State) : (replyCnvTsetRead p s).Keeps s := by
  unfold replyCnvTsetRead
  repeat' (first | rfl | exact Reply.answer_keeps .. | apply checked_keeps | split | exact fun _ => rfl)
  all_goals (first | (intro u; simp only [State.spine_mk, State.by_spine, ite_spine, ite_self]; done) | (dsimp only [Reply.ok, Reply.answer, Reply.fail, Reply.failAt, Reply.Keeps]; simp only [State.spine_mk, State.by_spine, ite_spine, ite_self]))

theorem execCnvTsetRead_keeps (p : Packet) (s : State) : OutcomeKeeps s (execCnvTsetRead p s) := by
  exact keeps_run (fun u => replyCnvTsetRead_keeps ..)

theorem replyCnvTsetClear_keeps (p : Packet) (s : State) : (replyCnvTsetClear p s).Keeps s := by
  unfold replyCnvTsetClear
  repeat' (first | rfl | exact Reply.ok_keeps .. | apply checked_keeps | split | exact fun _ => rfl)
  all_goals (first | (intro u; simp only [State.spine_mk, State.by_spine, ite_spine, ite_self, logRecord_spine, modGroup_spine]; done) | (dsimp only [Reply.ok, Reply.answer, Reply.fail, Reply.failAt, Reply.Keeps]; simp only [logRecord_spine, modGroup_spine]))

theorem execCnvTsetClear_keeps (p : Packet) (s : State) : OutcomeKeeps s (execCnvTsetClear p s) := by
  exact keeps_run (fun u => replyCnvTsetClear_keeps ..)

theorem replyCnvDacCharRead_keeps (p : Packet) (s : State) : (replyCnvDacCharRead p s).Keeps s := by
  unfold replyCnvDacCharRead
  repeat' (first | rfl | exact Reply.answer_keeps .. | apply checked_keeps | split | exact fun _ => rfl)
  all_goals (first | (intro u; simp only [State.spine_mk, State.by_spine, ite_spine, ite_self]; done) | (dsimp only [Reply.ok, Reply.answer, Reply.fail, Reply.failAt, Reply.Keeps]; simp only [State.spine_mk, State.by_spine, ite_spine, ite_self]))

theorem execCnvDacCharRead_keeps (p : Packet) (s : State) : OutcomeKeeps s (execCnvDacCharRead p s) := by
  exact keeps_run (fun u => replyCnvDacCharRead_keeps ..)

theorem replyCnvLoop_keeps (p : Packet) (s : State) : (replyCnvLoop p s).Keeps s := by
  unfold replyCnvLoop
  repeat' (first | rfl | exact Reply.ok_keeps .. | apply checked_keeps | split | exact fun _ => rfl)
  all_goals (first | (intro u; simp only [State.spine_mk, State.by_spine, ite_spine, ite_self, reacquire_spine, modGroup_spine, pktRefresh_spine]; done) | (dsimp only [Reply.ok, Reply.answer, Reply.fail, Reply.failAt, Reply.Keeps]; simp only [reacquire_spine, modGroup_spine, pktRefresh_spine]))

theorem execCnvLoop_keeps (p : Packet) (s : State) : OutcomeKeeps s (execCnvLoop p s) := by
  exact keeps_run (fun u => replyCnvLoop_keeps ..)

/-! ### Machine/Device -/

theorem execAonPowerUp_keeps (avsSel : Bool) (s : State) : OutcomeKeeps s (execAonPowerUp avsSel s) := by
  unfold execAonPowerUp
  dsimp only
  repeat' split
  all_goals (refine keeps_next ?_; simp only [State.spine_mk, State.by_spine])

theorem execKindlingStart_keeps (bootSel : Bool) (mgmtAddr : BitVec 2) (suppliesOk : Bool) (s : State) : OutcomeKeeps s (execKindlingStart bootSel mgmtAddr suppliesOk s) := by
  unfold execKindlingStart
  dsimp only
  repeat' split
  all_goals (refine keeps_next ?_; simp only [State.spine_mk, State.by_spine])

theorem execSupplyGroupsWithinRange_keeps (s : State) : OutcomeKeeps s (execSupplyGroupsWithinRange s) := by
  unfold execSupplyGroupsWithinRange
  dsimp only
  repeat' split
  all_goals (refine keeps_next ?_; simp only [State.spine_mk, State.by_spine])

theorem execDevLoadCtrlGo_keeps (s : State) : OutcomeKeeps s (execDevLoadCtrlGo s) := by
  unfold execDevLoadCtrlGo
  refine keeps_next ?_
  simp only [loadGo_spine]

theorem execTcImageFetchDone_keeps (s : State) : OutcomeKeeps s (execTcImageFetchDone s) := by
  unfold execTcImageFetchDone
  refine keeps_next ?_
  simp only [fetchDone_spine]

theorem execAcImageFetchDone_keeps (s : State) : OutcomeKeeps s (execAcImageFetchDone s) := by
  unfold execAcImageFetchDone
  refine keeps_next ?_
  simp only [fetchDone_spine]

theorem execTrustPhaseDone_keeps (s : State) : OutcomeKeeps s (execTrustPhaseDone s) := by
  unfold execTrustPhaseDone
  dsimp only
  repeat' split
  all_goals (refine keeps_next ?_; simp only [State.spine_mk, State.by_spine, flashKick_spine, reserveDctr_spine, replayLog_spine, extendChain_spine, modDev])

theorem execAcImageCheckDone_keeps (image : ImageIn) (s : State) : OutcomeKeeps s (execAcImageCheckDone image s) := by
  unfold execAcImageCheckDone
  dsimp only
  repeat' split
  all_goals (refine keeps_next ?_; simp only [State.spine_mk, State.by_spine, hkaStart_spine, extendChain_spine, bootRecord_spine, modDev])

theorem replyDevEngineReset_keeps (p : Packet) (s : State) : (replyDevEngineReset p s).Keeps s := by
  unfold replyDevEngineReset
  apply checked_keeps
  split
  · exact fun u => startEngineReset_spine ..
  · rfl

theorem execDevEngineReset_keeps (p : Packet) (s : State) : OutcomeKeeps s (execDevEngineReset p s) := by
  exact keeps_run (fun u => replyDevEngineReset_keeps ..)

theorem replyDevImageLoad_keeps (p : Packet) (s : State) : (replyDevImageLoad p s).Keeps s := by
  unfold replyDevImageLoad
  repeat' (first | rfl | apply checked_keeps | split | exact fun _ => rfl)
  all_goals (first | (intro u; simp only [State.spine_mk, State.by_spine, ite_spine, ite_self, modDev]; done) | (dsimp only [Reply.ok, Reply.answer, Reply.fail, Reply.failAt, Reply.Keeps]; simp only [State.spine_mk, State.by_spine, ite_spine, ite_self, modDev]))

theorem execDevImageLoad_keeps (p : Packet) (s : State) : OutcomeKeeps s (execDevImageLoad p s) := by
  exact keeps_run (fun u => replyDevImageLoad_keeps ..)

theorem replyDevOpkey_keeps (p : Packet) (s : State) : (replyDevOpkey p s).Keeps s := by
  unfold replyDevOpkey
  dsimp only
  repeat' (first | rfl | exact Reply.ok_keeps .. | apply checked_keeps | split | exact fun _ => rfl)
  all_goals (first | (intro u; simp only [State.spine_mk, State.by_spine, ite_spine, ite_self, logRecord_spine, extendChain_spine, modDev]; done) | (dsimp only [Reply.ok, Reply.answer, Reply.fail, Reply.failAt, Reply.Keeps]; simp only [State.spine_mk, State.by_spine, logRecord_spine, extendChain_spine, modDev]))

theorem execDevOpkey_keeps (p : Packet) (s : State) : OutcomeKeeps s (execDevOpkey p s) := by
  exact keeps_run (fun u => replyDevOpkey_keeps ..)

theorem replyDevAttestQuote_keeps (p : Packet) (s : State) : (replyDevAttestQuote p s).Keeps s := by
  unfold replyDevAttestQuote
  repeat' (first | rfl | exact Reply.answer_keeps .. | apply checked_keeps | split | exact fun _ => rfl)
  all_goals (first | (intro u; simp only [State.spine_mk, State.by_spine, ite_spine, ite_self]; done) | (dsimp only [Reply.ok, Reply.answer, Reply.fail, Reply.failAt, Reply.Keeps]; simp only [State.spine_mk, State.by_spine, ite_spine, ite_self]))

theorem execDevAttestQuote_keeps (p : Packet) (s : State) : OutcomeKeeps s (execDevAttestQuote p s) := by
  exact keeps_run (fun u => replyDevAttestQuote_keeps ..)

theorem replyDevAttestCert_keeps (p : Packet) (s : State) : (replyDevAttestCert p s).Keeps s := by
  unfold replyDevAttestCert
  repeat' (first | rfl | exact Reply.answer_keeps .. | apply checked_keeps | split | exact fun _ => rfl)
  all_goals (first | (intro u; simp only [State.spine_mk, State.by_spine, ite_spine, ite_self]; done) | (dsimp only [Reply.ok, Reply.answer, Reply.fail, Reply.failAt, Reply.Keeps]; simp only [State.spine_mk, State.by_spine, ite_spine, ite_self]))

theorem execDevAttestCert_keeps (p : Packet) (s : State) : OutcomeKeeps s (execDevAttestCert p s) := by
  exact keeps_run (fun u => replyDevAttestCert_keeps ..)

theorem replyDevLockoutDiag_keeps (_p : Packet) (s : State) : (replyDevLockoutDiag _p s).Keeps s := by
  unfold replyDevLockoutDiag
  repeat' (first | rfl | exact Reply.answer_keeps .. | apply checked_keeps | split | exact fun _ => rfl)
  all_goals (first | (intro u; simp only [State.spine_mk, State.by_spine, ite_spine, ite_self]; done) | (dsimp only [Reply.ok, Reply.answer, Reply.fail, Reply.failAt, Reply.Keeps]; simp only [State.spine_mk, State.by_spine, ite_spine, ite_self]))

theorem execDevLockoutDiag_keeps (p : Packet) (s : State) : OutcomeKeeps s (execDevLockoutDiag p s) := by
  exact keeps_run (fun u => replyDevLockoutDiag_keeps ..)

/-! ### Machine/SoftFec -/

theorem execFecBlockArrival_keeps (engine : Fin 2) (bits : Nat) (zeroAt : Option Nat) (s : State) : OutcomeKeeps s (execFecBlockArrival engine bits zeroAt s) := by
  unfold execFecBlockArrival
  dsimp only
  repeat' split
  all_goals (refine keeps_next ?_; simp only [State.spine_mk, State.by_spine, fecRecompute_spine])

theorem execFecIterationBoundary_keeps (s : State) : OutcomeKeeps s (execFecIterationBoundary s) := by
  unfold execFecIterationBoundary
  dsimp only
  repeat' split
  all_goals (refine keeps_next ?_; simp only [endIteration_spine, assignCore_spine, yieldCore_spine, foldl_spine, implies_true])

theorem execFecBlockDelivery_keeps (block : Nat) (result : DecodeResult) (s : State) : OutcomeKeeps s (execFecBlockDelivery block result s) := by
  unfold execFecBlockDelivery
  split
  · exact keeps_next rfl
  · refine keeps_next ?_
    simp only [countFill_spine, countUncorr_spine, State.spine_mk, State.by_spine, modFecEngine_spine, lifeBlock_spine, discardBlocks_spine]

theorem execFecKatDue_keeps (core : Fin 48) (s : State) : OutcomeKeeps s (execFecKatDue core s) := by
  unfold execFecKatDue
  dsimp only
  repeat' split
  all_goals (refine keeps_next ?_; simp only [modCore_spine])

theorem execFecKatComplete_keeps (core : Fin 48) (passed : Bool) (s : State) : OutcomeKeeps s (execFecKatComplete core passed s) := by
  unfold execFecKatComplete
  dsimp only
  repeat' split
  all_goals (refine keeps_next ?_; simp only [modCore_spine, retireCore_spine])

theorem execFecWindowEnd_keeps (engine : Fin 2) (s : State) : OutcomeKeeps s (execFecWindowEnd engine s) := by
  unfold execFecWindowEnd
  dsimp only
  repeat' split
  all_goals (refine keeps_next ?_; simp only [frmWindow_spine, modFecEngine_spine])

theorem execFecCeilingPacingEnd_keeps (s : State) : OutcomeKeeps s (execFecCeilingPacingEnd s) := by
  unfold execFecCeilingPacingEnd
  dsimp only
  repeat' split
  all_goals (refine keeps_next ?_; simp only [State.spine_mk, State.by_spine, ceilingCheck_spine])

theorem execCoreRetestComplete_keeps (core : Fin 48) (passed : Nat) (s : State) : OutcomeKeeps s (execCoreRetestComplete core passed s) := by
  unfold execCoreRetestComplete
  dsimp only
  repeat' split
  all_goals (refine keeps_next ?_; simp only [completeOr_spine, modCore_spine, fecRecompute_spine, logCores_spine])

theorem execPoolSelfcheckComplete_keeps (failed : BitVec 48) (s : State) : OutcomeKeeps s (execPoolSelfcheckComplete failed s) := by
  unfold execPoolSelfcheckComplete
  dsimp only
  repeat' split
  all_goals (refine keeps_next ?_; simp only [State.spine_mk, State.by_spine, ite_spine, ite_self, foldl_spine, implies_true, foldl_spine, modCore_spine, overloadCheck_spine, retireCore_spine])

theorem replyFecCfgSet_keeps (p : Packet) (s : State) : (replyFecCfgSet p s).Keeps s := by
  unfold replyFecCfgSet
  repeat' (first | rfl | exact Reply.ok_keeps .. | apply checked_keeps | split | exact fun _ => rfl)
  all_goals (first | (intro u; simp only [State.spine_mk, State.by_spine, ite_spine, ite_self]; done) | (dsimp only [Reply.ok, Reply.answer, Reply.fail, Reply.failAt, Reply.Keeps]; simp only [State.spine_mk, State.by_spine, ite_spine, ite_self]))

theorem execFecCfgSet_keeps (p : Packet) (s : State) : OutcomeKeeps s (execFecCfgSet p s) := by
  exact keeps_run (fun u => replyFecCfgSet_keeps ..)

theorem replyFecThrSet_keeps (p : Packet) (s : State) : (replyFecThrSet p s).Keeps s := by
  unfold replyFecThrSet
  repeat' (first | rfl | exact Reply.ok_keeps .. | apply checked_keeps | split | exact fun _ => rfl)
  all_goals (first | (intro u; simp only [State.spine_mk, State.by_spine, ite_spine, ite_self, modFecEngine_spine]; done) | (dsimp only [Reply.ok, Reply.answer, Reply.fail, Reply.failAt, Reply.Keeps]; simp only [State.spine_mk, State.by_spine, ite_spine, ite_self, modFecEngine_spine]))

theorem execFecThrSet_keeps (p : Packet) (s : State) : OutcomeKeeps s (execFecThrSet p s) := by
  exact keeps_run (fun u => replyFecThrSet_keeps ..)

theorem replyFecStatsGet_keeps (p : Packet) (s : State) : (replyFecStatsGet p s).Keeps s := by
  unfold replyFecStatsGet
  repeat' (first | rfl | exact Reply.answer_keeps .. | apply checked_keeps | split | exact fun _ => rfl)
  all_goals (first | (intro u; simp only [State.spine_mk, State.by_spine, ite_spine, ite_self]; done) | (dsimp only [Reply.ok, Reply.answer, Reply.fail, Reply.failAt, Reply.Keeps]; simp only [State.spine_mk, State.by_spine, ite_spine, ite_self]))

theorem execFecStatsGet_keeps (p : Packet) (s : State) : OutcomeKeeps s (execFecStatsGet p s) := by
  exact keeps_run (fun u => replyFecStatsGet_keeps ..)

theorem replyFecPoolGet_keeps (_p : Packet) (s : State) : (replyFecPoolGet _p s).Keeps s := by
  unfold replyFecPoolGet
  repeat' (first | rfl | exact Reply.answer_keeps .. | apply checked_keeps | split | exact fun _ => rfl)
  all_goals (first | (intro u; simp only [State.spine_mk, State.by_spine, ite_spine, ite_self]; done) | (dsimp only [Reply.ok, Reply.answer, Reply.fail, Reply.failAt, Reply.Keeps]; simp only [State.spine_mk, State.by_spine, ite_spine, ite_self]))

theorem execFecPoolGet_keeps (p : Packet) (s : State) : OutcomeKeeps s (execFecPoolGet p s) := by
  exact keeps_run (fun u => replyFecPoolGet_keeps ..)

theorem replyFecCoreRetest_keeps (p : Packet) (s : State) : (replyFecCoreRetest p s).Keeps s := by
  unfold replyFecCoreRetest
  repeat' (first | rfl | apply checked_keeps | split | exact fun _ => rfl)
  all_goals (first | (intro u; simp only [State.spine_mk, State.by_spine, ite_spine, ite_self, modCore_spine]; done) | (dsimp only [Reply.ok, Reply.answer, Reply.fail, Reply.failAt, Reply.Keeps]; simp only [State.spine_mk, State.by_spine, ite_spine, ite_self, modCore_spine]))

theorem execFecCoreRetest_keeps (p : Packet) (s : State) : OutcomeKeeps s (execFecCoreRetest p s) := by
  exact keeps_run (fun u => replyFecCoreRetest_keeps ..)

theorem replyFecErrInject_keeps (p : Packet) (s : State) : (replyFecErrInject p s).Keeps s := by
  unfold replyFecErrInject
  repeat' (first | rfl | exact Reply.ok_keeps .. | apply checked_keeps | split | exact fun _ => rfl)
  all_goals (first | (intro u; simp only [State.spine_mk, State.by_spine, ite_spine, ite_self, modFecEngine_spine]; done) | (dsimp only [Reply.ok, Reply.answer, Reply.fail, Reply.failAt, Reply.Keeps]; simp only [State.spine_mk, State.by_spine, ite_spine, ite_self, modFecEngine_spine]))

theorem execFecErrInject_keeps (p : Packet) (s : State) : OutcomeKeeps s (execFecErrInject p s) := by
  exact keeps_run (fun u => replyFecErrInject_keeps ..)

/-! ### Machine/Framing -/

theorem execFrmPmSelWrite_keeps (writer : Writer) (value : Word) (s : State) : OutcomeKeeps s (execFrmPmSelWrite writer value s) := by
  unfold execFrmPmSelWrite
  dsimp only
  repeat' split
  all_goals (refine keeps_next ?_; simp only [State.spine_mk, State.by_spine])

theorem execFrmFrameReceived_keeps (scope : Fin 3) (unit : Fin 256) (frame : FrameIn) (s : State) : OutcomeKeeps s (execFrmFrameReceived scope unit frame s) := by
  unfold execFrmFrameReceived
  dsimp only
  repeat' split
  all_goals (refine keeps_next ?_; simp only [afterFrame_spine, takeDelay_spine, modUnit_spine])

@[simp] theorem tidied_spine (k : Nat) (s : State) : (tidied k s).spine = s.spine := by
  simp only [tidied, State.spine_mk, State.by_spine]

theorem execFrameBoundary_keeps (scope : Fin 3) (unit : Fin 256) (mfas : Nat) (s : State) : OutcomeKeeps s (execFrameBoundary scope unit mfas s) := by
  unfold execFrameBoundary
  dsimp only
  repeat' split
  all_goals (refine keeps_next ?_; first | (simp only [tidied_spine, sendOverhead_spine, clnCifBoundary_spine, cphTribBoundary_spine, engineTidy_spine, foldl_spine, ite_spine, ite_self, modPort_spine, pktRefresh_spine, tribBoundary_spine, unitBoundary_spine, implies_true]; done) | rfl)

theorem execDefectDeclared_keeps (scope : Fin 3) (unit : Fin 256) (codes : BitVec 21) (s : State) : OutcomeKeeps s (execDefectDeclared scope unit codes s) := by
  unfold execDefectDeclared
  refine keeps_next ?_
  simp only [declareDefects_spine, pktRefresh_spine]

theorem execDefectCleared_keeps (scope : Fin 3) (unit : Fin 256) (codes : BitVec 21) (s : State) : OutcomeKeeps s (execDefectCleared scope unit codes s) := by
  unfold execDefectCleared
  refine keeps_next ?_
  simp only [clearDefects_spine, pktRefresh_spine]

theorem execDefectPacingEnd_keeps (scope : Fin 3) (unit : Fin 256) (s : State) : OutcomeKeeps s (execDefectPacingEnd scope unit s) := by
  unfold execDefectPacingEnd
  dsimp only
  repeat' split
  all_goals (refine keeps_next ?_; simp only [modUnit_spine, reportDefects_spine])

theorem replyFrmDefectCfgSet_keeps (p : Packet) (s : State) : (replyFrmDefectCfgSet p s).Keeps s := by
  unfold replyFrmDefectCfgSet
  repeat' (first | rfl | exact Reply.ok_keeps .. | apply checked_keeps | split | exact fun _ => rfl)
  all_goals (first | (intro u; simp only [State.spine_mk, State.by_spine, ite_spine, ite_self, writeCfg_spine]; done) | (dsimp only [Reply.ok, Reply.answer, Reply.fail, Reply.failAt, Reply.Keeps]; simp only [writeCfg_spine]))

theorem execFrmDefectCfgSet_keeps (p : Packet) (s : State) : OutcomeKeeps s (execFrmDefectCfgSet p s) := by
  exact keeps_run (fun u => replyFrmDefectCfgSet_keeps ..)

theorem replyFrmTtiSet_keeps (p : Packet) (s : State) : (replyFrmTtiSet p s).Keeps s := by
  unfold replyFrmTtiSet
  repeat' (first | rfl | exact Reply.ok_keeps .. | apply checked_keeps | split | exact fun _ => rfl)
  all_goals (first | (intro u; simp only [State.spine_mk, State.by_spine, ite_spine, ite_self, writeCfg_spine]; done) | (dsimp only [Reply.ok, Reply.answer, Reply.fail, Reply.failAt, Reply.Keeps]; simp only [State.spine_mk, State.by_spine, ite_spine, ite_self, writeCfg_spine]))

theorem execFrmTtiSet_keeps (p : Packet) (s : State) : OutcomeKeeps s (execFrmTtiSet p s) := by
  exact keeps_run (fun u => replyFrmTtiSet_keeps ..)

theorem replyFrmTtiGet_keeps (p : Packet) (s : State) : (replyFrmTtiGet p s).Keeps s := by
  unfold replyFrmTtiGet
  repeat' (first | rfl | exact Reply.answer_keeps .. | apply checked_keeps | split | exact fun _ => rfl)
  all_goals (first | (intro u; simp only [State.spine_mk, State.by_spine, ite_spine, ite_self]; done) | (dsimp only [Reply.ok, Reply.answer, Reply.fail, Reply.failAt, Reply.Keeps]; simp only [State.spine_mk, State.by_spine, ite_spine, ite_self]))

theorem execFrmTtiGet_keeps (p : Packet) (s : State) : OutcomeKeeps s (execFrmTtiGet p s) := by
  exact keeps_run (fun u => replyFrmTtiGet_keeps ..)

theorem replyFrmCaSet_keeps (p : Packet) (s : State) : (replyFrmCaSet p s).Keeps s := by
  unfold replyFrmCaSet
  repeat' (first | rfl | exact Reply.ok_keeps .. | apply checked_keeps | split | exact fun _ => rfl)
  all_goals (first | (intro u; simp only [State.spine_mk, State.by_spine, ite_spine, ite_self, writeCfg_spine]; done) | (dsimp only [Reply.ok, Reply.answer, Reply.fail, Reply.failAt, Reply.Keeps]; simp only [State.spine_mk, State.by_spine, ite_spine, ite_self, writeCfg_spine]))

theorem execFrmCaSet_keeps (p : Packet) (s : State) : OutcomeKeeps s (execFrmCaSet p s) := by
  exact keeps_run (fun u => replyFrmCaSet_keeps ..)

theorem replyFrmPmCfgSet_keeps (p : Packet) (s : State) : (replyFrmPmCfgSet p s).Keeps s := by
  unfold replyFrmPmCfgSet
  repeat' (first | rfl | exact Reply.ok_keeps .. | apply checked_keeps | split | exact fun _ => rfl)
  all_goals (first | (intro u; simp only [State.spine_mk, State.by_spine, ite_spine, ite_self, changeDayOffset_spine]; done) | (dsimp only [Reply.ok, Reply.answer, Reply.fail, Reply.failAt, Reply.Keeps]; simp only [State.spine_mk, State.by_spine, changeDayOffset_spine]))

theorem execFrmPmCfgSet_keeps (p : Packet) (s : State) : OutcomeKeeps s (execFrmPmCfgSet p s) := by
  exact keeps_run (fun u => replyFrmPmCfgSet_keeps ..)

theorem replyFrmPmRead_keeps (p : Packet) (s : State) : (replyFrmPmRead p s).Keeps s := by
  unfold replyFrmPmRead
  repeat' (first | rfl | exact Reply.answer_keeps .. | apply checked_keeps | split | exact fun _ => rfl)
  all_goals (first | (intro u; simp only [State.spine_mk, State.by_spine, ite_spine, ite_self]; done) | (dsimp only [Reply.ok, Reply.answer, Reply.fail, Reply.failAt, Reply.Keeps]; simp only [State.spine_mk, State.by_spine, ite_spine, ite_self]))

theorem execFrmPmRead_keeps (p : Packet) (s : State) : OutcomeKeeps s (execFrmPmRead p s) := by
  exact keeps_run (fun u => replyFrmPmRead_keeps ..)

theorem replyFrmPmClear_keeps (p : Packet) (s : State) : (replyFrmPmClear p s).Keeps s := by
  unfold replyFrmPmClear
  repeat' (first | rfl | exact Reply.ok_keeps .. | apply checked_keeps | split | exact fun _ => rfl)
  all_goals (first | (intro u; simp only [State.spine_mk, State.by_spine, ite_spine, ite_self]; done) | (dsimp only [Reply.ok, Reply.answer, Reply.fail, Reply.failAt, Reply.Keeps]; simp only [State.spine_mk, State.by_spine, ite_spine, ite_self]))

theorem execFrmPmClear_keeps (p : Packet) (s : State) : OutcomeKeeps s (execFrmPmClear p s) := by
  exact keeps_run (fun u => replyFrmPmClear_keeps ..)

theorem replyFrmTcaSet_keeps (p : Packet) (s : State) : (replyFrmTcaSet p s).Keeps s := by
  unfold replyFrmTcaSet
  repeat' (first | rfl | exact Reply.ok_keeps .. | apply checked_keeps | split | exact fun _ => rfl)
  all_goals (first | (intro u; simp only [State.spine_mk, State.by_spine, ite_spine, ite_self]; done) | (dsimp only [Reply.ok, Reply.answer, Reply.fail, Reply.failAt, Reply.Keeps]; simp only [State.spine_mk, State.by_spine, ite_spine, ite_self]))

theorem execFrmTcaSet_keeps (p : Packet) (s : State) : OutcomeKeeps s (execFrmTcaSet p s) := by
  exact keeps_run (fun u => replyFrmTcaSet_keeps ..)

theorem replyFrmMaintInsert_keeps (p : Packet) (s : State) : (replyFrmMaintInsert p s).Keeps s := by
  unfold replyFrmMaintInsert
  repeat' (first | rfl | exact Reply.ok_keeps .. | apply checked_keeps | split | exact fun _ => rfl)
  all_goals (first | (intro u; simp only [State.spine_mk, State.by_spine, ite_spine, ite_self, modUnit_spine]; done) | (dsimp only [Reply.ok, Reply.answer, Reply.fail, Reply.failAt, Reply.Keeps]; simp only [State.spine_mk, State.by_spine, ite_spine, ite_self, modUnit_spine]))

theorem execFrmMaintInsert_keeps (p : Packet) (s : State) : OutcomeKeeps s (execFrmMaintInsert p s) := by
  exact keeps_run (fun u => replyFrmMaintInsert_keeps ..)

/-! ### Machine/Mapping -/

theorem execMapPlanApply_keeps (engine : Fin 2) (s : State) : OutcomeKeeps s (execMapPlanApply engine s) := by
  unfold execMapPlanApply
  dsimp only
  repeat' split
  all_goals (refine keeps_next ?_; simp only [advanceToTod_spine, applyPart_spine])

theorem execDemapperLocked_keeps (trib : Fin 256) (s : State) : OutcomeKeeps s (execDemapperLocked trib s) := by
  unfold execDemapperLocked
  dsimp only
  repeat' split
  all_goals (refine keeps_next ?_; simp only [modTrib_spine, pktRefresh_spine])

theorem execApsHoldoffExpiry_keeps (working : Fin 256) (s : State) : OutcomeKeeps s (execApsHoldoffExpiry working s) := by
  refine keeps_next (withGroup_spine _ _ (fun g u => ?_) s)
  simp only [ite_spine, ite_self, setApsGroup_spine]

theorem execApsWtrExpiry_keeps (working : Fin 256) (s : State) : OutcomeKeeps s (execApsWtrExpiry working s) := by
  refine keeps_next (withGroup_spine _ _ (fun g u => ?_) s)
  simp only [ite_spine, ite_self, setApsGroup_spine]

theorem execApsSelectorSwitch_keeps (working : Fin 256) (s : State) : OutcomeKeeps s (execApsSelectorSwitch working s) := by
  unfold execApsSelectorSwitch
  dsimp only
  repeat' split
  all_goals (refine keeps_next ?_; first | rfl | (simp only [State.by_spine]; done) | simp [State.by_spine, ite_spine, ite_self, setApsGroup_spine, apsReport_spine, withGroup_spine])

theorem execApsPccReceived_keeps (working : Fin 256) (far : FarEnd) (s : State) : OutcomeKeeps s (execApsPccReceived working far s) := by
  refine keeps_next (withGroup_spine _ _ (fun g u => ?_) s)
  simp only [ite_spine, ite_self, setApsGroup_spine]

theorem execApsMismatchHeld_keeps (working : Fin 256) (s : State) : OutcomeKeeps s (execApsMismatchHeld working s) := by
  refine keeps_next (withGroup_spine _ _ (fun g u => ?_) s)
  simp only [ite_spine, ite_self, setApsGroup_spine, emit_spine]

theorem execApsPacingEnd_keeps (working : Fin 256) (s : State) : OutcomeKeeps s (execApsPacingEnd working s) := by
  refine keeps_next (withGroup_spine _ _ (fun g u => ?_) s)
  simp only [ite_spine, ite_self, setApsGroup_spine, apsReport_spine]

theorem replyMapPlanBegin_keeps (p : Packet) (s : State) : (replyMapPlanBegin p s).Keeps s := by
  unfold replyMapPlanBegin
  repeat' (first | rfl | exact Reply.ok_keeps .. | apply checked_keeps | split | exact fun _ => rfl)
  all_goals (first | (intro u; simp only [State.spine_mk, State.by_spine, ite_spine, ite_self]; done) | (dsimp only [Reply.ok, Reply.answer, Reply.fail, Reply.failAt, Reply.Keeps]; simp only [State.spine_mk, State.by_spine, ite_spine, ite_self]))

theorem execMapPlanBegin_keeps (p : Packet) (s : State) : OutcomeKeeps s (execMapPlanBegin p s) := by
  exact keeps_run (fun u => replyMapPlanBegin_keeps ..)

theorem replyMapPlanLoad_keeps (p : Packet) (s : State) : (replyMapPlanLoad p s).Keeps s := by
  unfold replyMapPlanLoad
  repeat' (first | rfl | exact Reply.fail_keeps .. | exact Reply.ok_keeps .. | apply checked_keeps | split | exact fun _ => rfl)
  all_goals (first | (intro u; simp only [State.spine_mk, State.by_spine, ite_spine, ite_self, foldl_spine, implies_true]; done) | (dsimp only [Reply.ok, Reply.answer, Reply.fail, Reply.failAt, Reply.Keeps]; simp only [State.spine_mk, State.by_spine, ite_spine, ite_self, foldl_spine, implies_true]))

theorem execMapPlanLoad_keeps (p : Packet) (s : State) : OutcomeKeeps s (execMapPlanLoad p s) := by
  exact keeps_run (fun u => replyMapPlanLoad_keeps ..)

theorem replyMapPlanCommit_keeps (p : Packet) (s : State) : (replyMapPlanCommit p s).Keeps s := by
  unfold replyMapPlanCommit
  repeat' (first | rfl | exact Reply.answer_keeps .. | exact Reply.fail_keeps .. | apply checked_keeps | split | exact fun _ => rfl)
  all_goals (first | (intro u; simp only [State.spine_mk, State.by_spine, ite_spine, ite_self]; done) | (dsimp only [Reply.ok, Reply.answer, Reply.fail, Reply.failAt, Reply.Keeps]; simp only [State.spine_mk, State.by_spine, ite_spine, ite_self]))

theorem execMapPlanCommit_keeps (p : Packet) (s : State) : OutcomeKeeps s (execMapPlanCommit p s) := by
  exact keeps_run (fun u => replyMapPlanCommit_keeps ..)

theorem replyMapPlanAbort_keeps (_p : Packet) (s : State) : (replyMapPlanAbort _p s).Keeps s := by
  unfold replyMapPlanAbort
  repeat' (first | rfl | exact Reply.fail_keeps .. | exact Reply.ok_keeps .. | apply checked_keeps | split | exact fun _ => rfl)
  all_goals (first | (intro u; simp only [State.spine_mk, State.by_spine, ite_spine, ite_self, planAbort_spine]; done) | (dsimp only [Reply.ok, Reply.answer, Reply.fail, Reply.failAt, Reply.Keeps]; simp only [planAbort_spine]))

theorem execMapPlanAbort_keeps (p : Packet) (s : State) : OutcomeKeeps s (execMapPlanAbort p s) := by
  exact keeps_run (fun u => replyMapPlanAbort_keeps ..)

theorem replyMapPlanGet_keeps (p : Packet) (s : State) : (replyMapPlanGet p s).Keeps s := by
  unfold replyMapPlanGet
  repeat' (first | rfl | exact Reply.answer_keeps .. | apply checked_keeps | split | exact fun _ => rfl)
  all_goals (first | (intro u; simp only [State.spine_mk, State.by_spine, ite_spine, ite_self]; done) | (dsimp only [Reply.ok, Reply.answer, Reply.fail, Reply.failAt, Reply.Keeps]; simp only [State.spine_mk, State.by_spine, ite_spine, ite_self]))

theorem execMapPlanGet_keeps (p : Packet) (s : State) : OutcomeKeeps s (execMapPlanGet p s) := by
  exact keeps_run (fun u => replyMapPlanGet_keeps ..)

theorem replyApsCfgSet_keeps (p : Packet) (s : State) : (replyApsCfgSet p s).Keeps s := by
  unfold replyApsCfgSet
  dsimp only
  repeat' (first | rfl | exact Reply.failAt_keeps .. | exact Reply.fail_keeps .. | exact Reply.ok_keeps .. | apply checked_keeps | split | exact fun _ => rfl)
  all_goals (first | (intro u; simp only [State.spine_mk, State.by_spine, ite_spine, ite_self, setApsGroup_spine]; done) | (dsimp only [Reply.ok, Reply.answer, Reply.fail, Reply.failAt, Reply.Keeps]; simp only [State.spine_mk, State.by_spine, ite_spine, ite_self, setApsGroup_spine]))

theorem execApsCfgSet_keeps (p : Packet) (s : State) : OutcomeKeeps s (execApsCfgSet p s) := by
  exact keeps_run (fun u => replyApsCfgSet_keeps ..)

theorem replyApsCmd_keeps (p : Packet) (s : State) : (replyApsCmd p s).Keeps s := by
  unfold replyApsCmd
  dsimp only
  repeat' (first | rfl | exact Reply.failAt_keeps .. | exact Reply.fail_keeps .. | exact Reply.ok_keeps .. | apply checked_keeps | split | exact fun _ => rfl)
  all_goals (first | (intro u; simp only [State.spine_mk, State.by_spine, ite_spine, ite_self, setApsGroup_spine]; done) | (dsimp only [Reply.ok, Reply.answer, Reply.fail, Reply.failAt, Reply.Keeps]; simp only [State.spine_mk, State.by_spine, ite_spine, ite_self, setApsGroup_spine]))

theorem execApsCmd_keeps (p : Packet) (s : State) : OutcomeKeeps s (execApsCmd p s) := by
  exact keeps_run (fun u => replyApsCmd_keeps ..)

theorem replyApsStatusGet_keeps (p : Packet) (s : State) : (replyApsStatusGet p s).Keeps s := by
  unfold replyApsStatusGet
  dsimp only
  repeat' (first | rfl | exact Reply.answer_keeps .. | exact Reply.failAt_keeps .. | exact Reply.fail_keeps .. | apply checked_keeps | split | exact fun _ => rfl)
  all_goals (first | (intro u; simp only [State.spine_mk, State.by_spine, ite_spine, ite_self]; done) | (dsimp only [Reply.ok, Reply.answer, Reply.fail, Reply.failAt, Reply.Keeps]; simp only [State.spine_mk, State.by_spine, ite_spine, ite_self]))

theorem execApsStatusGet_keeps (p : Packet) (s : State) : OutcomeKeeps s (execApsStatusGet p s) := by
  exact keeps_run (fun u => replyApsStatusGet_keeps ..)

/-! ### Machine/PeerLink -/

theorem execPlkLaneCdrLocked_keeps (lane : Fin 16) (s : State) : OutcomeKeeps s (execPlkLaneCdrLocked lane s) := by
  unfold execPlkLaneCdrLocked
  repeat' split
  all_goals (refine keeps_next ?_; first | rfl | (simp only [modPeer_spine, plkProgress_spine]; done) | (repeat' split) <;> simp only [State.spine_mk, State.by_spine, ite_spine, ite_self, modPeer_spine, plkProgress_spine])

theorem execPlkDfeConverged_keeps (lane : Fin 16) (s : State) : OutcomeKeeps s (execPlkDfeConverged lane s) := by
  unfold execPlkDfeConverged
  repeat' split
  all_goals (refine keeps_next ?_; first | rfl | (simp only [modPeer_spine, plkProgress_spine]; done) | (repeat' split) <;> simp only [State.spine_mk, State.by_spine, ite_spine, ite_self, modPeer_spine, plkProgress_spine])

theorem execPlkLaneLoss_keeps (lane : Fin 16) (s : State) : OutcomeKeeps s (execPlkLaneLoss lane s) := by
  unfold execPlkLaneLoss
  dsimp only
  repeat' split
  all_goals (refine keeps_next ?_; simp only [modPeer_spine, plkProgress_spine])

theorem execPlkMarkerReceived_keeps (lane : Fin 16) (marker : MarkerIn) (s : State) : OutcomeKeeps s (execPlkMarkerReceived lane marker s) := by
  unfold execPlkMarkerReceived
  dsimp only
  repeat' split
  all_goals (refine keeps_next ?_; first | rfl | simp only [plkMirror_spine, State.spine_mk, State.by_spine, ite_spine, ite_self, modPeer_spine, plkProgress_spine])

theorem execPlkMarkerPeriodStart_keeps (stuffed : List Nat) (s : State) : OutcomeKeeps s (execPlkMarkerPeriodStart stuffed s) := by
  unfold execPlkMarkerPeriodStart
  dsimp only
  repeat' split
  all_goals (refine keeps_next ?_; first | rfl | simp only [plkMirror_spine, State.spine_mk, State.by_spine, plkRefresh_spine, plkProgress_spine, lanesEvent_spine])

theorem execPlkBlockTransmit_keeps (ready : List TribBlock) (s : State) : OutcomeKeeps s (execPlkBlockTransmit ready s) := by
  unfold execPlkBlockTransmit
  dsimp only
  repeat' split
  all_goals (refine keeps_next ?_; first | rfl | simp only [State.spine_mk, State.by_spine, plkApsDue_spine, sendBlock_spine, sendTrib_spine, accrue_spine])

theorem execPlkTribBlockReceived_keeps (chan : Fin 256) (block : BlockIn) (s : State) : OutcomeKeeps s (execPlkTribBlockReceived chan block s) := by
  exact keeps_next (receiveBlock_spine ..)

theorem execPlkApsBlockReceived_keeps (block : BlockIn) (entries : List (Nat × Byte)) (s : State) : OutcomeKeeps s (execPlkApsBlockReceived block entries s) := by
  exact keeps_next (receiveBlock_spine ..)

theorem execPlkHelloReceived_keeps (hello : HelloIn) (s0 : State) : OutcomeKeeps s0 (execPlkHelloReceived hello s0) := by
  exact keeps_next (receiveBlock_spine ..)

theorem execPlkHelloTimer_keeps (s : State) : OutcomeKeeps s (execPlkHelloTimer s) := by
  unfold execPlkHelloTimer
  dsimp only
  repeat' split
  all_goals (refine keeps_next ?_; simp only [State.spine_mk, State.by_spine])

theorem execPlkApsRefreshTimer_keeps (s : State) : OutcomeKeeps s (execPlkApsRefreshTimer s) := by
  unfold execPlkApsRefreshTimer
  dsimp only
  repeat' split
  all_goals (refine keeps_next ?_; simp only [State.spine_mk, State.by_spine])

theorem execPlkApsEntryTimeout_keeps (working : Fin 256) (s : State) : OutcomeKeeps s (execPlkApsEntryTimeout working s) := by
  unfold execPlkApsEntryTimeout
  dsimp only
  repeat' split
  all_goals (refine keeps_next ?_; simp only [State.spine_mk, State.by_spine, plkRefresh_spine])

theorem execPlkHelloTimeout_keeps (s : State) : OutcomeKeeps s (execPlkHelloTimeout s) := by
  unfold execPlkHelloTimeout
  repeat' split
  all_goals (refine keeps_next ?_; first | rfl | (simp only [setPlk_spine]; done) | (repeat' split) <;> simp only [State.spine_mk, State.by_spine, ite_spine, ite_self, setPlk_spine])

theorem replyPlkCfgSet_keeps (p : Packet) (s : State) : (replyPlkCfgSet p s).Keeps s := by
  unfold replyPlkCfgSet
  repeat' (first | rfl | exact Reply.ok_keeps .. | apply checked_keeps | split | exact fun _ => rfl)
  all_goals (first | (intro u; simp only [State.spine_mk, State.by_spine, ite_spine, ite_self, plkRefresh_spine, plkProgress_spine, plkStart_spine, plkStop_spine]; done) | (dsimp only [Reply.ok, Reply.answer, Reply.fail, Reply.failAt, Reply.Keeps]; simp only [State.spine_mk, State.by_spine, plkRefresh_spine, plkProgress_spine, plkStart_spine, plkStop_spine]))

theorem execPlkCfgSet_keeps (p : Packet) (s : State) : OutcomeKeeps s (execPlkCfgSet p s) := by
  exact keeps_run (fun u => replyPlkCfgSet_keeps ..)

theorem replyPlkLaneSet_keeps (p : Packet) (s : State) : (replyPlkLaneSet p s).Keeps s := by
  unfold replyPlkLaneSet
  repeat' (first | rfl | exact Reply.ok_keeps .. | apply checked_keeps | split | exact fun _ => rfl)
  all_goals (first | (intro u; simp only [State.spine_mk, State.by_spine, ite_spine, ite_self, modPeer_spine]; done) | (dsimp only [Reply.ok, Reply.answer, Reply.fail, Reply.failAt, Reply.Keeps]; simp only [State.spine_mk, State.by_spine, ite_spine, ite_self, modPeer_spine]))

theorem execPlkLaneSet_keeps (p : Packet) (s : State) : OutcomeKeeps s (execPlkLaneSet p s) := by
  exact keeps_run (fun u => replyPlkLaneSet_keeps ..)

theorem replyPlkLoop_keeps (p : Packet) (s : State) : (replyPlkLoop p s).Keeps s := by
  unfold replyPlkLoop
  repeat' (first | rfl | exact Reply.ok_keeps .. | apply checked_keeps | split | exact fun _ => rfl)
  all_goals (first | (intro u; simp only [State.spine_mk, State.by_spine, ite_spine, ite_self, plkSetLoop_spine]; done) | (dsimp only [Reply.ok, Reply.answer, Reply.fail, Reply.failAt, Reply.Keeps]; simp only [plkSetLoop_spine]))

theorem execPlkLoop_keeps (p : Packet) (s : State) : OutcomeKeeps s (execPlkLoop p s) := by
  exact keeps_run (fun u => replyPlkLoop_keeps ..)

theorem replyPlkStatusGet_keeps (_p : Packet) (s : State) : (replyPlkStatusGet _p s).Keeps s := by
  unfold replyPlkStatusGet
  repeat' (first | rfl | exact Reply.answer_keeps .. | apply checked_keeps | split | exact fun _ => rfl)
  all_goals (first | (intro u; simp only [State.spine_mk, State.by_spine, ite_spine, ite_self]; done) | (dsimp only [Reply.ok, Reply.answer, Reply.fail, Reply.failAt, Reply.Keeps]; simp only [State.spine_mk, State.by_spine, ite_spine, ite_self]))

theorem execPlkStatusGet_keeps (p : Packet) (s : State) : OutcomeKeeps s (execPlkStatusGet p s) := by
  exact keeps_run (fun u => replyPlkStatusGet_keeps ..)

/-! ### Machine/Packet -/

theorem execPktFrameReceived_keeps (port : Fin 288) (frame : RxFrame) (s : State) : OutcomeKeeps s (execPktFrameReceived port frame s) := by
  unfold execPktFrameReceived
  dsimp only
  repeat' split
  all_goals (refine keeps_next ?_; simp only [countRx, modLive_spine, statDrop_spine, admitFrame_spine])

@[simp] theorem loseDeficits_spine (q : Nat) (s : State) : (loseDeficits q s).spine = s.spine := by
  simp only [loseDeficits, State.spine_mk, State.by_spine, foldl_spine, modShape_spine, implies_true]

theorem chooseInClass_spine {q c : Nat} {excess : Bool} {s : State} {r : Nat × State} (h : chooseInClass q c excess s = some r) :
    r.2.spine = s.spine := by
  unfold chooseInClass at h
  dsimp only at h
  split at h
  · cases h
  split at h
  · cases h
  · cases h
    simp only [modShape_spine, putDeficits_spine, State.spine_mk, State.by_spine]

theorem classCandidate_spine {q c : Nat} {excess : Bool} {s : State} {r : Nat × State} (h : classCandidate q c excess s = some r) :
    r.2.spine = s.spine := by
  unfold classCandidate at h
  split at h
  · split at h
    · cases h; rfl
    · cases h
  · obtain ⟨x, hx, rfl⟩ := Option.map_eq_some_iff.mp h
    exact (modPort_spine ..).trans (chooseInClass_spine hx)

/-- The state a visit leaves. -/
def Visit.after : Visit → State
  | .nothing s => s
  | .dropped s => s
  | .send _ _ s => s

@[simp] theorem countStopped_spine (ingress : Nat) (s : State) : (countStopped ingress s).spine = s.spine := by
  simp only [countStopped, ite_spine, ite_self, modCphTrib_spine]

theorem visitClass_spine (q c : Nat) (excess : Bool) (s : State) : (visitClass q c excess s).after.spine = s.spine := by
  unfold visitClass
  split
  · rfl
  rename_i n s1 h
  have h1 : s1.spine = s.spine := classCandidate_spine h
  split
  · exact h1
  split
  · dsimp only [Visit.after]
    rw [modLive_spine, dropFrame_spine, h1]
  split
  · dsimp only [Visit.after]
    rw [dropOversize_spine, h1]
  split
  · exact h1
  split
  · dsimp only [Visit.after]
    rw [countStopped_spine, modLive_spine, dropFrame_spine, h1]
  split
  · dsimp only [Visit.after]
    rw [reportCorrupt_spine, dropFrame_spine, h1]
  split
  · dsimp only [Visit.after]
    rw [reportCorrupt_spine, ← h1]
    exact dropFrame_spine ..
  · exact h1

theorem visitClasses_spine (q : Nat) (excess : Bool) (l : List Nat) (s : State) :
    (visitClasses q excess l s).after.spine = s.spine := by
  induction l generalizing s with
  | nil => rfl
  | cons c l ih =>
    unfold visitClasses
    have h := visitClass_spine q c excess s
    split
    · rename_i s1 e
      rw [e] at h
      exact (ih s1).trans h
    · exact h

theorem standCandidate_spine (q c : Nat) (excess : Bool) (s : State) : (standCandidate q c excess s).after.spine = s.spine := by
  unfold standCandidate
  split
  · rfl
  rename_i n s1 h
  have h1 : s1.spine = s.spine := classCandidate_spine h
  split
  · exact h1
  split
  · exact (dropOversize_spine ..).trans h1
  · exact h1

theorem standAll_spine (q : Nat) (excess : Bool) (l : List Nat) (s : State) : (standAll q excess l s).after.spine = s.spine := by
  induction l generalizing s with
  | nil => rfl
  | cons c l ih =>
    unfold standAll
    have h := standCandidate_spine q c excess s
    split
    · rename_i s1 e
      rw [e] at h
      exact (ih s1).trans h
    · exact h

theorem serveShared_spine (q : Nat) (excess : Bool) (s : State) : (serveShared q excess s).after.spine = s.spine := by
  unfold serveShared
  dsimp only
  split
  · exact visitClasses_spine ..
  · exact (visitClass_spine ..).trans ((modPort_spine ..).trans rfl)

theorem visitShared_spine (q : Nat) (excess : Bool) (s : State) : (visitShared q excess s).after.spine = s.spine := by
  unfold visitShared
  have h := standAll_spine q excess (sharedClasses (s.port q)) s
  split
  · rename_i s1 e
    rw [e] at h
    exact (serveShared_spine ..).trans h
  · exact h

theorem runPass_spine (q : Nat) (excess : Bool) (s : State) : (runPass q excess s).after.spine = s.spine := by
  unfold runPass
  have h := visitClasses_spine q excess (strictClasses (s.port q)) s
  split
  · rename_i s1 e
    rw [e] at h
    exact (visitShared_spine ..).trans h
  · exact h

theorem choose_spine (q n : Nat) (s : State) : (choose q n s).after.spine = s.spine := by
  induction n generalizing s with
  | zero => rfl
  | succ n ih =>
    unfold choose
    have h := (runPass_spine q false (loseDeficits q s)).trans (loseDeficits_spine q s)
    split
    · rename_i e
      rw [e] at h
      exact h
    · rename_i e
      rw [e] at h
      exact (ih _).trans h
    · rename_i s1 e
      rw [e] at h
      have h2 := (runPass_spine q true s1).trans h
      split
      · rename_i e2
        rw [e2] at h2
        exact (ih _).trans h2
      · exact h2

theorem execPktTxOpportunity_keeps (port : Fin 288) (read : TxRead) (s : State) :
    OutcomeKeeps s (execPktTxOpportunity port read s) := by
  unfold execPktTxOpportunity
  dsimp only
  split
  · exact keeps_next rfl
  have h := choose_spine port.val (s.pkt.frames.length + 1) s
  split
  · rename_i e; rw [e] at h; exact keeps_next h
  · rename_i e; rw [e] at h; exact keeps_next h
  · rename_i e
    rw [e] at h
    have h1 : (State.spine _) = s.spine := h
    split
    · refine keeps_next ?_
      simp only [reportCorrupt_spine, State.spine_mk, State.by_spine, dropFrame_spine]
      exact h1
    · refine keeps_next ?_
      simp only [reportCorrupt_spine, State.spine_mk, State.by_spine, sendFrame_spine]
      exact h1
    · refine keeps_next ?_
      simp only [ite_spine, countStopped_spine, sendFrame_spine, ite_self]
      exact h1

theorem execPktFineWheelSlot_keeps (slot : Fin 4096) (s : State) : OutcomeKeeps s (execPktFineWheelSlot slot s) := by
  unfold execPktFineWheelSlot
  dsimp only
  repeat' split
  all_goals (refine keeps_next ?_; simp only [State.spine_mk, State.by_spine, advancePs_spine])

theorem execPktCoarseWheelSlot_keeps (slot : Fin 4096) (s : State) : OutcomeKeeps s (execPktCoarseWheelSlot slot s) := by
  unfold execPktCoarseWheelSlot
  dsimp only
  repeat' split
  all_goals (refine keeps_next ?_; simp only [State.spine_mk, State.by_spine, advancePs_spine])

theorem execPktGateEntryEnd_keeps (port : Fin 288) (s : State) : OutcomeKeeps s (execPktGateEntryEnd port s) := by
  unfold execPktGateEntryEnd
  dsimp only
  repeat' split
  all_goals (refine keeps_next ?_; simp only [advanceToUnits_spine, modPort_spine])

theorem execPktGateCycleStart_keeps (port : Fin 288) (s : State) : OutcomeKeeps s (execPktGateCycleStart port s) := by
  unfold execPktGateCycleStart
  dsimp only
  repeat' split
  all_goals (refine keeps_next ?_; simp only [completeOr_spine, advanceToUnits_spine, modPort_spine])

theorem execPktGateListStart_keeps (port : Fin 288) (s : State) : OutcomeKeeps s (execPktGateListStart port s) := by
  unfold execPktGateListStart restartList startPending
  dsimp only
  repeat' split
  all_goals (refine keeps_next ?_; simp only [emit_spine, completeOr_spine, advanceToUnits_spine, modPort_spine])

theorem execPktInitComplete_keeps (s : State) : OutcomeKeeps s (execPktInitComplete s) := by
  unfold execPktInitComplete
  dsimp only
  repeat' split
  all_goals (refine keeps_next ?_; simp only [State.spine_mk, State.by_spine, retireTile_spine, retireBank_spine, foldl_spine, implies_true])

theorem replyPktPortSet_keeps (p : Packet) (s : State) : (replyPktPortSet p s).Keeps s := by
  unfold replyPktPortSet
  repeat' (first | rfl | exact Reply.ok_keeps .. | apply checked_keeps | split | exact fun _ => rfl)
  all_goals (first | (intro u; simp only [State.spine_mk, State.by_spine, ite_spine, ite_self, modPort_spine]; done) | (dsimp only [Reply.ok, Reply.answer, Reply.fail, Reply.failAt, Reply.Keeps]; simp only [State.spine_mk, State.by_spine, ite_spine, ite_self, modPort_spine]))

theorem execPktPortSet_keeps (p : Packet) (s : State) : OutcomeKeeps s (execPktPortSet p s) := by
  exact keeps_run (fun u => replyPktPortSet_keeps ..)

theorem replyPktEntitySet_keeps (p : Packet) (s : State) : (replyPktEntitySet p s).Keeps s := by
  unfold replyPktEntitySet
  repeat' (first | rfl | exact Reply.ok_keeps .. | apply checked_keeps | split | exact fun _ => rfl)
  all_goals (first | (intro u; simp only [State.spine_mk, State.by_spine, ite_spine, ite_self, foldl_spine, implies_true]; done) | (dsimp only [Reply.ok, Reply.answer, Reply.fail, Reply.failAt, Reply.Keeps]; simp only [State.spine_mk, State.by_spine, ite_spine, ite_self, foldl_spine, implies_true]))

theorem execPktEntitySet_keeps (p : Packet) (s : State) : OutcomeKeeps s (execPktEntitySet p s) := by
  exact keeps_run (fun u => replyPktEntitySet_keeps ..)

theorem replyPktEntityGet_keeps (p : Packet) (s : State) : (replyPktEntityGet p s).Keeps s := by
  unfold replyPktEntityGet
  repeat' (first | rfl | exact Reply.answer_keeps .. | apply checked_keeps | split | exact fun _ => rfl)
  all_goals (first | (intro u; simp only [State.spine_mk, State.by_spine, ite_spine, ite_self]; done) | (dsimp only [Reply.ok, Reply.answer, Reply.fail, Reply.failAt, Reply.Keeps]; simp only [State.spine_mk, State.by_spine, ite_spine, ite_self]))

theorem execPktEntityGet_keeps (p : Packet) (s : State) : OutcomeKeeps s (execPktEntityGet p s) := by
  exact keeps_run (fun u => replyPktEntityGet_keeps ..)

theorem addRules_spine (rs : List (RuleKey × Nat)) (n : Nat) (s : State) : (addRules rs n s).2.spine = s.spine := by
  induction rs generalizing n s with
  | nil => rfl
  | cons r rs ih =>
    unfold addRules
    dsimp only
    split
    · exact (ih _ _).trans rfl
    split
    · rfl
    split
    · exact (ih _ _).trans rfl
    · rfl

theorem replyPktRuleAdd_keeps (p : Packet) (s : State) : (replyPktRuleAdd p s).Keeps s := by
  unfold replyPktRuleAdd
  exact checked_keeps (addRules_spine ..)

theorem execPktRuleAdd_keeps (p : Packet) (s : State) : OutcomeKeeps s (execPktRuleAdd p s) := by
  exact keeps_run (fun u => replyPktRuleAdd_keeps ..)

theorem replyPktRuleDel_keeps (p : Packet) (s : State) : (replyPktRuleDel p s).Keeps s := by
  unfold replyPktRuleDel
  repeat' (first | rfl | exact Reply.answer_keeps .. | apply checked_keeps | split | exact fun _ => rfl)
  all_goals (first | (intro u; simp only [State.spine_mk, State.by_spine, ite_spine, ite_self]; done) | (dsimp only [Reply.ok, Reply.answer, Reply.fail, Reply.failAt, Reply.Keeps]; simp only [State.spine_mk, State.by_spine, ite_spine, ite_self]))

theorem execPktRuleDel_keeps (p : Packet) (s : State) : OutcomeKeeps s (execPktRuleDel p s) := by
  exact keeps_run (fun u => replyPktRuleDel_keeps ..)

theorem replyPktGateLoad_keeps (p : Packet) (s : State) : (replyPktGateLoad p s).Keeps s := by
  unfold replyPktGateLoad
  repeat' (first | rfl | exact Reply.ok_keeps .. | apply checked_keeps | split | exact fun _ => rfl)
  all_goals (first | (intro u; simp only [State.spine_mk, State.by_spine, ite_spine, ite_self, modPort_spine, foldl_spine, implies_true]; done) | (dsimp only [Reply.ok, Reply.answer, Reply.fail, Reply.failAt, Reply.Keeps]; simp only [State.spine_mk, State.by_spine, ite_spine, ite_self, modPort_spine, foldl_spine, implies_true]))

theorem execPktGateLoad_keeps (p : Packet) (s : State) : OutcomeKeeps s (execPktGateLoad p s) := by
  exact keeps_run (fun u => replyPktGateLoad_keeps ..)

theorem replyPktGateSet_keeps (p : Packet) (s : State) : (replyPktGateSet p s).Keeps s := by
  unfold replyPktGateSet
  repeat' (first | rfl | exact Reply.fail_keeps .. | exact Reply.ok_keeps .. | apply checked_keeps | split | exact fun _ => rfl)
  all_goals (first | (intro u; simp only [State.spine_mk, State.by_spine, ite_spine, ite_self, modPort_spine, gateCancel_spine]; done) | (dsimp only [Reply.ok, Reply.answer, Reply.fail, Reply.failAt, Reply.Keeps]; simp only [gateCancel_spine]))

theorem execPktGateSet_keeps (p : Packet) (s : State) : OutcomeKeeps s (execPktGateSet p s) := by
  exact keeps_run (fun u => replyPktGateSet_keeps ..)

theorem replyPktStatsGet_keeps (p : Packet) (s : State) : (replyPktStatsGet p s).Keeps s := by
  unfold replyPktStatsGet
  repeat' (first | rfl | exact Reply.answer_keeps .. | apply checked_keeps | split | exact fun _ => rfl)
  all_goals (first | (intro u; simp only [State.spine_mk, State.by_spine, ite_spine, ite_self]; done) | (dsimp only [Reply.ok, Reply.answer, Reply.fail, Reply.failAt, Reply.Keeps]; simp only [State.spine_mk, State.by_spine, ite_spine, ite_self]))

theorem execPktStatsGet_keeps (p : Packet) (s : State) : OutcomeKeeps s (execPktStatsGet p s) := by
  exact keeps_run (fun u => replyPktStatsGet_keeps ..)

/-! ### Machine/Monitor -/

@[simp] theorem outputSample_spine (c : Nat) (y : Int) (s : State) : (outputSample c y s).spine = s.spine := by
  simp only [outputSample, addSample_spine, envCross_spine, ite_spine, ite_self, sendFsop_spine, modChan_spine, closeFull_spine]

theorem execMonOutputSample_keeps (chan : Fin 16) (inputs : List Int) (s : State) : OutcomeKeeps s (execMonOutputSample chan inputs s) := by
  unfold execMonOutputSample
  dsimp only
  repeat' split
  all_goals (refine keeps_next ?_; first | (simp only [outputSample_spine, modChan_spine]; done) | rfl)

theorem execMonFsopRepeat_keeps (engine : Fin 2) (s : State) : OutcomeKeeps s (execMonFsopRepeat engine s) := by
  unfold execMonFsopRepeat
  dsimp only
  repeat' split
  all_goals (refine keeps_next ?_; simp only [sendFsop_spine])

theorem execMonChainFilled_keeps (chan : Fin 16) (s : State) : OutcomeKeeps s (execMonChainFilled chan s) := by
  unfold execMonChainFilled
  refine keeps_next ?_
  simp only [modChan_spine]

theorem execMonDetectorWindowEnd_keeps (chan : Fin 16) (isRms : Bool) (s : State) : OutcomeKeeps s (execMonDetectorWindowEnd chan isRms s) := by
  unfold execMonDetectorWindowEnd
  dsimp only
  repeat' split
  all_goals (refine keeps_next ?_; simp only [closePeak_spine, closeRms_spine])

theorem execMonRecordWrite_keeps (chan : Fin 16) (s : State) : OutcomeKeeps s (execMonRecordWrite chan s) := by
  unfold execMonRecordWrite
  refine keeps_next ?_
  simp only [ite_spine, ite_self, flushRecord_spine]

theorem replyMonChSet_keeps (p : Packet) (s : State) : (replyMonChSet p s).Keeps s := by
  unfold replyMonChSet
  repeat' (first | rfl | exact Reply.ok_keeps .. | apply checked_keeps | split | exact fun _ => rfl)
  all_goals (dsimp only [Reply.ok, Reply.answer, Reply.fail, Reply.failAt, Reply.Keeps]; simp only [storeChan, ite_spine, ite_self, modChan_spine, takeDetectors_spine])

theorem execMonChSet_keeps (p : Packet) (s : State) : OutcomeKeeps s (execMonChSet p s) := by
  exact keeps_run (fun u => replyMonChSet_keeps ..)

theorem replyMonFsopSet_keeps (p : Packet) (s : State) : (replyMonFsopSet p s).Keeps s := by
  unfold replyMonFsopSet
  repeat' (first | rfl | exact Reply.ok_keeps .. | apply checked_keeps | split | exact fun _ => rfl)
  all_goals (first | (intro u; simp only [State.spine_mk, State.by_spine, ite_spine, ite_self, modFsop_spine]; done) | (dsimp only [Reply.ok, Reply.answer, Reply.fail, Reply.failAt, Reply.Keeps]; simp only [State.spine_mk, State.by_spine, ite_spine, ite_self, modFsop_spine]))

theorem execMonFsopSet_keeps (p : Packet) (s : State) : OutcomeKeeps s (execMonFsopSet p s) := by
  exact keeps_run (fun u => replyMonFsopSet_keeps ..)

theorem replyMonDetGet_keeps (p : Packet) (s : State) : (replyMonDetGet p s).Keeps s := by
  unfold replyMonDetGet
  repeat' (first | rfl | exact Reply.answer_keeps .. | apply checked_keeps | split | exact fun _ => rfl)
  all_goals (first | (intro u; simp only [State.spine_mk, State.by_spine, ite_spine, ite_self]; done) | (dsimp only [Reply.ok, Reply.answer, Reply.fail, Reply.failAt, Reply.Keeps]; simp only [State.spine_mk, State.by_spine, ite_spine, ite_self]))

theorem execMonDetGet_keeps (p : Packet) (s : State) : OutcomeKeeps s (execMonDetGet p s) := by
  exact keeps_run (fun u => replyMonDetGet_keeps ..)

theorem replyMonRingSet_keeps (p : Packet) (s : State) : (replyMonRingSet p s).Keeps s := by
  unfold replyMonRingSet
  repeat' (first | rfl | exact Reply.ok_keeps .. | apply checked_keeps | split | exact fun _ => rfl)
  all_goals (first | (intro u; simp only [State.spine_mk, State.by_spine, ite_spine, ite_self, modRing_spine]; done) | (dsimp only [Reply.ok, Reply.answer, Reply.fail, Reply.failAt, Reply.Keeps]; simp only [State.spine_mk, State.by_spine, ite_spine, ite_self, modRing_spine]))

theorem execMonRingSet_keeps (p : Packet) (s : State) : OutcomeKeeps s (execMonRingSet p s) := by
  exact keeps_run (fun u => replyMonRingSet_keeps ..)

theorem execDmaRingHeadWrite_keeps (ring : RingId) (value : Word) (s : State) : OutcomeKeeps s (execDmaRingHeadWrite ring value s) := by
  unfold execDmaRingHeadWrite
  dsimp only
  repeat' split
  all_goals (refine keeps_next ?_; simp only [State.spine_mk, State.by_spine, modRing_spine])

/-! ### Machine/Thermal -/

theorem execThmLevelPacingEnd_keeps (s : State) : OutcomeKeeps s (execThmLevelPacingEnd s) := by
  unfold execThmLevelPacingEnd
  repeat' split
  all_goals (refine keeps_next ?_; first | rfl | (simp only [modThm_spine, levelEvent_spine]; done) | (repeat' split) <;> simp only [State.spine_mk, State.by_spine, ite_spine, ite_self, modThm_spine, levelEvent_spine])

theorem execCrystalLoss_keeps (s : State) : OutcomeKeeps s (execCrystalLoss s) := by
  unfold execCrystalLoss
  refine keeps_next ?_
  simp only [modThm_spine]

@[simp] theorem avsMirror_spine (s : State) : (avsMirror s).spine = s.spine := by
  simp only [avsMirror, modThm_spine]

@[simp] theorem thmMirror_spine (s : State) : (thmMirror s).spine = s.spine := by
  simp only [thmMirror, modThm_spine]

theorem execAvsEvaluation_keeps (margin : Nat) (s : State) : OutcomeKeeps s (execAvsEvaluation margin s) := by
  unfold execAvsEvaluation
  dsimp only
  repeat' split
  all_goals (refine keeps_next ?_; first | rfl | simp only [avsMirror_spine, advancePs_spine, modThm_spine, avsStep_spine, avsCheck_spine])

theorem replyThmLimitSet_keeps (p : Packet) (s : State) : (replyThmLimitSet p s).Keeps s := by
  unfold replyThmLimitSet
  repeat' (first | rfl | exact Reply.ok_keeps .. | apply checked_keeps | split | exact fun _ => rfl)
  all_goals (first | (intro u; simp only [State.spine_mk, State.by_spine, ite_spine, ite_self, modThm_spine]; done) | (dsimp only [Reply.ok, Reply.answer, Reply.fail, Reply.failAt, Reply.Keeps]; simp only [State.spine_mk, State.by_spine, ite_spine, ite_self, modThm_spine]))

theorem execThmLimitSet_keeps (p : Packet) (s : State) : OutcomeKeeps s (execThmLimitSet p s) := by
  exact keeps_run (fun u => replyThmLimitSet_keeps ..)

theorem replyThmStatusGet_keeps (_p : Packet) (s : State) : (replyThmStatusGet _p s).Keeps s := by
  unfold replyThmStatusGet
  repeat' (first | rfl | exact Reply.answer_keeps .. | apply checked_keeps | split | exact fun _ => rfl)
  all_goals (first | (intro u; simp only [State.spine_mk, State.by_spine, ite_spine, ite_self]; done) | (dsimp only [Reply.ok, Reply.answer, Reply.fail, Reply.failAt, Reply.Keeps]; simp only [State.spine_mk, State.by_spine, ite_spine, ite_self]))

theorem execThmStatusGet_keeps (p : Packet) (s : State) : OutcomeKeeps s (execThmStatusGet p s) := by
  exact keeps_run (fun u => replyThmStatusGet_keeps ..)

theorem replyThmSensorGet_keeps (p : Packet) (s : State) : (replyThmSensorGet p s).Keeps s := by
  unfold replyThmSensorGet
  repeat' (first | rfl | exact Reply.answer_keeps .. | apply checked_keeps | split | exact fun _ => rfl)
  all_goals (first | (intro u; simp only [State.spine_mk, State.by_spine, ite_spine, ite_self]; done) | (dsimp only [Reply.ok, Reply.answer, Reply.fail, Reply.failAt, Reply.Keeps]; simp only [State.spine_mk, State.by_spine, ite_spine, ite_self]))

theorem execThmSensorGet_keeps (p : Packet) (s : State) : OutcomeKeeps s (execThmSensorGet p s) := by
  exact keeps_run (fun u => replyThmSensorGet_keeps ..)

theorem replyThmTripGet_keeps (_p : Packet) (s : State) : (replyThmTripGet _p s).Keeps s := by
  unfold replyThmTripGet
  repeat' (first | rfl | exact Reply.answer_keeps .. | apply checked_keeps | split | exact fun _ => rfl)
  all_goals (first | (intro u; simp only [State.spine_mk, State.by_spine, ite_spine, ite_self]; done) | (dsimp only [Reply.ok, Reply.answer, Reply.fail, Reply.failAt, Reply.Keeps]; simp only [State.spine_mk, State.by_spine, ite_spine, ite_self]))

theorem execThmTripGet_keeps (p : Packet) (s : State) : OutcomeKeeps s (execThmTripGet p s) := by
  exact keeps_run (fun u => replyThmTripGet_keeps ..)

theorem replyPwrAvsGet_keeps (_p : Packet) (s : State) : (replyPwrAvsGet _p s).Keeps s := by
  unfold replyPwrAvsGet
  repeat' (first | rfl | exact Reply.answer_keeps .. | apply checked_keeps | split | exact fun _ => rfl)
  all_goals (first | (intro u; simp only [State.spine_mk, State.by_spine, ite_spine, ite_self]; done) | (dsimp only [Reply.ok, Reply.answer, Reply.fail, Reply.failAt, Reply.Keeps]; simp only [State.spine_mk, State.by_spine, ite_spine, ite_self]))

theorem execPwrAvsGet_keeps (p : Packet) (s : State) : OutcomeKeeps s (execPwrAvsGet p s) := by
  exact keeps_run (fun u => replyPwrAvsGet_keeps ..)

theorem replyPwrAvsFix_keeps (p : Packet) (s : State) : (replyPwrAvsFix p s).Keeps s := by
  unfold replyPwrAvsFix
  repeat' (first | rfl | exact Reply.ok_keeps .. | apply checked_keeps | split | exact fun _ => rfl)
  all_goals (first | (intro u; simp only [State.spine_mk, State.by_spine, ite_spine, ite_self, modThm_spine, setTarget_spine, avsRelease_spine]; done) | (dsimp only [Reply.ok, Reply.answer, Reply.fail, Reply.failAt, Reply.Keeps]; simp only [modThm_spine, setTarget_spine, avsRelease_spine]))

theorem execPwrAvsFix_keeps (p : Packet) (s : State) : OutcomeKeeps s (execPwrAvsFix p s) := by
  exact keeps_run (fun u => replyPwrAvsFix_keeps ..)

/-! ### Machine/MemoryIntegrity -/

theorem execMemoryCorrectableError_keeps (cls : Fin 14) (inst row : Nat) (scrub : Bool) (found : CeFound) (s : State) :
    OutcomeKeeps s (execMemoryCorrectableError cls inst row scrub found s) := by
  unfold execMemoryCorrectableError
  dsimp only
  repeat' split
  all_goals (refine keeps_next ?_; first | rfl | simp only [setValid_spine, countCe_spine, useFlip_spine, countScrub_spine, stuckRow_spine])

theorem execConfigEntryRebuilt_keeps (target : UeTarget) (faulty : Bool) (s : State) : OutcomeKeeps s (execConfigEntryRebuilt target faulty s) := by
  unfold execConfigEntryRebuilt
  repeat' split
  all_goals (refine keeps_next ?_; first | rfl | (simp only [rebuilt_spine, rebuiltEffect_spine]; done) | (repeat' split) <;> simp only [State.spine_mk, State.by_spine, ite_spine, ite_self, rebuilt_spine, rebuiltEffect_spine])

theorem execWpTileMarchComplete_keeps (tile : Nat) (passed : Bool) (s : State) : OutcomeKeeps s (execWpTileMarchComplete tile passed s) := by
  unfold execWpTileMarchComplete
  dsimp only
  repeat' split
  all_goals (refine keeps_next ?_; simp only [State.spine_mk, State.by_spine, retireWpTile_spine, clearTile_spine])

theorem execMiPatrolRead_keeps (cls : Fin 14) (s : State) : OutcomeKeeps s (execMiPatrolRead cls s) := by
  unfold execMiPatrolRead
  dsimp only
  repeat' split
  all_goals (refine keeps_next ?_; simp only [modClass_spine])

theorem execScrubRangeComplete_keeps (cls : Fin 14) (unwritten : Nat) (s : State) : OutcomeKeeps s (execScrubRangeComplete cls unwritten s) := by
  unfold execScrubRangeComplete
  dsimp only
  repeat' split
  all_goals (refine keeps_next ?_; simp only [completeOr_spine, modClass_spine])

theorem replyMiScrubRange_keeps (p : Packet) (s : State) : (replyMiScrubRange p s).Keeps s := by
  unfold replyMiScrubRange
  repeat' (first | rfl | exact Reply.answer_keeps .. | exact Reply.ok_keeps .. | apply checked_keeps | split | exact fun _ => rfl)
  all_goals (first | (intro u; simp only [State.spine_mk, State.by_spine, ite_spine, ite_self, modClass_spine]; done) | (dsimp only [Reply.ok, Reply.answer, Reply.fail, Reply.failAt, Reply.Keeps]; simp only [State.spine_mk, State.by_spine, ite_spine, ite_self, modClass_spine]))

theorem execMiScrubRange_keeps (p : Packet) (s : State) : OutcomeKeeps s (execMiScrubRange p s) := by
  exact keeps_run (fun u => replyMiScrubRange_keeps ..)

theorem replyMiPatrolSet_keeps (p : Packet) (s : State) : (replyMiPatrolSet p s).Keeps s := by
  unfold replyMiPatrolSet
  repeat' (first | rfl | exact Reply.ok_keeps .. | apply checked_keeps | split | exact fun _ => rfl)
  all_goals (first | (intro u; simp only [State.spine_mk, State.by_spine, ite_spine, ite_self]; done) | (dsimp only [Reply.ok, Reply.answer, Reply.fail, Reply.failAt, Reply.Keeps]; simp only [State.spine_mk, State.by_spine, ite_spine, ite_self]))

theorem execMiPatrolSet_keeps (p : Packet) (s : State) : OutcomeKeeps s (execMiPatrolSet p s) := by
  exact keeps_run (fun u => replyMiPatrolSet_keeps ..)

theorem flipMode0_keeps (k dataMask checkMask : Nat) (s : State) : (flipMode0 k dataMask checkMask s).Keeps s := by
  unfold flipMode0
  repeat' (first | rfl | exact Reply.answer_keeps .. | apply checked_keeps | split | exact fun _ => rfl)
  all_goals (first | (intro u; simp only [State.spine_mk, State.by_spine, ite_spine, ite_self, emit_spine, logRecord_spine, takeFree_spine]; done) | (dsimp only [Reply.ok, Reply.answer, Reply.fail, Reply.failAt, Reply.Keeps]; simp only [State.spine_mk, State.by_spine, ite_spine, ite_self, emit_spine, logRecord_spine, takeFree_spine]))

theorem flipMode1_keeps (k inst row : Nat) (s : State) : (flipMode1 k inst row s).Keeps s := by
  unfold flipMode1
  dsimp only
  repeat' (first | rfl | exact Reply.fail_keeps .. | exact Reply.ok_keeps .. | apply checked_keeps | split | exact fun _ => rfl)
  all_goals (first | (intro u; simp only [State.spine_mk, State.by_spine, ite_spine, ite_self, modClass_spine]; done) | (dsimp only [Reply.ok, Reply.answer, Reply.fail, Reply.failAt, Reply.Keeps]; simp only [State.spine_mk, State.by_spine, ite_spine, ite_self, modClass_spine]))

theorem flipMode2_keeps (q n : Nat) (s : State) : (flipMode2 q n s).Keeps s := by
  unfold flipMode2
  repeat' (first | rfl | exact Reply.ok_keeps .. | apply checked_keeps | split | exact fun _ => rfl)
  all_goals (first | (intro u; simp only [State.spine_mk, State.by_spine, ite_spine, ite_self]; done) | (dsimp only [Reply.ok, Reply.answer, Reply.fail, Reply.failAt, Reply.Keeps]; simp only [State.spine_mk, State.by_spine, ite_spine, ite_self]))

theorem replyMiFlipTest_keeps (p : Packet) (s : State) : (replyMiFlipTest p s).Keeps s := by
  unfold replyMiFlipTest
  repeat' (first | rfl | exact flipMode2_keeps .. | exact flipMode0_keeps .. | exact flipMode1_keeps .. | apply checked_keeps | split | exact fun _ => rfl)
  all_goals (first | (intro u; simp only [State.spine_mk, State.by_spine, ite_spine, ite_self]; done) | (dsimp only [Reply.ok, Reply.answer, Reply.fail, Reply.failAt, Reply.Keeps]; simp only [State.spine_mk, State.by_spine, ite_spine, ite_self]))

theorem execMiFlipTest_keeps (p : Packet) (s : State) : OutcomeKeeps s (execMiFlipTest p s) := by
  exact keeps_run (fun u => replyMiFlipTest_keeps ..)

theorem replyMiCinderRead_keeps (p : Packet) (s : State) : (replyMiCinderRead p s).Keeps s := by
  unfold replyMiCinderRead
  repeat' (first | rfl | exact Reply.answer_keeps .. | apply checked_keeps | split | exact fun _ => rfl)
  all_goals (first | (intro u; simp only [State.spine_mk, State.by_spine, ite_spine, ite_self]; done) | (dsimp only [Reply.ok, Reply.answer, Reply.fail, Reply.failAt, Reply.Keeps]; simp only [State.spine_mk, State.by_spine, ite_spine, ite_self]))

theorem execMiCinderRead_keeps (p : Packet) (s : State) : OutcomeKeeps s (execMiCinderRead p s) := by
  exact keeps_run (fun u => replyMiCinderRead_keeps ..)

theorem replyMiClassGet_keeps (p : Packet) (s : State) : (replyMiClassGet p s).Keeps s := by
  unfold replyMiClassGet
  repeat' (first | rfl | exact Reply.answer_keeps .. | apply checked_keeps | split | exact fun _ => rfl)
  all_goals (first | (intro u; simp only [State.spine_mk, State.by_spine, ite_spine, ite_self]; done) | (dsimp only [Reply.ok, Reply.answer, Reply.fail, Reply.failAt, Reply.Keeps]; simp only [State.spine_mk, State.by_spine, ite_spine, ite_self]))

theorem execMiClassGet_keeps (p : Packet) (s : State) : OutcomeKeeps s (execMiClassGet p s) := by
  exact keeps_run (fun u => replyMiClassGet_keeps ..)

/-! ### Machine/Logbook -/

theorem execFlashPageProgrammed_keeps (result : FlashEnd) (s : State) : OutcomeKeeps s (execFlashPageProgrammed result s) := by
  unfold execFlashPageProgrammed
  dsimp only
  repeat' split
  all_goals (refine keeps_next ?_; simp only [retireFlash_spine, modLog_spine, answerWaits_spine, commitHook_spine, workDone_spine])

theorem execFlashBlockErased_keeps (ok : Bool) (s : State) : OutcomeKeeps s (execFlashBlockErased ok s) := by
  unfold execFlashBlockErased
  dsimp only
  repeat' split
  all_goals (refine keeps_next ?_; simp only [retireFlash_spine, modLog_spine, workDone_spine, openBlock_spine, eraseCounted_spine])

theorem execLifeClockSecond_keeps (s : State) : OutcomeKeeps s (execLifeClockSecond s) := by
  unfold execLifeClockSecond
  dsimp only
  repeat' split
  all_goals (refine keeps_next ?_; simp only [advancePs_spine, modLog_spine, lifeSecond_spine])

theorem execCountersHourlyDue_keeps (s : State) : OutcomeKeeps s (execCountersHourlyDue s) := by
  unfold execCountersHourlyDue
  split
  · refine keeps_next ?_
    rw [miHour_spine, logCounters_spine]
  · exact keeps_next rfl

theorem execAgeingDayDue_keeps (shifts : List Int) (s : State) : OutcomeKeeps s (execAgeingDayDue shifts s) := by
  unfold execAgeingDayDue
  dsimp only
  repeat' split
  all_goals (refine keeps_next ?_; simp only [logRecord_spine, miDay_spine, modLog_spine])

theorem execAgeingMonthDue_keeps (s : State) : OutcomeKeeps s (execAgeingMonthDue s) := by
  unfold execAgeingMonthDue
  dsimp only
  repeat' split
  all_goals (refine keeps_next ?_; simp only [logRecord_spine])

theorem execLogRefreshPassDue_keeps (s : State) : OutcomeKeeps s (execLogRefreshPassDue s) := by
  unfold execLogRefreshPassDue
  repeat' split
  all_goals (refine keeps_next ?_; first | rfl | (simp only [State.spine_mk, State.by_spine, ite_spine, ite_self, modLog_spine]; done) | (repeat' split) <;> simp only [State.spine_mk, State.by_spine, ite_spine, ite_self, modLog_spine])

theorem execLogRefreshPassComplete_keeps (failed : List Nat) (s : State) : OutcomeKeeps s (execLogRefreshPassComplete failed s) := by
  unfold execLogRefreshPassComplete
  dsimp only
  repeat' split
  all_goals (refine keeps_next ?_; simp only [completeOr_spine, flashKick_spine, modLog_spine])

theorem execPlanYearDue_keeps (s : State) : OutcomeKeeps s (execPlanYearDue s) := by
  unfold execPlanYearDue
  repeat' split
  all_goals (refine keeps_next ?_; first | rfl | (simp only [planStart_spine]; done) | (repeat' split) <;> simp only [State.spine_mk, State.by_spine, ite_spine, ite_self, planStart_spine, modLog_spine])

theorem execMarginPlanComplete_keeps (s : State) : OutcomeKeeps s (execMarginPlanComplete s) := by
  unfold execMarginPlanComplete
  repeat' split
  all_goals (refine keeps_next ?_; first | rfl | (simp only [planWaiting_spine, planDone_spine, planApply_spine, modLog_spine]; done) | (repeat' split) <;> simp only [State.spine_mk, State.by_spine, ite_spine, ite_self, planWaiting_spine, planDone_spine, planApply_spine, modLog_spine])

theorem execLogExportComplete_keeps (failed : List (Nat × Bool)) (s : State) : OutcomeKeeps s (execLogExportComplete failed s) := by
  unfold execLogExportComplete
  dsimp only
  repeat' split
  all_goals (refine keeps_next ?_; simp only [exportEnd_spine])

theorem replyLogExport_keeps (p : Packet) (s : State) : (replyLogExport p s).Keeps s := by
  unfold replyLogExport
  repeat' (first | rfl | apply checked_keeps | split | exact fun _ => rfl)
  all_goals (first | (intro u; simp only [State.spine_mk, State.by_spine, ite_spine, ite_self, modLog_spine]; done) | (dsimp only [Reply.ok, Reply.answer, Reply.fail, Reply.failAt, Reply.Keeps]; simp only [State.spine_mk, State.by_spine, ite_spine, ite_self, modLog_spine]))

theorem execLogExport_keeps (p : Packet) (s : State) : OutcomeKeeps s (execLogExport p s) := by
  exact keeps_run (fun u => replyLogExport_keeps ..)

theorem replyLogCountersGet_keeps (_p : Packet) (s : State) : (replyLogCountersGet _p s).Keeps s := by
  unfold replyLogCountersGet
  repeat' (first | rfl | exact Reply.answer_keeps .. | apply checked_keeps | split | exact fun _ => rfl)
  all_goals (first | (intro u; simp only [State.spine_mk, State.by_spine, ite_spine, ite_self]; done) | (dsimp only [Reply.ok, Reply.answer, Reply.fail, Reply.failAt, Reply.Keeps]; simp only [State.spine_mk, State.by_spine, ite_spine, ite_self]))

theorem execLogCountersGet_keeps (p : Packet) (s : State) : OutcomeKeeps s (execLogCountersGet p s) := by
  exact keeps_run (fun u => replyLogCountersGet_keeps ..)

theorem replyLogPlanGet_keeps (_p : Packet) (s : State) : (replyLogPlanGet _p s).Keeps s := by
  unfold replyLogPlanGet
  repeat' (first | rfl | exact Reply.answer_keeps .. | apply checked_keeps | split | exact fun _ => rfl)
  all_goals (first | (intro u; simp only [State.spine_mk, State.by_spine, ite_spine, ite_self]; done) | (dsimp only [Reply.ok, Reply.answer, Reply.fail, Reply.failAt, Reply.Keeps]; simp only [State.spine_mk, State.by_spine, ite_spine, ite_self]))

theorem execLogPlanGet_keeps (p : Packet) (s : State) : OutcomeKeeps s (execLogPlanGet p s) := by
  exact keeps_run (fun u => replyLogPlanGet_keeps ..)

theorem replyLogPlanRun_keeps (p : Packet) (s : State) : (replyLogPlanRun p s).Keeps s := by
  unfold replyLogPlanRun
  repeat' (first | rfl | apply checked_keeps | split | exact fun _ => rfl)
  all_goals (first | (intro u; simp only [planStart_spine]; done) | (dsimp only [Reply.ok, Reply.answer, Reply.fail, Reply.failAt, Reply.Keeps]; simp only [State.spine_mk, State.by_spine, ite_spine, ite_self, planStart_spine]))

theorem execLogPlanRun_keeps (p : Packet) (s : State) : OutcomeKeeps s (execLogPlanRun p s) := by
  exact keeps_run (fun u => replyLogPlanRun_keeps ..)

theorem replyLogNote_keeps (p : Packet) (s : State) : (replyLogNote p s).Keeps s := by
  unfold replyLogNote
  repeat' (first | rfl | exact Reply.answer_keeps .. | apply checked_keeps | split | exact fun _ => rfl)
  all_goals (first | (intro u; simp only [State.spine_mk, State.by_spine, ite_spine, ite_self, logRecord_spine]; done) | (dsimp only [Reply.ok, Reply.answer, Reply.fail, Reply.failAt, Reply.Keeps]; simp only [logRecord_spine]))

theorem execLogNote_keeps (p : Packet) (s : State) : OutcomeKeeps s (execLogNote p s) := by
  exact keeps_run (fun u => replyLogNote_keeps ..)

theorem replyLogAgeingGet_keeps (_p : Packet) (s : State) : (replyLogAgeingGet _p s).Keeps s := by
  unfold replyLogAgeingGet
  repeat' (first | rfl | exact Reply.answer_keeps .. | apply checked_keeps | split | exact fun _ => rfl)
  all_goals (first | (intro u; simp only [State.spine_mk, State.by_spine, ite_spine, ite_self]; done) | (dsimp only [Reply.ok, Reply.answer, Reply.fail, Reply.failAt, Reply.Keeps]; simp only [State.spine_mk, State.by_spine, ite_spine, ite_self]))

theorem execLogAgeingGet_keeps (p : Packet) (s : State) : OutcomeKeeps s (execLogAgeingGet p s) := by
  exact keeps_run (fun u => replyLogAgeingGet_keeps ..)

theorem replyLogRefresh_keeps (_p : Packet) (s : State) : (replyLogRefresh _p s).Keeps s := by
  unfold replyLogRefresh
  repeat' (first | rfl | apply checked_keeps | split | exact fun _ => rfl)
  all_goals (first | (intro u; simp only [State.spine_mk, State.by_spine, ite_spine, ite_self, modLog_spine]; done) | (dsimp only [Reply.ok, Reply.answer, Reply.fail, Reply.failAt, Reply.Keeps]; simp only [State.spine_mk, State.by_spine, ite_spine, ite_self, modLog_spine]))

theorem execLogRefresh_keeps (p : Packet) (s : State) : OutcomeKeeps s (execLogRefresh p s) := by
  exact keeps_run (fun u => replyLogRefresh_keeps ..)

/-! ### Machine/Registers -/

theorem execHifQ0EnSet_keeps (s : State) : OutcomeKeeps s (execHifQ0EnSet s) := by
  unfold execHifQ0EnSet
  refine keeps_next ?_
  simp only [ite_spine, ite_self, enableQ0_spine]

theorem execHifQ0EnClear_keeps (s : State) : OutcomeKeeps s (execHifQ0EnClear s) := by
  unfold execHifQ0EnClear
  refine keeps_next ?_
  simp only [ite_spine, ite_self, disableQ0_spine]

theorem execHifEqEnSet_keeps (s : State) : OutcomeKeeps s (execHifEqEnSet s) := by
  unfold execHifEqEnSet
  refine keeps_next ?_
  simp only [ite_spine, ite_self, enableEq_spine]

theorem execHifEqEnClear_keeps (s : State) : OutcomeKeeps s (execHifEqEnClear s) := by
  unfold execHifEqEnClear
  refine keeps_next ?_
  simp only [ite_spine, ite_self, disableEq_spine]

theorem execReadClearRegister_keeps (addr : Nat) (s : State) : OutcomeKeeps s (execReadClearRegister addr s) := by
  unfold execReadClearRegister
  refine keeps_next ?_
  simp only [readClear_spine]

theorem execHifArrivalLoRead_keeps (s : State) : OutcomeKeeps s (execHifArrivalLoRead s) := by
  unfold execHifArrivalLoRead
  refine keeps_next ?_
  simp only [modHif_spine]

theorem execTimTodSecLoRead_keeps (s : State) : OutcomeKeeps s (execTimTodSecLoRead s) := by
  unfold execTimTodSecLoRead
  dsimp only
  repeat' split
  all_goals (refine keeps_next ?_; simp only [State.spine_mk, State.by_spine])

theorem execLogLoWordRead_keeps (counter : Option (Fin 12)) (s : State) : OutcomeKeeps s (execLogLoWordRead counter s) := by
  unfold execLogLoWordRead
  repeat' split
  all_goals (refine keeps_next ?_; first | rfl | (simp only [State.spine_mk, State.by_spine, ite_spine, ite_self, modLog_spine]; done) | (repeat' split) <;> simp only [State.spine_mk, State.by_spine, ite_spine, ite_self, modLog_spine])

theorem execSnapRequest_keeps (window : Nat) (s : State) : OutcomeKeeps s (execSnapRequest window s) := by
  unfold execSnapRequest
  refine keeps_next ?_
  simp only [ite_spine, ite_self, snapRequest_spine]

theorem execSnapCopyDone_keeps (window : Nat) (s : State) : OutcomeKeeps s (execSnapCopyDone window s) := by
  unfold execSnapCopyDone
  refine keeps_next ?_
  simp only [State.spine_mk, State.by_spine]

/-! ### Machine/HostInterface -/

theorem execPcieLinkChange_keeps (gen width : Nat) (s : State) : OutcomeKeeps s (execPcieLinkChange gen width s) := by
  unfold execPcieLinkChange
  repeat' split
  all_goals (refine keeps_next ?_; first | rfl | (simp only [setLink_spine]; done) | (repeat' split) <;> simp only [State.spine_mk, State.by_spine, ite_spine, ite_self, setLink_spine])

theorem execD3hotEntry_keeps (s : State) : OutcomeKeeps s (execD3hotEntry s) := by
  unfold execD3hotEntry
  repeat' split
  all_goals (refine keeps_next ?_; first | rfl | (simp only [State.spine_mk, State.by_spine, ite_spine, ite_self, modHif_spine]; done) | (repeat' split) <;> simp only [State.spine_mk, State.by_spine, ite_spine, ite_self, modHif_spine])

theorem execD0Return_keeps (s : State) : OutcomeKeeps s (execD0Return s) := by
  unfold execD0Return
  split
  · refine keeps_next ?_
    rw [resumeDma_spine, modHif_spine _ _ rfl]
  · exact keeps_next rfl

@[simp] theorem clearHost_leases (h : Hif) : (clearHost h).leases = h.leases := rfl
@[simp] theorem discardHost_leases (h : Hif) : (discardHost h).leases = h.leases := rfl

theorem execPciePerstFall_keeps (s : State) : OutcomeKeeps s (execPciePerstFall s) := by
  unfold execPciePerstFall
  dsimp only
  repeat' split
  all_goals (refine keeps_next ?_; simp only [State.spine_mk, State.by_spine, modHif_spine, setLink_spine, clearHost_leases,
    discardHost_leases])

theorem execPciePerstRise_keeps (s : State) : OutcomeKeeps s (execPciePerstRise s) := by
  unfold execPciePerstRise
  refine keeps_next ?_
  simp only [modHif_spine]

theorem execHifSqTailWrite_keeps (queue : Fin 16) (value : Word) (ringError : Bool) (s : State) : OutcomeKeeps s (execHifSqTailWrite queue value ringError s) := by
  unfold execHifSqTailWrite
  dsimp only
  repeat' split
  all_goals (refine keeps_next ?_; simp only [countBadDb_spine, emit_spine, State.setQueue_spine])

theorem execHifCqHeadWrite_keeps (queue : Fin 16) (value : Word) (s : State) : OutcomeKeeps s (execHifCqHeadWrite queue value s) := by
  unfold execHifCqHeadWrite
  dsimp only
  repeat' split
  all_goals (refine keeps_next ?_; simp only [countBadDb_spine, State.setQueue_spine, flushHeld_spine])

theorem execHifEqHeadWrite_keeps (value : Word) (s : State) : OutcomeKeeps s (execHifEqHeadWrite value s) := by
  unfold execHifEqHeadWrite
  dsimp only
  repeat' split
  all_goals (refine keeps_next ?_; simp only [countBadDb_spine, reportLost_spine, modHif_spine])

theorem execPacketFetchFailed_keeps (queue : Fin 16) (s : State) : OutcomeKeeps s (execPacketFetchFailed queue s) := by
  unfold execPacketFetchFailed
  repeat' split
  all_goals (refine keeps_next ?_; simp only [fetchFailed_spine, holdEntry_spine])

theorem execUndefinedOpcode_keeps (opcode : Half) (p : Packet) (s : State) : OutcomeKeeps s (execUndefinedOpcode opcode p s) := by
  unfold execUndefinedOpcode
  dsimp only
  repeat' split
  all_goals (refine keeps_next ?_; simp only [countBadCrc_spine, reply_spine, notStarted_spine, takePacket_spine, modHif_spine])

theorem replyHifLeaseQuery_keeps (_p : Packet) (s : State) : (replyHifLeaseQuery _p s).Keeps s := by
  unfold replyHifLeaseQuery
  repeat' (first | rfl | exact Reply.answer_keeps .. | apply checked_keeps | split | exact fun _ => rfl)
  all_goals (first | (intro u; simp only [State.spine_mk, State.by_spine, ite_spine, ite_self]; done) | (dsimp only [Reply.ok, Reply.answer, Reply.fail, Reply.failAt, Reply.Keeps]; simp only [State.spine_mk, State.by_spine, ite_spine, ite_self]))

theorem execHifLeaseQuery_keeps (p : Packet) (s : State) : OutcomeKeeps s (execHifLeaseQuery p s) := by
  exact keeps_run (fun u => replyHifLeaseQuery_keeps ..)

theorem replyHifIdentify_keeps (_p : Packet) (s : State) : (replyHifIdentify _p s).Keeps s := by
  unfold replyHifIdentify
  repeat' (first | rfl | exact Reply.answer_keeps .. | apply checked_keeps | split | exact fun _ => rfl)
  all_goals (first | (intro u; simp only [State.spine_mk, State.by_spine, ite_spine, ite_self]; done) | (dsimp only [Reply.ok, Reply.answer, Reply.fail, Reply.failAt, Reply.Keeps]; simp only [State.spine_mk, State.by_spine, ite_spine, ite_self]))

theorem execHifIdentify_keeps (p : Packet) (s : State) : OutcomeKeeps s (execHifIdentify p s) := by
  exact keeps_run (fun u => replyHifIdentify_keeps ..)

theorem replyHifQueueCreate_keeps (p : Packet) (s : State) : (replyHifQueueCreate p s).Keeps s := by
  unfold replyHifQueueCreate
  repeat' (first | rfl | exact Reply.ok_keeps .. | apply checked_keeps | split | exact fun _ => rfl)
  all_goals (first | (intro u; simp only [State.spine_mk, State.by_spine, ite_spine, ite_self, State.setQueue_spine]; done) | (dsimp only [Reply.ok, Reply.answer, Reply.fail, Reply.failAt, Reply.Keeps]; simp only [State.spine_mk, State.by_spine, ite_spine, ite_self, State.setQueue_spine]))

theorem execHifQueueCreate_keeps (p : Packet) (s : State) : OutcomeKeeps s (execHifQueueCreate p s) := by
  exact keeps_run (fun u => replyHifQueueCreate_keeps ..)

theorem replyHifQueueDelete_keeps (p : Packet) (s : State) : (replyHifQueueDelete p s).Keeps s := by
  unfold replyHifQueueDelete
  repeat' (first | rfl | exact Reply.ok_keeps .. | apply checked_keeps | split | exact fun _ => rfl)
  all_goals (first | (intro u; simp only [State.spine_mk, State.by_spine, ite_spine, ite_self, deleteQueue_spine]; done) | (dsimp only [Reply.ok, Reply.answer, Reply.fail, Reply.failAt, Reply.Keeps]; simp only [deleteQueue_spine]))

theorem execHifQueueDelete_keeps (p : Packet) (s : State) : OutcomeKeeps s (execHifQueueDelete p s) := by
  exact keeps_run (fun u => replyHifQueueDelete_keeps ..)

theorem replyHifEventMask_keeps (p : Packet) (s : State) : (replyHifEventMask p s).Keeps s := by
  unfold replyHifEventMask
  repeat' (first | rfl | exact Reply.ok_keeps .. | apply checked_keeps | split | exact fun _ => rfl)
  all_goals (first | (intro u; simp only [State.spine_mk, State.by_spine, ite_spine, ite_self, modHif_spine]; done) | (dsimp only [Reply.ok, Reply.answer, Reply.fail, Reply.failAt, Reply.Keeps]; simp only [State.spine_mk, State.by_spine, ite_spine, ite_self, modHif_spine]))

theorem execHifEventMask_keeps (p : Packet) (s : State) : OutcomeKeeps s (execHifEventMask p s) := by
  exact keeps_run (fun u => replyHifEventMask_keeps ..)

theorem replyHifMgmtEventRead_keeps (p : Packet) (s : State) : (replyHifMgmtEventRead p s).Keeps s := by
  unfold replyHifMgmtEventRead
  repeat' (first | rfl | exact Reply.answer_keeps .. | apply checked_keeps | split | exact fun _ => rfl)
  all_goals (first | (intro u; simp only [State.spine_mk, State.by_spine, ite_spine, ite_self, modHif_spine]; done) | (dsimp only [Reply.ok, Reply.answer, Reply.fail, Reply.failAt, Reply.Keeps]; simp only [State.spine_mk, State.by_spine, ite_spine, ite_self, modHif_spine]))

theorem execHifMgmtEventRead_keeps (p : Packet) (s : State) : OutcomeKeeps s (execHifMgmtEventRead p s) := by
  exact keeps_run (fun u => replyHifMgmtEventRead_keeps ..)

theorem replyHifNop_keeps (p : Packet) (s : State) : (replyHifNop p s).Keeps s := by
  unfold replyHifNop
  repeat' (first | rfl | exact Reply.answer_keeps .. | apply checked_keeps | split | exact fun _ => rfl)
  all_goals (first | (intro u; simp only [State.spine_mk, State.by_spine, ite_spine, ite_self]; done) | (dsimp only [Reply.ok, Reply.answer, Reply.fail, Reply.failAt, Reply.Keeps]; simp only [State.spine_mk, State.by_spine, ite_spine, ite_self]))

theorem execHifNop_keeps (p : Packet) (s : State) : OutcomeKeeps s (execHifNop p s) := by
  exact keeps_run (fun u => replyHifNop_keeps ..)

theorem queueTransfer_keeps (master : Nat) (p : Packet) (s : State) : (queueTransfer master p s).Keeps s := by
  unfold queueTransfer
  repeat' (first | rfl | apply checked_keeps | split | exact fun _ => rfl)
  all_goals (first | (intro u; simp only [State.spine_mk, State.by_spine, ite_spine, ite_self, modHif_spine, takeKey_spine]; done) | (dsimp only [Reply.ok, Reply.answer, Reply.fail, Reply.failAt, Reply.Keeps]; simp only [State.spine_mk, State.by_spine, ite_spine, ite_self, modHif_spine, takeKey_spine]))

theorem replyHifSpiXfer_keeps (p : Packet) (s : State) : (replyHifSpiXfer p s).Keeps s := by
  unfold replyHifSpiXfer
  repeat' (first | rfl | exact queueTransfer_keeps .. | apply checked_keeps | split | exact fun _ => rfl)
  all_goals (first | (intro u; simp only [State.spine_mk, State.by_spine, ite_spine, ite_self]; done) | (dsimp only [Reply.ok, Reply.answer, Reply.fail, Reply.failAt, Reply.Keeps]; simp only [State.spine_mk, State.by_spine, ite_spine, ite_self]))

theorem execHifSpiXfer_keeps (p : Packet) (s : State) : OutcomeKeeps s (execHifSpiXfer p s) := by
  exact keeps_run (fun u => replyHifSpiXfer_keeps ..)

theorem replyHifI2cXfer_keeps (p : Packet) (s : State) : (replyHifI2cXfer p s).Keeps s := by
  unfold replyHifI2cXfer
  repeat' (first | rfl | exact queueTransfer_keeps .. | apply checked_keeps | split | exact fun _ => rfl)
  all_goals (first | (intro u; simp only [State.spine_mk, State.by_spine, ite_spine, ite_self]; done) | (dsimp only [Reply.ok, Reply.answer, Reply.fail, Reply.failAt, Reply.Keeps]; simp only [State.spine_mk, State.by_spine, ite_spine, ite_self]))

theorem execHifI2cXfer_keeps (p : Packet) (s : State) : OutcomeKeeps s (execHifI2cXfer p s) := by
  exact keeps_run (fun u => replyHifI2cXfer_keeps ..)

theorem execPassthroughXferComplete_keeps (key : Nat) (result : TransferEnd) (done : Nat) (read : List Byte) (s : State) : OutcomeKeeps s (execPassthroughXferComplete key result done read s) := by
  unfold execPassthroughXferComplete
  repeat' split
  all_goals (refine keeps_next ?_; first | rfl | (simp only [finishWaiting_spine, modHif_spine]; done) | (repeat' split) <;> simp only [State.spine_mk, State.by_spine, ite_spine, ite_self, finishWaiting_spine, modHif_spine])

/-! ### Machine/Time -/

theorem execPpsInEdge_keeps (s : State) : OutcomeKeeps s (execPpsInEdge s) := by
  unfold execPpsInEdge
  dsimp only
  repeat' split
  all_goals (refine keeps_next ?_; simp only [modTim_spine, stepTo_spine, setServo_spine, applyLabel_spine])

theorem execPpsInMissing_keeps (s : State) : OutcomeKeeps s (execPpsInMissing s) := by
  unfold execPpsInMissing
  dsimp only
  repeat' split
  all_goals (refine keeps_next ?_; simp only [modTim_spine, setServo_spine])

theorem execPtpUpdateTimeout_keeps (s : State) : OutcomeKeeps s (execPtpUpdateTimeout s) := by
  unfold execPtpUpdateTimeout
  dsimp only
  repeat' split
  all_goals (refine keeps_next ?_; simp only [modTim_spine, setServo_spine])

theorem execSlewComplete_keeps (s : State) : OutcomeKeeps s (execSlewComplete s) := by
  unfold execSlewComplete
  repeat' split
  all_goals (refine keeps_next ?_; first | rfl | (simp only [State.spine_mk, State.by_spine, ite_spine, ite_self, advancePs_spine]; done) | (repeat' split) <;> simp only [State.spine_mk, State.by_spine, ite_spine, ite_self, advancePs_spine])

theorem execSecondBoundary_keeps (measure : SecondMeasure) (s : State) : OutcomeKeeps s (execSecondBoundary measure s) := by
  unfold execSecondBoundary
  dsimp only
  repeat' split
  all_goals (refine keeps_next ?_; simp only [advanceToTod_spine, latchSecond_spine, refsReturn_spine, modTim_spine, lineReturn_spine])

theorem execPpsOutRise_keeps (s : State) : OutcomeKeeps s (execPpsOutRise s) := by
  unfold execPpsOutRise
  refine keeps_next ?_
  simp only [advanceToUnits_spine, modTim_spine]

theorem execPpsOutPulseEnd_keeps (s : State) : OutcomeKeeps s (execPpsOutPulseEnd s) := by
  unfold execPpsOutPulseEnd
  refine keeps_next ?_
  simp only [modTim_spine]

theorem execRefLost_keeps (ref : RefInput) (s : State) : OutcomeKeeps s (execRefLost ref s) := by
  unfold execRefLost
  dsimp only
  repeat' split
  all_goals (refine keeps_next ?_; simp only [setLink_spine, modTim_spine, setServo_spine, lineLost_spine, linesLost_spine, refEvent_spine])

theorem execRefRestored_keeps (ref : RefInput) (s : State) : OutcomeKeeps s (execRefRestored ref s) := by
  unfold execRefRestored
  dsimp only
  repeat' split
  all_goals (refine keeps_next ?_; simp only [modTim_spine, setServo_spine, refEvent_spine])

theorem execSynceResumeTimer_keeps (output : Fin 2) (s : State) : OutcomeKeeps s (execSynceResumeTimer output s) := by
  unfold execSynceResumeTimer
  dsimp only
  repeat' split
  all_goals (refine keeps_next ?_; simp only [synceEvent_spine, modTim_spine])

theorem execPtpFrameReceived_keeps (cif : Fin 32) (esmc : Bool) (transport : PtpTransport) (frame : List Byte) (s : State) : OutcomeKeeps s (execPtpFrameReceived cif esmc transport frame s) := by
  unfold execPtpFrameReceived
  dsimp only
  repeat' split
  all_goals (refine keeps_next ?_; simp only [signalVector_spine, modTim_spine])

theorem execPtpFrameSent_keeps (cif : Fin 32) (messageType domain : Byte) (sequenceId : Half) (s : State) : OutcomeKeeps s (execPtpFrameSent cif messageType domain sequenceId s) := by
  unfold execPtpFrameSent
  dsimp only
  repeat' split
  all_goals (refine keeps_next ?_; simp only [raiseEvent_spine, modTim_spine])

theorem execSnapshotInstant_keeps (key : Nat) (s : State) : OutcomeKeeps s (execSnapshotInstant key s) := by
  unfold execSnapshotInstant
  repeat' split
  all_goals (refine keeps_next ?_; first | rfl | (simp only [advanceToTod_spine, modTim_spine, takeSnapshots_spine]; done) | (repeat' split) <;> simp only [State.spine_mk, State.by_spine, ite_spine, ite_self, advanceToTod_spine, modTim_spine, takeSnapshots_spine])

theorem replyTimGet_keeps (_p : Packet) (s : State) : (replyTimGet _p s).Keeps s := by
  unfold replyTimGet
  repeat' (first | rfl | exact Reply.answer_keeps .. | apply checked_keeps | split | exact fun _ => rfl)
  all_goals (first | (intro u; simp only [State.spine_mk, State.by_spine, ite_spine, ite_self]; done) | (dsimp only [Reply.ok, Reply.answer, Reply.fail, Reply.failAt, Reply.Keeps]; simp only [State.spine_mk, State.by_spine, ite_spine, ite_self]))

theorem execTimGet_keeps (p : Packet) (s : State) : OutcomeKeeps s (execTimGet p s) := by
  exact keeps_run (fun u => replyTimGet_keeps ..)

theorem replyTimSet_keeps (p : Packet) (s : State) : (replyTimSet p s).Keeps s := by
  unfold replyTimSet
  repeat' (first | rfl | exact Reply.ok_keeps .. | apply checked_keeps | split | exact fun _ => rfl)
  all_goals (first | (intro u; simp only [State.spine_mk, State.by_spine, ite_spine, ite_self, modTim_spine, stepTo_spine]; done) | (dsimp only [Reply.ok, Reply.answer, Reply.fail, Reply.failAt, Reply.Keeps]; simp only [modTim_spine, stepTo_spine]))

theorem execTimSet_keeps (p : Packet) (s : State) : OutcomeKeeps s (execTimSet p s) := by
  exact keeps_run (fun u => replyTimSet_keeps ..)

theorem replyTimAdjust_keeps (p : Packet) (s : State) : (replyTimAdjust p s).Keeps s := by
  unfold replyTimAdjust
  repeat' (first | rfl | exact Reply.ok_keeps .. | apply checked_keeps | split | exact fun _ => rfl)
  all_goals (first | (intro u; simp only [State.spine_mk, State.by_spine, ite_spine, ite_self, modTim_spine, stepTo_spine, ptpUpdate_spine]; done) | (dsimp only [Reply.ok, Reply.answer, Reply.fail, Reply.failAt, Reply.Keeps]; simp only [modTim_spine, stepTo_spine, ptpUpdate_spine]))

theorem execTimAdjust_keeps (p : Packet) (s : State) : OutcomeKeeps s (execTimAdjust p s) := by
  exact keeps_run (fun u => replyTimAdjust_keeps ..)

theorem replyTimFreqSet_keeps (p : Packet) (s : State) : (replyTimFreqSet p s).Keeps s := by
  unfold replyTimFreqSet
  repeat' (first | rfl | exact Reply.ok_keeps .. | apply checked_keeps | split | exact fun _ => rfl)
  all_goals (first | (intro u; simp only [State.spine_mk, State.by_spine, ite_spine, ite_self, modTim_spine, ptpUpdate_spine]; done) | (dsimp only [Reply.ok, Reply.answer, Reply.fail, Reply.failAt, Reply.Keeps]; simp only [modTim_spine, ptpUpdate_spine]))

theorem execTimFreqSet_keeps (p : Packet) (s : State) : OutcomeKeeps s (execTimFreqSet p s) := by
  exact keeps_run (fun u => replyTimFreqSet_keeps ..)

theorem replyTimSrcSet_keeps (p : Packet) (s : State) : (replyTimSrcSet p s).Keeps s := by
  unfold replyTimSrcSet
  repeat' (first | rfl | exact Reply.ok_keeps .. | apply checked_keeps | split | exact fun _ => rfl)
  all_goals (first | (intro u; simp only [State.spine_mk, State.by_spine, ite_spine, ite_self, modTim_spine, selectSource_spine]; done) | (dsimp only [Reply.ok, Reply.answer, Reply.fail, Reply.failAt, Reply.Keeps]; simp only [modTim_spine, selectSource_spine]))

theorem execTimSrcSet_keeps (p : Packet) (s : State) : OutcomeKeeps s (execTimSrcSet p s) := by
  exact keeps_run (fun u => replyTimSrcSet_keeps ..)

theorem replyTimPtpCfg_keeps (p : Packet) (s : State) : (replyTimPtpCfg p s).Keeps s := by
  unfold replyTimPtpCfg
  repeat' (first | rfl | exact Reply.ok_keeps .. | apply checked_keeps | split | exact fun _ => rfl)
  all_goals (first | (intro u; simp only [State.spine_mk, State.by_spine, ite_spine, ite_self, modTim_spine]; done) | (dsimp only [Reply.ok, Reply.answer, Reply.fail, Reply.failAt, Reply.Keeps]; simp only [State.spine_mk, State.by_spine, ite_spine, ite_self, modTim_spine]))

theorem execTimPtpCfg_keeps (p : Packet) (s : State) : OutcomeKeeps s (execTimPtpCfg p s) := by
  exact keeps_run (fun u => replyTimPtpCfg_keeps ..)

theorem replyTimPtpRing_keeps (p : Packet) (s : State) : (replyTimPtpRing p s).Keeps s := by
  unfold replyTimPtpRing
  repeat' (first | rfl | exact Reply.ok_keeps .. | apply checked_keeps | split | exact fun _ => rfl)
  all_goals (first | (intro u; simp only [State.spine_mk, State.by_spine, ite_spine, ite_self, modTim_spine]; done) | (dsimp only [Reply.ok, Reply.answer, Reply.fail, Reply.failAt, Reply.Keeps]; simp only [State.spine_mk, State.by_spine, ite_spine, ite_self, modTim_spine]))

theorem execTimPtpRing_keeps (p : Packet) (s : State) : OutcomeKeeps s (execTimPtpRing p s) := by
  exact keeps_run (fun u => replyTimPtpRing_keeps ..)

theorem replyTimPtpSend_keeps (p : Packet) (s : State) : (replyTimPtpSend p s).Keeps s := by
  unfold replyTimPtpSend
  repeat' (first | rfl | exact Reply.ok_keeps .. | apply checked_keeps | split | exact fun _ => rfl)
  all_goals (first | (intro u; simp only [State.spine_mk, State.by_spine, ite_spine, ite_self, modTim_spine]; done) | (dsimp only [Reply.ok, Reply.answer, Reply.fail, Reply.failAt, Reply.Keeps]; simp only [State.spine_mk, State.by_spine, ite_spine, ite_self, modTim_spine]))

theorem execTimPtpSend_keeps (p : Packet) (s : State) : OutcomeKeeps s (execTimPtpSend p s) := by
  exact keeps_run (fun u => replyTimPtpSend_keeps ..)

theorem replyTimSnapshot_keeps (p : Packet) (s : State) : (replyTimSnapshot p s).Keeps s := by
  unfold replyTimSnapshot
  repeat' (first | rfl | apply checked_keeps | split | exact fun _ => rfl)
  all_goals (first | (intro u; simp only [ite_spine, ite_self, modTim_spine, takeSnapshots_spine, takeKey_spine]; done) | (dsimp only [Reply.ok, Reply.answer, Reply.fail, Reply.failAt, Reply.Keeps]; simp only [State.spine_mk, State.by_spine, ite_spine, ite_self, modTim_spine, takeSnapshots_spine, takeKey_spine]))

theorem execTimSnapshot_keeps (p : Packet) (s : State) : OutcomeKeeps s (execTimSnapshot p s) := by
  exact keeps_run (fun u => replyTimSnapshot_keeps ..)

/-! ### Machine/Management -/

theorem execMgmtResponseRead_keeps (s : State) : OutcomeKeeps s (execMgmtResponseRead s) := by
  unfold execMgmtResponseRead
  repeat' split
  all_goals (refine keeps_next ?_; first | rfl | (simp only [State.spine_mk, State.by_spine, ite_spine, ite_self, modPort16_spine]; done) | (repeat' split) <;> simp only [State.spine_mk, State.by_spine, ite_spine, ite_self, modPort16_spine])

theorem execMgmtStatusRead_keeps (s : State) : OutcomeKeeps s (execMgmtStatusRead s) := by
  unfold execMgmtStatusRead
  repeat' split
  all_goals (refine keeps_next ?_; first | rfl | (simp only [State.spine_mk, State.by_spine, ite_spine, ite_self, modPort16_spine]; done) | (repeat' split) <;> simp only [State.spine_mk, State.by_spine, ite_spine, ite_self, modPort16_spine])

theorem execMgmtAvsRead_keeps (s : State) : OutcomeKeeps s (execMgmtAvsRead s) := by
  unfold execMgmtAvsRead
  repeat' split
  all_goals (refine keeps_next ?_; first | rfl | (simp only [State.spine_mk, State.by_spine, ite_spine, ite_self, modPort16_spine]; done) | (repeat' split) <;> simp only [State.spine_mk, State.by_spine, ite_spine, ite_self, modPort16_spine])

theorem execMgmtBadSelector_keeps (selector : Byte) (s : State) : OutcomeKeeps s (execMgmtBadSelector selector s) := by
  unfold execMgmtBadSelector
  repeat' split
  all_goals (refine keeps_next ?_; first | rfl | (simp only [State.spine_mk, State.by_spine, ite_spine, ite_self, modPort16_spine]; done) | (repeat' split) <;> simp only [State.spine_mk, State.by_spine, ite_spine, ite_self, modPort16_spine])

theorem execMgmtBusTimeout_keeps (s : State) : OutcomeKeeps s (execMgmtBusTimeout s) := by
  unfold execMgmtBusTimeout
  refine keeps_next ?_
  simp only [modPort16_spine]

end Sys2Proof.Machine
end

