-- ==== Sys2Proof/Laws/Modes.lean ====
section
/-! SUPPORT. What a mode change does to the spine, and what every command does to it at most. -/

set_option Elab.async false

namespace Sys2Proof.Machine

/-- The spine in a mode that has just been taken. -/
def Spine.toMode (m : Mode) (a : Spine) : Spine :=
  { a with mode := m, changing := none, ready := !(decide (m = .kindling) || decide (m = .lockout)), squelched := !modePowered m }

theorem modeEvent_spine (old new : Mode) (st : Status) (s : State) :
    (modeEvent old new st s).spine = { s.spine with changing := none } := by
  unfold modeEvent
  dsimp only
  split
  · exact (completeOr_spine ..).trans rfl
  · exact (emit_spine ..).trans rfl

theorem enterMode_spine (m : Mode) (st : Status) (s : State) : (enterMode m st s).spine = s.spine.toMode m := by
  unfold enterMode
  dsimp only
  rw [modeEvent_spine, logCounters_spine, ladderMode_spine, modeEffect_spine]
  rfl

theorem hardwareMode_spine (m : Mode) (s : State) : (hardwareMode m s).spine = s.spine.toMode m := enterMode_spine ..

theorem enterLockout_spine (cause address : Nat) (s : State) :
    (enterLockout cause address s).spine = if s.spine.mode = .lockout then s.spine else s.spine.toMode .lockout := by
  unfold enterLockout
  by_cases h : s.spine.mode = .lockout
  · rw [if_pos h]; exact congrArg State.spine (if_pos h)
  · rw [if_neg h]
    refine (congrArg State.spine (if_neg h)).trans ?_
    dsimp only
    rw [logRecord_spine, hardwareMode_spine, abortDeferred_spine]
    rfl

theorem enterEmber_spine (s : State) :
    (enterEmber s).spine = if s.spine.mode = .lockout ∨ s.spine.mode = .ember then s.spine else s.spine.toMode .ember := by
  unfold enterEmber
  by_cases h : s.spine.mode = .lockout
  · rw [if_pos (Or.inl h)]; exact congrArg State.spine (if_pos h)
  refine (congrArg State.spine (if_neg h)).trans ?_
  by_cases g : s.spine.mode = .ember
  · rw [if_pos (Or.inr g)]; exact congrArg State.spine (if_pos g)
  · rw [if_neg (not_or.mpr ⟨h, g⟩)]
    exact (congrArg State.spine (if_neg g)).trans (hardwareMode_spine ..)

theorem endDrain_spine (s : State) :
    (endDrain s).spine = if s.dev.drain.isSome then s.spine.toMode .standby else s.spine := by
  unfold endDrain
  cases h : s.dev.drain with
  | none => rfl
  | some d =>
    have h1 := flushFrames_spine (fun _ => true) countDown countDown_spine s
    dsimp only
    generalize flushFrames (fun _ => true) countDown s = u at h1
    rw [hardwareMode_spine, quiesced_spine]
    exact congrArg (Spine.toMode .standby) (Eq.trans rfl h1)

theorem resetPower_spine (s : State) : (resetPower s).spine = s.spine := by
  have h := powerDown_spine .off 5 { s with dev := { s.dev with mode := .kindling } }
  unfold resetPower
  generalize powerDown .off 5 { s with dev := { s.dev with mode := .kindling } } = u at h
  have e : u.spine = { s.spine with mode := .kindling } := h
  exact congrArg (fun a : Spine => { a with mode := s.dev.mode }) e

theorem resetContents_spine (s : State) : (resetContents s).spine = { s.spine with leases := [] } := by
  have h : ∀ u : State, (datapathReset u).spine = u.spine := datapathReset_spine
  unfold resetContents
  dsimp only
  refine (State.spine_mk ..).trans ?_
  simp only [State.by_spine, h, State.spine_mk, endLeases_spine, abortInflight_spine, abortDeferred_spine, foldl_spine,
    scrubAbort_spine, implies_true, hkaAppReset_spine, resetPower_spine, logCounters_spine, ite_spine, ite_self]

theorem resetInPlace_spine (causeBit : Nat) (s : State) :
    (resetInPlace causeBit s).spine = { s.spine with leases := [] } := by
  have h : (resetContents (abortDeferred (fun d => d.opcode = 0x0002) s)).spine = { s.spine with leases := [] } := by
    rw [resetContents_spine, abortDeferred_spine]
  unfold resetInPlace
  generalize resetContents (abortDeferred (fun d => d.opcode = 0x0002) s) = u at h
  dsimp only
  split
  · exact (completeOr_spine ..).trans h
  · split
    · exact h
    · exact h
  · exact h

theorem startAppReset_spine (causeBit : Nat) (automatic : Bool) (s : State) :
    (startAppReset causeBit automatic s).spine = { s.spine.toMode .kindling with leases := [] } := by
  have h := resetContents_spine s
  unfold startAppReset
  dsimp only
  generalize resetContents s = u at h
  rw [hardwareMode_spine]
  exact congrArg (Spine.toMode .kindling) (Eq.trans rfl h)

theorem leaveEmber_spine (causeBit : Nat) (automatic : Bool) (s : State) :
    (leaveEmber causeBit automatic s).spine
      = { s.spine.toMode .kindling with leases := if s.dev.phase < 6 then s.spine.leases else [] } := by
  unfold leaveEmber
  dsimp only
  by_cases h : s.dev.phase < 6
  · simp only [if_pos h, hardwareMode_spine, State.spine_mk, State.by_spine, ite_spine, logRecord_spine, flashWake_spine, ite_self]
    rfl
  · simp only [if_neg h, startAppReset_spine, ite_spine, logRecord_spine, flashWake_spine, ite_self]
    rfl

@[simp] theorem appResetDone_spine (causeBit : Nat) (s : State) : (appResetDone causeBit s).spine = s.spine :=
  completeOr_spine ..

/-- The end of Kindling or of an application reset takes STANDBY or EMBER. -/
theorem finishBoot_spine {s : State} (h : s.spine.mode = .kindling) :
    ∃ m, (finishBoot s).spine = s.spine.toMode m ∧ transition s.spine.mode m = true := by
  rw [h]
  by_cases g : (s.thm.trip || s.thm.latched) = true
  · refine ⟨.ember, ?_, rfl⟩
    unfold finishBoot
    split <;> simp only [g, if_true, appResetDone_spine, enterEmber_spine, State.spine_mk, State.by_spine, h] <;> rfl
  · refine ⟨.standby, ?_, rfl⟩
    unfold finishBoot
    split <;> simp only [g, Bool.false_eq_true, if_false, appResetDone_spine, hardwareMode_spine, State.spine_mk, State.by_spine] <;> rfl

/-! ### What a command does to the spine at most -/

/-- The change in progress is one that R32 lets DEV_MODE_SET request. -/
def Spine.ChangeOk (a : Spine) : Prop := ∀ c, a.changing = some c → commanded a.mode c.target = true

/-- What every command but the three resets of the pins keeps: the queue and the fuses, the SVN minima from falling, the pins
in step with the mode, LOCKOUT once it is in force, and the transitions of R32. -/
structure Moves (a b : Spine) : Prop where
  pending : b.pending = a.pending
  variantN : b.variantN = a.variantN
  serial : b.serial = a.serial
  svnTc : a.svnMinTc ≤ b.svnMinTc
  svnAc : a.svnMinAc ≤ b.svnMinAc
  pins : a.ready = !(decide (a.mode = .kindling) || decide (a.mode = .lockout)) ∧ a.squelched = !modePowered a.mode →
    b.ready = !(decide (b.mode = .kindling) || decide (b.mode = .lockout)) ∧ b.squelched = !modePowered b.mode
  lockout : a.mode = .lockout → a.changing = none → b.mode = .lockout ∧ b.changing = none
  change : a.ChangeOk → b.ChangeOk
  leases : LeasesApart a.leases → LeasesApart b.leases
  enter : a.ChangeOk → ModeStep a.mode b.mode

theorem Moves.refl (a : Spine) : Moves a a :=
  ⟨rfl, rfl, rfl, Nat.le_refl _, Nat.le_refl _, id, fun h g => ⟨h, g⟩, id, id, fun _ => .inl rfl⟩
theorem Moves.of_eq {a b : Spine} (h : b = a) : Moves a b := h ▸ Moves.refl a
theorem Moves.after {a b c : Spine} (h : b = a) (g : Moves b c) : Moves a c := h ▸ g
theorem Moves.before {a b c : Spine} (h : Moves a b) (g : c = b) : Moves a c := g ▸ h
/-- Two moves, whose modes together make a step of R32. -/
theorem Moves.trans {a b c : Spine} (h : Moves a b) (g : Moves b c) (e : a.ChangeOk → ModeStep a.mode c.mode) : Moves a c where
  pending := g.pending.trans h.pending
  variantN := g.variantN.trans h.variantN
  serial := g.serial.trans h.serial
  svnTc := Nat.le_trans h.svnTc g.svnTc
  svnAc := Nat.le_trans h.svnAc g.svnAc
  pins := fun x => g.pins (h.pins x)
  lockout := fun x y => g.lockout (h.lockout x y).1 (h.lockout x y).2
  change := fun x => g.change (h.change x)
  leases := fun x => g.leases (h.leases x)
  enter := e

/-- A mode is taken from any mode but LOCKOUT; from LOCKOUT only with a change in progress, or LOCKOUT itself. -/
theorem Moves.toMode {a : Spine} {m : Mode} (h : a.mode = .lockout → a.changing = none → m = .lockout)
    (e : a.ChangeOk → ModeStep a.mode m) : Moves a (a.toMode m) :=
  ⟨rfl, rfl, rfl, Nat.le_refl _, Nat.le_refl _, fun _ => ⟨rfl, rfl⟩, fun x y => ⟨h x y, rfl⟩, fun _ _ x => (nomatch x), id, e⟩

theorem Moves.raise {a : Spine} {x y : Nat} (hx : a.svnMinTc ≤ x) (hy : a.svnMinAc ≤ y) :
    Moves a { a with svnMinTc := x, svnMinAc := y } :=
  ⟨rfl, rfl, rfl, hx, hy, id, fun h g => ⟨h, g⟩, id, id, fun _ => .inl rfl⟩

/-- The leases alone change, and stay apart. -/
theorem Moves.lease {a : Spine} {l : List Lease} (h : LeasesApart a.leases → LeasesApart l) : Moves a { a with leases := l } :=
  ⟨rfl, rfl, rfl, Nat.le_refl _, Nat.le_refl _, id, fun h g => ⟨h, g⟩, id, h, fun _ => .inl rfl⟩

theorem leasesApart_nil : LeasesApart [] := ⟨by decide, .nil⟩

/-- KINDLING is taken from any mode but LOCKOUT, with the leases kept or ended. -/
theorem Moves.toKindling {a : Spine} {l : List Lease} (h : a.mode ≠ .lockout) (hl : l = a.leases ∨ l = []) :
    Moves a { a.toMode .kindling with leases := l } :=
  ⟨rfl, rfl, rfl, Nat.le_refl _, Nat.le_refl _, fun _ => ⟨rfl, rfl⟩, fun g => absurd g h, fun _ _ x => (nomatch x),
    fun g => hl.elim (fun e => e ▸ g) (fun e => e ▸ leasesApart_nil), fun _ => .inr (.inl rfl)⟩

theorem LeasesApart.filter {l : List Lease} (h : LeasesApart l) (f : Lease → Bool) : LeasesApart (l.filter f) :=
  ⟨Nat.le_trans (List.length_filter_le ..) h.1, h.2.filter f⟩

/-- KINDLING may follow every mode, LOCKOUT every mode but itself. -/
theorem modeStep_kindling (m : Mode) : ModeStep m .kindling := .inr (.inl rfl)
theorem modeStep_lockout (m : Mode) : ModeStep m .lockout := by cases m <;> first | exact .inl rfl | exact .inr (.inl rfl)

/-- A meaning answers a next state whose spine has moved at most so. -/
def OutcomeMoves (s : State) (o : Host.Outcome State Fault Refusal) : Prop := ∃ t, o = .next t ∧ Moves s.spine t.spine

theorem moves_next {s t : State} (h : Moves s.spine t.spine) : OutcomeMoves s (.next t) := ⟨t, rfl, h⟩
theorem moves_of_keeps {s : State} {o : Host.Outcome State Fault Refusal} (h : OutcomeKeeps s o) : OutcomeMoves s o := by
  obtain ⟨t, ho, ht⟩ := h
  exact ⟨t, ho, Moves.of_eq ht⟩
theorem moves_mode {s t : State} {m : Mode} (h : t.spine = s.spine.toMode m)
    (g : s.spine.mode = .lockout → s.spine.changing = none → m = .lockout)
    (e : s.spine.ChangeOk → ModeStep s.spine.mode m) : OutcomeMoves s (.next t) :=
  moves_next (h ▸ Moves.toMode g e)

theorem moves_lockout (cause address : Nat) (s : State) : OutcomeMoves s (.next (enterLockout cause address s)) := by
  refine moves_next ?_
  rw [enterLockout_spine]
  split
  · exact Moves.refl _
  · exact Moves.toMode (fun _ _ => rfl) (fun _ => modeStep_lockout _)

/-- What a command's own part answers moves the spine at most so. -/
def Reply.Moves (s : State) : Reply → Prop
  | .done _ _ _ t => Machine.Moves s.spine t.spine
  | .later _ _ _ _ eff => ∀ u, u.spine = s.spine → Machine.Moves u.spine (eff u).spine
  | .laterWith _ _ _ _ _ eff => ∀ u, u.spine = s.spine → Machine.Moves u.spine (eff u).spine
  | .wait _ t => Machine.Moves s.spine t.spine

theorem checked_moves {s : State} {cs : List Check} {r : Reply} (h : r.Moves s) : (checked s cs r).Moves s := by
  induction cs with
  | nil => exact h
  | cons c cs ih =>
    unfold checked
    split
    · exact Moves.refl _
    · exact ih

/-- As `checked_moves`, with what the checks have passed. -/
theorem checked_moves' {s : State} {cs : List Check} {r : Reply} (h : (∀ k ∈ cs, k.bad = false) → r.Moves s) :
    (checked s cs r).Moves s := by
  rcases checked_cases s cs r with ⟨g, e⟩ | ⟨k, _, _, e⟩ <;> rw [e]
  · exact h g
  · exact Moves.refl _

theorem conclude_moves {f : InFlight} {s : State} {r : Reply} (h : r.Moves s) : Moves s.spine (conclude f s r).spine := by
  cases r with
  | done st d resp t =>
    have g : (conclude f s (.done st d resp t)).spine = t.spine := reply_spine ..
    rw [g]; exact h
  | later u g c a eff =>
    dsimp only [conclude]
    split
    · exact Moves.of_eq (reply_spine ..)
    · have e := (beginOrigin_spine f.tag f.chan _).trans
        ((reply_spine f .deferred 0xFFFF [] (addDeferred f u g c a s)).trans (addDeferred_spine ..))
      exact Moves.after e ((h _ e).before (endOrigin_spine _))
  | laterWith resp u g c a eff =>
    dsimp only [conclude]
    split
    · exact Moves.of_eq (reply_spine ..)
    · have e := (beginOrigin_spine f.tag f.chan _).trans
        ((reply_spine f .deferred 0xFFFF resp (addDeferred f u g c a s)).trans (addDeferred_spine ..))
      exact Moves.after e ((h _ e).before (endOrigin_spine _))
  | wait k t => exact h

/-- In LOCKOUT only DEV_LOCKOUT_DIAG passes the checks (R30, R73). -/
theorem admission_lockout {c : CmdInfo} {p : Packet} {s : State} (hm : s.spine.mode = .lockout) (hop : c.opcode ≠ 9) :
    admission c p s ≠ .ok := by
  unfold admission
  have h : modeAccepts s.dev.mode c = false := by
    rw [show s.dev.mode = .lockout from hm]
    simp [modeAccepts, hop]
  rw [h]
  repeat' split
  all_goals first | decide | (intro x; cases x) | skip
  all_goals simp_all

/-- A command whose own part moves the spine at most so, outside LOCKOUT. -/
theorem runCommand_moves {c : CmdInfo} {body : Packet → State → Reply} {p : Packet} {s : State} (hop : c.opcode ≠ 9)
    (h : ∀ u, u.spine.mode ≠ .lockout → (body p u).Moves u) : Moves s.spine (runCommand c body p s).spine := by
  unfold runCommand
  split
  · exact Moves.of_eq (notStarted_spine ..)
  split
  · exact Moves.refl _
  dsimp only
  have e : (takePacket p s).spine = s.spine := takePacket_spine ..
  split
  · rename_i ha
    rw [← e]
    exact conclude_moves (h _ (fun hm => admission_lockout hm hop ha))
  · exact Moves.of_eq ((reply_spine ..).trans ((countBadCrc_spine _).trans e))
  · exact Moves.of_eq ((reply_spine ..).trans e)

theorem moves_run {c : CmdInfo} {body : Packet → State → Reply} {p : Packet} {s : State} (hop : c.opcode ≠ 9)
    (h : ∀ u, u.spine.mode ≠ .lockout → (body p u).Moves u) : OutcomeMoves s (.next (runCommand c body p s)) :=
  moves_next (runCommand_moves hop h)

/-! ### The meanings that may change the mode -/

theorem execSupplyCheckTimeout_moves (s : State) : OutcomeMoves s (execSupplyCheckTimeout s) := by
  unfold execSupplyCheckTimeout
  split
  · exact moves_lockout ..
  · exact moves_next (Moves.refl _)

theorem execFuseCheckDone_moves (ok : Bool) (s : State) : OutcomeMoves s (execFuseCheckDone ok s) := by
  unfold execFuseCheckDone
  repeat' split
  · exact moves_next (Moves.refl _)
  · exact moves_lockout ..
  · exact moves_next (Moves.refl _)

theorem execTcRamTestDone_moves (ok : Bool) (s : State) : OutcomeMoves s (execTcRamTestDone ok s) := by
  unfold execTcRamTestDone
  repeat' split
  · exact moves_next (Moves.refl _)
  · exact moves_lockout ..
  · exact moves_next (Moves.refl _)

theorem execTcImageCheckDone_moves (image : ImageIn) (s : State) : OutcomeMoves s (execTcImageCheckDone image s) := by
  unfold execTcImageCheckDone
  repeat' split
  · exact moves_next (Moves.refl _)
  · exact moves_next (Moves.of_eq (by simp only [modDev, extendChain_spine, State.spine_mk, State.by_spine]))
  · exact moves_next (Moves.refl _)
  · exact moves_lockout ..

theorem inPhase_mode {n : Nat} {s : State} (h : inPhase n s = true) : s.spine.mode = .kindling := by
  unfold inPhase at h
  simp only [Bool.and_eq_true, decide_eq_true_eq] at h
  exact h.1.1

theorem moves_boot {s : State} (h : s.spine.mode = .kindling) : OutcomeMoves s (.next (finishBoot s)) := by
  obtain ⟨m, hm, e⟩ := finishBoot_spine h
  exact moves_mode hm (fun g => absurd (h.symm.trans g) (by decide)) (fun _ => .inr (.inl e))

theorem execSelftestDone_moves (s : State) : OutcomeMoves s (execSelftestDone s) := by
  unfold execSelftestDone
  split
  · rename_i h
    simp only [Bool.and_eq_true] at h
    exact moves_boot (inPhase_mode h.1)
  · exact moves_next (Moves.refl _)

theorem execAppResetComplete_moves (imageOk : Bool) (s : State) : OutcomeMoves s (execAppResetComplete imageOk s) := by
  unfold execAppResetComplete
  split
  · exact moves_next (Moves.refl _)
  split
  · rename_i h _
    simp only [Bool.not_eq_true', Bool.not_eq_false, Bool.and_eq_true] at h
    exact moves_boot (inPhase_mode h.1)
  · exact moves_next (Moves.refl _)

/-- The end of a drain takes STANDBY, and only in QUIESCE. -/
theorem endDrain_moves {s : State} (h : s.spine.mode = .quiesce) : Moves s.spine (endDrain s).spine := by
  rw [endDrain_spine]
  split
  · exact Moves.toMode (fun g => absurd (h.symm.trans g) (by decide)) (fun _ => by rw [h]; exact .inr (.inl rfl))
  · exact Moves.refl _

theorem afterEntry_moves (s : State) : Moves s.spine (afterEntry s).spine := by
  unfold afterEntry
  split
  · rename_i h
    exact endDrain_moves h.1
  · exact Moves.refl _

/-- After the entry the mode stands, or the drain of QUIESCE ends at once. -/
theorem afterEntry_mode (s : State) :
    (afterEntry s).spine.mode = s.spine.mode ∨ (s.spine.mode = .quiesce ∧ (afterEntry s).spine.mode = .standby) := by
  unfold afterEntry
  split
  · rename_i h
    rw [endDrain_spine]
    split
    · exact .inr ⟨h.1, rfl⟩
    · exact .inl rfl
  · exact .inl rfl

/-- What DEV_MODE_SET may request is a transition of R32; from where QUIESCE may be entered, STANDBY may follow at once. -/
theorem commanded_step {a b : Mode} (h : commanded a b = true) : ModeStep a b := by
  cases a <;> cases b <;> first | exact .inr (.inl rfl) | exact absurd h (by decide)
theorem quiesce_step {a : Mode} (h : commanded a .quiesce = true) : ModeStep a .standby := by
  cases a <;> first | exact .inr (.inr ⟨.inl rfl, rfl⟩) | exact .inr (.inr ⟨.inr rfl, rfl⟩) | exact absurd h (by decide)

theorem execModeChangeComplete_moves (s : State) : OutcomeMoves s (execModeChangeComplete s) := by
  unfold execModeChangeComplete
  split
  · rename_i c hc
    have e : Moves s.spine (enterMode c.target .ok s).spine := by
      rw [enterMode_spine]
      exact Moves.toMode (fun _ g => absurd (hc.symm.trans g) (by simp)) (fun k => commanded_step (k c hc))
    refine moves_next (Moves.trans e (afterEntry_moves _) (fun k => ?_))
    have t : (enterMode c.target .ok s).spine.mode = c.target := by rw [enterMode_spine]; rfl
    rcases afterEntry_mode (enterMode c.target .ok s) with h | ⟨h, g⟩
    · rw [h, t]; exact commanded_step (k c hc)
    · rw [g]; rw [t] at h; exact quiesce_step (h ▸ k c hc)
  · exact moves_next (Moves.refl _)

theorem execQuiesceDrainComplete_moves (s : State) : OutcomeMoves s (execQuiesceDrainComplete s) := by
  unfold execQuiesceDrainComplete
  split
  · rename_i h
    exact moves_next (endDrain_moves h.1)
  · exact moves_next (Moves.refl _)

theorem execQuiesceDrainTimeout_moves (s : State) : OutcomeMoves s (execQuiesceDrainTimeout s) := by
  unfold execQuiesceDrainTimeout
  split
  · rename_i h
    exact moves_next (endDrain_moves h)
  · exact moves_next (Moves.refl _)

/-- An application reset outside LOCKOUT. -/
theorem startAppReset_moves {s : State} (causeBit : Nat) (automatic : Bool) (h : s.spine.mode ≠ .lockout) :
    Moves s.spine (startAppReset causeBit automatic s).spine := by
  rw [startAppReset_spine]
  exact Moves.toKindling h (.inr rfl)

theorem leaveEmber_moves {s : State} (causeBit : Nat) (automatic : Bool) (h : s.spine.mode ≠ .lockout) :
    Moves s.spine (leaveEmber causeBit automatic s).spine := by
  rw [leaveEmber_spine]
  refine Moves.toKindling h ?_
  split
  · exact .inl rfl
  · exact .inr rfl

theorem resetAllowed_mode {s : State} (h : resetAllowed s.dev.mode = true) : s.spine.mode ≠ .lockout := by
  intro g
  rw [show s.dev.mode = .lockout from g] at h
  exact absurd h (by decide)

theorem execAcWatchdogExpiry_moves (ac : Fin 4) (s : State) : OutcomeMoves s (execAcWatchdogExpiry ac s) := by
  unfold execAcWatchdogExpiry
  split
  · exact moves_next (Moves.refl _)
  dsimp only
  refine moves_next (Moves.after (logRecord_spine 0x0007 0 (leBytes 1 ac.val) s) ?_)
  split
  · rename_i h
    refine startAppReset_moves _ _ ?_
    rw [logRecord_spine]
    exact resetAllowed_mode h
  · rw [resetInPlace_spine]
    exact Moves.lease (fun _ => leasesApart_nil)

theorem execTcWatchdogExpiry_moves (s : State) : OutcomeMoves s (execTcWatchdogExpiry s) := by
  unfold execTcWatchdogExpiry
  split
  · exact moves_lockout ..
  · exact moves_next (Moves.refl _)

theorem execAcResumeAfterEmber_moves (s : State) : OutcomeMoves s (execAcResumeAfterEmber s) := by
  unfold execAcResumeAfterEmber
  split
  · exact moves_next (Moves.refl _)
  rename_i h
  have hm : s.spine.mode = .standby := Decidable.of_not_not (fun g => h (Or.inr (Or.inl g)))
  dsimp only
  split
  · refine moves_mode (m := .service) ?_ (fun g => absurd (hm.symm.trans g) (by decide)) (fun _ => by rw [hm]; exact .inr (.inl rfl))
    rw [enterMode_spine, resumeConfig_spine]
    rfl
  · exact moves_next (Moves.refl _)

theorem commitSvn_moves (i : ImageIn) (s : State) : Moves s.spine (commitSvn i s).spine := by
  unfold commitSvn modDev
  dsimp only
  split
  · exact Moves.raise (Nat.le_max_left ..) (Nat.le_refl _)
  · exact Moves.raise (Nat.le_refl _) (Nat.le_max_left ..)

/-- To run an image leaves the mode or starts an application reset. -/
theorem runImage_mode (i : ImageIn) (s : State) :
    (runImage i s).spine.mode = s.spine.mode ∨ (runImage i s).spine.mode = .kindling := by
  unfold runImage
  dsimp only
  split
  · rw [startAppReset_spine]; exact .inr rfl
  · exact .inl (by simp only [modDev, State.spine_mk, State.by_spine])

theorem runImage_moves (i : ImageIn) (s : State) : Moves s.spine (runImage i s).spine := by
  have e : (modDev (fun d => { d with acImage := some (imageOf i) }) s).spine = s.spine := by
    simp only [modDev, State.spine_mk, State.by_spine]
  unfold runImage
  dsimp only
  split
  · rename_i h
    refine Moves.after e (startAppReset_moves _ _ ?_)
    rw [e]
    exact resetAllowed_mode h
  · exact Moves.of_eq e

theorem execImageLoadComplete_moves (image : ImageIn) (s : State) : OutcomeMoves s (execImageLoadComplete image s) := by
  unfold execImageLoadComplete
  split
  · exact moves_next (Moves.refl _)
  rename_i x hx
  by_cases h : loadStatus image x.target s = .ok
  · have e1 : Moves s.spine (if x.commitSvn then commitSvn image s else s).spine := by
      split
      · exact commitSvn_moves ..
      · exact Moves.refl _
    dsimp only
    rw [if_neg (fun g => g h)]
    generalize (if x.commitSvn then commitSvn image s else s) = u at e1
    have e2 : ∀ v : State, v.spine = u.spine → Moves s.spine v.spine := fun v hv => Moves.before e1 hv
    split
    · have e3 : ∀ v : State, v.spine = u.spine → OutcomeMoves s (.next (runImage image v)) := fun v hv => by
        refine moves_next (Moves.trans (e2 v hv) (runImage_moves ..) (fun k => ?_))
        rcases runImage_mode image v with g | g
        · rw [g]; exact (e2 v hv).enter k
        · rw [g]; exact modeStep_kindling _
      refine e3 _ ?_
      simp only [imageLoaded_spine, extendChain_spine, logRecord_spine, ite_spine, ite_self]
    · refine moves_next (e2 _ ?_)
      unfold modDev
      dsimp only
      split
      all_goals
        simp only [imageLoaded_spine, extendChain_spine, logRecord_spine, State.spine_mk, State.by_spine, ite_spine, ite_self]
  · dsimp only
    rw [if_pos h]
    exact moves_next (Moves.of_eq (imageLoaded_spine ..))

/-! ### Commands that may change the mode -/

theorem execDevModeSet_moves (p : Packet) (s : State) : OutcomeMoves s (execDevModeSet p s) := by
  refine moves_run (by decide) (fun u hu => ?_)
  unfold replyDevModeSet
  dsimp only
  split
  · exact Moves.refl _
  rename_i m _
  rcases checked_cases u _ _ with ⟨hk, e⟩ | ⟨_, _, _, e⟩ <;> rw [e]
  · simp only [List.forall_mem_cons, failIf, Bool.not_eq_false'] at hk
    have c : commanded u.spine.mode m = true := hk.1
    split
    · show Moves u.spine (enterMode ..).spine
      rw [enterMode_spine]
      exact Moves.toMode (fun g => absurd g hu) (fun _ => commanded_step c)
    · intro v hv
      refine ⟨rfl, rfl, rfl, Nat.le_refl _, Nat.le_refl _, id, fun g => absurd (hv ▸ g) hu, fun _ x hx => ?_, id,
        fun _ => .inl rfl⟩
      cases hx
      rw [← hv] at c
      exact c
  · exact Moves.refl _

theorem execDevAppReset_moves (p : Packet) (s : State) : OutcomeMoves s (execDevAppReset p s) := by
  refine moves_run (by decide) (fun u hu => ?_)
  unfold replyDevAppReset
  exact fun v hv => startAppReset_moves _ _ (hv ▸ hu)

theorem execDevEmberRelease_moves (p : Packet) (s : State) : OutcomeMoves s (execDevEmberRelease p s) := by
  refine moves_run (by decide) (fun u hu => ?_)
  unfold replyDevEmberRelease
  refine checked_moves ?_
  show Moves u.spine (leaveEmber ..).spine
  have e : (logRecord 0x0003 0 (leBytes 4 u.thm.record.cause ++ leBytes 4 u.thm.record.sensor)
      { u with thm := { u.thm with latched := false } }).spine = u.spine := (logRecord_spine ..).trans rfl
  exact Moves.after e (leaveEmber_moves _ _ (by rw [e]; exact hu))

/-! ### Temperature, memory errors, calibration, the function-level reset and register writes -/

theorem takeTrip_moves (s : State) : Moves s.spine (takeTrip s).spine := by
  unfold takeTrip
  dsimp only
  rw [enterEmber_spine]
  have e : ∀ v : State, v.spine = s.spine →
      Moves s.spine (if v.spine.mode = .lockout ∨ v.spine.mode = .ember then v.spine else v.spine.toMode .ember) := by
    intro v hv
    rw [hv]
    split
    · exact Moves.refl _
    · rename_i h
      refine Moves.toMode (fun g => absurd (Or.inl g) h) (fun _ => ?_)
      cases g : s.spine.mode <;> first | exact .inr (.inl rfl) | exact absurd (by simp [g]) h
  refine e _ ?_
  rw [abortDeferred_spine, emit_spine, flashSleep_spine]
  simp only [addLife_spine, exportTrip_spine, logRecord_spine, modThm_spine, State.spine_mk, State.by_spine, ite_spine, ite_self]

theorem tripStep_moves (s : State) : Moves s.spine (tripStep s).spine := by
  unfold tripStep
  repeat' split
  · exact Moves.of_eq (modThm_spine ..)
  · exact Moves.refl _
  · exact takeTrip_moves s
  · exact Moves.refl _

theorem execThmSample_moves (readings : List SensorIn) (s : State) : OutcomeMoves s (execThmSample readings s) := by
  unfold execThmSample
  split
  · exact moves_next (Moves.refl _)
  split
  · refine moves_next (Moves.after ?_ (tripStep_moves _))
    simp only [cadenceStep_spine, takeReadings_spine]
  · refine moves_next ?_
    simp only [thmMirror_spine, cnvOnTemp_spine, ladder_spine, coolStep_spine]
    refine Moves.after ?_ (tripStep_moves _)
    simp only [windowStep_spine, cadenceStep_spine, degradedStep_spine, invalidEvents_spine, takeReadings_spine, modThm_spine, advancePs_spine]

theorem execCoolingRuleMet_moves (s : State) : OutcomeMoves s (execCoolingRuleMet s) := by
  unfold execCoolingRuleMet
  split
  · exact moves_next (Moves.refl _)
  dsimp only
  split
  · rename_i h
    refine moves_next (Moves.after (modThm_spine ..) (leaveEmber_moves _ _ (fun g => ?_)))
    rw [modThm_spine] at g
    exact absurd (h.1.symm.trans g) (by decide)
  split
  · exact moves_next (Moves.of_eq (by simp only [flashWake_spine, modThm_spine, State.spine_mk, State.by_spine]))
  · exact moves_next (Moves.of_eq (modThm_spine ..))

theorem execAcmPageReloadComplete_moves (ok : Bool) (s : State) : OutcomeMoves s (execAcmPageReloadComplete ok s) := by
  unfold execAcmPageReloadComplete
  split
  · exact moves_next (Moves.refl _)
  dsimp only
  have e := (rebuilt_spine .codePage false { s with mi := { s.mi with reloading := none } }).trans (Eq.refl s.spine)
  generalize rebuilt .codePage false { s with mi := { s.mi with reloading := none } } = u at e
  split
  · exact moves_next (Moves.of_eq e)
  · rename_i h
    refine moves_next (Moves.after e (startAppReset_moves _ _ (resetAllowed_mode ?_)))
    simp only [Bool.or_eq_true, Bool.not_eq_true', not_or, Bool.not_eq_false] at h
    exact h.2

theorem ueEffect_moves (k inst row : Nat) (target : UeTarget) (s : State) : Moves s.spine (ueEffect k inst row target s).spine := by
  have l : ∀ c a, Moves s.spine (enterLockout c a s).spine := fun c a => by
    obtain ⟨t, ht, h⟩ := moves_lockout c a s
    cases ht
    exact h
  unfold ueEffect
  split
  · exact l ..
  split
  · exact l ..
  refine Moves.of_eq ?_
  split
  · exact tileError_spine ..
  split
  all_goals try rfl
  all_goals try exact stagedEvent_spine _
  all_goals
    simp only [flushFrames_spine _ _ countCorrupt_spine, pktRefresh_spine, plkRefresh_spine,
      startEngineReset_spine, coreMemoryError_spine, jobError_spine,
      stagedCommand_spine, State.spine_mk, State.by_spine, ite_spine, ite_self]

theorem execMemoryUncorrectableError_moves (cls : Fin 14) (inst row : Nat) (scrub : Bool) (target : UeTarget) (s : State) :
    OutcomeMoves s (execMemoryUncorrectableError cls inst row scrub target s) := by
  unfold execMemoryUncorrectableError
  dsimp only
  split
  · exact moves_next (Moves.refl _)
  split
  · split
    · exact moves_next (Moves.refl _)
    · exact moves_next (Moves.after (by simp only [State.spine_mk, State.by_spine]) (ueEffect_moves ..))
  · refine moves_next (Moves.after ?_ (ueEffect_moves ..))
    simp only [reportUe_spine, poisonRow_spine, countScrub_spine, useFlip_spine, setValid_spine, ite_spine, ite_self]

theorem execCnvFgCalComplete_moves (group : Fin 2) (adcs : List FgAdc) (dacs : List FgDac) (s : State) :
    OutcomeMoves s (execCnvFgCalComplete group adcs dacs s) := by
  unfold execCnvFgCalComplete
  dsimp only
  split
  · exact moves_next (Moves.refl _)
  · refine moves_next ?_
    generalize hu : fgFinish _ _ _ = u
    have e : u.spine = s.spine := by
      rw [← hu, fgFinish_spine, startTxpd_spine, modGroup_spine, foldl_spine _ (fun v a => fgStoreDac_spine ..),
        foldl_spine _ (fun v a => fgStoreAdc_spine ..)]
    split
    · rename_i h
      rw [enterMode_spine, e]
      simp only [Bool.and_eq_true, decide_eq_true_eq] at h
      have c : s.spine.mode = .calibrate := (congrArg Spine.mode e).symm.trans h.2
      exact Moves.toMode (fun g => absurd (c.symm.trans g) (by decide)) (fun _ => by rw [c]; exact .inr (.inl rfl))
    · exact Moves.of_eq e

theorem execFunctionLevelReset_moves (s : State) : OutcomeMoves s (execFunctionLevelReset s) := by
  unfold execFunctionLevelReset
  split
  · exact moves_next (Moves.refl _)
  dsimp only
  split
  · refine moves_next ?_
    rw [resetInPlace_spine, modHif_spine _ _ rfl]
    exact Moves.lease (fun _ => leasesApart_nil)
  · rename_i h
    refine moves_next (Moves.after (modHif_spine _ _ rfl) (startAppReset_moves _ _ ?_))
    rw [modHif_spine _ _ rfl]
    exact resetAllowed_mode (by simpa using h)

theorem tcWrite_moves (addr v : Nat) (s : State) : Moves s.spine (tcWrite addr v s).spine := by
  unfold tcWrite
  split
  · exact Moves.raise (Nat.le_max_left ..) (Nat.le_max_left ..)
  · repeat' split
    all_goals exact Moves.of_eq (by first | rfl | exact modThm_spine ..)

theorem writeReg_moves (src : Writer) (addr : Nat) (value : Word) (s : State) : Moves s.spine (writeReg src addr value s).spine := by
  have e : (pmSelWrite src value s).spine = s.spine := by
    obtain ⟨t, ht, h⟩ := execFrmPmSelWrite_keeps src value s
    unfold pmSelWrite
    rw [ht]
    exact h
  unfold writeReg
  dsimp only
  split
  · split
    · exact tcWrite_moves ..
    · exact Moves.of_eq (refuseTc_spine ..)
    · exact Moves.of_eq (refuseTc_spine ..)
  · refine Moves.of_eq ?_
    simp only [snapRequest_spine, devWrite_spine, ctrlWrite_spine, hifWrite_spine, timWrite_spine, cnvWrite_spine, monWrite_spine, e,
      ite_spine, ite_self]

theorem execRegisterWrite_moves (src : Writer) (addr width : Nat) (value : Word) (s : State) :
    OutcomeMoves s (execRegisterWrite src addr width value s) := by
  unfold execRegisterWrite
  repeat' split
  · exact moves_next (Moves.refl _)
  · exact moves_next (Moves.of_eq (countBadAccess_spine s))
  · exact moves_next (Moves.of_eq (msixWrite_spine ..))
  · exact moves_next (writeReg_moves ..)

/-! ### The leases -/

theorem execLeaseExpiry_moves (id : Word) (s : State) : OutcomeMoves s (execLeaseExpiry id s) := by
  unfold execLeaseExpiry
  split
  · exact moves_next (Moves.refl _)
  · refine moves_next ?_
    rw [leaseEnded_spine, dropLease_spine, advancePs_spine]
    exact Moves.lease (fun h => h.filter _)

/-- The groups of the leases, among them those of each. -/
theorem foldl_mask_le (l : List Lease) (m : Half) : m &&& l.foldl (fun m l => m ||| l.mask) m = m := by
  induction l generalizing m with
  | nil => simp
  | cons y ys ih =>
    rw [List.foldl_cons]
    have h : m = m &&& (m ||| y.mask) := by ext i hi; simp; intro g; simp [g]
    rw [h, BitVec.and_assoc, ← h, ih, ← h]
theorem mask_leased {l : List Lease} {x : Lease} (h : x ∈ l) (m : Half) : x.mask &&& l.foldl (fun m l => m ||| l.mask) m = x.mask := by
  induction l generalizing m with
  | nil => simp at h
  | cons y ys ih =>
    rw [List.foldl_cons]
    rcases List.mem_cons.mp h with rfl | g
    · have e : x.mask = x.mask &&& (m ||| x.mask) := by ext i hi; simp; intro g; simp [g]
      have k := congrArg (x.mask &&& ·) (foldl_mask_le ys (m ||| x.mask))
      rw [← BitVec.and_assoc, ← e] at k
      exact k
    · exact ih g _

/-- A further lease on groups that none of the leases has. -/
theorem LeasesApart.grant {l : List Lease} (h : LeasesApart l) {x : Lease} (hn : l.length < 8)
    (hx : l.foldl (fun m l => m ||| l.mask) 0 &&& x.mask = 0) : LeasesApart (l ++ [x]) := by
  refine ⟨by simp; omega, List.pairwise_append.mpr ⟨h.2, by simp, fun a ha b hb => ?_⟩⟩
  rw [List.mem_singleton.mp hb, ← mask_leased ha 0, BitVec.and_assoc, hx]
  simp

theorem endLapsed_spine (s : State) : (endLapsed s).spine = { s.spine with leases := s.activeLeases } := by
  unfold endLapsed
  rw [foldl_spine _ (fun u l => leaseEnded_spine ..)]
  rfl

theorem replyHifLeaseGrant_moves (p : Packet) (s : State) : (replyHifLeaseGrant p s).Moves s := by
  unfold replyHifLeaseGrant
  dsimp only
  refine checked_moves' ?_
  intro h
  generalize hu : endLapsed s = u
  have e := (congrArg State.spine hu).symm.trans (endLapsed_spine s)
  have l : u.hif.leases = s.activeLeases := congrArg Spine.leases e
  generalize hx : Lease.mk _ _ _ = x
  have hm : x.mask = BitVec.ofNat 16 (u16 p.params 4) := hx ▸ rfl
  refine Moves.before (Moves.lease (l := s.activeLeases ++ [x]) (fun a => (a.filter _).grant ?_ ?_)) ?_
  · have k := h (failIf .noResource (8 ≤ s.activeLeases.length)) (by simp)
    exact Nat.lt_of_not_le (of_decide_eq_false k)
  · have k := h (failIf .badState (s.leasedMask &&& BitVec.ofNat 16 (u16 p.params 4) ≠ 0)) (by simp)
    exact hm ▸ Decidable.of_not_not (of_decide_eq_false k)
  · exact l ▸ congrArg (fun a : Spine => { a with leases := u.hif.leases ++ [x] }) e

theorem execHifLeaseGrant_moves (p : Packet) (s : State) : OutcomeMoves s (execHifLeaseGrant p s) :=
  moves_run (by decide) (fun u _ => replyHifLeaseGrant_moves p u)

theorem execHifLeaseRevoke_moves (p : Packet) (s : State) : OutcomeMoves s (execHifLeaseRevoke p s) :=
  moves_run (by decide) (fun u _ => by
    unfold replyHifLeaseRevoke
    refine checked_moves ?_
    unfold Reply.ok Reply.Moves
    dsimp only
    rw [leaseEnded_spine, dropLease_spine]
    exact Moves.lease (fun h => h.filter _))

/-! ### The management port, whose packets carry any command -/

/-- Every command of a list moves the spine at most so. -/
def RunnersMove (l : List Runner) : Prop := ∀ r ∈ l, ∀ (p : Packet) (s : State), OutcomeMoves s (r p s)

theorem group0Runners_move : RunnersMove group0Runners := by
  unfold RunnersMove group0Runners
  simp only [List.forall_mem_cons]
  exact ⟨execDevModeSet_moves,
    execDevAppReset_moves,
    fun p s => moves_of_keeps (execDevEngineReset_keeps p s),
    execDevEmberRelease_moves,
    fun p s => moves_of_keeps (execDevImageLoad_keeps p s),
    fun p s => moves_of_keeps (execDevOpkey_keeps p s),
    fun p s => moves_of_keeps (execDevAttestQuote_keeps p s),
    fun p s => moves_of_keeps (execDevAttestCert_keeps p s),
    fun p s => moves_of_keeps (execDevLockoutDiag_keeps p s),
    nofun⟩

theorem group1Runners_move : RunnersMove group1Runners := by
  unfold RunnersMove group1Runners
  simp only [List.forall_mem_cons]
  exact ⟨fun p s => moves_of_keeps (execHifIdentify_keeps p s),
    fun p s => moves_of_keeps (execHifQueueCreate_keeps p s),
    fun p s => moves_of_keeps (execHifQueueDelete_keeps p s),
    execHifLeaseGrant_moves,
    execHifLeaseRevoke_moves,
    fun p s => moves_of_keeps (execHifLeaseQuery_keeps p s),
    fun p s => moves_of_keeps (execHifEventMask_keeps p s),
    fun p s => moves_of_keeps (execHifSpiXfer_keeps p s),
    fun p s => moves_of_keeps (execHifI2cXfer_keeps p s),
    fun p s => moves_of_keeps (execHifMgmtEventRead_keeps p s),
    fun p s => moves_of_keeps (execHifNop_keeps p s),
    nofun⟩

theorem group2Runners_move : RunnersMove group2Runners := by
  unfold RunnersMove group2Runners
  simp only [List.forall_mem_cons]
  exact ⟨fun p s => moves_of_keeps (execTimGet_keeps p s),
    fun p s => moves_of_keeps (execTimSet_keeps p s),
    fun p s => moves_of_keeps (execTimAdjust_keeps p s),
    fun p s => moves_of_keeps (execTimFreqSet_keeps p s),
    fun p s => moves_of_keeps (execTimSrcSet_keeps p s),
    fun p s => moves_of_keeps (execTimPtpCfg_keeps p s),
    fun p s => moves_of_keeps (execTimPtpRing_keeps p s),
    fun p s => moves_of_keeps (execTimPtpSend_keeps p s),
    fun p s => moves_of_keeps (execTimSnapshot_keeps p s),
    nofun⟩

theorem group3Runners_move : RunnersMove group3Runners := by
  unfold RunnersMove group3Runners
  simp only [List.forall_mem_cons]
  exact ⟨fun p s => moves_of_keeps (execCnvFgCal_keeps p s),
    fun p s => moves_of_keeps (execCnvRefresh_keeps p s),
    fun p s => moves_of_keeps (execCnvCfgSet_keeps p s),
    fun p s => moves_of_keeps (execCnvTsetRead_keeps p s),
    fun p s => moves_of_keeps (execCnvTsetClear_keeps p s),
    fun p s => moves_of_keeps (execCnvDacCharRead_keeps p s),
    fun p s => moves_of_keeps (execCnvLoop_keeps p s),
    nofun⟩

theorem group4Runners_move : RunnersMove group4Runners := by
  unfold RunnersMove group4Runners
  simp only [List.forall_mem_cons]
  exact ⟨fun p s => moves_of_keeps (execDspProfileSet_keeps p s),
    fun p s => moves_of_keeps (execDspCdSet_keeps p s),
    fun p s => moves_of_keeps (execDspEqSet_keeps p s),
    fun p s => moves_of_keeps (execDspNlcSet_keeps p s),
    fun p s => moves_of_keeps (execDspRxSet_keeps p s),
    fun p s => moves_of_keeps (execDspTxSet_keeps p s),
    fun p s => moves_of_keeps (execDspTxRespLoad_keeps p s),
    fun p s => moves_of_keeps (execDspFastsopForce_keeps p s),
    fun p s => moves_of_keeps (execDspTestPattern_keeps p s),
    fun p s => moves_of_keeps (execDspQualityGet_keeps p s),
    nofun⟩

theorem group5Runners_move : RunnersMove group5Runners := by
  unfold RunnersMove group5Runners
  simp only [List.forall_mem_cons]
  exact ⟨fun p s => moves_of_keeps (execFecCfgSet_keeps p s),
    fun p s => moves_of_keeps (execFecThrSet_keeps p s),
    fun p s => moves_of_keeps (execFecStatsGet_keeps p s),
    fun p s => moves_of_keeps (execFecPoolGet_keeps p s),
    fun p s => moves_of_keeps (execFecCoreRetest_keeps p s),
    fun p s => moves_of_keeps (execFecErrInject_keeps p s),
    nofun⟩

theorem group6Runners_move : RunnersMove group6Runners := by
  unfold RunnersMove group6Runners
  simp only [List.forall_mem_cons]
  exact ⟨fun p s => moves_of_keeps (execFrmDefectCfgSet_keeps p s),
    fun p s => moves_of_keeps (execFrmTtiSet_keeps p s),
    fun p s => moves_of_keeps (execFrmTtiGet_keeps p s),
    fun p s => moves_of_keeps (execFrmCaSet_keeps p s),
    fun p s => moves_of_keeps (execFrmPmCfgSet_keeps p s),
    fun p s => moves_of_keeps (execFrmPmRead_keeps p s),
    fun p s => moves_of_keeps (execFrmPmClear_keeps p s),
    fun p s => moves_of_keeps (execFrmTcaSet_keeps p s),
    fun p s => moves_of_keeps (execFrmMaintInsert_keeps p s),
    nofun⟩

theorem group7Runners_move : RunnersMove group7Runners := by
  unfold RunnersMove group7Runners
  simp only [List.forall_mem_cons]
  exact ⟨fun p s => moves_of_keeps (execMapPlanBegin_keeps p s),
    fun p s => moves_of_keeps (execMapPlanLoad_keeps p s),
    fun p s => moves_of_keeps (execMapPlanCommit_keeps p s),
    fun p s => moves_of_keeps (execMapPlanAbort_keeps p s),
    fun p s => moves_of_keeps (execMapPlanGet_keeps p s),
    fun p s => moves_of_keeps (execApsCfgSet_keeps p s),
    fun p s => moves_of_keeps (execApsCmd_keeps p s),
    fun p s => moves_of_keeps (execApsStatusGet_keeps p s),
    nofun⟩

theorem group8Runners_move : RunnersMove group8Runners := by
  unfold RunnersMove group8Runners
  simp only [List.forall_mem_cons]
  exact ⟨fun p s => moves_of_keeps (execCphKeyImport_keeps p s),
    fun p s => moves_of_keeps (execCphKeyAgree_keeps p s),
    fun p s => moves_of_keeps (execCphKeyErase_keeps p s),
    fun p s => moves_of_keeps (execCphKeyInfo_keeps p s),
    fun p s => moves_of_keeps (execCphEpochSet_keeps p s),
    fun p s => moves_of_keeps (execCphEpochSwitch_keeps p s),
    fun p s => moves_of_keeps (execCphTribSet_keeps p s),
    fun p s => moves_of_keeps (execCphTribGet_keeps p s),
    fun p s => moves_of_keeps (execCphJobSubmit_keeps p s),
    fun p s => moves_of_keeps (execCphJobCancel_keeps p s),
    fun p s => moves_of_keeps (execCphCtxSave_keeps p s),
    fun p s => moves_of_keeps (execCphCtxRestore_keeps p s),
    nofun⟩

theorem group9Runners_move : RunnersMove group9Runners := by
  unfold RunnersMove group9Runners
  simp only [List.forall_mem_cons]
  exact ⟨fun p s => moves_of_keeps (execPktPortSet_keeps p s),
    fun p s => moves_of_keeps (execPktEntitySet_keeps p s),
    fun p s => moves_of_keeps (execPktEntityGet_keeps p s),
    fun p s => moves_of_keeps (execPktRuleAdd_keeps p s),
    fun p s => moves_of_keeps (execPktRuleDel_keeps p s),
    fun p s => moves_of_keeps (execPktGateLoad_keeps p s),
    fun p s => moves_of_keeps (execPktGateSet_keeps p s),
    fun p s => moves_of_keeps (execPktStatsGet_keeps p s),
    nofun⟩

theorem group10Runners_move : RunnersMove group10Runners := by
  unfold RunnersMove group10Runners
  simp only [List.forall_mem_cons]
  exact ⟨fun p s => moves_of_keeps (execClnCifSet_keeps p s),
    fun p s => moves_of_keeps (execClnLaneSet_keeps p s),
    fun p s => moves_of_keeps (execClnLoop_keeps p s),
    fun p s => moves_of_keeps (execClnPrbs_keeps p s),
    fun p s => moves_of_keeps (execClnCifGet_keeps p s),
    nofun⟩

theorem group11Runners_move : RunnersMove group11Runners := by
  unfold RunnersMove group11Runners
  simp only [List.forall_mem_cons]
  exact ⟨fun p s => moves_of_keeps (execPlkCfgSet_keeps p s),
    fun p s => moves_of_keeps (execPlkLaneSet_keeps p s),
    fun p s => moves_of_keeps (execPlkLoop_keeps p s),
    fun p s => moves_of_keeps (execPlkStatusGet_keeps p s),
    nofun⟩

theorem group12Runners_move : RunnersMove group12Runners := by
  unfold RunnersMove group12Runners
  simp only [List.forall_mem_cons]
  exact ⟨fun p s => moves_of_keeps (execMonChSet_keeps p s),
    fun p s => moves_of_keeps (execMonFsopSet_keeps p s),
    fun p s => moves_of_keeps (execMonDetGet_keeps p s),
    fun p s => moves_of_keeps (execMonRingSet_keeps p s),
    fun p s => moves_of_keeps (execHkaSeqSet_keeps p s),
    fun p s => moves_of_keeps (execHkaInject_keeps p s),
    fun p s => moves_of_keeps (execHkaCal_keeps p s),
    fun p s => moves_of_keeps (execHkaCorrSet_keeps p s),
    fun p s => moves_of_keeps (execHkaCfgSet_keeps p s),
    nofun⟩

theorem group13Runners_move : RunnersMove group13Runners := by
  unfold RunnersMove group13Runners
  simp only [List.forall_mem_cons]
  exact ⟨fun p s => moves_of_keeps (execThmLimitSet_keeps p s),
    fun p s => moves_of_keeps (execThmStatusGet_keeps p s),
    fun p s => moves_of_keeps (execThmSensorGet_keeps p s),
    fun p s => moves_of_keeps (execThmTripGet_keeps p s),
    fun p s => moves_of_keeps (execPwrAvsGet_keeps p s),
    fun p s => moves_of_keeps (execPwrAvsFix_keeps p s),
    nofun⟩

theorem group14Runners_move : RunnersMove group14Runners := by
  unfold RunnersMove group14Runners
  simp only [List.forall_mem_cons]
  exact ⟨fun p s => moves_of_keeps (execMiScrubRange_keeps p s),
    fun p s => moves_of_keeps (execMiPatrolSet_keeps p s),
    fun p s => moves_of_keeps (execMiFlipTest_keeps p s),
    fun p s => moves_of_keeps (execMiCinderRead_keeps p s),
    fun p s => moves_of_keeps (execMiClassGet_keeps p s),
    nofun⟩

theorem group15Runners_move : RunnersMove group15Runners := by
  unfold RunnersMove group15Runners
  simp only [List.forall_mem_cons]
  exact ⟨fun p s => moves_of_keeps (execLogExport_keeps p s),
    fun p s => moves_of_keeps (execLogCountersGet_keeps p s),
    fun p s => moves_of_keeps (execLogPlanGet_keeps p s),
    fun p s => moves_of_keeps (execLogPlanRun_keeps p s),
    fun p s => moves_of_keeps (execLogNote_keeps p s),
    fun p s => moves_of_keeps (execLogAgeingGet_keeps p s),
    fun p s => moves_of_keeps (execLogRefresh_keeps p s),
    nofun⟩

theorem groups_move : ∀ l ∈ [group0Runners, group1Runners, group2Runners, group3Runners, group4Runners, group5Runners, group6Runners, group7Runners, group8Runners, group9Runners, group10Runners, group11Runners, group12Runners, group13Runners, group14Runners, group15Runners], RunnersMove l := by
  simp only [List.forall_mem_cons]
  exact ⟨group0Runners_move, group1Runners_move, group2Runners_move, group3Runners_move, group4Runners_move, group5Runners_move, group6Runners_move, group7Runners_move, group8Runners_move, group9Runners_move, group10Runners_move, group11Runners_move, group12Runners_move, group13Runners_move, group14Runners_move, group15Runners_move, nofun⟩

theorem runnersOf_move (group : Nat) : RunnersMove (runnersOf group) := by
  unfold runnersOf
  have h : ∀ l : List (List Runner), (∀ x ∈ l, RunnersMove x) → RunnersMove (l.getD group []) := by
    intro l hl
    rw [List.getD_eq_getElem?_getD]
    cases e : l[group]? with
    | none => nofun
    | some x => exact hl x (List.mem_of_getElem? e)
  exact h _ groups_move

theorem runnerOf_moves (opcode : Nat) (p : Packet) (s : State) : OutcomeMoves s (runnerOf opcode p s) := by
  have u := moves_of_keeps (execUndefinedOpcode_keeps (BitVec.ofNat 16 opcode) p s)
  unfold runnerOf
  split
  · exact u
  cases h : (runnersOf (opcode / 256))[opcode % 256 - 1]? with
  | none => exact u
  | some r => exact runnersOf_move _ r (List.mem_of_getElem? h) p s

theorem execMgmtPacketWrite_moves (bytes : List Byte) (s : State) : OutcomeMoves s (execMgmtPacketWrite bytes s) := by
  unfold execMgmtPacketWrite
  split
  · exact moves_next (Moves.refl _)
  split
  · exact moves_next (Moves.of_eq (modPort16_spine ..))
  split
  · exact moves_next (Moves.of_eq (modPort16_spine ..))
  dsimp only
  split
  · obtain ⟨t, ht, h⟩ := runnerOf_moves (u16 bytes 0) (packetFrom bytes) (modPort16 (fun m => { m with nacked := false, busOut := [] }) s)
    exact ⟨t, ht, Moves.after (modPort16_spine ..) h⟩
  · exact moves_next (Moves.of_eq (by simp only [reply_spine, countBadCrc_spine, takePacket_spine, modPort16_spine]))

/-- An entry that has waited behind a fence runs as any other (R67). -/
theorem startWaiting_moves (n : Nat) (s : State) : Moves s.spine (startWaiting n s).spine := by
  have rest : ∀ t : State, Moves s.spine t.spine → Moves s.spine
      (if (t.queue n).enabled then t.setQueue n { t.queue n with waiting := (s.queue n).waiting.drop 1 } else t).spine := by
    intro t h
    split
    · rwa [State.setQueue_spine]
    · exact h
  unfold startWaiting
  dsimp only
  split
  · exact Moves.refl _
  split
  · split
    · exact rest _ (Moves.of_eq (by simp only [fetchFailed_spine, State.setQueue_spine]))
    · exact Moves.refl _
  split
  · exact Moves.refl _
  · rename_i w _ _ _ op p _ _
    obtain ⟨t, ht, h⟩ := runnerOf_moves op p
      (modHif (fun h => { h with stamped := some (w.arrival, w.tod) }) (s.setQueue n { s.queue n with waiting := [] }))
    rw [ht]
    refine rest _ ?_
    rw [modHif_spine _ _ rfl]
    rwa [modHif_spine _ _ rfl, State.setQueue_spine] at h

theorem startHeld_moves (s : State) : Moves s.spine (startHeld s).spine := by
  unfold startHeld
  split
  · exact startWaiting_moves ..
  · exact Moves.refl _

end Sys2Proof.Machine
end

