-- ==== Sys2Proof/Laws/Signal.lean ====
section
/-! SUPPORT. What the signals carry: each scrambler undoes itself, BIP-8 keeps its violations across encryption, and a receiver
deletes exactly the symbols that were stuffed. -/

set_option Elab.async false

namespace Sys2Proof.Machine

/-- The payload scrambler descrambles: its register does not see the data (R215). -/
@[simp] theorem payloadScramble_twice (r : Half) (bs : List Bool) : payloadScramble r (payloadScramble r bs) = bs := by
  induction bs generalizing r with
  | nil => rfl
  | cons b bs ih => simp [payloadScramble, ih]

@[simp] theorem payloadScramble_length (r : Half) (bs : List Bool) : (payloadScramble r bs).length = bs.length := by
  induction bs generalizing r with
  | nil => rfl
  | cons b bs ih => simp [payloadScramble, ih]

/-- A block received as it was sent shows no fill error (R214, R215). -/
theorem fillErrors_clean (profile k : Nat) (stream : Nat → Bool) :
    fillErrors profile (scrambleBlock ((List.range payloadBits).map (payloadBit profile stream k))) = 0 := by
  unfold fillErrors
  split
  · rfl
  · rw [scrambleBlock, scrambleBlock, payloadScramble_twice, List.countP_eq_zero]
    intro b hb
    obtain ⟨i, hi, rfl⟩ := List.mem_iff_getElem.mp hb
    simp [payloadBit] <;> omega

/-- The peer-lane descrambler gives the data back, and holds the scrambler's register after them (R359). -/
theorem laneDescramble_laneScramble (r : LaneReg) (ds : List Bool) :
    laneDescramble r (laneScramble r ds).2 = ((laneScramble r ds).1, ds) := by
  induction ds generalizing r with
  | nil => rfl
  | cons d ds ih => simp [laneScramble, laneDescramble, ih]

/-- BIP-8 as the cipher engine sends it on shows the violations it had as received (R269). -/
theorem bipViolations_carriedBip (received : Byte) (taken given : List Byte) :
    bipViolations (carriedBip received taken given) given = bipViolations received taken := by
  have h : received ^^^ bip8 taken ^^^ bip8 given ^^^ bip8 given = received ^^^ bip8 taken := by
    rw [BitVec.xor_assoc, BitVec.xor_self, BitVec.xor_zero]
  simp only [bipViolations, carriedBip, h]

/-- The receiver deletes exactly the stuffed symbols (R360). -/
theorem unstuffSymbols_stuffSymbols (last run : Nat) (xs : List Nat) :
    unstuffSymbols false last run (stuffSymbols last run xs) = xs := by
  induction xs generalizing last run with
  | nil => rfl
  | cons x xs ih =>
    have go : ∀ n : Nat, n ≠ 32 → (if 0 < run ∧ x = last then run + 1 else 1) = n →
        unstuffSymbols false last run (stuffSymbols last run (x :: xs)) = x :: xs := by
      intro n h e
      simp only [stuffSymbols, e, if_neg h, unstuffSymbols, decide_eq_false h, ih]
    by_cases h : (if 0 < run ∧ x = last then run + 1 else 1) = 32
    · simp only [stuffSymbols, h, if_true, unstuffSymbols, decide_true, ih]
    · exact go _ h rfl

end Sys2Proof.Machine
end

