-- ==== Sys2Proof/Laws/State.lean ====
section
/-! SUPPORT. Each update of a state: the field it writes, and the fields it leaves; all true by reduction. -/

set_option Elab.async false

namespace Sys2Proof.Machine

@[simp] theorem setApsGroup_map (w : Nat) (g : ApsGroup) (s : State) : (setApsGroup w g s).map = { s.map with groups := s.map.groups.map (fun x => if x.1 = w then (w, g) else x) } := rfl

/-- What `setApsGroup` leaves. -/
@[simp] theorem setApsGroup_frame (w : Nat) (g : ApsGroup) (s : State) :
    (setApsGroup w g s).dev = s.dev ∧ (setApsGroup w g s).hif = s.hif ∧ (setApsGroup w g s).tim = s.tim ∧ (setApsGroup w g
    s).cnv = s.cnv ∧ (setApsGroup w g s).dsp = s.dsp ∧ (setApsGroup w g s).fec = s.fec ∧ (setApsGroup w g s).frm = s.frm ∧
    (setApsGroup w g s).cph = s.cph ∧ (setApsGroup w g s).pkt = s.pkt ∧ (setApsGroup w g s).cln = s.cln ∧ (setApsGroup w g
    s).plk = s.plk ∧ (setApsGroup w g s).mon = s.mon ∧ (setApsGroup w g s).thm = s.thm ∧ (setApsGroup w g s).mi = s.mi ∧
    (setApsGroup w g s).log = s.log ∧ (setApsGroup w g s).pins = s.pins ∧ (setApsGroup w g s).atTrip = s.atTrip ∧
    (setApsGroup w g s).snap = s.snap ∧ (setApsGroup w g s).latched = s.latched ∧ (setApsGroup w g s).snapBusy =
    s.snapBusy ∧ (setApsGroup w g s).freeCount = s.freeCount ∧ (setApsGroup w g s).pending = s.pending := by
  refine ⟨rfl, rfl, rfl, rfl, rfl, rfl, rfl, rfl, rfl, rfl, rfl, rfl, rfl, rfl, rfl, rfl, rfl, rfl, rfl, rfl, rfl, rfl⟩

@[simp] theorem modTrib_map (t : Nat) (f : TribStatus → TribStatus) (s : State) : (modTrib t f s).map = { s.map with tribs := tabSet TribStatus.reset s.map.tribs t (f (s.trib t)) } := rfl

/-- What `modTrib` leaves. -/
@[simp] theorem modTrib_frame (t : Nat) (f : TribStatus → TribStatus) (s : State) :
    (modTrib t f s).dev = s.dev ∧ (modTrib t f s).hif = s.hif ∧ (modTrib t f s).tim = s.tim ∧ (modTrib t f s).cnv = s.cnv
    ∧ (modTrib t f s).dsp = s.dsp ∧ (modTrib t f s).fec = s.fec ∧ (modTrib t f s).frm = s.frm ∧ (modTrib t f s).cph =
    s.cph ∧ (modTrib t f s).pkt = s.pkt ∧ (modTrib t f s).cln = s.cln ∧ (modTrib t f s).plk = s.plk ∧ (modTrib t f s).mon
    = s.mon ∧ (modTrib t f s).thm = s.thm ∧ (modTrib t f s).mi = s.mi ∧ (modTrib t f s).log = s.log ∧ (modTrib t f s).pins
    = s.pins ∧ (modTrib t f s).atTrip = s.atTrip ∧ (modTrib t f s).snap = s.snap ∧ (modTrib t f s).latched = s.latched ∧
    (modTrib t f s).snapBusy = s.snapBusy ∧ (modTrib t f s).freeCount = s.freeCount ∧ (modTrib t f s).pending = s.pending := by
  refine ⟨rfl, rfl, rfl, rfl, rfl, rfl, rfl, rfl, rfl, rfl, rfl, rfl, rfl, rfl, rfl, rfl, rfl, rfl, rfl, rfl, rfl, rfl⟩

@[simp] theorem modCphTrib_cph (t : Nat) (f : CphTrib → CphTrib) (s : State) : (modCphTrib t f s).cph = { s.cph with tribs := tabSet CphTrib.reset s.cph.tribs t (f (s.cphTrib t)) } := rfl

/-- What `modCphTrib` leaves. -/
@[simp] theorem modCphTrib_frame (t : Nat) (f : CphTrib → CphTrib) (s : State) :
    (modCphTrib t f s).dev = s.dev ∧ (modCphTrib t f s).hif = s.hif ∧ (modCphTrib t f s).tim = s.tim ∧ (modCphTrib t f
    s).cnv = s.cnv ∧ (modCphTrib t f s).dsp = s.dsp ∧ (modCphTrib t f s).fec = s.fec ∧ (modCphTrib t f s).frm = s.frm ∧
    (modCphTrib t f s).map = s.map ∧ (modCphTrib t f s).pkt = s.pkt ∧ (modCphTrib t f s).cln = s.cln ∧ (modCphTrib t f
    s).plk = s.plk ∧ (modCphTrib t f s).mon = s.mon ∧ (modCphTrib t f s).thm = s.thm ∧ (modCphTrib t f s).mi = s.mi ∧
    (modCphTrib t f s).log = s.log ∧ (modCphTrib t f s).pins = s.pins ∧ (modCphTrib t f s).atTrip = s.atTrip ∧ (modCphTrib
    t f s).snap = s.snap ∧ (modCphTrib t f s).latched = s.latched ∧ (modCphTrib t f s).snapBusy = s.snapBusy ∧ (modCphTrib
    t f s).freeCount = s.freeCount ∧ (modCphTrib t f s).pending = s.pending := by
  refine ⟨rfl, rfl, rfl, rfl, rfl, rfl, rfl, rfl, rfl, rfl, rfl, rfl, rfl, rfl, rfl, rfl, rfl, rfl, rfl, rfl, rfl, rfl⟩

@[simp] theorem modCif_cln (c : Nat) (f : Cif → Cif) (s : State) : (modCif c f s).cln = { s.cln with cifs := vecMod s.cln.cifs c f } := rfl

/-- What `modCif` leaves. -/
@[simp] theorem modCif_frame (c : Nat) (f : Cif → Cif) (s : State) :
    (modCif c f s).dev = s.dev ∧ (modCif c f s).hif = s.hif ∧ (modCif c f s).tim = s.tim ∧ (modCif c f s).cnv = s.cnv ∧
    (modCif c f s).dsp = s.dsp ∧ (modCif c f s).fec = s.fec ∧ (modCif c f s).frm = s.frm ∧ (modCif c f s).map = s.map ∧
    (modCif c f s).cph = s.cph ∧ (modCif c f s).pkt = s.pkt ∧ (modCif c f s).plk = s.plk ∧ (modCif c f s).mon = s.mon ∧
    (modCif c f s).thm = s.thm ∧ (modCif c f s).mi = s.mi ∧ (modCif c f s).log = s.log ∧ (modCif c f s).pins = s.pins ∧
    (modCif c f s).atTrip = s.atTrip ∧ (modCif c f s).snap = s.snap ∧ (modCif c f s).latched = s.latched ∧ (modCif c f
    s).snapBusy = s.snapBusy ∧ (modCif c f s).freeCount = s.freeCount ∧ (modCif c f s).pending = s.pending := by
  refine ⟨rfl, rfl, rfl, rfl, rfl, rfl, rfl, rfl, rfl, rfl, rfl, rfl, rfl, rfl, rfl, rfl, rfl, rfl, rfl, rfl, rfl, rfl⟩

@[simp] theorem modLane_cln (l : Nat) (f : Lane → Lane) (s : State) : (modLane l f s).cln = { s.cln with lanes := vecMod s.cln.lanes l f } := rfl

/-- What `modLane` leaves. -/
@[simp] theorem modLane_frame (l : Nat) (f : Lane → Lane) (s : State) :
    (modLane l f s).dev = s.dev ∧ (modLane l f s).hif = s.hif ∧ (modLane l f s).tim = s.tim ∧ (modLane l f s).cnv = s.cnv
    ∧ (modLane l f s).dsp = s.dsp ∧ (modLane l f s).fec = s.fec ∧ (modLane l f s).frm = s.frm ∧ (modLane l f s).map =
    s.map ∧ (modLane l f s).cph = s.cph ∧ (modLane l f s).pkt = s.pkt ∧ (modLane l f s).plk = s.plk ∧ (modLane l f s).mon
    = s.mon ∧ (modLane l f s).thm = s.thm ∧ (modLane l f s).mi = s.mi ∧ (modLane l f s).log = s.log ∧ (modLane l f s).pins
    = s.pins ∧ (modLane l f s).atTrip = s.atTrip ∧ (modLane l f s).snap = s.snap ∧ (modLane l f s).latched = s.latched ∧
    (modLane l f s).snapBusy = s.snapBusy ∧ (modLane l f s).freeCount = s.freeCount ∧ (modLane l f s).pending = s.pending := by
  refine ⟨rfl, rfl, rfl, rfl, rfl, rfl, rfl, rfl, rfl, rfl, rfl, rfl, rfl, rfl, rfl, rfl, rfl, rfl, rfl, rfl, rfl, rfl⟩

@[simp] theorem modGroup_cnv (g : Nat) (f : Group → Group) (s : State) : (modGroup g f s).cnv = { s.cnv with groups := vecMod s.cnv.groups g f } := rfl

/-- What `modGroup` leaves. -/
@[simp] theorem modGroup_frame (g : Nat) (f : Group → Group) (s : State) :
    (modGroup g f s).dev = s.dev ∧ (modGroup g f s).hif = s.hif ∧ (modGroup g f s).tim = s.tim ∧ (modGroup g f s).dsp =
    s.dsp ∧ (modGroup g f s).fec = s.fec ∧ (modGroup g f s).frm = s.frm ∧ (modGroup g f s).map = s.map ∧ (modGroup g f
    s).cph = s.cph ∧ (modGroup g f s).pkt = s.pkt ∧ (modGroup g f s).cln = s.cln ∧ (modGroup g f s).plk = s.plk ∧
    (modGroup g f s).mon = s.mon ∧ (modGroup g f s).thm = s.thm ∧ (modGroup g f s).mi = s.mi ∧ (modGroup g f s).log =
    s.log ∧ (modGroup g f s).pins = s.pins ∧ (modGroup g f s).atTrip = s.atTrip ∧ (modGroup g f s).snap = s.snap ∧
    (modGroup g f s).latched = s.latched ∧ (modGroup g f s).snapBusy = s.snapBusy ∧ (modGroup g f s).freeCount =
    s.freeCount ∧ (modGroup g f s).pending = s.pending := by
  refine ⟨rfl, rfl, rfl, rfl, rfl, rfl, rfl, rfl, rfl, rfl, rfl, rfl, rfl, rfl, rfl, rfl, rfl, rfl, rfl, rfl, rfl, rfl⟩

@[simp] theorem modAdc_cnv (g a : Nat) (f : Adc → Adc) (s : State) : (modAdc g a f s).cnv = ((modGroup g (fun x => { x with adcs := vecMod x.adcs a f }) s)).cnv := rfl

/-- What `modAdc` leaves. -/
@[simp] theorem modAdc_frame (g a : Nat) (f : Adc → Adc) (s : State) :
    (modAdc g a f s).dev = s.dev ∧ (modAdc g a f s).hif = s.hif ∧ (modAdc g a f s).tim = s.tim ∧ (modAdc g a f s).dsp =
    s.dsp ∧ (modAdc g a f s).fec = s.fec ∧ (modAdc g a f s).frm = s.frm ∧ (modAdc g a f s).map = s.map ∧ (modAdc g a f
    s).cph = s.cph ∧ (modAdc g a f s).pkt = s.pkt ∧ (modAdc g a f s).cln = s.cln ∧ (modAdc g a f s).plk = s.plk ∧ (modAdc
    g a f s).mon = s.mon ∧ (modAdc g a f s).thm = s.thm ∧ (modAdc g a f s).mi = s.mi ∧ (modAdc g a f s).log = s.log ∧
    (modAdc g a f s).pins = s.pins ∧ (modAdc g a f s).atTrip = s.atTrip ∧ (modAdc g a f s).snap = s.snap ∧ (modAdc g a f
    s).latched = s.latched ∧ (modAdc g a f s).snapBusy = s.snapBusy ∧ (modAdc g a f s).freeCount = s.freeCount ∧ (modAdc g
    a f s).pending = s.pending := by
  refine ⟨rfl, rfl, rfl, rfl, rfl, rfl, rfl, rfl, rfl, rfl, rfl, rfl, rfl, rfl, rfl, rfl, rfl, rfl, rfl, rfl, rfl, rfl⟩

@[simp] theorem modKeySlot_cph (k : Nat) (f : KeySlot → KeySlot) (s : State) : (modKeySlot k f s).cph = { s.cph with slots := tabSet KeySlot.empty s.cph.slots k (f (s.keySlot k)) } := rfl

/-- What `modKeySlot` leaves. -/
@[simp] theorem modKeySlot_frame (k : Nat) (f : KeySlot → KeySlot) (s : State) :
    (modKeySlot k f s).dev = s.dev ∧ (modKeySlot k f s).hif = s.hif ∧ (modKeySlot k f s).tim = s.tim ∧ (modKeySlot k f
    s).cnv = s.cnv ∧ (modKeySlot k f s).dsp = s.dsp ∧ (modKeySlot k f s).fec = s.fec ∧ (modKeySlot k f s).frm = s.frm ∧
    (modKeySlot k f s).map = s.map ∧ (modKeySlot k f s).pkt = s.pkt ∧ (modKeySlot k f s).cln = s.cln ∧ (modKeySlot k f
    s).plk = s.plk ∧ (modKeySlot k f s).mon = s.mon ∧ (modKeySlot k f s).thm = s.thm ∧ (modKeySlot k f s).mi = s.mi ∧
    (modKeySlot k f s).log = s.log ∧ (modKeySlot k f s).pins = s.pins ∧ (modKeySlot k f s).atTrip = s.atTrip ∧ (modKeySlot
    k f s).snap = s.snap ∧ (modKeySlot k f s).latched = s.latched ∧ (modKeySlot k f s).snapBusy = s.snapBusy ∧ (modKeySlot
    k f s).freeCount = s.freeCount ∧ (modKeySlot k f s).pending = s.pending := by
  refine ⟨rfl, rfl, rfl, rfl, rfl, rfl, rfl, rfl, rfl, rfl, rfl, rfl, rfl, rfl, rfl, rfl, rfl, rfl, rfl, rfl, rfl, rfl⟩

@[simp] theorem modJob_cph (id : Nat) (f : Job → Job) (s : State) : (modJob id f s).cph = { s.cph with jobs := s.cph.jobs.map (fun j => if j.id = id then f j else j) } := rfl

/-- What `modJob` leaves. -/
@[simp] theorem modJob_frame (id : Nat) (f : Job → Job) (s : State) :
    (modJob id f s).dev = s.dev ∧ (modJob id f s).hif = s.hif ∧ (modJob id f s).tim = s.tim ∧ (modJob id f s).cnv = s.cnv
    ∧ (modJob id f s).dsp = s.dsp ∧ (modJob id f s).fec = s.fec ∧ (modJob id f s).frm = s.frm ∧ (modJob id f s).map =
    s.map ∧ (modJob id f s).pkt = s.pkt ∧ (modJob id f s).cln = s.cln ∧ (modJob id f s).plk = s.plk ∧ (modJob id f s).mon
    = s.mon ∧ (modJob id f s).thm = s.thm ∧ (modJob id f s).mi = s.mi ∧ (modJob id f s).log = s.log ∧ (modJob id f s).pins
    = s.pins ∧ (modJob id f s).atTrip = s.atTrip ∧ (modJob id f s).snap = s.snap ∧ (modJob id f s).latched = s.latched ∧
    (modJob id f s).snapBusy = s.snapBusy ∧ (modJob id f s).freeCount = s.freeCount ∧ (modJob id f s).pending = s.pending := by
  refine ⟨rfl, rfl, rfl, rfl, rfl, rfl, rfl, rfl, rfl, rfl, rfl, rfl, rfl, rfl, rfl, rfl, rfl, rfl, rfl, rfl, rfl, rfl⟩

@[simp] theorem dropJob_cph (id : Nat) (s : State) : (dropJob id s).cph = { s.cph with jobs := s.cph.jobs.filter (fun j => j.id ≠ id) } := rfl

/-- What `dropJob` leaves. -/
@[simp] theorem dropJob_frame (id : Nat) (s : State) :
    (dropJob id s).dev = s.dev ∧ (dropJob id s).hif = s.hif ∧ (dropJob id s).tim = s.tim ∧ (dropJob id s).cnv = s.cnv ∧
    (dropJob id s).dsp = s.dsp ∧ (dropJob id s).fec = s.fec ∧ (dropJob id s).frm = s.frm ∧ (dropJob id s).map = s.map ∧
    (dropJob id s).pkt = s.pkt ∧ (dropJob id s).cln = s.cln ∧ (dropJob id s).plk = s.plk ∧ (dropJob id s).mon = s.mon ∧
    (dropJob id s).thm = s.thm ∧ (dropJob id s).mi = s.mi ∧ (dropJob id s).log = s.log ∧ (dropJob id s).pins = s.pins ∧
    (dropJob id s).atTrip = s.atTrip ∧ (dropJob id s).snap = s.snap ∧ (dropJob id s).latched = s.latched ∧ (dropJob id
    s).snapBusy = s.snapBusy ∧ (dropJob id s).freeCount = s.freeCount ∧ (dropJob id s).pending = s.pending := by
  refine ⟨rfl, rfl, rfl, rfl, rfl, rfl, rfl, rfl, rfl, rfl, rfl, rfl, rfl, rfl, rfl, rfl, rfl, rfl, rfl, rfl, rfl, rfl⟩

@[simp] theorem modUnit_frm (k : Nat) (f : FrmUnit → FrmUnit) (s : State) : (modUnit k f s).frm = { s.frm with units := tabSet FrmUnit.reset s.frm.units k (f (s.unit k)) } := rfl

/-- What `modUnit` leaves. -/
@[simp] theorem modUnit_frame (k : Nat) (f : FrmUnit → FrmUnit) (s : State) :
    (modUnit k f s).dev = s.dev ∧ (modUnit k f s).hif = s.hif ∧ (modUnit k f s).tim = s.tim ∧ (modUnit k f s).cnv = s.cnv
    ∧ (modUnit k f s).dsp = s.dsp ∧ (modUnit k f s).fec = s.fec ∧ (modUnit k f s).map = s.map ∧ (modUnit k f s).cph =
    s.cph ∧ (modUnit k f s).pkt = s.pkt ∧ (modUnit k f s).cln = s.cln ∧ (modUnit k f s).plk = s.plk ∧ (modUnit k f s).mon
    = s.mon ∧ (modUnit k f s).thm = s.thm ∧ (modUnit k f s).mi = s.mi ∧ (modUnit k f s).log = s.log ∧ (modUnit k f s).pins
    = s.pins ∧ (modUnit k f s).atTrip = s.atTrip ∧ (modUnit k f s).snap = s.snap ∧ (modUnit k f s).latched = s.latched ∧
    (modUnit k f s).snapBusy = s.snapBusy ∧ (modUnit k f s).freeCount = s.freeCount ∧ (modUnit k f s).pending = s.pending := by
  refine ⟨rfl, rfl, rfl, rfl, rfl, rfl, rfl, rfl, rfl, rfl, rfl, rfl, rfl, rfl, rfl, rfl, rfl, rfl, rfl, rfl, rfl, rfl⟩

@[simp] theorem modDev_dev (f : Dev → Dev) (s : State) : (modDev f s).dev = f s.dev := rfl

/-- What `modDev` leaves. -/
@[simp] theorem modDev_frame (f : Dev → Dev) (s : State) :
    (modDev f s).hif = s.hif ∧ (modDev f s).tim = s.tim ∧ (modDev f s).cnv = s.cnv ∧ (modDev f s).dsp = s.dsp ∧ (modDev f
    s).fec = s.fec ∧ (modDev f s).frm = s.frm ∧ (modDev f s).map = s.map ∧ (modDev f s).cph = s.cph ∧ (modDev f s).pkt =
    s.pkt ∧ (modDev f s).cln = s.cln ∧ (modDev f s).plk = s.plk ∧ (modDev f s).mon = s.mon ∧ (modDev f s).thm = s.thm ∧
    (modDev f s).mi = s.mi ∧ (modDev f s).log = s.log ∧ (modDev f s).pins = s.pins ∧ (modDev f s).atTrip = s.atTrip ∧
    (modDev f s).snap = s.snap ∧ (modDev f s).latched = s.latched ∧ (modDev f s).snapBusy = s.snapBusy ∧ (modDev f
    s).freeCount = s.freeCount ∧ (modDev f s).pending = s.pending := by
  refine ⟨rfl, rfl, rfl, rfl, rfl, rfl, rfl, rfl, rfl, rfl, rfl, rfl, rfl, rfl, rfl, rfl, rfl, rfl, rfl, rfl, rfl, rfl⟩

@[simp] theorem modEngine_dsp (e : Nat) (f : Engine → Engine) (s : State) : (modEngine e f s).dsp = { s.dsp with engines := vecMod s.dsp.engines e f } := rfl

/-- What `modEngine` leaves. -/
@[simp] theorem modEngine_frame (e : Nat) (f : Engine → Engine) (s : State) :
    (modEngine e f s).dev = s.dev ∧ (modEngine e f s).hif = s.hif ∧ (modEngine e f s).tim = s.tim ∧ (modEngine e f s).cnv
    = s.cnv ∧ (modEngine e f s).fec = s.fec ∧ (modEngine e f s).frm = s.frm ∧ (modEngine e f s).map = s.map ∧ (modEngine e
    f s).cph = s.cph ∧ (modEngine e f s).pkt = s.pkt ∧ (modEngine e f s).cln = s.cln ∧ (modEngine e f s).plk = s.plk ∧
    (modEngine e f s).mon = s.mon ∧ (modEngine e f s).thm = s.thm ∧ (modEngine e f s).mi = s.mi ∧ (modEngine e f s).log =
    s.log ∧ (modEngine e f s).pins = s.pins ∧ (modEngine e f s).atTrip = s.atTrip ∧ (modEngine e f s).snap = s.snap ∧
    (modEngine e f s).latched = s.latched ∧ (modEngine e f s).snapBusy = s.snapBusy ∧ (modEngine e f s).freeCount =
    s.freeCount ∧ (modEngine e f s).pending = s.pending := by
  refine ⟨rfl, rfl, rfl, rfl, rfl, rfl, rfl, rfl, rfl, rfl, rfl, rfl, rfl, rfl, rfl, rfl, rfl, rfl, rfl, rfl, rfl, rfl⟩

@[simp] theorem modCore_fec (k : Nat) (f : Core → Core) (s : State) : (modCore k f s).fec = { s.fec with cores := vecMod s.fec.cores k f } := rfl

/-- What `modCore` leaves. -/
@[simp] theorem modCore_frame (k : Nat) (f : Core → Core) (s : State) :
    (modCore k f s).dev = s.dev ∧ (modCore k f s).hif = s.hif ∧ (modCore k f s).tim = s.tim ∧ (modCore k f s).cnv = s.cnv
    ∧ (modCore k f s).dsp = s.dsp ∧ (modCore k f s).frm = s.frm ∧ (modCore k f s).map = s.map ∧ (modCore k f s).cph =
    s.cph ∧ (modCore k f s).pkt = s.pkt ∧ (modCore k f s).cln = s.cln ∧ (modCore k f s).plk = s.plk ∧ (modCore k f s).mon
    = s.mon ∧ (modCore k f s).thm = s.thm ∧ (modCore k f s).mi = s.mi ∧ (modCore k f s).log = s.log ∧ (modCore k f s).pins
    = s.pins ∧ (modCore k f s).atTrip = s.atTrip ∧ (modCore k f s).snap = s.snap ∧ (modCore k f s).latched = s.latched ∧
    (modCore k f s).snapBusy = s.snapBusy ∧ (modCore k f s).freeCount = s.freeCount ∧ (modCore k f s).pending = s.pending := by
  refine ⟨rfl, rfl, rfl, rfl, rfl, rfl, rfl, rfl, rfl, rfl, rfl, rfl, rfl, rfl, rfl, rfl, rfl, rfl, rfl, rfl, rfl, rfl⟩

@[simp] theorem modFecEngine_fec (e : Nat) (f : FecEngine → FecEngine) (s : State) : (modFecEngine e f s).fec = { s.fec with engines := vecMod s.fec.engines e f } := rfl

/-- What `modFecEngine` leaves. -/
@[simp] theorem modFecEngine_frame (e : Nat) (f : FecEngine → FecEngine) (s : State) :
    (modFecEngine e f s).dev = s.dev ∧ (modFecEngine e f s).hif = s.hif ∧ (modFecEngine e f s).tim = s.tim ∧ (modFecEngine
    e f s).cnv = s.cnv ∧ (modFecEngine e f s).dsp = s.dsp ∧ (modFecEngine e f s).frm = s.frm ∧ (modFecEngine e f s).map =
    s.map ∧ (modFecEngine e f s).cph = s.cph ∧ (modFecEngine e f s).pkt = s.pkt ∧ (modFecEngine e f s).cln = s.cln ∧
    (modFecEngine e f s).plk = s.plk ∧ (modFecEngine e f s).mon = s.mon ∧ (modFecEngine e f s).thm = s.thm ∧ (modFecEngine
    e f s).mi = s.mi ∧ (modFecEngine e f s).log = s.log ∧ (modFecEngine e f s).pins = s.pins ∧ (modFecEngine e f s).atTrip
    = s.atTrip ∧ (modFecEngine e f s).snap = s.snap ∧ (modFecEngine e f s).latched = s.latched ∧ (modFecEngine e f
    s).snapBusy = s.snapBusy ∧ (modFecEngine e f s).freeCount = s.freeCount ∧ (modFecEngine e f s).pending = s.pending := by
  refine ⟨rfl, rfl, rfl, rfl, rfl, rfl, rfl, rfl, rfl, rfl, rfl, rfl, rfl, rfl, rfl, rfl, rfl, rfl, rfl, rfl, rfl, rfl⟩

@[simp] theorem modBlock_fec (id : Nat) (f : CodeBlock → CodeBlock) (s : State) : (modBlock id f s).fec = { s.fec with blocks := s.fec.blocks.map (fun b => if b.id = id then f b else b) } := rfl

/-- What `modBlock` leaves. -/
@[simp] theorem modBlock_frame (id : Nat) (f : CodeBlock → CodeBlock) (s : State) :
    (modBlock id f s).dev = s.dev ∧ (modBlock id f s).hif = s.hif ∧ (modBlock id f s).tim = s.tim ∧ (modBlock id f s).cnv
    = s.cnv ∧ (modBlock id f s).dsp = s.dsp ∧ (modBlock id f s).frm = s.frm ∧ (modBlock id f s).map = s.map ∧ (modBlock id
    f s).cph = s.cph ∧ (modBlock id f s).pkt = s.pkt ∧ (modBlock id f s).cln = s.cln ∧ (modBlock id f s).plk = s.plk ∧
    (modBlock id f s).mon = s.mon ∧ (modBlock id f s).thm = s.thm ∧ (modBlock id f s).mi = s.mi ∧ (modBlock id f s).log =
    s.log ∧ (modBlock id f s).pins = s.pins ∧ (modBlock id f s).atTrip = s.atTrip ∧ (modBlock id f s).snap = s.snap ∧
    (modBlock id f s).latched = s.latched ∧ (modBlock id f s).snapBusy = s.snapBusy ∧ (modBlock id f s).freeCount =
    s.freeCount ∧ (modBlock id f s).pending = s.pending := by
  refine ⟨rfl, rfl, rfl, rfl, rfl, rfl, rfl, rfl, rfl, rfl, rfl, rfl, rfl, rfl, rfl, rfl, rfl, rfl, rfl, rfl, rfl, rfl⟩

@[simp] theorem setPmUnit_frm (k : Nat) (u : PmUnit) (s : State) : (setPmUnit k u s).frm = { s.frm with pm := tabInsert s.frm.pm k u } := rfl

/-- What `setPmUnit` leaves. -/
@[simp] theorem setPmUnit_frame (k : Nat) (u : PmUnit) (s : State) :
    (setPmUnit k u s).dev = s.dev ∧ (setPmUnit k u s).hif = s.hif ∧ (setPmUnit k u s).tim = s.tim ∧ (setPmUnit k u s).cnv
    = s.cnv ∧ (setPmUnit k u s).dsp = s.dsp ∧ (setPmUnit k u s).fec = s.fec ∧ (setPmUnit k u s).map = s.map ∧ (setPmUnit k
    u s).cph = s.cph ∧ (setPmUnit k u s).pkt = s.pkt ∧ (setPmUnit k u s).cln = s.cln ∧ (setPmUnit k u s).plk = s.plk ∧
    (setPmUnit k u s).mon = s.mon ∧ (setPmUnit k u s).thm = s.thm ∧ (setPmUnit k u s).mi = s.mi ∧ (setPmUnit k u s).log =
    s.log ∧ (setPmUnit k u s).pins = s.pins ∧ (setPmUnit k u s).atTrip = s.atTrip ∧ (setPmUnit k u s).snap = s.snap ∧
    (setPmUnit k u s).latched = s.latched ∧ (setPmUnit k u s).snapBusy = s.snapBusy ∧ (setPmUnit k u s).freeCount =
    s.freeCount ∧ (setPmUnit k u s).pending = s.pending := by
  refine ⟨rfl, rfl, rfl, rfl, rfl, rfl, rfl, rfl, rfl, rfl, rfl, rfl, rfl, rfl, rfl, rfl, rfl, rfl, rfl, rfl, rfl, rfl⟩

@[simp] theorem modSar_mon (k : Nat) (f : Sar → Sar) (s : State) : (modSar k f s).mon = { s.mon with sars := vecMod s.mon.sars k f } := rfl

/-- What `modSar` leaves. -/
@[simp] theorem modSar_frame (k : Nat) (f : Sar → Sar) (s : State) :
    (modSar k f s).dev = s.dev ∧ (modSar k f s).hif = s.hif ∧ (modSar k f s).tim = s.tim ∧ (modSar k f s).cnv = s.cnv ∧
    (modSar k f s).dsp = s.dsp ∧ (modSar k f s).fec = s.fec ∧ (modSar k f s).frm = s.frm ∧ (modSar k f s).map = s.map ∧
    (modSar k f s).cph = s.cph ∧ (modSar k f s).pkt = s.pkt ∧ (modSar k f s).cln = s.cln ∧ (modSar k f s).plk = s.plk ∧
    (modSar k f s).thm = s.thm ∧ (modSar k f s).mi = s.mi ∧ (modSar k f s).log = s.log ∧ (modSar k f s).pins = s.pins ∧
    (modSar k f s).atTrip = s.atTrip ∧ (modSar k f s).snap = s.snap ∧ (modSar k f s).latched = s.latched ∧ (modSar k f
    s).snapBusy = s.snapBusy ∧ (modSar k f s).freeCount = s.freeCount ∧ (modSar k f s).pending = s.pending := by
  refine ⟨rfl, rfl, rfl, rfl, rfl, rfl, rfl, rfl, rfl, rfl, rfl, rfl, rfl, rfl, rfl, rfl, rfl, rfl, rfl, rfl, rfl, rfl⟩

@[simp] theorem modLog_log (f : Log → Log) (s : State) : (modLog f s).log = f s.log := rfl

/-- What `modLog` leaves. -/
@[simp] theorem modLog_frame (f : Log → Log) (s : State) :
    (modLog f s).dev = s.dev ∧ (modLog f s).hif = s.hif ∧ (modLog f s).tim = s.tim ∧ (modLog f s).cnv = s.cnv ∧ (modLog f
    s).dsp = s.dsp ∧ (modLog f s).fec = s.fec ∧ (modLog f s).frm = s.frm ∧ (modLog f s).map = s.map ∧ (modLog f s).cph =
    s.cph ∧ (modLog f s).pkt = s.pkt ∧ (modLog f s).cln = s.cln ∧ (modLog f s).plk = s.plk ∧ (modLog f s).mon = s.mon ∧
    (modLog f s).thm = s.thm ∧ (modLog f s).mi = s.mi ∧ (modLog f s).pins = s.pins ∧ (modLog f s).atTrip = s.atTrip ∧
    (modLog f s).snap = s.snap ∧ (modLog f s).latched = s.latched ∧ (modLog f s).snapBusy = s.snapBusy ∧ (modLog f
    s).freeCount = s.freeCount ∧ (modLog f s).pending = s.pending := by
  refine ⟨rfl, rfl, rfl, rfl, rfl, rfl, rfl, rfl, rfl, rfl, rfl, rfl, rfl, rfl, rfl, rfl, rfl, rfl, rfl, rfl, rfl, rfl⟩

@[simp] theorem modPort16_hif (f : MgmtPort → MgmtPort) (s : State) : (modPort16 f s).hif = ((modHif (fun h => { h with mgmt := f h.mgmt }) s)).hif := rfl

/-- What `modPort16` leaves. -/
@[simp] theorem modPort16_frame (f : MgmtPort → MgmtPort) (s : State) :
    (modPort16 f s).dev = s.dev ∧ (modPort16 f s).tim = s.tim ∧ (modPort16 f s).cnv = s.cnv ∧ (modPort16 f s).dsp = s.dsp
    ∧ (modPort16 f s).fec = s.fec ∧ (modPort16 f s).frm = s.frm ∧ (modPort16 f s).map = s.map ∧ (modPort16 f s).cph =
    s.cph ∧ (modPort16 f s).pkt = s.pkt ∧ (modPort16 f s).cln = s.cln ∧ (modPort16 f s).plk = s.plk ∧ (modPort16 f s).mon
    = s.mon ∧ (modPort16 f s).thm = s.thm ∧ (modPort16 f s).mi = s.mi ∧ (modPort16 f s).log = s.log ∧ (modPort16 f s).pins
    = s.pins ∧ (modPort16 f s).atTrip = s.atTrip ∧ (modPort16 f s).snap = s.snap ∧ (modPort16 f s).latched = s.latched ∧
    (modPort16 f s).snapBusy = s.snapBusy ∧ (modPort16 f s).freeCount = s.freeCount ∧ (modPort16 f s).pending = s.pending := by
  refine ⟨rfl, rfl, rfl, rfl, rfl, rfl, rfl, rfl, rfl, rfl, rfl, rfl, rfl, rfl, rfl, rfl, rfl, rfl, rfl, rfl, rfl, rfl⟩

@[simp] theorem modClass_mi (k : Nat) (f : MemClass → MemClass) (s : State) : (modClass k f s).mi = { s.mi with classes := vecMod s.mi.classes k f } := rfl

/-- What `modClass` leaves. -/
@[simp] theorem modClass_frame (k : Nat) (f : MemClass → MemClass) (s : State) :
    (modClass k f s).dev = s.dev ∧ (modClass k f s).hif = s.hif ∧ (modClass k f s).tim = s.tim ∧ (modClass k f s).cnv =
    s.cnv ∧ (modClass k f s).dsp = s.dsp ∧ (modClass k f s).fec = s.fec ∧ (modClass k f s).frm = s.frm ∧ (modClass k f
    s).map = s.map ∧ (modClass k f s).cph = s.cph ∧ (modClass k f s).pkt = s.pkt ∧ (modClass k f s).cln = s.cln ∧
    (modClass k f s).plk = s.plk ∧ (modClass k f s).mon = s.mon ∧ (modClass k f s).thm = s.thm ∧ (modClass k f s).log =
    s.log ∧ (modClass k f s).pins = s.pins ∧ (modClass k f s).atTrip = s.atTrip ∧ (modClass k f s).snap = s.snap ∧
    (modClass k f s).latched = s.latched ∧ (modClass k f s).snapBusy = s.snapBusy ∧ (modClass k f s).freeCount =
    s.freeCount ∧ (modClass k f s).pending = s.pending := by
  refine ⟨rfl, rfl, rfl, rfl, rfl, rfl, rfl, rfl, rfl, rfl, rfl, rfl, rfl, rfl, rfl, rfl, rfl, rfl, rfl, rfl, rfl, rfl⟩

@[simp] theorem modChan_mon (c : Nat) (f : Chan → Chan) (s : State) : (modChan c f s).mon = { s.mon with chans := vecMod s.mon.chans c f } := rfl

/-- What `modChan` leaves. -/
@[simp] theorem modChan_frame (c : Nat) (f : Chan → Chan) (s : State) :
    (modChan c f s).dev = s.dev ∧ (modChan c f s).hif = s.hif ∧ (modChan c f s).tim = s.tim ∧ (modChan c f s).cnv = s.cnv
    ∧ (modChan c f s).dsp = s.dsp ∧ (modChan c f s).fec = s.fec ∧ (modChan c f s).frm = s.frm ∧ (modChan c f s).map =
    s.map ∧ (modChan c f s).cph = s.cph ∧ (modChan c f s).pkt = s.pkt ∧ (modChan c f s).cln = s.cln ∧ (modChan c f s).plk
    = s.plk ∧ (modChan c f s).thm = s.thm ∧ (modChan c f s).mi = s.mi ∧ (modChan c f s).log = s.log ∧ (modChan c f s).pins
    = s.pins ∧ (modChan c f s).atTrip = s.atTrip ∧ (modChan c f s).snap = s.snap ∧ (modChan c f s).latched = s.latched ∧
    (modChan c f s).snapBusy = s.snapBusy ∧ (modChan c f s).freeCount = s.freeCount ∧ (modChan c f s).pending = s.pending := by
  refine ⟨rfl, rfl, rfl, rfl, rfl, rfl, rfl, rfl, rfl, rfl, rfl, rfl, rfl, rfl, rfl, rfl, rfl, rfl, rfl, rfl, rfl, rfl⟩

@[simp] theorem modFsop_mon (e : Nat) (f : Fsop → Fsop) (s : State) : (modFsop e f s).mon = { s.mon with fsops := vecMod s.mon.fsops e f } := rfl

/-- What `modFsop` leaves. -/
@[simp] theorem modFsop_frame (e : Nat) (f : Fsop → Fsop) (s : State) :
    (modFsop e f s).dev = s.dev ∧ (modFsop e f s).hif = s.hif ∧ (modFsop e f s).tim = s.tim ∧ (modFsop e f s).cnv = s.cnv
    ∧ (modFsop e f s).dsp = s.dsp ∧ (modFsop e f s).fec = s.fec ∧ (modFsop e f s).frm = s.frm ∧ (modFsop e f s).map =
    s.map ∧ (modFsop e f s).cph = s.cph ∧ (modFsop e f s).pkt = s.pkt ∧ (modFsop e f s).cln = s.cln ∧ (modFsop e f s).plk
    = s.plk ∧ (modFsop e f s).thm = s.thm ∧ (modFsop e f s).mi = s.mi ∧ (modFsop e f s).log = s.log ∧ (modFsop e f s).pins
    = s.pins ∧ (modFsop e f s).atTrip = s.atTrip ∧ (modFsop e f s).snap = s.snap ∧ (modFsop e f s).latched = s.latched ∧
    (modFsop e f s).snapBusy = s.snapBusy ∧ (modFsop e f s).freeCount = s.freeCount ∧ (modFsop e f s).pending = s.pending := by
  refine ⟨rfl, rfl, rfl, rfl, rfl, rfl, rfl, rfl, rfl, rfl, rfl, rfl, rfl, rfl, rfl, rfl, rfl, rfl, rfl, rfl, rfl, rfl⟩

@[simp] theorem modRing_mon (n : Nat) (f : DmaRing → DmaRing) (s : State) : (modRing n f s).mon = { s.mon with rings := vecMod s.mon.rings n f } := rfl

/-- What `modRing` leaves. -/
@[simp] theorem modRing_frame (n : Nat) (f : DmaRing → DmaRing) (s : State) :
    (modRing n f s).dev = s.dev ∧ (modRing n f s).hif = s.hif ∧ (modRing n f s).tim = s.tim ∧ (modRing n f s).cnv = s.cnv
    ∧ (modRing n f s).dsp = s.dsp ∧ (modRing n f s).fec = s.fec ∧ (modRing n f s).frm = s.frm ∧ (modRing n f s).map =
    s.map ∧ (modRing n f s).cph = s.cph ∧ (modRing n f s).pkt = s.pkt ∧ (modRing n f s).cln = s.cln ∧ (modRing n f s).plk
    = s.plk ∧ (modRing n f s).thm = s.thm ∧ (modRing n f s).mi = s.mi ∧ (modRing n f s).log = s.log ∧ (modRing n f s).pins
    = s.pins ∧ (modRing n f s).atTrip = s.atTrip ∧ (modRing n f s).snap = s.snap ∧ (modRing n f s).latched = s.latched ∧
    (modRing n f s).snapBusy = s.snapBusy ∧ (modRing n f s).freeCount = s.freeCount ∧ (modRing n f s).pending = s.pending := by
  refine ⟨rfl, rfl, rfl, rfl, rfl, rfl, rfl, rfl, rfl, rfl, rfl, rfl, rfl, rfl, rfl, rfl, rfl, rfl, rfl, rfl, rfl, rfl⟩

@[simp] theorem State.setQueue_hif (s : State) (n : Nat) (q : QueuePair) : (State.setQueue s n q).hif = { s.hif with queues := vecMod s.hif.queues n (fun _ => q) } := rfl

/-- What `State.setQueue` leaves. -/
@[simp] theorem State.setQueue_frame (s : State) (n : Nat) (q : QueuePair) :
    (State.setQueue s n q).dev = s.dev ∧ (State.setQueue s n q).tim = s.tim ∧ (State.setQueue s n q).cnv = s.cnv ∧
    (State.setQueue s n q).dsp = s.dsp ∧ (State.setQueue s n q).fec = s.fec ∧ (State.setQueue s n q).frm = s.frm ∧
    (State.setQueue s n q).map = s.map ∧ (State.setQueue s n q).cph = s.cph ∧ (State.setQueue s n q).pkt = s.pkt ∧
    (State.setQueue s n q).cln = s.cln ∧ (State.setQueue s n q).plk = s.plk ∧ (State.setQueue s n q).mon = s.mon ∧
    (State.setQueue s n q).thm = s.thm ∧ (State.setQueue s n q).mi = s.mi ∧ (State.setQueue s n q).log = s.log ∧
    (State.setQueue s n q).pins = s.pins ∧ (State.setQueue s n q).atTrip = s.atTrip ∧ (State.setQueue s n q).snap = s.snap
    ∧ (State.setQueue s n q).latched = s.latched ∧ (State.setQueue s n q).snapBusy = s.snapBusy ∧ (State.setQueue s n
    q).freeCount = s.freeCount ∧ (State.setQueue s n q).pending = s.pending := by
  refine ⟨rfl, rfl, rfl, rfl, rfl, rfl, rfl, rfl, rfl, rfl, rfl, rfl, rfl, rfl, rfl, rfl, rfl, rfl, rfl, rfl, rfl, rfl⟩

@[simp] theorem modPort_pkt (q : Nat) (f : Port → Port) (s : State) : (modPort q f s).pkt = { s.pkt with ports := tabSet Port.reset s.pkt.ports q (f (s.port q)) } := rfl

/-- What `modPort` leaves. -/
@[simp] theorem modPort_frame (q : Nat) (f : Port → Port) (s : State) :
    (modPort q f s).dev = s.dev ∧ (modPort q f s).hif = s.hif ∧ (modPort q f s).tim = s.tim ∧ (modPort q f s).cnv = s.cnv
    ∧ (modPort q f s).dsp = s.dsp ∧ (modPort q f s).fec = s.fec ∧ (modPort q f s).frm = s.frm ∧ (modPort q f s).map =
    s.map ∧ (modPort q f s).cph = s.cph ∧ (modPort q f s).cln = s.cln ∧ (modPort q f s).plk = s.plk ∧ (modPort q f s).mon
    = s.mon ∧ (modPort q f s).thm = s.thm ∧ (modPort q f s).mi = s.mi ∧ (modPort q f s).log = s.log ∧ (modPort q f s).pins
    = s.pins ∧ (modPort q f s).atTrip = s.atTrip ∧ (modPort q f s).snap = s.snap ∧ (modPort q f s).latched = s.latched ∧
    (modPort q f s).snapBusy = s.snapBusy ∧ (modPort q f s).freeCount = s.freeCount ∧ (modPort q f s).pending = s.pending := by
  refine ⟨rfl, rfl, rfl, rfl, rfl, rfl, rfl, rfl, rfl, rfl, rfl, rfl, rfl, rfl, rfl, rfl, rfl, rfl, rfl, rfl, rfl, rfl⟩

@[simp] theorem modLive_pkt (q : Nat) (f : PortCounts → PortCounts) (s : State) : (modLive q f s).pkt = ((modPort q (fun x => { x with live := f x.live }) s)).pkt := rfl

/-- What `modLive` leaves. -/
@[simp] theorem modLive_frame (q : Nat) (f : PortCounts → PortCounts) (s : State) :
    (modLive q f s).dev = s.dev ∧ (modLive q f s).hif = s.hif ∧ (modLive q f s).tim = s.tim ∧ (modLive q f s).cnv = s.cnv
    ∧ (modLive q f s).dsp = s.dsp ∧ (modLive q f s).fec = s.fec ∧ (modLive q f s).frm = s.frm ∧ (modLive q f s).map =
    s.map ∧ (modLive q f s).cph = s.cph ∧ (modLive q f s).cln = s.cln ∧ (modLive q f s).plk = s.plk ∧ (modLive q f s).mon
    = s.mon ∧ (modLive q f s).thm = s.thm ∧ (modLive q f s).mi = s.mi ∧ (modLive q f s).log = s.log ∧ (modLive q f s).pins
    = s.pins ∧ (modLive q f s).atTrip = s.atTrip ∧ (modLive q f s).snap = s.snap ∧ (modLive q f s).latched = s.latched ∧
    (modLive q f s).snapBusy = s.snapBusy ∧ (modLive q f s).freeCount = s.freeCount ∧ (modLive q f s).pending = s.pending := by
  refine ⟨rfl, rfl, rfl, rfl, rfl, rfl, rfl, rfl, rfl, rfl, rfl, rfl, rfl, rfl, rfl, rfl, rfl, rfl, rfl, rfl, rfl, rfl⟩

@[simp] theorem modShape_pkt (k : Nat) (f : Shape → Shape) (s : State) : (modShape k f s).pkt = { s.pkt with shapes := tabSet Shape.reset s.pkt.shapes k (f (s.shape k)) } := rfl

/-- What `modShape` leaves. -/
@[simp] theorem modShape_frame (k : Nat) (f : Shape → Shape) (s : State) :
    (modShape k f s).dev = s.dev ∧ (modShape k f s).hif = s.hif ∧ (modShape k f s).tim = s.tim ∧ (modShape k f s).cnv =
    s.cnv ∧ (modShape k f s).dsp = s.dsp ∧ (modShape k f s).fec = s.fec ∧ (modShape k f s).frm = s.frm ∧ (modShape k f
    s).map = s.map ∧ (modShape k f s).cph = s.cph ∧ (modShape k f s).cln = s.cln ∧ (modShape k f s).plk = s.plk ∧
    (modShape k f s).mon = s.mon ∧ (modShape k f s).thm = s.thm ∧ (modShape k f s).mi = s.mi ∧ (modShape k f s).log =
    s.log ∧ (modShape k f s).pins = s.pins ∧ (modShape k f s).atTrip = s.atTrip ∧ (modShape k f s).snap = s.snap ∧
    (modShape k f s).latched = s.latched ∧ (modShape k f s).snapBusy = s.snapBusy ∧ (modShape k f s).freeCount =
    s.freeCount ∧ (modShape k f s).pending = s.pending := by
  refine ⟨rfl, rfl, rfl, rfl, rfl, rfl, rfl, rfl, rfl, rfl, rfl, rfl, rfl, rfl, rfl, rfl, rfl, rfl, rfl, rfl, rfl, rfl⟩

@[simp] theorem modPeer_plk (l : Nat) (f : PeerLane → PeerLane) (s : State) : (modPeer l f s).plk = { s.plk with lanes := vecMod s.plk.lanes l f } := rfl

/-- What `modPeer` leaves. -/
@[simp] theorem modPeer_frame (l : Nat) (f : PeerLane → PeerLane) (s : State) :
    (modPeer l f s).dev = s.dev ∧ (modPeer l f s).hif = s.hif ∧ (modPeer l f s).tim = s.tim ∧ (modPeer l f s).cnv = s.cnv
    ∧ (modPeer l f s).dsp = s.dsp ∧ (modPeer l f s).fec = s.fec ∧ (modPeer l f s).frm = s.frm ∧ (modPeer l f s).map =
    s.map ∧ (modPeer l f s).cph = s.cph ∧ (modPeer l f s).pkt = s.pkt ∧ (modPeer l f s).cln = s.cln ∧ (modPeer l f s).mon
    = s.mon ∧ (modPeer l f s).thm = s.thm ∧ (modPeer l f s).mi = s.mi ∧ (modPeer l f s).log = s.log ∧ (modPeer l f s).pins
    = s.pins ∧ (modPeer l f s).atTrip = s.atTrip ∧ (modPeer l f s).snap = s.snap ∧ (modPeer l f s).latched = s.latched ∧
    (modPeer l f s).snapBusy = s.snapBusy ∧ (modPeer l f s).freeCount = s.freeCount ∧ (modPeer l f s).pending = s.pending := by
  refine ⟨rfl, rfl, rfl, rfl, rfl, rfl, rfl, rfl, rfl, rfl, rfl, rfl, rfl, rfl, rfl, rfl, rfl, rfl, rfl, rfl, rfl, rfl⟩

@[simp] theorem modHif_hif (f : Hif → Hif) (s : State) : (modHif f s).hif = f s.hif := rfl

/-- What `modHif` leaves. -/
@[simp] theorem modHif_frame (f : Hif → Hif) (s : State) :
    (modHif f s).dev = s.dev ∧ (modHif f s).tim = s.tim ∧ (modHif f s).cnv = s.cnv ∧ (modHif f s).dsp = s.dsp ∧ (modHif f
    s).fec = s.fec ∧ (modHif f s).frm = s.frm ∧ (modHif f s).map = s.map ∧ (modHif f s).cph = s.cph ∧ (modHif f s).pkt =
    s.pkt ∧ (modHif f s).cln = s.cln ∧ (modHif f s).plk = s.plk ∧ (modHif f s).mon = s.mon ∧ (modHif f s).thm = s.thm ∧
    (modHif f s).mi = s.mi ∧ (modHif f s).log = s.log ∧ (modHif f s).pins = s.pins ∧ (modHif f s).atTrip = s.atTrip ∧
    (modHif f s).snap = s.snap ∧ (modHif f s).latched = s.latched ∧ (modHif f s).snapBusy = s.snapBusy ∧ (modHif f
    s).freeCount = s.freeCount ∧ (modHif f s).pending = s.pending := by
  refine ⟨rfl, rfl, rfl, rfl, rfl, rfl, rfl, rfl, rfl, rfl, rfl, rfl, rfl, rfl, rfl, rfl, rfl, rfl, rfl, rfl, rfl, rfl⟩

@[simp] theorem modThm_thm (f : Thm → Thm) (s : State) : (modThm f s).thm = f s.thm := rfl

/-- What `modThm` leaves. -/
@[simp] theorem modThm_frame (f : Thm → Thm) (s : State) :
    (modThm f s).dev = s.dev ∧ (modThm f s).hif = s.hif ∧ (modThm f s).tim = s.tim ∧ (modThm f s).cnv = s.cnv ∧ (modThm f
    s).dsp = s.dsp ∧ (modThm f s).fec = s.fec ∧ (modThm f s).frm = s.frm ∧ (modThm f s).map = s.map ∧ (modThm f s).cph =
    s.cph ∧ (modThm f s).pkt = s.pkt ∧ (modThm f s).cln = s.cln ∧ (modThm f s).plk = s.plk ∧ (modThm f s).mon = s.mon ∧
    (modThm f s).mi = s.mi ∧ (modThm f s).log = s.log ∧ (modThm f s).pins = s.pins ∧ (modThm f s).atTrip = s.atTrip ∧
    (modThm f s).snap = s.snap ∧ (modThm f s).latched = s.latched ∧ (modThm f s).snapBusy = s.snapBusy ∧ (modThm f
    s).freeCount = s.freeCount ∧ (modThm f s).pending = s.pending := by
  refine ⟨rfl, rfl, rfl, rfl, rfl, rfl, rfl, rfl, rfl, rfl, rfl, rfl, rfl, rfl, rfl, rfl, rfl, rfl, rfl, rfl, rfl, rfl⟩

@[simp] theorem modSensor_thm (n : Nat) (f : Sensor → Sensor) (s : State) : (modSensor n f s).thm = { s.thm with sensors := vecMod s.thm.sensors n f } := rfl

/-- What `modSensor` leaves. -/
@[simp] theorem modSensor_frame (n : Nat) (f : Sensor → Sensor) (s : State) :
    (modSensor n f s).dev = s.dev ∧ (modSensor n f s).hif = s.hif ∧ (modSensor n f s).tim = s.tim ∧ (modSensor n f s).cnv
    = s.cnv ∧ (modSensor n f s).dsp = s.dsp ∧ (modSensor n f s).fec = s.fec ∧ (modSensor n f s).frm = s.frm ∧ (modSensor n
    f s).map = s.map ∧ (modSensor n f s).cph = s.cph ∧ (modSensor n f s).pkt = s.pkt ∧ (modSensor n f s).cln = s.cln ∧
    (modSensor n f s).plk = s.plk ∧ (modSensor n f s).mon = s.mon ∧ (modSensor n f s).mi = s.mi ∧ (modSensor n f s).log =
    s.log ∧ (modSensor n f s).pins = s.pins ∧ (modSensor n f s).atTrip = s.atTrip ∧ (modSensor n f s).snap = s.snap ∧
    (modSensor n f s).latched = s.latched ∧ (modSensor n f s).snapBusy = s.snapBusy ∧ (modSensor n f s).freeCount =
    s.freeCount ∧ (modSensor n f s).pending = s.pending := by
  refine ⟨rfl, rfl, rfl, rfl, rfl, rfl, rfl, rfl, rfl, rfl, rfl, rfl, rfl, rfl, rfl, rfl, rfl, rfl, rfl, rfl, rfl, rfl⟩

@[simp] theorem modTim_tim (f : Tim → Tim) (s : State) : (modTim f s).tim = f s.tim := rfl

/-- What `modTim` leaves. -/
@[simp] theorem modTim_frame (f : Tim → Tim) (s : State) :
    (modTim f s).dev = s.dev ∧ (modTim f s).hif = s.hif ∧ (modTim f s).cnv = s.cnv ∧ (modTim f s).dsp = s.dsp ∧ (modTim f
    s).fec = s.fec ∧ (modTim f s).frm = s.frm ∧ (modTim f s).map = s.map ∧ (modTim f s).cph = s.cph ∧ (modTim f s).pkt =
    s.pkt ∧ (modTim f s).cln = s.cln ∧ (modTim f s).plk = s.plk ∧ (modTim f s).mon = s.mon ∧ (modTim f s).thm = s.thm ∧
    (modTim f s).mi = s.mi ∧ (modTim f s).log = s.log ∧ (modTim f s).pins = s.pins ∧ (modTim f s).atTrip = s.atTrip ∧
    (modTim f s).snap = s.snap ∧ (modTim f s).latched = s.latched ∧ (modTim f s).snapBusy = s.snapBusy ∧ (modTim f
    s).freeCount = s.freeCount ∧ (modTim f s).pending = s.pending := by
  refine ⟨rfl, rfl, rfl, rfl, rfl, rfl, rfl, rfl, rfl, rfl, rfl, rfl, rfl, rfl, rfl, rfl, rfl, rfl, rfl, rfl, rfl, rfl⟩

@[simp] theorem hostWrite_hif (addr : Nat) (bs : List Byte) (s : State) : (hostWrite addr bs s).hif = { s.hif with hostWrites := tabInsert s.hif.hostWrites addr bs } := rfl

/-- What `hostWrite` leaves. -/
@[simp] theorem hostWrite_frame (addr : Nat) (bs : List Byte) (s : State) :
    (hostWrite addr bs s).dev = s.dev ∧ (hostWrite addr bs s).tim = s.tim ∧ (hostWrite addr bs s).cnv = s.cnv ∧ (hostWrite
    addr bs s).dsp = s.dsp ∧ (hostWrite addr bs s).fec = s.fec ∧ (hostWrite addr bs s).frm = s.frm ∧ (hostWrite addr bs
    s).map = s.map ∧ (hostWrite addr bs s).cph = s.cph ∧ (hostWrite addr bs s).pkt = s.pkt ∧ (hostWrite addr bs s).cln =
    s.cln ∧ (hostWrite addr bs s).plk = s.plk ∧ (hostWrite addr bs s).mon = s.mon ∧ (hostWrite addr bs s).thm = s.thm ∧
    (hostWrite addr bs s).mi = s.mi ∧ (hostWrite addr bs s).log = s.log ∧ (hostWrite addr bs s).pins = s.pins ∧ (hostWrite
    addr bs s).atTrip = s.atTrip ∧ (hostWrite addr bs s).snap = s.snap ∧ (hostWrite addr bs s).latched = s.latched ∧
    (hostWrite addr bs s).snapBusy = s.snapBusy ∧ (hostWrite addr bs s).freeCount = s.freeCount ∧ (hostWrite addr bs
    s).pending = s.pending := by
  refine ⟨rfl, rfl, rfl, rfl, rfl, rfl, rfl, rfl, rfl, rfl, rfl, rfl, rfl, rfl, rfl, rfl, rfl, rfl, rfl, rfl, rfl, rfl⟩

end Sys2Proof.Machine
end

