-- ==== Sys2Proof/Machine/Package.lean ====
section
/-! DEFINITION. Supplies, output pins and balls as chapter 17 lays them out. No command reads them. -/

namespace Sys2Proof.Machine

/-! ### Supplies (R484 to R487) -/

/-- A supply group of R485, in mV, tenths of a percent, mA and mW. -/
structure Rail where
  /-- Group number, 1 to 7. -/
  group : Nat
  /-- Absolute maximum voltage in mV (R484). -/
  absolute : Nat
  /-- Nominal voltage in mV; that of VDD_CORE is the AVS target. -/
  nominal : Nat
  /-- Tolerance in tenths of a percent; that of VDD_CORE is ±10 mV. -/
  tolerance : Nat
  /-- Typical current and power. -/
  typical : Nat × Nat
  /-- Maximum current and power. -/
  maximum : Nat × Nat
  /-- Housekeeping channel (R395). -/
  channel : Nat
deriving DecidableEq, Repr

/-- The seven rails of R485; VDD_CORE stands at 0.720 V for the typical figures and at 0.800 V otherwise. -/
def rails : List Rail :=
  [⟨1, 900, 800, 0, (86000, 61900), (100000, 80000), 8⟩, ⟨2, 1000, 850, 30, (10000, 8500), (12000, 10200), 9⟩,
   ⟨3, 1100, 950, 20, (14000, 13300), (16000, 15200), 10⟩, ⟨4, 1050, 900, 20, (10000, 9000), (12500, 11250), 11⟩,
   ⟨5, 1350, 1200, 30, (6000, 7200), (7000, 8400), 12⟩, ⟨6, 2000, 1800, 50, (1000, 1800), (1500, 2700), 13⟩,
   ⟨7, 2000, 1800, 50, (150, 270), (200, 360), 14⟩]
/-- A voltage in µV within the tolerance of a rail, for a target of VDD_CORE in mV (R485, R487). -/
def railInRange (r : Rail) (target uv : Nat) : Bool :=
  if r.group = 1 then decide ((target - 10) * 1000 ≤ uv ∧ uv ≤ (target + 10) * 1000)
  else decide (r.nominal * (1000 - r.tolerance) ≤ uv ∧ uv ≤ r.nominal * (1000 + r.tolerance))
/-- The order in which the board raises the groups, groups 3 and 4 in either order (R486). -/
def riseOrder (order : List Nat) : Bool := decide (order = [7, 1, 2, 3, 4, 5, 6]) || decide (order = [7, 1, 2, 4, 3, 5, 6])

/-- Junction temperature in m°C for a coolant in m°C, a power in mW and a lid-to-coolant θCA in m°C/W; θJC is 0.05 °C/W (R500,
R501). -/
def junction (coolant : Int) (power thetaCA : Nat) : Int := coolant + ((power * (thetaCA + 50) / 1000 : Nat) : Int)

/-! ### Output pins (R432, R496 to R498) -/

/-- VID[7:0]: the code of the target when AVS_SEL was sampled high, which is 120 until Kindling phase 6 ends, and low otherwise. -/
def vidPins (s : State) : Nat := if s.pins.vidMode then s.thm.target else 0
/-- READY is low in KINDLING and LOCKOUT and high in every other mode (R497). -/
def readyPin (m : Mode) : Bool := !(decide (m = .kindling) || decide (m = .lockout))
/-- Until Kindling phase 6 ends PPS_OUT is low and the SYNCE outputs are held at differential zero; a restart of the application
domain leaves them running (R498). -/
def bootHeld (s : State) : Bool := decide (s.dev.mode = .kindling) && s.dev.appReset.isNone
/-- PPS_OUT as driven (R97, R498). -/
def ppsOutPin (s : State) : Bool := !bootHeld s && s.tim.ppsOut

/-! ### Balls (R490 to R493) -/

/-- What a ball carries: the rail of a supply group, VSS, one of the differential signals of R491 with its N side marked, or a named
signal of R492. -/
inductive Ball where
  | vss
  | supply (group : Nat)
  | adc (group rail : Nat) (neg : Bool)
  | dac (group rail : Nat) (neg : Bool)
  | clientTx (lane : Nat) (neg : Bool)
  | clientRx (lane : Nat) (neg : Bool)
  | peerTx (lane : Nat) (neg : Bool)
  | peerRx (lane : Nat) (neg : Bool)
  | pcieTx (lane : Nat) (neg : Bool)
  | pcieRx (lane : Nat) (neg : Bool)
  | named (name : String)
deriving DecidableEq, Repr

/-- Runs of named balls in one row: row, first column, names (R492). -/
def namedRuns : List (Nat × Nat × List String) :=
  [(3, 3, ["LINE_REF0_P", "LINE_REF0_N"]), (3, 69, ["LINE_REF1_P", "LINE_REF1_N"]), (6, 3, ["CLIENT_REF_P", "CLIENT_REF_N"]),
   (6, 69, ["XTAL_IN", "XTAL_OUT"]),
   (62, 10, ["PWR_OK", "RESET_N", "READY", "THERM_TRIP_N", "BOOT_SEL", "AVS_SEL", "MGMT_ADDR0", "MGMT_ADDR1", "MGMT_SCL", "MGMT_SDA"]),
   (62, 22, ["PPS_IN", "PPS_OUT"]), (62, 25, ["SYNCE_OUT0_P", "SYNCE_OUT0_N"]), (62, 28, ["SYNCE_OUT1_P", "SYNCE_OUT1_N"]),
   (62, 31, ["VSENSE_CORE_P", "VSENSE_CORE_N"]),
   (63, 10, ["HKA_A_IN0", "HKA_A_IN1", "HKA_A_IN2", "HKA_A_IN3", "HKA_A_IN4", "HKA_A_IN5", "HKA_A_IN6", "HKA_A_IN7"]),
   (63, 20, ["HKA_B_IN0", "HKA_B_IN1", "HKA_B_IN2", "HKA_B_IN3", "HKA_B_IN4", "HKA_B_IN5", "HKA_B_IN6", "HKA_B_IN7"]),
   (64, 10, ["VID0", "VID1", "VID2", "VID3", "VID4", "VID5", "VID6", "VID7"]),
   (64, 20, ["BOOT_SPI_CLK", "BOOT_SPI_CS_N", "BOOT_SPI_IO0", "BOOT_SPI_IO1", "BOOT_SPI_IO2", "BOOT_SPI_IO3"]),
   (64, 28, ["AUX0_SPI_CLK", "AUX0_SPI_MOSI", "AUX0_SPI_MISO", "AUX0_SPI_CS0_N", "AUX0_SPI_CS1_N", "AUX0_SPI_CS2_N", "AUX0_SPI_CS3_N"]),
   (64, 37, ["AUX1_SPI_CLK", "AUX1_SPI_MOSI", "AUX1_SPI_MISO", "AUX1_SPI_CS0_N", "AUX1_SPI_CS1_N", "AUX1_SPI_CS2_N", "AUX1_SPI_CS3_N"]),
   (64, 46, ["AUX_I2C_SCL", "AUX_I2C_SDA"]), (66, 10, ["JTAG_TCK", "JTAG_TMS", "JTAG_TDI", "JTAG_TDO", "JTAG_TRST_N"]),
   (66, 16, ["TEST_EN"]), (70, 58, ["PCIE_REF_P", "PCIE_REF_N"]), (70, 62, ["PCIE_PERST_N"])]
/-- The named signal at a place. -/
def namedAt (row col : Nat) : Option String :=
  namedRuns.findSome? (fun r => if r.1 = row ∧ r.2.1 ≤ col then r.2.2[col - r.2.1]? else none)

/-- Converter pairs: group g and rail j at columns 10 + 28g + 6j and the next (R491). -/
def converterAt (f : Nat → Nat → Bool → Ball) (col : Nat) : Option Ball :=
  let k := col - 10
  if 10 ≤ col ∧ k < 56 ∧ k % 28 / 6 < 4 ∧ k % 28 % 6 < 2 then some (f (k / 28) (k % 28 / 6) (decide (k % 28 % 6 = 1))) else none
/-- Client lanes: transmit pairs in rows 9 + 4n, receive pairs in rows 11 + 4n, on the left for n below 16 and on the right from 16
on, where P lies outside (R491). -/
def clientAt (row col : Nat) : Option Ball :=
  let n := (row - 9) / 4
  if row < 9 then none
  else if (row - 9) % 4 = 0 then
    (if col = 2 ∨ col = 3 then some (.clientTx n (decide (col = 3)))
     else if col = 70 ∨ col = 71 then some (.clientTx (n + 16) (decide (col = 70))) else none)
  else if (row - 9) % 4 = 2 then
    (if col = 4 ∨ col = 5 then some (.clientRx n (decide (col = 5)))
     else if col = 68 ∨ col = 69 then some (.clientRx (n + 16) (decide (col = 68))) else none)
  else none
/-- Peer lanes at columns 9 + 3k and the next (R491). -/
def peerAt (f : Nat → Bool → Ball) (col : Nat) : Option Ball :=
  if 9 ≤ col ∧ col < 57 ∧ (col - 9) % 3 < 2 then some (f ((col - 9) / 3) (decide ((col - 9) % 3 = 1))) else none
/-- PCIe lanes in rows 61 to 68 (R491). -/
def pcieAt (row col : Nat) : Option Ball :=
  if row < 61 ∨ 68 < row then none
  else if col = 58 ∨ col = 59 then some (.pcieTx (row - 61) (decide (col = 59)))
  else if col = 62 ∨ col = 63 then some (.pcieRx (row - 61) (decide (col = 63)))
  else none
/-- A signal of R491. -/
def pairAt (row col : Nat) : Option Ball :=
  if row = 2 then converterAt .adc col
  else if row = 5 then converterAt .dac col
  else if col ≤ 8 ∨ 65 ≤ col then clientAt row col
  else if row = 71 ∧ col < 57 then peerAt .peerTx col
  else if row = 69 ∧ col < 57 then peerAt .peerRx col
  else pcieAt row col

/-- The supply group of a ball that carries no signal (R490). -/
def supplyAt (row col : Nat) : Option Nat :=
  if row ≤ 8 ∧ (col ≤ 8 ∨ 65 ≤ col) then (if row = 8 ∧ 65 ≤ col then some 7 else none)
  else if col ≤ 8 ∨ 65 ≤ col then
    (if col = 7 ∨ col = 66 then some 4 else if (col = 8 ∨ col = 65) ∧ row % 2 = 1 then some 5 else none)
  else if row ≤ 12 then (if row = 7 ∨ row = 9 then some 3 else if row = 11 then some 5 else none)
  else if row ≤ 60 then
    (if col ≤ 12 ∨ 61 ≤ col then (if col = 10 ∨ col = 12 ∨ col = 61 ∨ col = 63 then some 2 else none)
     else if (row + col) % 2 = 0 then some 1 else none)
  else if row = 61 ∧ col ≤ 32 then some 6
  else if row = 65 ∧ col ≤ 56 then some 5
  else if row = 67 ∧ col ≤ 56 then some 4
  else none
/-- The ball at a row and a column, each from 1 to 72. -/
def ballAt (row col : Nat) : Ball :=
  match pairAt row col with
  | some b => b
  | none =>
    match namedAt row col with
    | some n => .named n
    | none =>
      match supplyAt row col with
      | some g => .supply g
      | none => .vss
/-- Balls of the grid that a test picks, as R493 counts them. -/
def ballCount (f : Ball → Bool) : Nat :=
  ((List.range 72).map (fun r => ((List.range 72).filter (fun c => f (ballAt (r + 1) (c + 1)))).length)).foldl (· + ·) 0

end Sys2Proof.Machine
end

