-- ==== Sys2Proof/WellFormed.lean ====
section
/-! DEFINITION. Well-formed commands: operands that the interface they come from can carry. -/

namespace Sys2Proof

/-- A packet's PARAM_LEN is a 16-bit field, twelve header bytes are reserved (R69), and a host packet is named by an entry of 32
bytes (R64). -/
def Packet.wf (p : Packet) : Bool :=
  decide (p.params.length < 65536) && decide (p.reserved.length = 12)
    && decide (p.entry.length = if p.chan.val = 16 then 0 else 32)
/-- The windows with a _SNAP register, by BAR0 address (R28, R108). -/
def snapWindows : List Nat :=
  [0x20000, 0x100000, 0x140000, 0x180000, 0x1C0000, 0x200000, 0x220000, 0x240000, 0x280000, 0x300000, 0x340000, 0x380000, 0x3C0000]
/-- Link down, or a speed and width of R57. -/
def linkValues (gen width : Nat) : Bool := decide (gen = 0 ∧ width = 0) || ([3, 4, 5].contains gen && [1, 2, 4, 8].contains width)

/-- A well-formed command. -/
def Instr.wf (i : Instr) : Bool :=
  match i with
  | .aonPowerUp _ => true
  | .aonPowerLoss => true
  | .resetNLow => true
  | .pwrOkLow => true
  | .kindlingStart _ _ _ => true
  | .supplyCheckTimeout => true
  | .fuseCheckDone _ => true
  | .tcRamTestDone _ => true
  | .tcImageFetchDone => true
  | .tcImageCheckDone _ => true
  | .trustPhaseDone => true
  | .acImageFetchDone => true
  | .acImageCheckDone _ => true
  | .selftestDone => true
  | .devLoadCtrlGo => true
  | .modeChangeComplete => true
  | .quiesceDrainComplete => true
  | .quiesceDrainTimeout => true
  | .acWatchdogExpiry _ => true
  | .tcWatchdogExpiry => true
  | .appResetComplete _ => true
  | .acResumeAfterEmber => true
  | .imageLoadComplete _ => true
  | .devModeSet p => p.wf
  | .devAppReset p => p.wf
  | .devEngineReset p => p.wf
  | .devEmberRelease p => p.wf
  | .devImageLoad p => p.wf
  | .devOpkey p => p.wf
  | .devAttestQuote p => p.wf
  | .devAttestCert p => p.wf
  | .devLockoutDiag p => p.wf
  | .registerWrite _ addr width _ => decide (addr < 0x404000) && [1, 2, 4, 8].contains width
  | .readClearRegister addr => decide (addr < 0x400000 ∧ addr % 4 = 0)
  | .hifArrivalLoRead => true
  | .timTodSecLoRead => true
  | .cphDctrLoRead => true
  | .logLoWordRead _ => true
  | .frmPmSelWrite _ _ => true
  | .dmaRingHeadWrite _ _ => true
  | .snapRequest window => snapWindows.contains window
  | .snapCopyDone window => snapWindows.contains window
  | .pcieLinkChange gen width => linkValues gen width
  | .functionLevelReset => true
  | .d3hotEntry => true
  | .d0Return => true
  | .pciePerstFall => true
  | .pciePerstRise => true
  | .hifQ0EnSet => true
  | .hifQ0EnClear => true
  | .hifEqEnSet => true
  | .hifEqEnClear => true
  | .hifSqTailWrite _ _ _ => true
  | .hifCqHeadWrite _ _ => true
  | .hifEqHeadWrite _ => true
  | .packetFetchFailed _ => true
  | .undefinedOpcode _ p => p.wf
  | .leaseExpiry _ => true
  | .mgmtPacketWrite _ => true
  | .mgmtResponseRead => true
  | .mgmtStatusRead => true
  | .mgmtAvsRead => true
  | .mgmtBadSelector _ => true
  | .mgmtBusTimeout => true
  | .hifIdentify p => p.wf
  | .hifQueueCreate p => p.wf
  | .hifQueueDelete p => p.wf
  | .hifLeaseGrant p => p.wf
  | .hifLeaseRevoke p => p.wf
  | .hifLeaseQuery p => p.wf
  | .hifEventMask p => p.wf
  | .hifSpiXfer p => p.wf
  | .hifI2cXfer p => p.wf
  | .passthroughXferComplete _ _ _ read => decide (read.length ≤ 2048)
  | .hifMgmtEventRead p => p.wf
  | .hifNop p => p.wf
  | .secondBoundary _ => true
  | .ppsOutPulseEnd => true
  | .ppsInEdge => true
  | .ppsInMissing => true
  | .ptpUpdateTimeout => true
  | .slewComplete => true
  | .refLost _ => true
  | .refRestored _ => true
  | .synceResumeTimer _ => true
  | .ptpFrameReceived _ _ _ frame => decide (42 ≤ frame.length)
  | .ptpFrameSent _ _ _ _ => true
  | .snapshotInstant _ => true
  | .timGet p => p.wf
  | .timSet p => p.wf
  | .timAdjust p => p.wf
  | .timFreqSet p => p.wf
  | .timSrcSet p => p.wf
  | .timPtpCfg p => p.wf
  | .timPtpRing p => p.wf
  | .timPtpSend p => p.wf
  | .timSnapshot p => p.wf
  | .cnvStepStart _ => true
  | .cnvSpareSettled _ => true
  | .cnvMatchDone _ _ _ => true
  | .cnvTrimDone _ _ _ => true
  | .cnvVerifyDone _ _ _ => true
  | .cnvStatsWindowDone _ _ _ _ => true
  | .cnvRefreshInterval _ => true
  | .cnvRefreshComplete _ => true
  | .cnvFgCalComplete _ adcs dacs => decide (adcs.length = 4 ∧ dacs.length = 4)
  | .cnvSliceClockLocked _ => true
  | .cnvTsetSaveDue _ _ _ => true
  | .cnvFgCal p => p.wf
  | .cnvRefresh p => p.wf
  | .cnvCfgSet p => p.wf
  | .cnvTsetRead p => p.wf
  | .cnvTsetClear p => p.wf
  | .cnvDacCharRead p => p.wf
  | .cnvLoop p => p.wf
  | .dspBlockBoundary _ _ => true
  | .dspLosDeclared _ => true
  | .dspLosCleared _ => true
  | .dspCdFilterSet _ => true
  | .dspClockAcquired _ => true
  | .dspEqPreconverged _ => true
  | .dspSyncWordFound _ => true
  | .dspAcqStageTimeout _ => true
  | .dspSyncLost _ => true
  | .dspCdSearchComplete _ _ => true
  | .fastsopEntry _ => true
  | .fastsopHoldExpiry _ => true
  | .nlcComputeComplete _ => true
  | .txpdRecomputeComplete _ _ => true
  | .profileSwitchInstant _ => true
  | .profileTxBoundary _ => true
  | .profileSwitchTimeout _ => true
  | .dspProfileSet p => p.wf
  | .dspCdSet p => p.wf
  | .dspEqSet p => p.wf
  | .dspNlcSet p => p.wf
  | .dspRxSet p => p.wf
  | .dspTxSet p => p.wf
  | .dspTxRespLoad p => p.wf
  | .dspFastsopForce p => p.wf
  | .dspTestPattern p => p.wf
  | .dspQualityGet p => p.wf
  | .fecBlockArrival _ _ _ => true
  | .fecIterationBoundary => true
  | .fecBlockDelivery _ _ => true
  | .fecKatDue _ => true
  | .fecKatComplete _ _ => true
  | .fecWindowEnd _ => true
  | .fecCeilingPacingEnd => true
  | .coreRetestComplete _ _ => true
  | .poolSelfcheckComplete _ => true
  | .fecCfgSet p => p.wf
  | .fecThrSet p => p.wf
  | .fecStatsGet p => p.wf
  | .fecPoolGet p => p.wf
  | .fecCoreRetest p => p.wf
  | .fecErrInject p => p.wf
  | .frmFrameReceived _ _ _ => true
  | .frameBoundary _ _ mfas => decide (mfas < 256)
  | .defectDeclared _ _ _ => true
  | .defectCleared _ _ _ => true
  | .defectPacingEnd _ _ => true
  | .frmDefectCfgSet p => p.wf
  | .frmTtiSet p => p.wf
  | .frmTtiGet p => p.wf
  | .frmCaSet p => p.wf
  | .frmPmCfgSet p => p.wf
  | .frmPmRead p => p.wf
  | .frmPmClear p => p.wf
  | .frmTcaSet p => p.wf
  | .frmMaintInsert p => p.wf
  | .mapPlanApply _ => true
  | .demapperLocked _ => true
  | .apsHoldoffExpiry _ => true
  | .apsWtrExpiry _ => true
  | .apsSelectorSwitch _ => true
  | .apsPccReceived _ _ => true
  | .apsMismatchHeld _ => true
  | .apsPacingEnd _ => true
  | .mapPlanBegin p => p.wf
  | .mapPlanLoad p => p.wf
  | .mapPlanCommit p => p.wf
  | .mapPlanAbort p => p.wf
  | .mapPlanGet p => p.wf
  | .apsCfgSet p => p.wf
  | .apsCmd p => p.wf
  | .apsStatusGet p => p.wf
  | .cphTxGroupBoundary _ _ => true
  | .cphRxGroupCheck _ _ => true
  | .cphJobComplete _ _ => true
  | .epochRebuildComplete _ _ => true
  | .cphKeyImport p => p.wf
  | .cphKeyAgree p => p.wf
  | .cphKeyErase p => p.wf
  | .cphKeyInfo p => p.wf
  | .cphEpochSet p => p.wf
  | .cphEpochSwitch p => p.wf
  | .cphTribSet p => p.wf
  | .cphTribGet p => p.wf
  | .cphJobSubmit p => p.wf
  | .cphJobCancel p => p.wf
  | .cphCtxSave p => p.wf
  | .cphCtxRestore p => p.wf
  | .pktFrameReceived _ _ => true
  | .pktTxOpportunity _ _ => true
  | .pktFineWheelSlot _ => true
  | .pktCoarseWheelSlot _ => true
  | .pktGateEntryEnd _ => true
  | .pktGateCycleStart _ => true
  | .pktGateListStart _ => true
  | .pktInitComplete => true
  | .configEntryRebuilt _ _ => true
  | .pktPortSet p => p.wf
  | .pktEntitySet p => p.wf
  | .pktEntityGet p => p.wf
  | .pktRuleAdd p => p.wf
  | .pktRuleDel p => p.wf
  | .pktGateLoad p => p.wf
  | .pktGateSet p => p.wf
  | .pktStatsGet p => p.wf
  | .clnLaneFault _ _ => true
  | .clnTrainingTimeout _ => true
  | .clnLaneClean _ => true
  | .clnCifUp _ _ => true
  | .plkLaneCdrLocked _ => true
  | .plkDfeConverged _ => true
  | .plkLaneLoss _ => true
  | .plkMarkerReceived _ _ => true
  | .plkMarkerPeriodStart _ => true
  | .plkBlockTransmit _ => true
  | .plkTribBlockReceived _ _ => true
  | .plkApsBlockReceived _ _ => true
  | .plkHelloReceived _ => true
  | .plkHelloTimer => true
  | .plkApsRefreshTimer => true
  | .plkApsEntryTimeout _ => true
  | .plkHelloTimeout => true
  | .clnCifSet p => p.wf
  | .clnLaneSet p => p.wf
  | .clnLoop p => p.wf
  | .clnPrbs p => p.wf
  | .clnCifGet p => p.wf
  | .plkCfgSet p => p.wf
  | .plkLaneSet p => p.wf
  | .plkLoop p => p.wf
  | .plkStatusGet p => p.wf
  | .monOutputSample _ _ => true
  | .monFsopRepeat _ => true
  | .monChainFilled _ => true
  | .monDetectorWindowEnd _ _ => true
  | .monRecordWrite _ => true
  | .hkaConversionDone _ raw _ => decide (raw < 4096)
  | .hkaSystemTick => true
  | .hkaSeqPeriodStart _ => true
  | .hkaCalTimer _ => true
  | .hkaCalComplete _ => true
  | .hkaCalStepAbort _ => true
  | .monChSet p => p.wf
  | .monFsopSet p => p.wf
  | .monDetGet p => p.wf
  | .monRingSet p => p.wf
  | .hkaSeqSet p => p.wf
  | .hkaInject p => p.wf
  | .hkaCal p => p.wf
  | .hkaCorrSet p => p.wf
  | .hkaCfgSet p => p.wf
  | .thmSample readings => decide (readings.length = 74)
  | .thmLevelPacingEnd => true
  | .coolingRuleMet => true
  | .avsEvaluation _ => true
  | .thmLimitSet p => p.wf
  | .thmStatusGet p => p.wf
  | .thmSensorGet p => p.wf
  | .thmTripGet p => p.wf
  | .pwrAvsGet p => p.wf
  | .pwrAvsFix p => p.wf
  | .memoryCorrectableError _ _ _ _ _ => true
  | .memoryUncorrectableError _ _ _ _ _ => true
  | .miPatrolRead _ => true
  | .acmPageReloadComplete _ => true
  | .wpTileMarchComplete _ _ => true
  | .scrubRangeComplete _ _ => true
  | .miScrubRange p => p.wf
  | .miPatrolSet p => p.wf
  | .miFlipTest p => p.wf
  | .miCinderRead p => p.wf
  | .miClassGet p => p.wf
  | .flashPageProgrammed _ => true
  | .flashBlockErased _ => true
  | .lifeClockSecond => true
  | .countersHourlyDue => true
  | .ageingDayDue shifts => decide (shifts.length = 16)
  | .ageingMonthDue => true
  | .logRefreshPassDue => true
  | .logRefreshPassComplete failed => failed.all (fun b => decide (b < 256))
  | .planYearDue => true
  | .marginPlanComplete => true
  | .logExportComplete _ => true
  | .logExport p => p.wf
  | .logCountersGet p => p.wf
  | .logPlanGet p => p.wf
  | .logPlanRun p => p.wf
  | .logNote p => p.wf
  | .logAgeingGet p => p.wf
  | .logRefresh p => p.wf
  | .supplyGroupsWithinRange => true
  | .ppsOutRise => true
  | .crystalLoss => true
  | .pcsAlignmentLost _ _ => true
  | .localFaultReceived _ _ _ => true

end Sys2Proof
end

