-- ==== Sys2Proof/Tests/Slice0.lean ====
section
/-! SUPPORT. Tests: ill-formed commands are refused, single steps of the spec's own numbers, and for each statement a concrete
state and operands that meet its hypotheses. -/

set_option Elab.async false
set_option linter.unusedVariables false

namespace Sys2Proof.Tests
open Sys2Proof.Machine

/-- A host queue of 16 entries with one submission entry waiting. -/
def liveQueue : QueuePair := { QueuePair.absent with enabled := true, sqSize := 16, cqSize := 16, sqTail := 1 }
/-- A device in a mode after Kindling: link up, host queue 0 enabled with a packet waiting, references present, Logbook
ready, flash window open. -/
def live (m : Mode) : State := { State.reset with
  dev := { Dev.reset with mode := m, phase := 6, suppliesOk := true }
  hif := { Hif.reset with linkGen := 4, linkWidth := 4, queues := Hif.reset.queues.set 0 liveQueue }
  tim := { Tim.reset with line0 := true, line1 := true, client := true, pcie := true }
  fec := { Fec.reset with powered := true }
  thm := { Thm.reset with flashOk := true, sampled := true }
  log := { Log.reset with ready := true }
  pins := { Pins.reset with resetN := true, pwrOk := true, ready := true, suppliesInRange := true } }

/-- A packet of host queue 0 with a right CRC. -/
def bare (ps : List Byte) (data : List Byte := []) : Packet :=
  ⟨0, 0, 1, 7, 1, 0, 0, List.replicate 12 0, ps, List.replicate 8 0 ++ leBytes 4 4096 ++ List.replicate 20 0, data⟩
def pk (opcode : Nat) (ps : List Byte) (data : List Byte := []) : Packet :=
  { bare ps data with crc := BitVec.ofNat 32 (crc32c (packetBytes opcode (bare ps))) }

theorem pk_crc (opcode : Nat) (ps data : List Byte) : packetCrcOk opcode (pk opcode ps data) = true := by
  have h : packetBytes opcode (pk opcode ps data) = packetBytes opcode (bare ps) := rfl
  have g : (pk opcode ps data).crc = BitVec.ofNat 32 (crc32c (packetBytes opcode (bare ps))) := rfl
  have l : (pk opcode ps data).cmdLen = 4096 := rfl
  have m : packetLimit (pk opcode ps data) = 4064 := rfl
  have q : (pk opcode ps data).params = ps := rfl
  unfold packetCrcOk
  rw [h, g, l, m, q, BitVec.toNat_ofNat, Nat.mod_eq_of_lt (crc32c_lt _)]
  simp only [decide_true, Bool.true_and, Bool.or_assoc, Bool.or_eq_true, decide_eq_true_eq]
  omega

/-- Steps 2 to 8 of the admission. -/
def rest (c : CmdInfo) (p : Packet) (s : State) : Status :=
  if p.params.length > packetLimit p then .badLength
  else if p.version ≠ 1 ∨ 4 ≤ p.flags.toNat ∨ (!(fromBmc p) ∧ p.leaseId ≠ 0) then .badParam
  else if c.group = 8 ∧ s.dev.variantN then .denied
  else if fromBmc p ∧ c.bmcDenied ∨ !(fromBmc p) ∧ c.hostDenied then .denied
  else if fromBmc p ∧ c.modifying ∧ ¬ s.activeLeases.any (fun l => l.id = p.leaseId && l.covers c) then .denied
  else if !(fromBmc p) ∧ c.modifying ∧ s.activeLeases.any (fun l => l.covers c) then .leased
  else if !modeAccepts s.dev.mode c then .badState
  else if !c.lenOk p.params then .badLength
  else .ok

theorem admission_pk (c : CmdInfo) (ps data : List Byte) (s : State) :
    admission c (pk c.opcode ps data) s = rest c (pk c.opcode ps data) s := by
  unfold admission
  rw [pk_crc]
  rfl
/-- A packet with a right CRC is admitted when the steps after it admit it. -/
theorem granted {c : CmdInfo} {ps data : List Byte} {s : State} (h : startable (bare ps) s = true)
    (g : rest c (pk c.opcode ps data) (takePacket (pk c.opcode ps data) s) = .ok) :
    Granted c (pk c.opcode ps data) s (takePacket (pk c.opcode ps data) s) := by
  exact ⟨h, rfl, rfl, (admission_pk c ps data _).trans g⟩
/-- The same packet from the BMC. -/
def pkBmc (opcode : Nat) (ps : List Byte) : Packet :=
  let b : Packet := { bare ps with chan := 16, entry := [] }
  { b with crc := BitVec.ofNat 32 (crc32c (packetBytes opcode b)) }
theorem pkBmc_crc (opcode : Nat) (ps : List Byte) : packetCrcOk opcode (pkBmc opcode ps) = true := by
  have h : packetBytes opcode (pkBmc opcode ps) = packetBytes opcode { bare ps with chan := 16, entry := [] } := rfl
  have g : (pkBmc opcode ps).crc = BitVec.ofNat 32 (crc32c (packetBytes opcode { bare ps with chan := 16, entry := [] })) := rfl
  unfold packetCrcOk
  have b : fromBmc (pkBmc opcode ps) = true := rfl
  rw [h, g, b, BitVec.toNat_ofNat, Nat.mod_eq_of_lt (crc32c_lt _)]
  exact Bool.and_eq_true_iff.mpr ⟨decide_eq_true rfl, rfl⟩
theorem grantedBmc {c : CmdInfo} {ps : List Byte} {s : State} (h : startable (pkBmc c.opcode ps) s = true)
    (r : isRetry (pkBmc c.opcode ps) s = false)
    (g : rest c (pkBmc c.opcode ps) (takePacket (pkBmc c.opcode ps) s) = .ok) :
    Granted c (pkBmc c.opcode ps) s (takePacket (pkBmc c.opcode ps) s) := by
  refine ⟨h, r, rfl, ?_⟩
  unfold admission
  rw [pkBmc_crc]
  exact g
theorem u32_le (a b c d : Byte) (v : Nat) (t : List Byte) (h : v < 2 ^ 32) : v = u32 (a :: b :: c :: d :: leBytes 4 v ++ t) 4 := by
  simp [u32, bytesAt, leBytes, leNat, BitVec.toNat_ofNat] <;> omega

/-! ### The package -/

/-- R491's own examples: the LE1.YQ ADC at row 2, columns 56 and 57; CL 21 transmits at row 29, columns 71 and 70. -/
theorem test_balls : ballAt 2 56 = .adc 1 3 false ∧ ballAt 2 57 = .adc 1 3 true ∧ ballAt 29 71 = .clientTx 21 false
    ∧ ballAt 29 70 = .clientTx 21 true := by decide
/-- R501's own example: 102 W over a coolant at 40 °C with θCA 0.380 °C/W gives 83.9 °C, rounded. -/
theorem test_junction : junction 40000 102000 380 = 83860 := by decide

/-! ### Ill-formed commands are refused -/

/-- Bytes to overfill a packet. -/
def zeros (n : Nat) : List Byte := List.replicate n 0
theorem test_wf_packet : (Instr.timGet (bare (zeros 65536))).wf = false := by
  have h : (zeros 65536).length = 65536 := List.length_replicate ..
  simp only [Instr.wf, Packet.wf, bare, h]
  decide
theorem test_wf_register_address : (Instr.registerWrite .host 0x404000 4 0).wf = false := by decide
theorem test_wf_register_width : (Instr.registerWrite .host 0x20000 3 0).wf = false := by decide
theorem test_wf_read_clear : (Instr.readClearRegister 2).wf = false := by decide
theorem test_wf_snap : (Instr.snapRequest 0x30000).wf = false ∧ (Instr.snapCopyDone 0x30000).wf = false := by decide
theorem test_wf_link : (Instr.pcieLinkChange 4 3).wf = false := by decide
theorem test_wf_passthrough (key : Nat) : (Instr.passthroughXferComplete key .complete 0 (zeros 2049)).wf = false := by
  have h : (zeros 2049).length = 2049 := List.length_replicate ..
  simp only [Instr.wf, h]
  decide
theorem test_wf_ptp_frame : (Instr.ptpFrameReceived 0 false .ethernet (zeros 41)).wf = false := by
  simp [Instr.wf, zeros]
theorem test_wf_fg_cal : (Instr.cnvFgCalComplete 0 [] []).wf = false := by decide
theorem test_wf_frame_boundary : (Instr.frameBoundary 0 0 256).wf = false := by decide
theorem test_wf_conversion : (Instr.hkaConversionDone 0 4096 none).wf = false := by decide
theorem test_wf_thermal_sample : (Instr.thmSample []).wf = false := by decide
theorem test_wf_ageing_day : (Instr.ageingDayDue [0]).wf = false := by decide
theorem test_wf_refresh_pass : (Instr.logRefreshPassComplete [256]).wf = false := by decide

/-- No row of the table gives bits. -/
theorem test_no_word_decodes (nbits w : Nat) : decodeTableWord nbits w = none ∧ State.reset.withFetchWord nbits w = State.reset :=
  ⟨rfl, rfl⟩

/-! ### The spec's own numbers -/

/-- "123456789" in ASCII. -/
def nineDigits : List Byte := [0x31, 0x32, 0x33, 0x34, 0x35, 0x36, 0x37, 0x38, 0x39]
set_option maxRecDepth 100000 in
/-- The check value of R69. -/
theorem test_crc32c : crc32c nineDigits = 0xE3069283 := by decide
set_option maxRecDepth 100000 in
/-- The check value of R274. -/
theorem test_crc16 : crc16 nineDigits = 0x29B1 := by decide

/-- The example of AES-256 in FIPS 197. -/
theorem test_aes : aesNat (roundKeys 0x000102030405060708090A0B0C0D0E0F101112131415161718191A1B1C1D1E1F)
    0x00112233445566778899AABBCCDDEEFF = 0x8EA2B7CA516745BFEAFC49904B496089 := by decide +kernel
/-- The digest of "abc" in FIPS 180-4's examples. -/
theorem test_sha384 : digestBytes (sha384 [0x61, 0x62, 0x63]) = beBytes 48
    0xCB00753F45A35E8BB5A03D699AC65007272C32AB0EDED1631A8B605A43FF5BED8086072BA1E7CC2358BAECA134C825A7 := by decide +kernel
/-- Test case 14 of the GCM specification. -/
theorem test_gcm : gcmEncrypt 0 (List.replicate 12 0) [] (List.replicate 16 0) = beBytes 16 0xCEA7403D4D606B6E074EC5D3BAF39D18
    ∧ gcmTag 0 (List.replicate 12 0) [] (beBytes 16 0xCEA7403D4D606B6E074EC5D3BAF39D18) = beBytes 16 0xD0D1C8A799996BF0265B98B5D48AB919 := by
  decide +kernel
/-- An example of CMAC with AES-256 in SP 800-38B. -/
theorem test_cmac : cmac 0x603DEB1015CA71BE2B73AEF0857D77811F352C073B6108D72D9810A30914DFF4
    (beBytes 16 0x6BC1BEE22E409F96E93D7E117393172A) = beBytes 16 0x28A7023F452E8F82BD4BF28D8C37C35C := by decide +kernel

/-- R99's worked example: device time 5,000.8 s under source 0. -/
def atEightTenths : State := { live .service with tim := { (live .service).tim with
  source := .host, tod := todOf 5000 800000000, highestLatched := 5000 } }
/-- The step of a TIM_ADJUST by an offset in ns. -/
def adjusted (off : Int) : Tim := (stepTo (movedTod off atEightTenths.tim).toNat atEightTenths).tim
theorem test_step_back :
    (adjusted (-1300000000)).seconds = 4999 ∧
    (adjusted (-1300000000)).nanoseconds = 500000000 ∧
    (adjusted (-1300000000)).highestLatched = 5000 := by decide
set_option maxRecDepth 100000 in
theorem test_step_forward :
    (adjusted 2400000000).seconds = 5003 ∧
    (adjusted 2400000000).nanoseconds = 200000000 ∧
    (adjusted 2400000000).highestLatched = 5003 := by decide

/-- The worked example after R131: SKEW between two captures. -/
theorem test_between : between 552 461 589 106 169 = 151 := by decide
/-- The worked examples of the soft-decision pool and of the margin plan: fit and margin limits. -/
theorem test_fit_limits : fitFor 48 6168960 = 24 ∧ fitFor 44 6168960 = 22 := by decide

/-- The gate list of the worked example after R336. -/
def gateExample : List GateEntry := [⟨0x80, 2500⟩, ⟨0x5F, 25000⟩, ⟨0x20, 125⟩, ⟨0x00, 3625⟩]
theorem test_gate_windows : gateWindows gateExample 250000 = [(0x80, 20000), (0x5F, 200000), (0x20, 1000), (0, 29000)] := by
  decide

/-- The worked example of the throttle ladder: TS 29 and its neighbours, and the targets at 103.3 and 105.1 °C. -/
theorem test_ts29 : zoneOf 29 = 3 ∧ sensorRow 29 = 3 ∧ sensorCol 29 = 1 ∧ neighbours 29 = [25, 28, 30, 49] := by decide
theorem test_targets : targetLevel State.reset 20 1653 = 7 ∧ targetLevel State.reset 20 1682 = 11 := by decide

/-- The worked example of the margin plan: four full years, one core retired, D(0) = 1.000 %, Vmin 712.5 mV. -/
theorem test_plan_floor : planFloorOf 700 7125 1 1000 126230400 = 720 := by decide
theorem test_plan_reserve : planReserveOf 1 126230400 = 3 := by decide
set_option maxRecDepth 100000 in
theorem test_plan_eol : eolAbove 7125 1 1000 126230400 = false ∧ eolFloor 7125 1 1000 126230400 = 732 := by decide
theorem test_plan_advice : adviceOf 0 (ratioOf 27400000 36000000) 0 = some 1 ∧ adviceOf 0 (ratioOf 9800000 36000000) 0 = none := by
  decide

/-- A device with operator key 0 enrolled. -/
def enrolled (k : OpKey) : State := { live .standby with dev := { (live .standby).dev with
  opKeys := vecMod (live .standby).dev.opKeys 0 (fun _ => some k) } }
/-- DEV_OPKEY deleting the empty slot 1, authorised by slot 0 with a P-384 signature. -/
def opkeyParams : List Byte := [2, 1] ++ List.replicate 210 0
def key0 : OpKey := ⟨2, []⟩
set_option maxRecDepth 100000 in
/-- The clause of DEV_OPKEY that leaves the key list as it was: a state meets its hypotheses wherever the signature verifies. -/
theorem witness_opkey_unchanged (h : Config.verify 2 [] (sha384 (bytesAt 0 112 opkeyParams)) (opkeyParams.drop 116) = true) :
    let s := takePacket (pk 0x0006 opkeyParams) (enrolled key0)
    Granted { modCmd 0x0006 0 with
        lenOk := fun b => decide (b.length = 116) || decide (b.length = 212) || decide (b.length = 2788) }
      (pk 0x0006 opkeyParams) (enrolled key0) s ∧ authLenOk opkeyParams 0 s = true ∧ authorised opkeyParams 0 s = true ∧
    vecMod s.dev.opKeys 1 (fun _ => none) = s.dev.opKeys := by
  exact ⟨granted (c := { modCmd 0x0006 0 with
    lenOk := fun b => decide (b.length = 116) || decide (b.length = 212) || decide (b.length = 2788) }) rfl rfl, rfl, h, rfl⟩

/-! ### Witnesses of the hypotheses of the first statements -/

theorem witness_idle : State.reset.pending = [] := rfl

/-- Each case of the pipeline: not started, a retry, a wrong CRC, a refusal by R71, and a packet granted. -/
theorem witness_pipeline :
    (∃ p, commandOf (.hifNop p) = some ({ readCmd 0x010B 0 with lenOk := fun _ => true }, replyHifNop, p) ∧ startable p State.reset = false) ∧
    (∃ (p : Packet) (s : State), startable p s = true ∧ isRetry p s = true) ∧
    (∃ (p : Packet) (s : State), startable p s = true ∧ isRetry p s = false ∧ packetCrcOk 0x010B p = false) ∧
    (∃ p s, commandOf (.devModeSet p) = some (modCmd 0x0001 4, replyDevModeSet, p) ∧ startable p s = true ∧ isRetry p s = false
      ∧ packetCrcOk 0x0001 p = true ∧ admission (modCmd 0x0001 4) p (takePacket p s) ≠ .ok) ∧
    (∃ p s, Granted (modCmd 0x0001 4) p s (takePacket p s)) :=
  ⟨⟨bare [], rfl, rfl⟩,
    ⟨pkBmc 0x010B [], modHif (fun h => { h with mgmt := { h.mgmt with last := some ((pkBmc 0x010B []).seq, (pkBmc 0x010B []).crc) } })
      (live .service), by decide +kernel, by decide +kernel⟩,
    ⟨bare [], live .service, rfl, rfl, by decide +kernel⟩,
    ⟨pk 0x0001 [], live .service, rfl, rfl, rfl, pk_crc _ _ _,
      fun h => absurd ((admission_pk (modCmd 0x0001 4) [] [] _).symm.trans h) (by decide)⟩,
    ⟨pk 0x0001 [3, 0, 0, 0], live .standby, granted rfl (by decide +kernel)⟩⟩

/-- 64 commands are DEFERRED. -/
def crowded : State := modHif (fun h => { h with deferred := List.replicate 64 ⟨0, 0, 1, 0, 0, 1, [], false⟩ }) (live .service)
/-- A refused command: by its own checks, and DEFERRED beyond the 64th in both forms. -/
theorem witness_refused :
    (∃ p st off resp t, Granted (modCmd 0x0001 4) p (live .service) (takePacket p (live .service))
      ∧ replyDevModeSet p (takePacket p (live .service)) = .done st off resp t ∧ ¬ (st = .ok ∨ st = .deferred ∨ st = .partly)) ∧
    (∃ p unit group code ab eff, Granted (modCmd 0x0001 4) p crowded (takePacket p crowded)
      ∧ 64 ≤ (takePacket p crowded).hif.deferred.length
      ∧ replyDevModeSet p (takePacket p crowded) = .later unit group code ab eff) :=
  ⟨⟨pk 0x0001 [9, 0, 0, 0], _, _, _, _, granted rfl (by decide +kernel), rfl, by decide⟩,
    ⟨pk 0x0001 [5, 0, 0, 0], _, _, _, _, _, granted rfl (by decide +kernel), by decide +kernel, rfl⟩⟩

/-- Rows of the frames answer next states. -/
theorem witness_frames :
    (∃ t, exec (.hifNop (pk 0x010B [])) (live .service) = .next t) ∧
    (∃ t, exec (.fecCfgSet (pk 0x0501 [12, 1, 0, 0])) (live .service) = .next t) ∧
    (∃ t, exec (.pcieLinkChange 4 8) (live .service) = .next t) :=
  ⟨⟨_, rfl⟩, ⟨_, rfl⟩, ⟨_, rfl⟩⟩

/-- The invariants hold and a step is taken: in SERVICE with a change to QUIESCE in progress, and in LOCKOUT. -/
theorem witness_modes :
    (∃ s t : State, step s = .next t ∧ PinsFollowMode s ∧ ChangeIsCommanded s ∧ LeasesApart s.hif.leases ∧ s.dev.changing = some ⟨.quiesce, 5⟩) ∧
    (∃ s t : State, step s = .next t ∧ LockedOut s ∧ ∀ i rest, s.pending = i :: rest → leavesLockout i = false) :=
  ⟨⟨{ modDev (fun d => { d with changing := some ⟨.quiesce, 5⟩ }) (live .service) with
        hif := { (live .service).hif with leases := [⟨1, 4, 5⟩, ⟨2, 8, 5⟩] }, pins := { (live .service).pins with squelched := false } },
      _, rfl, ⟨rfl, rfl⟩, fun c h => by injection h with h; subst h; rfl, by unfold LeasesApart; decide +kernel, rfl⟩,
    ⟨{ live .lockout with pending := [.timGet (bare [])] }, _, rfl, ⟨rfl, rfl⟩, fun i rest h => by injection h with h _; subst h; rfl⟩⟩

/-- An event of a masked group, one of the BMC's with room in its buffer and with none. -/
def thermal : Event := ⟨13, 1, [], false, 0, 0, 0, 0, 0, 0, .ok⟩
theorem witness_events :
    (∃ s : State, s.clocked = true ∧ masked s.hif thermal = true) ∧
    (∃ s : State, s.clocked = true ∧ bmcTakes s thermal = true ∧ s.hif.mgmt.buffer.length < 32) ∧
    (∃ s : State, s.clocked = true ∧ bmcTakes s thermal = true ∧ s.hif.mgmt.buffer.length = 32) ∧
    (∃ s : State, s.clocked = true ∧ s.hif.mgmt.buffer.length ≤ 32 ∧ bmcTakes s { thermal with group := 2 } = false) :=
  ⟨⟨modHif (fun h => { h with evtMask := BitVec.allOnes _ }) State.reset, by decide +kernel, by decide +kernel⟩,
    ⟨State.reset, by decide +kernel, by decide +kernel, by decide +kernel⟩,
    ⟨modHif (fun h => { h with mgmt := { h.mgmt with buffer := List.replicate 32 thermal } }) State.reset, by decide +kernel,
      by decide +kernel, by decide +kernel⟩,
    ⟨State.reset, by decide +kernel, by decide +kernel, by decide +kernel⟩⟩

/-- The device without its crystal, where nothing but the thermal trip is alive. -/
def dark : State := modThm (fun t => { t with crystalLost := true }) (live .service)
theorem witness_dark : dark.clocked = false := by decide +kernel

/-- An enabled queue with a free slot at the wrap of its ring, and a full one. -/
theorem witness_completions :
    (∃ (n : Nat) (s : State), n < 16 ∧ (s.queue n).enabled = true ∧ (s.queue n).held = [] ∧ (s.queue n).full = false ∧ s.hif.dmaUp = true
      ∧ (s.queue n).cqTail + 1 = (s.queue n).cqSize) ∧
    (∃ (n : Nat) (s : State), n < 16 ∧ (s.queue n).enabled = true ∧ (s.queue n).full = true) :=
  ⟨⟨15, (live .service).setQueue 15 { liveQueue with cqTail := 15, cqHead := 3 }, by decide +kernel⟩,
    ⟨0, (live .service).setQueue 0 { liveQueue with cqTail := 15, cqHead := 0 }, by decide +kernel⟩⟩

/-- HIF_LEASE_GRANT answers from a state whose leases are apart, and adds one. -/
theorem witness_lease_grant : ∃ t, exec (.hifLeaseGrant (pk 0x0104 [1, 0, 0, 0, 4, 0, 0, 0, 1, 0, 0, 0])) (live .service) = .next t
    ∧ LeasesApart (live .service).hif.leases := ⟨_, rfl, by unfold LeasesApart; decide⟩
/-- A host packet of a leased group that passes the checks before the lease, and a read-only command. -/
def leased : State := modHif (fun h => { h with leases := [⟨1, 4, 5⟩] }) (live .service)
theorem witness_leased :
    (∃ p, commandOf (.timFreqSet p) = some (modCmd 0x0204 4, replyTimFreqSet, p) ∧ fromBmc p = false ∧ startable p leased = true
      ∧ (modCmd 0x0204 4).modifying = true ∧ (∃ l ∈ (takePacket p leased).activeLeases, l.covers (modCmd 0x0204 4) = true)
      ∧ packetCrcOk 0x0204 p = true ∧ p.params.length ≤ packetLimit p ∧ p.version = 1 ∧ p.flags.toNat < 4 ∧ p.leaseId = 0
      ∧ ¬ ((modCmd 0x0204 4).group = 8 ∧ (takePacket p leased).dev.variantN = true) ∧ (modCmd 0x0204 4).hostDenied = false) ∧
    (readCmd 0x0201 0).modifying = false :=
  ⟨⟨pk 0x0204 [0, 0, 0, 0], rfl, rfl, rfl, rfl, ⟨⟨1, 4, 5⟩, by decide +kernel, by decide +kernel⟩, pk_crc _ _ _, by decide +kernel, rfl,
    by decide +kernel, rfl, by decide +kernel, rfl⟩, rfl⟩

theorem witness_registers : (live .service).clocked = true ∧ Writer.host ≠ .tc ∧ Writer.ac ≠ .tc ∧ 0x20304 ∈ tcRegisters := by
  decide +kernel

/-- A powered pool whose ceiling is above 2, one at 2, and an unpowered one. -/
theorem witness_ceiling :
    (∃ s : State, s.fec.powered = true ∧ 2 < ceilingForce s) ∧
    (∃ s : State, s.fec.powered = true ∧ ceilingForce s = 2) ∧ (∃ s : State, s.fec.powered = false) :=
  ⟨⟨live .standby, by decide +kernel⟩, ⟨{ live .standby with fec := { (live .standby).fec with ceilUse := 2 } }, by decide +kernel⟩, ⟨State.reset, rfl⟩⟩

/-- A powered class with its patrol inside an instance and at an instance's last row. -/
theorem witness_patrol :
    (∃ (cls : Fin 14) (s : State), classPowered cls.val s = true ∧ (s.memClass cls.val).patrolPos + 1 < classRows cls.val) ∧
    (∃ (cls : Fin 14) (s : State), classPowered cls.val s = true ∧ classRows cls.val ≤ (s.memClass cls.val).patrolPos + 1) := 
  ⟨⟨0, live .service, by decide +kernel⟩, ⟨1, modClass 1 (fun c => { c with patrolPos := 1023 }) (live .service), by decide +kernel⟩⟩

/-- CPH_KEY_ERASE of a slot in use, of a loaded slot and of an empty one. -/
theorem witness_key_erase :
    (∃ (p : Packet) (s₀ s : State), Granted (modCmd 0x0803 4) p s₀ s ∧ u16 p.params 0 ≤ 1023 ∧ 0 < slotBound (u16 p.params 0) s) ∧
    (∃ (p : Packet) (s₀ s : State), Granted (modCmd 0x0803 4) p s₀ s ∧ u16 p.params 0 ≤ 1023 ∧ slotBound (u16 p.params 0) s = 0
      ∧ leNat (bytesAt 2 2 p.params) = 0 ∧ (s.keySlot (u16 p.params 0)).loaded = true) ∧
    (∃ (p : Packet) (s₀ s : State), Granted (modCmd 0x0803 4) p s₀ s ∧ u16 p.params 0 ≤ 1023 ∧ slotBound (u16 p.params 0) s = 0
      ∧ leNat (bytesAt 2 2 p.params) = 0 ∧ (s.keySlot (u16 p.params 0)).loaded = false) :=
  ⟨⟨pk 0x0803 [255, 3, 0, 0], { live .service with cph := { (live .service).cph with jobs := [⟨0, 4 :: 0 :: 0 :: 0 :: 255 :: 3 :: List.replicate 122 0, 0, 5, 0, 0, 0, false, false, none, []⟩] } },
      _, granted rfl (by decide +kernel), by decide +kernel, by decide +kernel⟩,
    ⟨pk 0x0803 [255, 3, 0, 0], modKeySlot 1023 (fun _ => ⟨true, true, 1, false, 5, 6, [], 0⟩) (live .service), _, granted rfl (by decide +kernel),
      by decide +kernel, by decide +kernel, by decide +kernel, by decide +kernel⟩,
    ⟨pk 0x0803 [0, 0, 0, 0], live .service, _, granted rfl (by decide +kernel), by decide +kernel, by decide +kernel, by decide +kernel,
      by decide +kernel⟩⟩

/-- The target level below, within and above the span. -/
theorem witness_target : ∃ s : State, 0 < s.thm.span ∧ (1680 : Int) ≤ 16 * (s.thm.thrStart : Int)
    ∧ 16 * ((s.thm.thrStart : Int) + s.thm.span) ≤ 2000 ∧ 16 * (s.thm.thrStart : Int) < 1700
    ∧ (1700 : Int) < 16 * ((s.thm.thrStart : Int) + s.thm.span) := ⟨{ State.reset with thm := { State.reset.thm with thrStart := 105, span := 5 } }, by decide +kernel⟩
/-- Admission within the reservation, and beyond it. -/
theorem witness_admission : admitTiles 2 10 3 3 0 0 8 = some [true, true, false] ∧ admitTiles 2 10 3 1 0 0 0 = some [true] := by decide
/-- Round robin chooses between two entities. -/
theorem witness_drr : ∃ k d, tabWf (0 : Int) [] = true ∧ drrPick (fun _ => 1) [4, 5] 3 [] = some (k, d) := ⟨_, _, rfl, rfl⟩
/-- A subscriber of port 0 with a deficit and no frame. -/
theorem witness_deficit : ∃ s : State, tabWf Shape.reset s.pkt.shapes = true ∧ portOf 7 s = 0 ∧ hasEligible 7 s = false
    ∧ (s.shape 7).deficit ≠ 0 := ⟨modShape 7 (fun x => { x with deficit := 5 }) State.reset, by decide +kernel⟩
theorem witness_gates : ([⟨1, 5⟩, ⟨2, 7⟩] : List GateEntry) ≠ [] := by decide
theorem witness_slew : ∃ s : State, s.clocked = true ∧ -512000000 ≤ clockAdj s.tim ∧ clockAdj s.tim ≤ 512000000 ∧ s.tim.slew ≠ 0 :=
  ⟨modTim (fun t => { t with slew := -1000000, freqAdj := 512000000 }) State.reset, by decide +kernel⟩

/-- And beyond the 64th with response bytes: MAP_PLAN_COMMIT. -/
def crowded2 : State := modHif (fun h => { h with deferred := List.replicate 64 ⟨0, 0, 1, 0, 0, 1, [], false⟩ }) { (live .service) with map := { (live .service).map with staging := some [] } }
theorem witness_refused2 :
    (∃ p resp unit group code ab eff, Granted (modCmd 0x0703 20) p crowded2 (takePacket p crowded2)
      ∧ 64 ≤ (takePacket p crowded2).hif.deferred.length
      ∧ replyMapPlanCommit p (takePacket p crowded2) = .laterWith resp unit group code ab eff) := by
  refine ⟨pk 0x0703 (1 :: 0 :: 0 :: 0 :: leBytes 4 (planCrc []) ++ List.replicate 12 0), ?_, ?_, ?_, ?_, ?_, ?_, granted rfl (by decide +kernel), by decide +kernel, ?_⟩
  rotate_left 6
  have e : ∀ t, u32 (1 :: 0 :: 0 :: 0 :: leBytes 4 (planCrc []) ++ t) 4 = planCrc [] := fun t => (u32_le _ _ _ _ _ _ (crc32c_lt _)).symm
  unfold replyMapPlanCommit
  show checked _ [_, failIf .integrity (decide (u32 (1 :: 0 :: 0 :: 0 :: leBytes 4 (planCrc []) ++ List.replicate 12 0) 4 ≠ planCrc [])), _, _, _] _ = _
  rw [e, show decide (planCrc [] ≠ planCrc []) = false from by simp]
  rfl

/-! ### Witnesses of the completion statements, clause by clause -/

/-- A key blob for slot 0, wrapped by slot 0, and its tag under key 5. -/
def blobHead (flags : Byte) : List Byte := [0, 0, 0, 0, 0x4B, 0x42, 0x4C, 0x31, 1, flags, 0, 4, 0, 0, 0, 0] ++ List.replicate 56 0
def blobTag (f : Byte) : List Byte := gcmTag 5 (blobIv (blobHead f)) (blobAad (blobHead f)) (blobWrapped (blobHead f))
theorem blob_rest (f : Byte) : ∀ t : List Byte, t.length = 16 →
    rest (modCmd 0x0801 88) (pk 0x0801 (blobHead f ++ t)) (takePacket (pk 0x0801 (blobHead f ++ t)) (modKeySlot 0 (fun _ => ⟨true, true, 16, false, 5, 6, [], 0⟩) (live .service))) = .ok
  | [_, _, _, _, _, _, _, _, _, _, _, _, _, _, _, _], _ => rfl
theorem blob_tag (f : Byte) : ∀ t : List Byte, t.length = 16 → t = bytesAt 72 16 (blobHead f ++ t)
  | [_, _, _, _, _, _, _, _, _, _, _, _, _, _, _, _], _ => rfl
/-- A context in host memory that restores job 0 (R300). -/
def restoreHead : List Byte := List.replicate 8 0 ++ leBytes 8 1 ++ leBytes 8 (Config.bootId 0) ++ List.replicate 208 0
def restoreTag : List Byte := contextTag 0 restoreHead
theorem u64_boot (v : Nat) : leNat (leBytes 8 v) = v % 2 ^ 64 := by
  simp [leBytes, leNat, BitVec.toNat_ofNat] <;> omega
theorem bytesAt_front (h t : List Byte) : bytesAt 0 h.length (h ++ t) = h := by simp [bytesAt]
theorem bytesAt_back (h t : List Byte) : bytesAt h.length t.length (h ++ t) = t := by simp [bytesAt]
theorem restore_cut : bytesAt 0 232 (restoreHead ++ restoreTag) = restoreHead ∧ bytesAt 232 16 (restoreHead ++ restoreTag) = restoreTag
    ∧ u64 (restoreHead ++ restoreTag) 16 = leNat (leBytes 8 (Config.bootId 0)) ∧ u64 (restoreHead ++ restoreTag) 8 = 1
    ∧ u16 (restoreHead ++ restoreTag) 6 = 0 := by
  have h : restoreHead.length = 232 := by simp only [restoreHead, List.length_append, List.length_replicate, leBytes, List.length_cons, List.length_nil]
  have g : restoreTag.length = 16 := Laws.gcmTag_length _ _ _ _
  exact ⟨h ▸ bytesAt_front _ _, h ▸ g ▸ bytesAt_back _ _, rfl, rfl, rfl⟩
theorem restore_ok {s : State} {j : Job} (b : s.cph.boots = 0) (v : s.cph.saved = [⟨1, j, [], false⟩]) (i : j.id = 0) :
    contextFor (restoreHead ++ restoreTag) s = some ⟨1, j, [], false⟩ := by
  obtain ⟨h1, h2, h3, h4, h5⟩ := restore_cut
  unfold contextFor
  rw [h1, h2, h3, h4, h5, u64_boot, b, v, if_neg (fun h => h rfl)]
  simp [i]

/-- KINDLING in a phase, with the image it waits for fetched. -/
def boot (n : Nat) : State := { live .kindling with dev := { (live .kindling).dev with phase := n, fetched := true } }
/-- An image of a TYPE with a right header: ECDSA, SIGNER 0, a body of 4 bytes, SVN 0 (R40). -/
def goodImage (type : Nat) : ImageIn :=
  ⟨leBytes 4 0x50584946 ++ leBytes 1 type ++ leBytes 1 2 ++ leBytes 2 0 ++ leBytes 4 4 ++ leBytes 4 0 ++ leBytes 48 0
    ++ leBytes 4 96 ++ leBytes 188 0, true, true, 0⟩
def rxEp : Epoch := ⟨none, 0, [], 0, 0, 5, 6, 1, 0xFFFFFFFF, false⟩
def rxTrib : CphTrib := { CphTrib.reset with rxCur := some rxEp }
def goodGroup : RxGroup := 
  ⟨true, true, false, 1, 1, [], gcmTag 5 (groupIv 6 1) (groupAad 0 (cobHeader true false 1 1)) (groupText []), [], [], 0, 0, []⟩
theorem group_passes : groupFailure 0 goodGroup rxTrib = none := by
  have e : rxEpoch false rxTrib = some (rxEp, false) := rfl
  have u : usedHeader goodGroup rxTrib = (true, (false, (1, 1))) := rfl
  simp only [groupFailure, u, e]
  rw [if_neg (by decide), if_neg (by decide), if_neg (by decide), if_neg (by decide), if_neg (by decide), if_neg (by decide),
    if_neg (fun h => h rfl), if_neg (by decide)]
/-- A ready packet manager: client port 256 forwards to tributary port 0 by subscriber 5 of service 3. -/
def routed : State := modPort 256 (fun x => { x with ingressUp := true }) (modPort 0 (fun x => { x with egressUp := true })
  (modCif 0 (fun c => { c with typ := 1, lanes := 1 }) { live .service with
    map := { (live .service).map with plan := [(0, ⟨4, 0, 255, 0, 3, true, false, false, false, 20, 0, 0xFFFFF⟩)] }
    pkt := { (live .service).pkt with ready := true, rules := [((256, (0, (0, 0))), 5)]
                                      entities := [(5, ⟨3, true, 1, 1000, 1000000, 1000, 1000, 0, 0⟩), (65539, ⟨0, true, 1, 1000, 1000000, 1000, 1000, 0, 0⟩)] } }))
/-- A running peer link with a protected tributary that the peer device carries. -/
def peered : State := { live .service with
  plk := { (live .service).plk with powered := true, en := true, xferEn := true, peerXfer := true, state := .up, txStripe := 0xFFFF }
  map := { (live .service).map with plan := [(0, ⟨1, 0, 0, 0, 3, false, false, true, true, 20, 0, 0xFFFFF⟩)], groups := [(0, ApsGroup.new 0 true)] } }

/-- The hypotheses of each clause of `Device_events_take_their_effect` are met together. -/
theorem witness_Device_events :
    (∃ (avsSel : Bool) (s : State), s.pins.pwrOk = false) ∧
    (∃ (s : State), s.pins.vddAon = true) ∧
    (∃ (s : State), s.pins.resetN = true) ∧
    (∃ (s : State), s.pins.pwrOk = true) ∧
    (∃ (bootSel : Bool) (mgmtAddr : BitVec 2) (suppliesOk : Bool) (s : State), (s.pins.vddAon = true ∧ s.pins.resetN = false)) ∧
    (∃ (s : State), (inPhase 1 s = true ∧ s.dev.suppliesOk = false)) ∧
    (∃ (ok : Bool) (s : State), (inPhase 1 s = true ∧ s.dev.suppliesOk = true) ∧ ok = true) ∧
    (∃ (ok : Bool) (s : State), (inPhase 1 s = true ∧ s.dev.suppliesOk = true) ∧ ok = false) ∧
    (∃ (ok : Bool) (s : State), inPhase 2 s = true ∧ ok = true) ∧
    (∃ (ok : Bool) (s : State), inPhase 2 s = true ∧ ok = false) ∧
    (∃ (image : ImageIn) (s : State), (inPhase 3 s = true ∧ s.dev.fetched = true) ∧ tcAccepted image s = true) ∧
    (∃ (image : ImageIn) (s : State), (inPhase 3 s = true ∧ s.dev.fetched = true) ∧ tcAccepted image s = false ∧
      (s.pins.bootHost = false ∧ s.dev.tryingB = false)) ∧
    (∃ (image : ImageIn) (s : State), (inPhase 3 s = true ∧ s.dev.fetched = true) ∧ tcAccepted image s = false ∧
      (s.pins.bootHost = false → s.dev.tryingB = true)) ∧
    (∃ (s : State), inPhase 4 s = true) ∧
    (∃ (image : ImageIn) (s : State), (inPhase 5 s = true ∧ s.dev.fetched = true) ∧ s.dev.appReset.isSome = true ∧
      ((s.dev.kindledAc.map (fun m => m.bodyHash)) = some (hdrBodyHash image.header) ∧ image.bodyOk = true)) ∧
    (∃ (image : ImageIn) (s : State), (inPhase 5 s = true ∧ s.dev.fetched = true) ∧ s.dev.appReset.isSome = true ∧
      ((s.dev.kindledAc.map (fun m => m.bodyHash)) = some (hdrBodyHash image.header) → image.bodyOk = false)) ∧
    (∃ (image : ImageIn) (s : State), (inPhase 5 s = true ∧ s.dev.fetched = true) ∧ s.dev.appReset.isSome = false ∧
      acAccepted image s = true) ∧
    (∃ (image : ImageIn) (s : State), (inPhase 5 s = true ∧ s.dev.fetched = true) ∧ s.dev.appReset.isSome = false ∧
      acAccepted image s = false) ∧
    (∃ (s : State), (inPhase 6 s = true ∧ s.dev.appReset.isNone = true)) ∧
    (∃ (s : State), ∃ c, s.dev.changing = some c) ∧
    (∃ (s : State), (s.dev.mode = .quiesce ∧ tilesInUse s.pkt = [])) ∧
    (∃ (s : State), s.dev.mode = .quiesce) ∧
    (∃ (ac : Fin 4) (s : State), s.dev.acHeld = false ∧ resetAllowed s.dev.mode = true) ∧
    (∃ (ac : Fin 4) (s : State), s.dev.acHeld = false ∧ resetAllowed s.dev.mode = false) ∧
    (∃ (s : State), s.pins.resetN = true) ∧
    (∃ (imageOk : Bool) (s : State), (inPhase 6 s = true ∧ s.dev.appReset.isSome = true) ∧ imageOk = true) ∧
    (∃ (imageOk : Bool) (s : State), (inPhase 6 s = true ∧ s.dev.appReset.isSome = true) ∧ imageOk = false) ∧
    (∃ (s : State), (s.dev.resumeDue = true ∧ s.dev.mode = .standby ∧ s.dev.changing.isSome = false) ∧
      let s1 := modDev (fun d => { d with resumeDue := false }) s;
      ∃ d, s1.atTrip.saved = some d) ∧
    (∃ (s : State), (s.dev.resumeDue = true ∧ s.dev.mode = .standby ∧ s.dev.changing.isSome = false) ∧
      let s1 := modDev (fun d => { d with resumeDue := false }) s;
      s1.atTrip.saved = none) ∧
    (∃ (image : ImageIn) (s : State), ∃ x, s.dev.imageLoad = some x ∧
      let st := loadStatus image x.target s;
      st ≠ .ok) ∧
    (∃ (image : ImageIn) (s : State), ∃ x, s.dev.imageLoad = some x ∧
      let st := loadStatus image x.target s;
      st = .ok ∧
      let s1 := if x.commitSvn then commitSvn image s else s;
      let s2 := logRecord 0x0006 0 (leBytes 1 x.target ++ leBytes 1 (hdrType image.header) ++ leBytes 4 (hdrSvn image.header) ++ digestBytes (hdrBodyHash image.header)) s1;
      let s3 := if hdrType image.header = 2 then extendChain (digestBytes (hdrBodyHash image.header)) s2 else s2;
      x.target = 0) ∧
    (∃ (image : ImageIn) (s : State), ∃ x, s.dev.imageLoad = some x ∧
      let st := loadStatus image x.target s;
      st = .ok ∧
      let s1 := if x.commitSvn then commitSvn image s else s;
      let s2 := logRecord 0x0006 0 (leBytes 1 x.target ++ leBytes 1 (hdrType image.header) ++ leBytes 4 (hdrSvn image.header) ++ digestBytes (hdrBodyHash image.header)) s1;
      let s3 := if hdrType image.header = 2 then extendChain (digestBytes (hdrBodyHash image.header)) s2 else s2;
      x.target ≠ 0) ∧
    (∃ (s : State), inPhase 1 s = true) :=
  ⟨⟨true, State.reset, (by decide +kernel)⟩,
    ⟨(live .kindling), (by decide +kernel)⟩,
    ⟨(live .standby), (by decide +kernel)⟩,
    ⟨(live .standby), (by decide +kernel)⟩,
    ⟨false, 0, false, State.reset, (by decide +kernel)⟩,
    ⟨(modDev (fun d => { d with suppliesOk := false }) (boot 1)), (by decide +kernel)⟩,
    ⟨true, (boot 1), (by decide +kernel), (by decide +kernel)⟩,
    ⟨false, (boot 1), (by decide +kernel), (by decide +kernel)⟩,
    ⟨true, (boot 2), (by decide +kernel), (by decide +kernel)⟩,
    ⟨false, (boot 2), (by decide +kernel), (by decide +kernel)⟩,
    ⟨goodImage 1, (boot 3), (by decide +kernel), (by decide +kernel)⟩,
    ⟨⟨[], true, true, 0⟩, (boot 3), (by decide +kernel), (by decide +kernel), (by decide +kernel)⟩,
    ⟨⟨[], true, true, 0⟩, (modDev (fun d => { d with tryingB := true }) (boot 3)), (by decide +kernel),
      (by decide +kernel), (by decide +kernel)⟩,
    ⟨(boot 4), (by decide +kernel)⟩,
    ⟨goodImage 2,
      (modDev (fun d => { d with appReset := some ⟨0, false, false⟩, kindledAc := some ⟨0, 0, 0, 356, 0⟩ }) (boot 5)),
      (by decide +kernel), (by decide +kernel), (by decide +kernel)⟩,
    ⟨goodImage 2, (modDev (fun d => { d with appReset := some ⟨0, false, false⟩ }) (boot 5)),
      (by decide +kernel), (by decide +kernel), (by decide +kernel)⟩,
    ⟨goodImage 2, (boot 5), (by decide +kernel), (by decide +kernel), (by decide +kernel)⟩,
    ⟨⟨[], true, true, 0⟩, (boot 5), (by decide +kernel), (by decide +kernel), (by decide +kernel)⟩,
    ⟨(live .kindling), (by decide +kernel)⟩,
    ⟨(modDev (fun d => { d with changing := some ⟨.quiesce, 0⟩ }) (live .service)), _, rfl⟩,
    ⟨(live .quiesce), (by decide +kernel)⟩,
    ⟨(live .quiesce), (by decide +kernel)⟩,
    ⟨1, (modDev (fun d => { d with acHeld := false }) (live .service)), (by decide +kernel)⟩,
    ⟨1, (modDev (fun d => { d with acHeld := false }) (live .ember)), (by decide +kernel)⟩,
    ⟨(live .standby), (by decide +kernel)⟩,
    ⟨true, (modDev (fun d => { d with appReset := some ⟨0, false, false⟩ }) (boot 6)), (by decide +kernel), (by decide +kernel)⟩,
    ⟨false, (modDev (fun d => { d with appReset := some ⟨0, false, false⟩ }) (boot 6)), (by decide +kernel),
      (by decide +kernel)⟩,
    ⟨{ modDev (fun d => { d with resumeDue := true }) (live .standby) with atTrip := ⟨some ⟨Cnv.reset, Dsp.reset, Fec.reset, Frm.reset, Map.reset, Cph.reset, Pkt.reset, Cln.reset, Plk.reset, Mon.reset⟩⟩ },
      (by decide +kernel), _, rfl⟩,
    ⟨(modDev (fun d => { d with resumeDue := true }) (live .standby)), (by decide +kernel), (by decide +kernel)⟩,
    ⟨⟨[], true, true, 0⟩, (modDev (fun d => { d with imageLoad := some ⟨1, true⟩ }) (live .service)), _, rfl,
      (by decide +kernel)⟩,
    ⟨goodImage 2, (modDev (fun d => { d with imageLoad := some ⟨0, true⟩ }) (live .service)), _, rfl,
      (by decide +kernel), (by decide +kernel)⟩,
    ⟨goodImage 2, (modDev (fun d => { d with imageLoad := some ⟨1, true⟩ }) (live .service)), _, rfl,
      (by decide +kernel), (by decide +kernel)⟩,
    ⟨(boot 1), (by decide +kernel)⟩⟩

/-- The hypotheses of each clause of `Device_commands_take_their_effect` are met together. -/
theorem witness_Device_commands :
    (∃ (p : Packet) (s₀ s : State), Granted (modCmd 0x0001 4) p s₀ s ∧ ∃ m, modeOf (u8 p.params 0) = some m ∧
      leNat (bytesAt 1 1 p.params) = 0 ∧ u16 p.params 2 ≤ 60000 ∧ s.dev.changing.isSome = false ∧
      commanded s.dev.mode m = true ∧ immediate s.dev.mode m = true) ∧
    (∃ (p : Packet) (s₀ s : State), Granted (modCmd 0x0001 4) p s₀ s ∧ ∃ m, modeOf (u8 p.params 0) = some m ∧
      leNat (bytesAt 1 1 p.params) = 0 ∧ u16 p.params 2 ≤ 60000 ∧ s.dev.changing.isSome = false ∧
      commanded s.dev.mode m = true ∧ immediate s.dev.mode m = false ∧ s.hif.deferred.length < 64) ∧
    (∃ (p : Packet) (s₀ s : State), Granted (modCmd 0x0002 0) p s₀ s ∧ resetAllowed s.dev.mode = true ∧
      s.hif.deferred.length < 64) ∧
    (∃ (p : Packet) (s₀ s : State), Granted (modCmd 0x0003 4) p s₀ s ∧
      let e := u8 p.params 0;
      e ≤ 1 ∧ leNat (bytesAt 1 3 p.params) = 0 ∧ (modePowered s.dev.mode = true ∨ s.dev.mode = .calibrate) ∧
      vecGet false s.dev.engineReset e = false ∧ s.hif.deferred.length < 64) ∧
    (∃ (p : Packet) (s₀ s : State), Granted (modCmd 0x0003 4) p s₀ s ∧
      let e := u8 p.params 0;
      e ≤ 1 ∧ leNat (bytesAt 1 3 p.params) = 0 ∧ (modePowered s.dev.mode = false ∧ s.dev.mode ≠ .calibrate)) ∧
    (∃ (p : Packet) (s₀ s : State), Granted (modCmd 0x0004 0) p s₀ s ∧
      (s.thm.latched = true ∧ s.thm.coolMet = true ∧ s.dev.mode = .ember)) ∧
    (∃ (p : Packet) (s₀ s : State), Granted (modCmd 0x0005 16) p s₀ s ∧
      let target := u8 p.params 12;
      u32 p.params 8 ≠ 0 ∧ target ≤ 2 ∧ u8 p.params 13 ≤ 1 ∧ leNat (bytesAt 14 2 p.params) = 0 ∧
      (s.dev.imageLoad.isSome = false ∧ hasDeferred 0x0001 0 s = false) ∧ (target ≠ 0 → s.thm.flashOk = true) ∧
      s.hif.deferred.length < 64) ∧
    (∃ (p : Packet) (s₀ s : State),
      Granted { modCmd 0x0006 0 with lenOk := fun b => decide (b.length = 116) || decide (b.length = 212) || decide (b.length = 2788) } p s₀ s ∧
      let op := u8 p.params 0;
      let slot := u8 p.params 1;
      let alg := u8 p.params 4;
      let auth := u8 p.params 112;
      let first := decide (op = 1) && decide (auth = 255);
      let none0 := s.dev.opKeys.toList.all (fun k => k.isNone);
      (op = 1 ∨ op = 2) ∧ slot ≤ 3 ∧ leNat (bytesAt 2 2 p.params) = 0 ∧ (op = 1 → alg ≠ 1 → alg = 2) ∧
      leNat (bytesAt 5 3 p.params) = 0 ∧ (op = 1 → alg = 2 → u8 p.params 8 = 4) ∧
      (op = 1 → alg = 1 → leNat (bytesAt 64 41 p.params) = 0) ∧ leNat (bytesAt 105 7 p.params) = 0 ∧ (3 < auth → auth = 255) ∧
      leNat (bytesAt 113 3 p.params) = 0 ∧ authLenOk p.params auth s = true ∧
      (first = true → none0 = true ∧ s.dev.mode = .standby) ∧ (first = false → authorised p.params auth s = true) ∧
      let keys := vecMod s.dev.opKeys slot (fun _ => if op = 1 then some ⟨BitVec.ofNat 8 alg, bytesAt 8 97 p.params⟩ else none);
      keys ≠ s.dev.opKeys) ∧
    (∃ (p : Packet) (s₀ s : State), Granted (readCmd 0x0007 32) p s₀ s) ∧
    (∃ (p : Packet) (s₀ s : State), Granted (readCmd 0x0008 4) p s₀ s ∧
      let off := u16 p.params 0;
      let n := u16 p.params 2;
      let cert := Config.attestCert;
      (n ≠ 0 ∧ n ≤ (if fromBmc p then 222 else 4062)) ∧ off ≤ cert.length) ∧
    (∃ (p : Packet) (s₀ s : State), Granted (readCmd 0x0009 0) p s₀ s ∧ s.dev.mode = .lockout) :=
  ⟨⟨pk 0x0001 [4, 0, 0, 0], (live .service), _, granted rfl (by decide +kernel), .maintenance, rfl, (by decide +kernel),
      (by decide +kernel), (by decide +kernel), (by decide +kernel), (by decide +kernel)⟩,
    ⟨pk 0x0001 [5, 0, 0, 0], (live .service), _, granted rfl (by decide +kernel), .quiesce, rfl, (by decide +kernel),
      (by decide +kernel), (by decide +kernel), (by decide +kernel), (by decide +kernel), (by decide +kernel)⟩,
    ⟨pk 0x0002 [], (live .standby), _, granted rfl (by decide +kernel), (by decide +kernel), (by decide +kernel)⟩,
    ⟨pk 0x0003 (List.replicate 4 0), (live .service), _, granted rfl (by decide +kernel), (by decide +kernel),
      (by decide +kernel), (by decide +kernel), (by decide +kernel), (by decide +kernel)⟩,
    ⟨pk 0x0003 (List.replicate 4 0), (live .standby), _, granted rfl (by decide +kernel), (by decide +kernel),
      (by decide +kernel), (by decide +kernel)⟩,
    ⟨pk 0x0004 [], { live .ember with thm := { (live .ember).thm with latched := true, coolMet := true } }, _,
      granted rfl (by decide +kernel), (by decide +kernel)⟩,
    ⟨pk 0x0005 [0, 0, 0, 0, 0, 0, 0, 0, 1, 0, 0, 0, 1, 0, 0, 0], (live .service), _, granted rfl (by decide +kernel),
      (by decide +kernel), (by decide +kernel), (by decide +kernel), (by decide +kernel), (by decide +kernel),
      (by decide +kernel), (by decide +kernel)⟩,
    ⟨pk 0x0006 [1, 0, 0, 0, 1, 0, 0, 0, 7, 0, 0, 0, 0, 0, 0, 0, 0, 0, 0, 0, 0, 0, 0, 0, 0, 0, 0, 0, 0, 0, 0, 0, 0, 0, 0, 0, 0, 0, 0, 0, 0, 0, 0, 0, 0, 0, 0, 0, 0, 0, 0, 0, 0, 0, 0, 0, 0, 0, 0, 0, 0, 0, 0, 0, 0, 0, 0, 0, 0, 0, 0, 0, 0, 0, 0, 0, 0, 0, 0, 0, 0, 0, 0, 0, 0, 0, 0, 0, 0, 0, 0, 0, 0, 0, 0, 0, 0, 0, 0, 0, 0, 0, 0, 0, 0, 0, 0, 0, 0, 0, 0, 0, 255, 0, 0, 0],
      (live .standby), _, granted rfl (by decide +kernel), (by decide +kernel), (by decide +kernel), (by decide +kernel),
      (by decide +kernel), (by decide +kernel), (by decide +kernel), (by decide +kernel), (by decide +kernel),
      (by decide +kernel), (by decide +kernel), (by decide +kernel), (by decide +kernel), (by decide +kernel),
      (by decide +kernel)⟩,
    ⟨pk 0x0007 (List.replicate 32 0), (live .standby), _, granted rfl (by decide +kernel)⟩,
    ⟨pk 0x0008 [0, 0, 4, 0], (live .service), _, granted rfl (by decide +kernel), (by decide +kernel), (Nat.zero_le _)⟩,
    ⟨pk 0x0009 [], (live .lockout), _, granted rfl (by decide +kernel), (by decide +kernel)⟩⟩

/-- The hypotheses of each clause of `Register_accesses_take_their_effect` are met together. -/
theorem witness_Register_accesses :
    (∃ (src : Writer) (addr width : Nat) (value : Word) (s : State), s.clocked = false) ∧
    (∃ (src : Writer) (addr width : Nat) (value : Word) (s : State), s.clocked = true ∧ (width ≠ 4 ∨ addr % 4 ≠ 0)) ∧
    (∃ (src : Writer) (addr width : Nat) (value : Word) (s : State), s.clocked = true ∧ (width = 4 ∧ addr % 4 = 0) ∧
      0x400000 ≤ addr) ∧
    (∃ (src : Writer) (addr width : Nat) (value : Word) (s : State), s.clocked = true ∧ (width = 4 ∧ addr % 4 = 0) ∧
      addr < 0x400000) ∧
    (∃ (counter : Option (Fin 12)) (s : State), counter = none) ∧
    (∃ (counter : Option (Fin 12)) (s : State), ∃ k, counter = some k) :=
  ⟨⟨.host, 0x10008, 4, 1, dark, witness_dark⟩,
    ⟨.host, 0, 0, 1, (live .kindling), (by decide +kernel), (by decide +kernel)⟩,
    ⟨.host, 0x400000, 4, 1, (live .service), (by decide +kernel), (by decide +kernel), (by decide +kernel)⟩,
    ⟨.host, 0x10008, 4, 1, (live .service), (by decide +kernel), (by decide +kernel), (by decide +kernel)⟩,
    ⟨none, (live .maintenance), (by decide +kernel)⟩,
    ⟨(some 0), State.reset, _, rfl⟩⟩

/-- The hypotheses of each clause of `Host_interface_events_take_their_effect` are met together. -/
theorem witness_Host_interface_events :
    (∃ (gen width : Nat) (s : State),
      (linkPossible gen width = true ∧ (gen = 0 ∨ (s.pins.resetN = true ∧ s.hif.perstLow = false)))) ∧
    (∃ (s : State), (s.hif.linkGen ≠ 0 ∧ s.hif.perstLow = false) ∧ resetAllowed s.dev.mode = false) ∧
    (∃ (s : State), (s.hif.linkGen ≠ 0 ∧ s.hif.perstLow = false) ∧ resetAllowed s.dev.mode = true) ∧
    (∃ (s : State), s.hif.linkGen ≠ 0) ∧
    (∃ (s : State), s.hif.d3hot = true) ∧
    (∃ (s : State), s.hif.perstLow = false) ∧
    (∃ (queue : Fin 16) (value : Word) (ringError : Bool) (s : State),
      let q := s.queue queue.val;
      q.sqSize ≤ value.toNat) ∧
    (∃ (queue : Fin 16) (value : Word) (ringError : Bool) (s : State),
      let q := s.queue queue.val;
      value.toNat < q.sqSize) ∧
    (∃ (queue : Fin 16) (value : Word) (s : State),
      let q := s.queue queue.val;
      q.cqSize ≤ value.toNat) ∧
    (∃ (queue : Fin 16) (value : Word) (s : State),
      let q := s.queue queue.val;
      value.toNat < q.cqSize) ∧
    (∃ (value : Word) (s : State),
      let r := s.hif.events;
      (r.enabled = false ∨ r.size ≤ value.toNat)) ∧
    (∃ (value : Word) (s : State),
      let r := s.hif.events;
      (r.enabled = true ∧ value.toNat < r.size)) ∧
    (∃ (queue : Fin 16) (s : State),
      let q := s.queue queue.val;
      fetches queue.val s = true ∧ q.waiting ≠ []) ∧
    (∃ (queue : Fin 16) (s : State),
      let q := s.queue queue.val;
      fetches queue.val s = true ∧ q.waiting = []) ∧
    (∃ (opcode : Half) (p : Packet) (s : State),
      let op := opcode.toNat;
      (opcodeDefined op = false ∧ startable p s = true) ∧ isRetry p s = true) ∧
    (∃ (opcode : Half) (p : Packet) (s : State),
      let op := opcode.toNat;
      (opcodeDefined op = false ∧ startable p s = true) ∧ isRetry p s = false ∧ packetCrcOk op p = false) ∧
    (∃ (opcode : Half) (p : Packet) (s : State),
      let op := opcode.toNat;
      (opcodeDefined op = false ∧ startable p s = true) ∧ isRetry p s = false ∧ packetCrcOk op p = true ∧
      p.params.length > packetLimit p) ∧
    (∃ (opcode : Half) (p : Packet) (s : State),
      let op := opcode.toNat;
      (opcodeDefined op = false ∧ startable p s = true) ∧ isRetry p s = false ∧ packetCrcOk op p = true ∧
      p.params.length ≤ packetLimit p) ∧
    (∃ (id : Word) (s : State), ∃ l, s.hif.leases.find? (fun l => l.id = id) = some l) ∧
    (∃ (key : Nat) (result : TransferEnd) (done : Nat) (read : List Byte) (s : State), ∃ t,
      s.hif.transfers.find? (fun t => t.key = key) = some t ∧
      (s.hif.transfers.find? (fun u => u.master = t.master)).map (fun u => u.key) = some key ∧ ∃ a,
      transferAnswer t result done read = some a) :=
  ⟨⟨0, 0, (live .kindling), (by decide +kernel)⟩,
    ⟨(live .kindling), (by decide +kernel), (by decide +kernel)⟩,
    ⟨(live .standby), (by decide +kernel), (by decide +kernel)⟩,
    ⟨(live .standby), (by decide +kernel)⟩,
    ⟨(modHif (fun h => { h with d3hot := true }) (live .service)), (by decide +kernel)⟩,
    ⟨(live .kindling), (by decide +kernel)⟩,
    ⟨0, 1, true, State.reset, (by decide +kernel)⟩,
    ⟨0, 1, true, (live .kindling), (by decide +kernel)⟩,
    ⟨0, 0, State.reset, (by decide +kernel)⟩,
    ⟨0, 0, (live .standby), (by decide +kernel)⟩,
    ⟨0, State.reset, (by decide +kernel)⟩,
    ⟨3, (modHif (fun h => { h with events := { h.events with enabled := true, size := 16 } }) (live .service)),
      (by decide +kernel)⟩,
    ⟨0, (live .standby).setQueue 0 { (live .standby).queue 0 with sqHead := 1, sqTail := 3, waiting := [⟨none, 0, 0⟩] }, (by decide +kernel), (by decide +kernel)⟩,
    ⟨0, (live .standby), (by decide +kernel), (by decide +kernel)⟩,
    ⟨0xFFFF, (pkBmc 0xFFFF []),
      (modHif (fun h => { h with mgmt := { h.mgmt with last := some ((pkBmc 0xFFFF []).seq, (pkBmc 0xFFFF []).crc) } }) (live .service)),
      (by decide +kernel), (by decide +kernel)⟩,
    ⟨0, (pk 0xFFFF []), (live .standby), (by decide +kernel), (by decide +kernel), (by decide +kernel)⟩,
    ⟨0xFFFF, (pk 0xFFFF (List.replicate 4065 0)), (live .service), (by decide +kernel), (by decide +kernel), (pk_crc _ _ _),
      (by show 4064 < (List.replicate 4065 (0 : Byte)).length; rw [List.length_replicate]; omega)⟩,
    ⟨0xFFFF, (pk 0xFFFF []), (live .service), (by decide +kernel), (by decide +kernel), (pk_crc _ _ _), (by decide +kernel)⟩,
    ⟨9, { live .service with hif := { (live .service).hif with leases := [⟨9, 4, 5⟩] } }, _, rfl⟩,
    ⟨3, .complete, 0, [], { live .service with hif := { (live .service).hif with transfers := [⟨3, 2, 1, 0, []⟩] } }, _, rfl,
      rfl, _, rfl⟩⟩

/-- The hypotheses of each clause of `Host_interface_commands_take_their_effect` are met together. -/
theorem witness_Host_interface_commands :
    (∃ (p : Packet) (s₀ s : State), Granted (readCmd 0x0101 0) p s₀ s) ∧
    (∃ (p : Packet) (s₀ s : State), Granted { modCmd 0x0102 24 with bmcDenied := true } p s₀ s ∧
      let n := u8 p.params 0;
      let sq := u16 p.params 2;
      let cq := u16 p.params 4;
      let sqBase : Long := BitVec.ofNat 64 (u64 p.params 8);
      let cqBase : Long := BitVec.ofNat 64 (u64 p.params 16);
      (n ≠ 0 ∧ n ≤ 15) ∧ u8 p.params 1 ≤ 1 ∧ sq ≠ 0 ∧ ringPower 2 sq = true ∧ cq ≠ 0 ∧ (ringPower 2 cq = true ∧ sq ≤ cq) ∧
      leNat (bytesAt 6 2 p.params) = 0 ∧ aligned64 sqBase = true ∧ aligned64 cqBase = true ∧ (s.queue n).enabled = false) ∧
    (∃ (p : Packet) (s₀ s : State), Granted { modCmd 0x0103 4 with bmcDenied := true } p s₀ s ∧
      let n := u8 p.params 0;
      (n ≠ 0 ∧ n ≠ p.chan.val ∧ n ≤ 15) ∧ leNat (bytesAt 1 3 p.params) = 0 ∧ (s.queue n).enabled = true) ∧
    (∃ (p : Packet) (s₀ s : State), Granted { modCmd 0x0104 12 with bmcDenied := true } p s₀ s ∧
      let id : Word := BitVec.ofNat 32 (u32 p.params 0);
      let mask : Half := BitVec.ofNat 16 (u16 p.params 4);
      let dur := u32 p.params 8;
      (id ≠ 0 ∧ s.activeLeases.any (fun l => l.id = id) = false) ∧ mask ≠ 0 ∧ leNat (bytesAt 6 2 p.params) = 0 ∧
      (dur ≠ 0 ∧ dur ≤ 86400) ∧ s.leasedMask &&& mask = 0 ∧ s.activeLeases.length < 8) ∧
    (∃ (p : Packet) (s₀ s : State), Granted { modCmd 0x0105 4 with bmcDenied := true } p s₀ s ∧
      let id : Word := BitVec.ofNat 32 (u32 p.params 0);
      s.activeLeases.any (fun l => l.id = id) = true) ∧
    (∃ (p : Packet) (s₀ s : State), Granted (readCmd 0x0106 0) p s₀ s) ∧
    (∃ (p : Packet) (s₀ s : State), Granted { modCmd 0x0107 4 with bmcDenied := true } p s₀ s ∧ leNat (bytesAt 2 2 p.params) = 0) ∧
    (∃ (p : Packet) (s₀ s : State), Granted { modCmd 0x0108 0 with lenOk := transferLen } p s₀ s ∧
      (∀ chk ∈ [badParam 0 (1 < u8 p.params 0), badParam 1 (3 < u8 p.params 1), badParam 2 (3 < u8 p.params 2), badParam 3 (u8 p.params 3 = 0 ∨ 50 < u8 p.params 3)] ++ lengthChecks p 2048 ++ [failIf .noResource (masterFull (u8 p.params 0) s)], chk.bad = false)) ∧
    (∃ (p : Packet) (s₀ s : State), Granted { modCmd 0x0109 0 with lenOk := transferLen } p s₀ s ∧
      (∀ chk ∈ [badParam 0 (u8 p.params 0 ≠ 0), badParam 1 (127 < u8 p.params 1), badParam 2 (2 < u8 p.params 2), badParam 3 (u8 p.params 3 ≠ 0)] ++ lengthChecks p 256 ++ [failIf .noResource (masterFull 2 s)], chk.bad = false)) ∧
    (∃ (p : Packet) (s₀ s : State), Granted { readCmd 0x010A 4 with hostDenied := true } p s₀ s ∧
      let n := u8 p.params 0;
      let m := s.hif.mgmt;
      n ≠ 0 ∧ n ≤ 3 ∧ leNat (bytesAt 1 3 p.params) = 0) ∧
    (∃ (p : Packet) (s₀ s : State), Granted { readCmd 0x010B 0 with lenOk := fun _ => true } p s₀ s) :=
  ⟨⟨pk 0x0101 [], (live .standby), _, granted rfl (by decide +kernel)⟩,
    ⟨pk 0x0102 [1, 0, 2, 0, 2, 0, 0, 0, 0, 0, 0, 0, 0, 0, 0, 0, 0, 0, 0, 0, 0, 0, 0, 0], (live .service), _,
      granted rfl (by decide +kernel), (by decide +kernel), (by decide +kernel), (by decide +kernel), (by decide +kernel),
      (by decide +kernel), (by decide +kernel), (by decide +kernel), (by decide +kernel), (by decide +kernel),
      (by decide +kernel)⟩,
    ⟨pk 0x0103 [1, 0, 0, 0], ((live .service).setQueue 1 liveQueue), _, granted rfl (by decide +kernel), (by decide +kernel),
      (by decide +kernel), (by decide +kernel)⟩,
    ⟨pk 0x0104 [1, 0, 0, 0, 4, 0, 0, 0, 128, 81, 1, 0], (live .service), _, granted rfl (by decide +kernel),
      (by decide +kernel), (by decide +kernel), (by decide +kernel), (by decide +kernel), (by decide +kernel),
      (by decide +kernel)⟩,
    ⟨pk 0x0105 [9, 0, 0, 0], { live .service with hif := { (live .service).hif with leases := [⟨9, 4, 5⟩] } }, _,
      granted rfl (by decide +kernel), (by decide +kernel)⟩,
    ⟨pk 0x0106 [], (live .standby), _, granted rfl (by decide +kernel)⟩,
    ⟨pk 0x0107 (List.replicate 4 0), (live .standby), _, granted rfl (by decide +kernel), (by decide +kernel)⟩,
    ⟨pk 0x0108 [0, 0, 0, 50, 1, 0, 0, 0, 1], (live .service), _, granted rfl (by decide +kernel), (by decide +kernel)⟩,
    ⟨pk 0x0109 [0, 0, 0, 0, 1, 0, 0, 0, 1], (live .service), _, granted rfl (by decide +kernel), (by decide +kernel)⟩,
    ⟨pkBmc 0x010A [3, 0, 0, 0], (live .service), _, grantedBmc rfl rfl (by decide +kernel), (by decide +kernel),
      (by decide +kernel), (by decide +kernel)⟩,
    ⟨pk 0x010B [], (live .standby), _, granted rfl (by decide +kernel)⟩⟩

/-- The hypotheses of each clause of `Management_port_transactions_take_their_effect` are met together. -/
theorem witness_Management_port_transactions :
    (∃ (bytes : List Byte) (s : State), portAlive s = true ∧ s.hif.mgmt.state = 1) ∧
    (∃ (bytes : List Byte) (s : State), portAlive s = true ∧ s.hif.mgmt.state ≠ 1 ∧ 256 < bytes.length) ∧
    (∃ (bytes : List Byte) (s : State), portAlive s = true ∧ s.hif.mgmt.state ≠ 1 ∧ bytes.length ≤ 256 ∧ rawCrcOk bytes = true) ∧
    (∃ (bytes : List Byte) (s : State), portAlive s = true ∧ s.hif.mgmt.state ≠ 1 ∧ bytes.length ≤ 256 ∧ rawCrcOk bytes = false) ∧
    (∃ (s : State), portAlive s = true) ∧
    (∃ (s : State), portAlive s = true) ∧
    (∃ (s : State), s.pins.vddAon = true) ∧
    (∃ (selector : Byte) (s : State), (portAlive s = true ∧ (1 ≤ selector.toNat → 4 < selector.toNat))) :=
  ⟨⟨[], (modHif (fun h => { h with mgmt := { h.mgmt with state := 1 } }) (live .service)), (by decide +kernel),
      (by decide +kernel)⟩,
    ⟨(List.replicate 257 0), (live .service), (by decide +kernel), (by decide +kernel), (by decide +kernel)⟩,
    ⟨[10, 1, 0, 1, 0, 0, 4, 0, 0, 0, 0, 0, 0, 0, 0, 0, 170, 202, 6, 73, 0, 0, 0, 0, 0, 0, 0, 0, 0, 0, 0, 0, 3, 0, 0, 0],
      (live .service), (by decide +kernel), (by decide +kernel), (by decide +kernel), (by decide +kernel)⟩,
    ⟨([]), (live .kindling), (by decide +kernel), (by decide +kernel), (by decide +kernel), (by decide +kernel)⟩,
    ⟨(live .standby), (by decide +kernel)⟩,
    ⟨(live .standby), (by decide +kernel)⟩,
    ⟨(live .maintenance), (by decide +kernel)⟩,
    ⟨0, (live .standby), (by decide +kernel)⟩⟩

/-- The hypotheses of each clause of `Time_events_take_their_effect` are met together. -/
theorem witness_Time_events :
    (∃ (measure : SecondMeasure) (s : State), s.clocked = false) ∧
    (∃ (measure : SecondMeasure) (s : State), s.clocked = true) ∧
    (∃ (s : State), s.tim.source = .pps ∧
      let s1 := applyLabel s;
      let q := edgeOffset s1.tim.tod;
      let s2 := modTim (fun t => { t with ppsOffset := (q + 2) / 4, quiet := false }) s1;
      (s2.tim.servo = .locked ∧ 4000 < q.natAbs) ∧
      let n := s2.tim.outliers + 1;
      n < 4) ∧
    (∃ (s : State), s.tim.source = .pps ∧
      let s1 := applyLabel s;
      let q := edgeOffset s1.tim.tod;
      let s2 := modTim (fun t => { t with ppsOffset := (q + 2) / 4, quiet := false }) s1;
      (s2.tim.servo = .locked ∧ 4000 < q.natAbs) ∧
      let n := s2.tim.outliers + 1;
      4 ≤ n) ∧
    (∃ (s : State), s.tim.source = .pps ∧
      let s1 := applyLabel s;
      let q := edgeOffset s1.tim.tod;
      let s2 := modTim (fun t => { t with ppsOffset := (q + 2) / 4, quiet := false }) s1;
      (s2.tim.servo = .locked → q.natAbs ≤ 4000)) ∧
    (∃ (s : State), s.tim.source = .pps) ∧
    (∃ (s : State), s.tim.source = .ptp) ∧
    (∃ (s : State), s.tim.slew ≠ 0) ∧
    (∃ (ref : RefInput) (s : State), (s.clocked = true ∧ refPresent ref s.tim = true) ∧ ref = .lineRef0) ∧
    (∃ (ref : RefInput) (s : State), (s.clocked = true ∧ refPresent ref s.tim = true) ∧ ref = .lineRef1) ∧
    (∃ (ref : RefInput) (s : State), (s.clocked = true ∧ refPresent ref s.tim = true) ∧ ref = .clientRef) ∧
    (∃ (ref : RefInput) (s : State), (s.clocked = true ∧ refPresent ref s.tim = true) ∧ ref = .pcieRef) ∧
    (∃ (ref : RefInput) (s : State), (s.clocked = true ∧ refPresent ref s.tim = false) ∧ ref = .lineRef0) ∧
    (∃ (ref : RefInput) (s : State), (s.clocked = true ∧ refPresent ref s.tim = false) ∧ ref = .lineRef1) ∧
    (∃ (ref : RefInput) (s : State), (s.clocked = true ∧ refPresent ref s.tim = false) ∧ ref = .clientRef ∧
      let s1 := refEvent (modTim (fun t => { t with client := true }) s);
      s1.tim.servo ≠ .holdover) ∧
    (∃ (ref : RefInput) (s : State), (s.clocked = true ∧ refPresent ref s.tim = false) ∧ ref = .clientRef ∧
      let s1 := refEvent (modTim (fun t => { t with client := true }) s);
      s1.tim.servo = .holdover ∧ s1.tim.source = .host) ∧
    (∃ (ref : RefInput) (s : State), (s.clocked = true ∧ refPresent ref s.tim = false) ∧ ref = .clientRef ∧
      let s1 := refEvent (modTim (fun t => { t with client := true }) s);
      s1.tim.servo = .holdover ∧ s1.tim.source ≠ .host) ∧
    (∃ (ref : RefInput) (s : State), (s.clocked = true ∧ refPresent ref s.tim = false) ∧ ref = .pcieRef) ∧
    (∃ (output : Fin 2) (s : State),
      let x := vecGet ⟨0, false, 0, false⟩ s.tim.synce output.val;
      (x.en = true ∧ x.squelched = true ∧ (s.lane x.lane).cdr = true)) ∧
    (∃ (cif : Fin 32) (esmc : Bool) (transport : PtpTransport) (frame : List Byte) (s : State),
      let t := s.tim;
      (diverted cif.val esmc transport t = true ∧ (s.cif cif.val).up = true) ∧
      (240 < frame.length ∨ t.ring.size = 0 ∨ (t.ring.tail + 1) % t.ring.size = t.ring.head ∨ s.hif.dmaUp = false)) ∧
    (∃ (cif : Fin 32) (esmc : Bool) (transport : PtpTransport) (frame : List Byte) (s : State),
      let t := s.tim;
      (diverted cif.val esmc transport t = true ∧ (s.cif cif.val).up = true) ∧
      (frame.length ≤ 240 ∧ t.ring.size ≠ 0 ∧ (t.ring.tail + 1) % t.ring.size ≠ t.ring.head ∧ s.hif.dmaUp = true)) ∧
    (∃ (cif : Fin 32) (messageType domain : Byte) (sequenceId : Half) (s : State), ∃ f,
      s.tim.ptpSends.find? (fun f => f.cif = cif.val) = some f ∧ f.returnTs = false) ∧
    (∃ (cif : Fin 32) (messageType domain : Byte) (sequenceId : Half) (s : State), ∃ f,
      s.tim.ptpSends.find? (fun f => f.cif = cif.val) = some f ∧ f.returnTs = true) ∧
    (∃ (key : Nat) (s : State), ∃ x, s.tim.snapshots.find? (fun x => x.key = key) = some x) :=
  ⟨⟨⟨none, [], [], 0⟩, dark, witness_dark⟩,
    ⟨⟨none, [], [], 0⟩, (live .service), (by decide +kernel)⟩,
    ⟨(modTim (fun t => { t with source := .pps, servo := .locked, tod := 512000000000 * 5000, label := none }) (live .service)),
      (by decide +kernel), (by decide +kernel), (by decide +kernel)⟩,
    ⟨(modTim (fun t => { t with source := .pps, servo := .locked, tod := 512000000000 * 5000, label := none, outliers := 3 }) (live .service)),
      (by decide +kernel), (by decide +kernel), (by decide +kernel)⟩,
    ⟨(modTim (fun t => { t with source := .pps, servo := .acquiring, tod := 0, label := none }) (live .service)),
      (by decide +kernel), (by decide +kernel)⟩,
    ⟨(modTim (fun t => { t with source := .pps }) (live .service)), (by decide +kernel)⟩,
    ⟨(modTim (fun t => { t with source := .ptp }) (live .service)), (by decide +kernel)⟩,
    ⟨(modTim (fun t => { t with slew := -5 }) (live .service)), (by decide +kernel)⟩,
    ⟨.lineRef0, (live .standby), (by decide +kernel), (by decide +kernel)⟩,
    ⟨.lineRef1, (live .service), (by decide +kernel), (by decide +kernel)⟩,
    ⟨.clientRef, (live .standby), (by decide +kernel), (by decide +kernel)⟩,
    ⟨.pcieRef, (live .standby), (by decide +kernel), (by decide +kernel)⟩,
    ⟨.lineRef0, State.reset, (by decide +kernel), (by decide +kernel)⟩,
    ⟨.lineRef1, (modTim (fun t => { t with line1 := false }) (live .service)), (by decide +kernel), (by decide +kernel)⟩,
    ⟨.clientRef, State.reset, (by decide +kernel), (by decide +kernel), (by decide +kernel)⟩,
    ⟨.clientRef, (modTim (fun t => { t with client := false, servo := .holdover, source := .host }) (live .service)),
      (by decide +kernel), (by decide +kernel), (by decide +kernel), (by decide +kernel)⟩,
    ⟨.clientRef, (modTim (fun t => { t with client := false, servo := .holdover, source := .pps }) (live .service)),
      (by decide +kernel), (by decide +kernel), (by decide +kernel), (by decide +kernel)⟩,
    ⟨.pcieRef, State.reset, (by decide +kernel), (by decide +kernel)⟩,
    ⟨1,
      (modLane 31 (fun x => { x with cdr := true }) (modTim (fun t => { t with synce := t.synce.set 1 ⟨31, true, 0, true⟩ }) (live .service))),
      (by decide +kernel)⟩,
    ⟨0, false, .ethernet, (List.replicate 60 0),
      (modCif 0 (fun c => { c with up := true, typ := 1, lanes := 1 }) (modTim (fun t => { t with ptpCfg := t.ptpCfg.set 0 17, ring := ⟨0, 16, 0, 1⟩ }) (live .service))),
      (by decide +kernel), (by decide +kernel)⟩,
    ⟨0, false, .ethernet, (List.replicate 240 0),
      (modCif 0 (fun c => { c with up := true, typ := 1, lanes := 1 }) (modTim (fun t => { t with ptpCfg := t.ptpCfg.set 0 17, ring := ⟨0, 16, 0, 14⟩ }) (live .service))),
      (by decide +kernel), (by decide +kernel)⟩,
    ⟨3, 0, 0, 0, (modTim (fun t => { t with ptpSends := [⟨3, false, 0, 7, []⟩] }) (live .service)), _, rfl, (by decide +kernel)⟩,
    ⟨3, 0, 0, 0, (modTim (fun t => { t with ptpSends := [⟨3, true, 0, 7, []⟩] }) (live .service)), _, rfl, (by decide +kernel)⟩,
    ⟨5, (modTim (fun t => { t with snapshots := [⟨5, 8, 1, 0⟩] }) (live .service)), _, rfl⟩⟩

/-- The hypotheses of each clause of `Time_commands_take_their_effect` are met together. -/
theorem witness_Time_commands :
    (∃ (p : Packet) (s₀ s : State), Granted (readCmd 0x0201 0) p s₀ s) ∧
    (∃ (p : Packet) (s₀ s : State), Granted (modCmd 0x0202 12) p s₀ s ∧
      let ns := u32 p.params 8;
      leNat (bytesAt 6 2 p.params) = 0 ∧ (ns ≤ 999999999 ∧ (s.tim.source = .pps → ns = 0))) ∧
    (∃ (p : Packet) (s₀ s : State), Granted (modCmd 0x0203 12) p s₀ s ∧
      let off := s64 p.params 0;
      let mode := u8 p.params 8;
      ((mode = 1 → off.natAbs ≤ 1000000) ∧ inTime (movedTod off { s.tim with tod := s.todAtStamp }) = true) ∧ mode ≤ 1 ∧
      leNat (bytesAt 9 3 p.params) = 0 ∧ s.tim.source ≠ .pps) ∧
    (∃ (p : Packet) (s₀ s : State), Granted (modCmd 0x0204 4) p s₀ s ∧
      let f := s32 p.params 0;
      f.natAbs ≤ 512000000 ∧ s.tim.source ≠ .pps) ∧
    (∃ (p : Packet) (s₀ s : State), Granted (modCmd 0x0205 4) p s₀ s ∧
      let n := u8 p.params 0;
      let limit := u16 p.params 2;
      n ≤ 2 ∧ leNat (bytesAt 1 1 p.params) = 0 ∧ (n = 2 → limit ≠ 0) ∧ (n = 2 → limit ≤ 600)) ∧
    (∃ (p : Packet) (s₀ s : State), Granted (modCmd 0x0206 4) p s₀ s ∧
      let c := u8 p.params 0;
      let f := u8 p.params 1;
      c ≤ 31 ∧ (f ≤ 63 ∧ (bit f 1 = true → bit f 3 = true → bit f 2 = false → bit f 4 = true)) ∧
      leNat (bytesAt 2 2 p.params) = 0) ∧
    (∃ (p : Packet) (s₀ s : State), Granted (modCmd 0x0207 12) p s₀ s ∧
      let base : Long := BitVec.ofNat 64 (u64 p.params 0);
      let n := u16 p.params 8;
      aligned64 base = true ∧ n ≠ 0 ∧ ringPower 16 n = true ∧ leNat (bytesAt 10 2 p.params) = 0) ∧
    (∃ (p : Packet) (s₀ s : State),
      Granted { modCmd 0x0208 0 with lenOk := fun b => decide (4 ≤ b.length) && decide (b.length = 4 + u16 b 2) } p s₀ s ∧
      let c := u8 p.params 0;
      let n := u16 p.params 2;
      c ≤ 31 ∧ u8 p.params 1 ≤ 1 ∧ n ≠ 0 ∧ (60 ≤ n ∧ n ≤ 1514) ∧ ((s.cif c).up = true ∧ (ptpFlags c s.tim).getLsbD 0 = true)) ∧
    (∃ (p : Packet) (s₀ s : State), Granted (modCmd 0x0209 12) p s₀ s ∧
      let mask := u16 p.params 0;
      let sec := u48 p.params 2;
      let ns := u32 p.params 8;
      mask ≠ 0 ∧ mask &&& snapGroups = mask ∧ todAhead sec ns 1000 s = false ∧ ns ≤ 999999999 ∧ s.hif.deferred.length < 64) :=
  ⟨⟨pk 0x0201 [], (live .standby), _, granted rfl (by decide +kernel)⟩,
    ⟨pk 0x0202 (List.replicate 12 0), (live .standby), _, granted rfl (by decide +kernel), (by decide +kernel),
      (by decide +kernel)⟩,
    ⟨pk 0x0203 (List.replicate 12 0), (live .standby), _, granted rfl (by decide +kernel), (by decide +kernel),
      (by decide +kernel), (by decide +kernel), (by decide +kernel)⟩,
    ⟨pk 0x0204 (List.replicate 4 0), (live .standby), _, granted rfl (by decide +kernel), (by decide +kernel),
      (by decide +kernel)⟩,
    ⟨pk 0x0205 (List.replicate 4 0), (live .standby), _, granted rfl (by decide +kernel), (by decide +kernel),
      (by decide +kernel), (by decide +kernel), (by decide +kernel)⟩,
    ⟨pk 0x0206 (List.replicate 4 0), (live .standby), _, granted rfl (by decide +kernel), (by decide +kernel),
      (by decide +kernel), (by decide +kernel)⟩,
    ⟨pk 0x0207 [0, 0, 0, 0, 0, 0, 0, 0, 16, 0, 0, 0], (live .service), _, granted rfl (by decide +kernel), (by decide +kernel),
      (by decide +kernel), (by decide +kernel), (by decide +kernel)⟩,
    ⟨pk 0x0208 [0, 0, 60, 0, 0, 0, 0, 0, 0, 0, 0, 0, 0, 0, 0, 0, 0, 0, 0, 0, 0, 0, 0, 0, 0, 0, 0, 0, 0, 0, 0, 0, 0, 0, 0, 0, 0, 0, 0, 0, 0, 0, 0, 0, 0, 0, 0, 0, 0, 0, 0, 0, 0, 0, 0, 0, 0, 0, 0, 0, 0, 0, 0, 0],
      (modCif 0 (fun c => { c with up := true }) { live .service with tim := { (live .service).tim with ptpCfg := (live .service).tim.ptpCfg.set 0 1 } }),
      _, granted rfl (by decide +kernel), (by decide +kernel), (by decide +kernel), (by decide +kernel), (by decide +kernel),
      (by decide +kernel)⟩,
    ⟨pk 0x0209 [8, 0, 0, 0, 0, 0, 0, 0, 0, 0, 0, 0], (live .service), _, granted rfl (by decide +kernel), (by decide +kernel),
      (by decide +kernel), (by decide +kernel), (by decide +kernel), (by decide +kernel)⟩⟩

/-- The hypotheses of each clause of `Converter_events_take_their_effect` are met together. -/
theorem witness_Converter_events :
    (∃ (group : Fin 2) (s : State),
      let x := s.group group.val;
      (((x.state = .running ∧ x.cfg.bgEn = true) ∨ x.state = .refresh) ∧ x.adcs.toList.all (fun y => y.stepPos.isNone) = true)) ∧
    (∃ (group : Fin 2) (adc : Fin 4) (stats : PairStats) (s : State),
      let x := (s.group group.val).adc adc.val;
      stepIn x .matching = true ∧ pairAbandoned stats = true) ∧
    (∃ (group : Fin 2) (adc : Fin 4) (stats : PairStats) (s : State),
      let x := (s.group group.val).adc adc.val;
      stepIn x .matching = true ∧ pairAbandoned stats = false ∧ pairPasses stats = true) ∧
    (∃ (group : Fin 2) (adc : Fin 4) (stats : PairStats) (s : State),
      let x := (s.group group.val).adc adc.val;
      stepIn x .matching = true ∧ pairAbandoned stats = false ∧ pairPasses stats = false) ∧
    (∃ (group : Fin 2) (adc : Fin 4) (selfTest : Bool) (s : State),
      let x := (s.group group.val).adc adc.val;
      ∃ p, x.stepPos = some p ∧ x.phase = .trim ∧
      let z := x.slice p;
      let c := z.accepted.getD z.coef;
      (selfTest = true ∧ coefAbsolute c = true ∧ (z.firstStep = true ∨ coefChange z.coef c = true))) ∧
    (∃ (group : Fin 2) (adc : Fin 4) (selfTest : Bool) (s : State),
      let x := (s.group group.val).adc adc.val;
      ∃ p, x.stepPos = some p ∧ x.phase = .trim ∧
      let z := x.slice p;
      let c := z.accepted.getD z.coef;
      (selfTest = true → coefAbsolute c = true → z.firstStep = false ∧ coefChange z.coef c = false)) ∧
    (∃ (group : Fin 2) (adc : Fin 4) (stats : PairStats) (s : State),
      let x := (s.group group.val).adc adc.val;
      ∃ p, x.stepPos = some p ∧ x.phase = .verify ∧ pairAbandoned stats = true) ∧
    (∃ (group : Fin 2) (adc : Fin 4) (stats : PairStats) (s : State),
      let x := (s.group group.val).adc adc.val;
      ∃ p, x.stepPos = some p ∧ x.phase = .verify ∧ pairAbandoned stats = false ∧ pairPasses stats = true) ∧
    (∃ (group : Fin 2) (adc : Fin 4) (stats : PairStats) (s : State),
      let x := (s.group group.val).adc adc.val;
      ∃ p, x.stepPos = some p ∧ x.phase = .verify ∧ pairAbandoned stats = false ∧ pairPasses stats = false) ∧
    (∃ (group : Fin 2) (adc : Fin 4) (slice : Fin 65) (stats : WindowStats) (s : State),
      let x := (s.group group.val).adc adc.val;
      (s.group group.val).clockLocked = true ∧ inPath x slice.val = true ∧ (x.slice slice.val).leftPath = true) ∧
    (∃ (group : Fin 2) (adc : Fin 4) (slice : Fin 65) (stats : WindowStats) (s : State),
      let x := (s.group group.val).adc adc.val;
      (s.group group.val).clockLocked = true ∧ inPath x slice.val = true ∧ (x.slice slice.val).leftPath = false ∧
      4096 < stats.excluded) ∧
    (∃ (group : Fin 2) (adc : Fin 4) (slice : Fin 65) (stats : WindowStats) (s : State),
      let x := (s.group group.val).adc adc.val;
      let s0 := modAdc group.val adc.val (fun y => { modSlice slice.val (fun z => { z with leftPath := false }) y with overRange := satAdd 0xFFFFFFFF y.overRange stats.overRange }) s;
      (s.group group.val).clockLocked = true ∧ inPath x slice.val = true ∧ (x.slice slice.val).leftPath = false ∧
      stats.excluded ≤ 4096 ∧ stats.rms < 1024 ∧
      let s1 := modAdc group.val adc.val (fun y => { modSlice slice.val (fun z => { z with discards := z.discards + 1 }) y with discardNoSig := satAdd 0xFFFF y.discardNoSig 1 }) s0;
      let y := (s1.group group.val).adc adc.val;
      (16 ≤ (y.slice slice.val).discards ∧ y.noSignal = false)) ∧
    (∃ (group : Fin 2) (adc : Fin 4) (slice : Fin 65) (stats : WindowStats) (s : State),
      let x := (s.group group.val).adc adc.val;
      let s0 := modAdc group.val adc.val (fun y => { modSlice slice.val (fun z => { z with leftPath := false }) y with overRange := satAdd 0xFFFFFFFF y.overRange stats.overRange }) s;
      (s.group group.val).clockLocked = true ∧ inPath x slice.val = true ∧ (x.slice slice.val).leftPath = false ∧
      stats.excluded ≤ 4096 ∧ stats.rms < 1024 ∧
      let s1 := modAdc group.val adc.val (fun y => { modSlice slice.val (fun z => { z with discards := z.discards + 1 }) y with discardNoSig := satAdd 0xFFFF y.discardNoSig 1 }) s0;
      let y := (s1.group group.val).adc adc.val;
      (16 ≤ (y.slice slice.val).discards → y.noSignal = true)) ∧
    (∃ (group : Fin 2) (adc : Fin 4) (slice : Fin 65) (stats : WindowStats) (s : State),
      let x := (s.group group.val).adc adc.val;
      (s.group group.val).clockLocked = true ∧ inPath x slice.val = true ∧ (x.slice slice.val).leftPath = false ∧
      stats.excluded ≤ 4096 ∧ 1024 ≤ stats.rms) ∧
    (∃ (group : Fin 2) (s : State),
      let x := s.group group.val;
      (autoRefreshMode s = true ∧ x.cfg.refreshEn = true ∧ x.state = .running)) ∧
    (∃ (group : Fin 2) (s : State),
      let x := s.group group.val;
      ∃ r, x.refresh = some r) ∧
    (∃ (group : Fin 2) (adcs : List FgAdc) (dacs : List FgDac) (s : State), (s.group group.val).state = .foreground) ∧
    (∃ (group : Fin 2) (s : State), (s.group group.val).state = .seeding) ∧
    (∃ (group : Fin 2) (set : Fin 8) (converter : Fin 8) (s : State),
      (s.group group.val).saveDue.contains (set.val * 8 + converter.val) = true) :=
  ⟨⟨1, (modGroup 1 (fun x => { x with state := .running }) (live .service)), (by decide +kernel)⟩,
    ⟨1, 3, ⟨1025, 0, 0, 0⟩,
      (modGroup 1 (fun x => { x with state := .running, clockLocked := true, adcs := vecMod x.adcs 3 (fun y => { y with stepPos := some 64, phase := .matching }) }) (live .service)),
      (by decide +kernel), (by decide +kernel)⟩,
    ⟨1, 3, ⟨1024, 16, 0, 0⟩,
      (modGroup 1 (fun x => { x with state := .running, clockLocked := true, adcs := vecMod x.adcs 3 (fun y => { y with stepPos := some 64, phase := .matching }) }) (live .service)),
      (by decide +kernel), (by decide +kernel), (by decide +kernel)⟩,
    ⟨1, 3, ⟨0, 17, 0, 0⟩,
      (modGroup 1 (fun x => { x with state := .running, clockLocked := true, adcs := vecMod x.adcs 3 (fun y => { y with stepPos := some 64, phase := .matching }) }) (live .service)),
      (by decide +kernel), (by decide +kernel), (by decide +kernel)⟩,
    ⟨1, 3, true,
      (modGroup 1 (fun x => { x with state := .running, clockLocked := true, adcs := vecMod x.adcs 3 (fun y => { y with stepPos := some 0, phase := .trim }) }) (live .service)),
      _, rfl, (by decide +kernel), (by decide +kernel)⟩,
    ⟨1, 3, false,
      (modGroup 1 (fun x => { x with state := .running, clockLocked := true, adcs := vecMod x.adcs 3 (fun y => { y with stepPos := some 0, phase := .trim }) }) (live .service)),
      _, rfl, (by decide +kernel), (fun h => by cases h)⟩,
    ⟨1, 3, ⟨1025, 0, 0, 0⟩,
      (modGroup 1 (fun x => { x with state := .running, clockLocked := true, adcs := vecMod x.adcs 3 (fun y => { y with stepPos := some 64, phase := .verify }) }) (live .service)),
      _, rfl, (by decide +kernel), (by decide +kernel)⟩,
    ⟨1, 3, ⟨1024, 16, 0, 0⟩,
      (modGroup 1 (fun x => { x with state := .running, clockLocked := true, adcs := vecMod x.adcs 3 (fun y => { y with stepPos := some 64, phase := .verify }) }) (live .service)),
      _, rfl, (by decide +kernel), (by decide +kernel), (by decide +kernel)⟩,
    ⟨1, 3, ⟨0, 17, 0, 0⟩,
      (modGroup 1 (fun x => { x with state := .running, clockLocked := true, adcs := vecMod x.adcs 3 (fun y => { y with stepPos := some 64, phase := .verify }) }) (live .service)),
      _, rfl, (by decide +kernel), (by decide +kernel), (by decide +kernel)⟩,
    ⟨1, 3, 63, ⟨0, 0, 0, 1600, 100, 0, 0, 1⟩,
      (modGroup 1 (fun x => { x with state := .running, clockLocked := true, adcs := vecMod x.adcs 3 (fun y => { y with slices := vecMod y.slices 63 (fun z => { z with discards := 15, leftPath := true }), noSignal := false }) }) (live .service)),
      (by decide +kernel), (by decide +kernel), (by decide +kernel)⟩,
    ⟨1, 3, 63, ⟨4097, 0, 0, 1600, 100, 0, 0, 1⟩,
      (modGroup 1 (fun x => { x with state := .running, clockLocked := true, adcs := vecMod x.adcs 3 (fun y => { y with slices := vecMod y.slices 63 (fun z => { z with discards := 15, leftPath := false }), noSignal := false }) }) (live .service)),
      (by decide +kernel), (by decide +kernel), (by decide +kernel), (by decide +kernel)⟩,
    ⟨1, 3, 63, ⟨4096, 0, 0, 1023, 100, 0, 0, 1⟩,
      (modGroup 1 (fun x => { x with state := .running, clockLocked := true, adcs := vecMod x.adcs 3 (fun y => { y with slices := vecMod y.slices 63 (fun z => { z with discards := 15, leftPath := false }), noSignal := false }) }) (live .service)),
      (by decide +kernel), (by decide +kernel), (by decide +kernel), (by decide +kernel), (by decide +kernel), (by decide +kernel)⟩,
    ⟨1, 3, 63, ⟨4096, 0, 0, 1023, 100, 0, 0, 1⟩,
      (modGroup 1 (fun x => { x with state := .running, clockLocked := true, adcs := vecMod x.adcs 3 (fun y => { y with slices := vecMod y.slices 63 (fun z => { z with discards := 15, leftPath := false }), noSignal := true }) }) (live .service)),
      (by decide +kernel), (by decide +kernel), (by decide +kernel), (by decide +kernel), (by decide +kernel), (by decide +kernel)⟩,
    ⟨1, 3, 63, ⟨4096, 0, 0, 1024, 100, 0, 0, 1⟩,
      (modGroup 1 (fun x => { x with state := .running, clockLocked := true, adcs := vecMod x.adcs 3 (fun y => { y with slices := vecMod y.slices 63 (fun z => { z with discards := 15, leftPath := false }), noSignal := false }) }) (live .service)),
      (by decide +kernel), (by decide +kernel), (by decide +kernel), (by decide +kernel), (by decide +kernel)⟩,
    ⟨1, (modGroup 1 (fun x => { x with state := .running }) (live .service)), (by decide +kernel)⟩,
    ⟨1, (modGroup 1 (fun x => { x with refresh := some ⟨1, 0⟩ }) (live .service)), _, rfl⟩,
    ⟨1, [], [], (modGroup 1 (fun x => { x with state := .foreground }) (live .service)), (by decide +kernel)⟩,
    ⟨1, (modGroup 1 (fun x => { x with state := .seeding }) (live .service)), (by decide +kernel)⟩,
    ⟨1, 7, 7, (modGroup 1 (fun x => { x with saveDue := [63] }) (live .service)), (by decide +kernel)⟩⟩

/-- The hypotheses of each clause of `Converter_commands_take_their_effect` are met together. -/
theorem witness_Converter_commands :
    (∃ (p : Packet) (s₀ s : State), Granted (modCmd 0x0301 4) p s₀ s ∧
      let mask := u8 p.params 0;
      let named := (List.range 2).filter (fun g => bit mask g);
      s.dev.mode = .calibrate ∧ mask ≠ 0 ∧ mask < 4 ∧ leNat (bytesAt 1 3 p.params) = 0 ∧
      named.any (fun g => !s.lineRef g) = false ∧ named.any (fun g => (s.group g).state = .foreground) = false ∧
      s.hif.deferred.length < 64) ∧
    (∃ (p : Packet) (s₀ s : State), Granted (modCmd 0x0302 4) p s₀ s ∧
      let g := u8 p.params 0;
      autoRefreshMode s = true ∧ g ≤ 1 ∧ leNat (bytesAt 1 3 p.params) = 0 ∧ (s.group g).powered = true ∧
      (s.group g).refresh.isSome = false ∧ s.hif.deferred.length < 64) ∧
    (∃ (p : Packet) (s₀ s : State), Granted (modCmd 0x0303 8) p s₀ s ∧
      let g := u8 p.params 0;
      let cfg : CnvCfg := ⟨u8 p.params 1, u8 p.params 2, bit (u8 p.params 3) 0, bit (u8 p.params 3) 1, u16 p.params 4⟩;
      g ≤ 1 ∧ (cfg.deltaT ≠ 0 ∧ cfg.deltaT ≤ 15) ∧ (cfg.maxInterval ≠ 0 ∧ cfg.maxInterval ≤ 10) ∧ u8 p.params 3 < 4 ∧
      (cfg.period ≠ 0 ∧ cfg.period ≤ 100) ∧ leNat (bytesAt 6 2 p.params) = 0) ∧
    (∃ (p : Packet) (s₀ s : State), Granted (readCmd 0x0304 8) p s₀ s ∧
      let g := u8 p.params 0;
      let set := u8 p.params 1;
      let conv := u8 p.params 2;
      let first := u8 p.params 4;
      let count := u8 p.params 5;
      let size := if conv < 4 then 65 else 64;
      g ≤ 1 ∧ set ≤ 7 ∧ conv ≤ 7 ∧ leNat (bytesAt 3 1 p.params) = 0 ∧ count ≠ 0 ∧ (fromBmc p = true → count ≤ 52) ∧
      count ≤ size ∧ first + count ≤ size ∧ leNat (bytesAt 6 2 p.params) = 0) ∧
    (∃ (p : Packet) (s₀ s : State), Granted (modCmd 0x0305 4) p s₀ s ∧
      let g := u8 p.params 0;
      let mask := u8 p.params 1;
      autoRefreshMode s = false ∧ g ≤ 1 ∧ mask ≠ 0 ∧ leNat (bytesAt 2 2 p.params) = 0) ∧
    (∃ (p : Packet) (s₀ s : State), Granted (readCmd 0x0306 4) p s₀ s ∧
      let g := u8 p.params 0;
      let d := u8 p.params 1;
      let first := u8 p.params 2;
      let count := u8 p.params 3;
      g ≤ 1 ∧ d ≤ 3 ∧ first ≤ 63 ∧ count ≠ 0 ∧ (fromBmc p = true → count ≤ 52) ∧ first + count ≤ 64) ∧
    (∃ (p : Packet) (s₀ s : State), Granted { modCmd 0x0307 4 with maintenance := true } p s₀ s ∧
      let g := u8 p.params 0;
      g ≤ 1 ∧ u8 p.params 1 ≤ 1 ∧ leNat (bytesAt 2 2 p.params) = 0 ∧ (s.group g).powered = true) :=
  ⟨⟨pk 0x0301 [3, 0, 0, 0], (live .calibrate), _, granted rfl (by decide +kernel), (by decide +kernel), (by decide +kernel),
      (by decide +kernel), (by decide +kernel), (by decide +kernel), (by decide +kernel), (by decide +kernel)⟩,
    ⟨pk 0x0302 [0, 0, 0, 0], (modGroup 0 (fun x => { x with state := .running }) (live .service)), _,
      granted rfl (by decide +kernel), (by decide +kernel), (by decide +kernel), (by decide +kernel), (by decide +kernel),
      (by decide +kernel), (by decide +kernel)⟩,
    ⟨pk 0x0303 [0, 3, 10, 0, 10, 0, 0, 0], (live .service), _, granted rfl (by decide +kernel), (by decide +kernel),
      (by decide +kernel), (by decide +kernel), (by decide +kernel), (by decide +kernel), (by decide +kernel)⟩,
    ⟨pk 0x0304 [0, 0, 0, 0, 0, 1, 0, 0], (live .service), _, granted rfl (by decide +kernel), (by decide +kernel),
      (by decide +kernel), (by decide +kernel), (by decide +kernel), (by decide +kernel), (by decide +kernel),
      (by decide +kernel), (by decide +kernel), (by decide +kernel)⟩,
    ⟨pk 0x0305 [0, 4, 0, 0], (live .standby), _, granted rfl (by decide +kernel), (by decide +kernel), (by decide +kernel),
      (by decide +kernel), (by decide +kernel)⟩,
    ⟨pk 0x0306 [0, 0, 0, 1], (live .service), _, granted rfl (by decide +kernel), (by decide +kernel), (by decide +kernel),
      (by decide +kernel), (by decide +kernel), (by decide +kernel), (by decide +kernel)⟩,
    ⟨pk 0x0307 [0, 1, 0, 0], (modGroup 0 (fun x => { x with state := .running }) (live .maintenance)), _,
      granted rfl (by decide +kernel), (by decide +kernel), (by decide +kernel), (by decide +kernel), (by decide +kernel)⟩⟩

/-- The hypotheses of each clause of `Dsp_events_take_their_effect` are met together. -/
theorem witness_Dsp_events :
    (∃ (engine : Fin 2) (meas : DspMeasure) (s : State),
      let x := s.engine engine.val;
      x.state = .off) ∧
    (∃ (engine : Fin 2) (meas : DspMeasure) (s : State),
      let x := s.engine engine.val;
      x.state ≠ .off) ∧
    (∃ (engine : Fin 2) (s : State), (s.engine engine.val).state = .sync) ∧
    (∃ (engine : Fin 2) (found : Option Int) (s : State),
      let x := s.engine engine.val;
      (x.searching = true ∧ x.state = .cdAcq) ∧ ∃ v, found.filter (searchFinds x.cd) = some v) ∧
    (∃ (engine : Fin 2) (found : Option Int) (s : State),
      let x := s.engine engine.val;
      (x.searching = true ∧ x.state = .cdAcq) ∧ found.filter (searchFinds x.cd) = none) ∧
    (∃ (engine : Fin 2) (s : State),
      let x := s.engine engine.val;
      ∃ src, x.fastRequest = some src ∧
      let inChange := (x.change.map (fun c => c.started)).getD false;
      (x.eqForce.fsopEn = false ∨ x.state ≠ .locked ∨ inChange = true)) ∧
    (∃ (engine : Fin 2) (s : State),
      let x := s.engine engine.val;
      ∃ src, x.fastRequest = some src ∧
      let inChange := (x.change.map (fun c => c.started)).getD false;
      (x.eqForce.fsopEn = true ∧ x.state = .locked ∧ inChange = false) ∧ (x.fast.isSome = true ∧ x.fastExit = false)) ∧
    (∃ (engine : Fin 2) (s : State),
      let x := s.engine engine.val;
      ∃ src, x.fastRequest = some src ∧
      let inChange := (x.change.map (fun c => c.started)).getD false;
      (x.eqForce.fsopEn = true ∧ x.state = .locked ∧ inChange = false) ∧ (x.fast.isSome = true → x.fastExit = true)) ∧
    (∃ (engine : Fin 2) (boostLimited : BitVec 4) (s : State), (s.engine engine.val).recomputing = true) ∧
    (∃ (engine : Fin 2) (s : State), ∃ c, (s.engine engine.val).change = some c ∧ c.started = false) ∧
    (∃ (engine : Fin 2) (s : State), ∃ c, (s.engine engine.val).change = some c ∧ (c.started = true ∧ c.txDone = false)) ∧
    (∃ (engine : Fin 2) (s : State), ∃ c, (s.engine engine.val).change = some c ∧
      (c.started = true ∧ (s.engine engine.val).state ≠ .locked)) :=
  ⟨⟨1, ⟨0, 1500, 1500, 0, 0, 0, 0, 0, [0, 0, 0, 0], 0, 0, 0⟩, (live .service), (by decide +kernel)⟩,
    ⟨1, ⟨0, 1500, 1500, 0, 0, 0, 0, 0, [0, 0, 0, 0], 0, 0, 0⟩,
      (modEngine 1 (fun x => { x with state := .locked }) (live .service)), (by decide +kernel)⟩,
    ⟨1, (modEngine 1 (fun x => { x with state := .sync }) (live .service)), (by decide +kernel)⟩,
    ⟨1, (some (-60)), (modEngine 1 (fun x => { x with searching := true, state := .cdAcq, cd := ⟨true, 40, 100, 193100000⟩ }) (live .service)), (by decide +kernel), (-60), (by decide +kernel)⟩,
    ⟨1, (some (-70)), (modEngine 1 (fun x => { x with searching := true, state := .cdAcq, cd := ⟨true, 40, 100, 193100000⟩ }) (live .service)), (by decide +kernel), (by decide +kernel)⟩,
    ⟨1, (modEngine 1 (fun x => { x with fastRequest := some 0 }) (live .service)), _, rfl, (by decide +kernel)⟩,
    ⟨1,
      (modEngine 1 (fun x => { x with fastRequest := some 0, state := .locked, eqForce := { x.eqForce with fsopEn := true }, fast := some ⟨0, 0, 0⟩, fastExit := false }) (live .service)),
      _, rfl, (by decide +kernel), (by decide +kernel)⟩,
    ⟨1,
      (modEngine 1 (fun x => { x with fastRequest := some 0, state := .locked, eqForce := { x.eqForce with fsopEn := true } }) (live .service)),
      _, rfl, (by decide +kernel), (by decide +kernel)⟩,
    ⟨1, 5, (modEngine 1 (fun x => { x with recomputing := true }) (live .service)), (by decide +kernel)⟩,
    ⟨1, (modEngine 1 (fun x => { x with change := some ⟨⟨1, 0, 5⟩, 0, 0, false, 0, 0, false⟩ }) (live .service)), _, rfl,
      (by decide +kernel)⟩,
    ⟨1, (modEngine 1 (fun x => { x with change := some ⟨⟨1, 0, 5⟩, 0, 0, true, 0, 0, false⟩, state := .switching }) (live .service)), _, rfl, (by decide +kernel)⟩,
    ⟨1,
      (modEngine 1 (fun x => { x with change := some ⟨⟨1, 0, 5⟩, 0, 0, true, 0, 0, false⟩, state := .switching }) (live .service)),
      _, rfl, (by decide +kernel)⟩⟩

/-- The hypotheses of each clause of `Dsp_commands_take_their_effect` are met together. -/
theorem witness_Dsp_commands :
    (∃ (p : Packet) (s₀ s : State), Granted (modCmd 0x0401 16) p s₀ s ∧
      let e := u8 p.params 0;
      let sel : ProfileSel := ⟨u8 p.params 1, u8 p.params 2, u8 p.params 3⟩;
      let sec := u48 p.params 4;
      let ns := u32 p.params 12;
      let x := s.engine e;
      e ≤ 1 ∧ sel.profile ≤ 7 ∧ (sel.pilot ≤ 2 ∧ pilotAllowed sel.profile sel.pilot = true) ∧
      (sel.rolloff ≠ 0 ∧ sel.rolloff ≤ 20) ∧ todAhead sec ns 1000 s = false ∧ leNat (bytesAt 10 2 p.params) = 0 ∧
      ns ≤ 999999999 ∧ s.dev.mode = .standby ∧ planSlots e s ≤ profileSlots sel.profile ∧
      x.cdEst.natAbs ≤ cdRange sel.profile ∧ x.change.isSome = false) ∧
    (∃ (p : Packet) (s₀ s : State), Granted (modCmd 0x0401 16) p s₀ s ∧
      let e := u8 p.params 0;
      let sel : ProfileSel := ⟨u8 p.params 1, u8 p.params 2, u8 p.params 3⟩;
      let sec := u48 p.params 4;
      let ns := u32 p.params 12;
      let x := s.engine e;
      e ≤ 1 ∧ sel.profile ≤ 7 ∧ (sel.pilot ≤ 2 ∧ pilotAllowed sel.profile sel.pilot = true) ∧
      (sel.rolloff ≠ 0 ∧ sel.rolloff ≤ 20) ∧ todAhead sec ns 1000 s = false ∧ leNat (bytesAt 10 2 p.params) = 0 ∧
      ns ≤ 999999999 ∧ s.dev.mode ≠ .standby ∧ (sel = x.sel ∧ x.change.isNone = true)) ∧
    (∃ (p : Packet) (s₀ s : State), Granted (modCmd 0x0401 16) p s₀ s ∧
      let e := u8 p.params 0;
      let sel : ProfileSel := ⟨u8 p.params 1, u8 p.params 2, u8 p.params 3⟩;
      let sec := u48 p.params 4;
      let ns := u32 p.params 12;
      let x := s.engine e;
      e ≤ 1 ∧ sel.profile ≤ 7 ∧ (sel.pilot ≤ 2 ∧ pilotAllowed sel.profile sel.pilot = true) ∧
      (sel.rolloff ≠ 0 ∧ sel.rolloff ≤ 20) ∧ todAhead sec ns 1000 s = false ∧ leNat (bytesAt 10 2 p.params) = 0 ∧
      ns ≤ 999999999 ∧ s.dev.mode ≠ .standby ∧ (sel = x.sel → x.change.isNone = false) ∧ s.lineRef e = true ∧
      planSlots e s ≤ profileSlots sel.profile ∧ x.cdEst.natAbs ≤ cdRange sel.profile ∧ x.change.isSome = false ∧
      s.hif.deferred.length < 64) ∧
    (∃ (p : Packet) (s₀ s : State), Granted (modCmd 0x0402 16) p s₀ s ∧
      let e := u8 p.params 0;
      let search := decide (u8 p.params 1 = 1);
      let cd : CdCfg := ⟨search, s32 p.params 4, u32 p.params 8, u32 p.params 12⟩;
      let x := s.engine e;
      let reach := cd.value.natAbs + (if search then cd.halfWidth else 0);
      let hold := !search && decide (x.state = .locked) && decide ((cd.value - x.cdEst).natAbs ≤ 500) && decide (((cd.carrier : Int) - x.cd.carrier).natAbs ≤ 1000);
      e ≤ 1 ∧ u8 p.params 1 ≤ 1 ∧ leNat (bytesAt 2 2 p.params) = 0 ∧ reach ≤ cdLimit x ∧
      (search = true → cd.halfWidth ≤ 400000) ∧ (184000000 ≤ cd.carrier ∧ cd.carrier ≤ 197000000) ∧ x.searching = false ∧
      hold = true) ∧
    (∃ (p : Packet) (s₀ s : State), Granted (modCmd 0x0402 16) p s₀ s ∧
      let e := u8 p.params 0;
      let search := decide (u8 p.params 1 = 1);
      let cd : CdCfg := ⟨search, s32 p.params 4, u32 p.params 8, u32 p.params 12⟩;
      let x := s.engine e;
      let reach := cd.value.natAbs + (if search then cd.halfWidth else 0);
      let hold := !search && decide (x.state = .locked) && decide ((cd.value - x.cdEst).natAbs ≤ 500) && decide (((cd.carrier : Int) - x.cd.carrier).natAbs ≤ 1000);
      e ≤ 1 ∧ u8 p.params 1 ≤ 1 ∧ leNat (bytesAt 2 2 p.params) = 0 ∧ reach ≤ cdLimit x ∧
      (search = true → cd.halfWidth ≤ 400000) ∧ (184000000 ≤ cd.carrier ∧ cd.carrier ≤ 197000000) ∧ x.searching = false ∧
      hold = false ∧ (search = true ∧ modePowered s.dev.mode = true) ∧ s.hif.deferred.length < 64) ∧
    (∃ (p : Packet) (s₀ s : State), Granted (modCmd 0x0402 16) p s₀ s ∧
      let e := u8 p.params 0;
      let search := decide (u8 p.params 1 = 1);
      let cd : CdCfg := ⟨search, s32 p.params 4, u32 p.params 8, u32 p.params 12⟩;
      let x := s.engine e;
      let reach := cd.value.natAbs + (if search then cd.halfWidth else 0);
      let hold := !search && decide (x.state = .locked) && decide ((cd.value - x.cdEst).natAbs ≤ 500) && decide (((cd.carrier : Int) - x.cd.carrier).natAbs ≤ 1000);
      e ≤ 1 ∧ u8 p.params 1 ≤ 1 ∧ leNat (bytesAt 2 2 p.params) = 0 ∧ reach ≤ cdLimit x ∧
      (search = true → cd.halfWidth ≤ 400000) ∧ (184000000 ≤ cd.carrier ∧ cd.carrier ≤ 197000000) ∧ x.searching = false ∧
      hold = false ∧ (search = true → modePowered s.dev.mode = false)) ∧
    (∃ (p : Packet) (s₀ s : State), Granted (modCmd 0x0403 8) p s₀ s ∧
      let e := u8 p.params 0;
      let eq : EqCfg := ⟨u8 p.params 1, u8 p.params 2, bit (u8 p.params 3) 0, u16 p.params 4⟩;
      e ≤ 1 ∧ (eq.taps % 2 ≠ 0 ∧ 15 ≤ eq.taps ∧ eq.taps ≤ 63) ∧ eq.rate ≤ 3 ∧ u8 p.params 3 ≤ 1 ∧ eq.hold ≠ 0 ∧
      eq.hold ≤ 1000 ∧ leNat (bytesAt 6 2 p.params) = 0) ∧
    (∃ (p : Packet) (s₀ s : State), Granted (modCmd 0x0404 16) p s₀ s ∧
      let e := u8 p.params 0;
      let n : NlcCfg := ⟨u8 p.params 1, u16 p.params 2, u16 p.params 4, u16 p.params 6, u16 p.params 8, u16 p.params 10, s16 p.params 12⟩;
      let on := decide (0 < n.stages);
      e ≤ 1 ∧ n.stages ≤ 8 ∧ (on = true → n.spans ≠ 0) ∧ (on = true → n.spans ≤ 250) ∧
      (on = true → 100 ≤ n.spanLength ∧ n.spanLength ≤ 1500) ∧ (on = true → 100 ≤ n.dispersion ∧ n.dispersion ≤ 2500) ∧
      (on = true → 500 ≤ n.gamma ∧ n.gamma ≤ 3000) ∧ (on = true → 140 ≤ n.attenuation ∧ n.attenuation ≤ 300) ∧
      (on = true → n.power.natAbs ≤ 1000) ∧ leNat (bytesAt 14 2 p.params) = 0) ∧
    (∃ (p : Packet) (s₀ s : State), Granted (modCmd 0x0405 16) p s₀ s ∧
      let e := u8 p.params 0;
      let rx : RxCfg := ⟨u16 p.params 2, u16 p.params 4, fourS16 p.params 8⟩;
      (∀ chk ∈ [badParam 0 (1 < e), reservedBytes p.params 1 1, badParam 2 (rx.losSet < 8 ∨ 511 < rx.losSet), badParam 4 (rx.losClear ≤ rx.losSet ∨ 512 < rx.losClear), reservedBytes p.params 6 2] ++ (List.range 4).map (fun l => badParam (8 + 2 * l) (10000 < (s16 p.params (8 + 2 * l)).natAbs)), chk.bad = false)) ∧
    (∃ (p : Packet) (s₀ s : State), Granted (modCmd 0x0406 24) p s₀ s ∧
      let e := u8 p.params 0;
      let f := u8 p.params 1;
      let tx : TxCfg := ⟨bit f 0, u8 p.params 2, u8 p.params 3, fourS16 p.params 4, s16 p.params 12, s16 p.params 14, s16 p.params 16, s16 p.params 18⟩;
      let x := s.engine e;
      (∀ chk ∈ [badParam 0 (1 < e), badParam 1 (8 ≤ f ∨ (bit f 1 ∧ bit f 2)), badParam 2 (15 < tx.maxBoost), badParam 3 (80 < tx.drive)] ++ (List.range 4).map (fun l => badParam (4 + 2 * l) (10000 < (s16 p.params (4 + 2 * l)).natAbs)) ++ [badParam 12 (100 < tx.xGain.natAbs), badParam 14 (1000 < tx.xPhase.natAbs), badParam 16 (100 < tx.yGain.natAbs), badParam 18 (1000 < tx.yPhase.natAbs), reservedBytes p.params 20 4, failIf .badState (bit f 1 && !respComplete x), failIf .busy (x.recomputing && decide (s.dev.mode ≠ .standby))], chk.bad = false) ∧
      s.dev.mode = .standby) ∧
    (∃ (p : Packet) (s₀ s : State), Granted (modCmd 0x0406 24) p s₀ s ∧
      let e := u8 p.params 0;
      let f := u8 p.params 1;
      let tx : TxCfg := ⟨bit f 0, u8 p.params 2, u8 p.params 3, fourS16 p.params 4, s16 p.params 12, s16 p.params 14, s16 p.params 16, s16 p.params 18⟩;
      let x := s.engine e;
      (∀ chk ∈ [badParam 0 (1 < e), badParam 1 (8 ≤ f ∨ (bit f 1 ∧ bit f 2)), badParam 2 (15 < tx.maxBoost), badParam 3 (80 < tx.drive)] ++ (List.range 4).map (fun l => badParam (4 + 2 * l) (10000 < (s16 p.params (4 + 2 * l)).natAbs)) ++ [badParam 12 (100 < tx.xGain.natAbs), badParam 14 (1000 < tx.xPhase.natAbs), badParam 16 (100 < tx.yGain.natAbs), badParam 18 (1000 < tx.yPhase.natAbs), reservedBytes p.params 20 4, failIf .badState (bit f 1 && !respComplete x), failIf .busy (x.recomputing && decide (s.dev.mode ≠ .standby))], chk.bad = false) ∧
      s.dev.mode ≠ .standby ∧ s.hif.deferred.length < 64) ∧
    (∃ (p : Packet) (s₀ s : State), Granted { modCmd 0x0407 0 with lenOk := fun ps => 8 ≤ ps.length } p s₀ s ∧
      let e := u8 p.params 0;
      let lane := u8 p.params 1;
      let first := u8 p.params 2;
      let count := u8 p.params 3;
      (∀ chk ∈ [badParam 0 (1 < e), badParam 1 (3 < lane), badParam 2 (63 < first), badLen 3 (count = 0), badLen 3 (fromBmc p && decide (54 < count)), badLen 3 (p.params.length ≠ 8 + 4 * count), badParam 3 (64 < first + count), reservedBytes p.params 4 4] ++ (List.range count).flatMap (fun n => [badParam (8 + 4 * n) (2000 < (s16 p.params (8 + 4 * n)).natAbs), badParam (10 + 4 * n) (18000 < (s16 p.params (10 + 4 * n)).natAbs)]), chk.bad = false)) ∧
    (∃ (p : Packet) (s₀ s : State), Granted (modCmd 0x0408 4) p s₀ s ∧
      let e := u8 p.params 0;
      let enter := decide (u8 p.params 1 = 1);
      let x := s.engine e;
      e ≤ 1 ∧ u8 p.params 1 ≤ 1 ∧ leNat (bytesAt 2 2 p.params) = 0 ∧
      (enter = true → x.eqForce.fsopEn = true ∧ x.state = .locked)) ∧
    (∃ (p : Packet) (s₀ s : State), Granted { modCmd 0x0409 8 with maintenance := true } p s₀ s ∧
      let e := u8 p.params 0;
      e ≤ 1 ∧ u8 p.params 1 ≤ 3 ∧ leNat (bytesAt 2 2 p.params) = 0 ∧ (s32 p.params 4).natAbs ≤ 160000 ∧
      (s.engine e).state ≠ .off) ∧
    (∃ (p : Packet) (s₀ s : State), Granted (readCmd 0x040A 4) p s₀ s ∧
      let e := u8 p.params 0;
      e ≤ 1 ∧ leNat (bytesAt 1 3 p.params) = 0 ∧ (s.engine e).state ≠ .off) :=
  ⟨⟨pk 0x0401 [0, 0, 0, 5, 0, 0, 0, 0, 0, 0, 0, 0, 0, 0, 0, 0], (live .standby), _, granted rfl (by decide +kernel), (by decide +kernel), (by decide +kernel), (by decide +kernel), (by decide +kernel), (by decide +kernel), (by decide +kernel), (by decide +kernel), (by decide +kernel), (by decide +kernel), (by decide +kernel), (by decide +kernel)⟩,
    ⟨pk 0x0401 [0, 0, 0, 5, 0, 0, 0, 0, 0, 0, 0, 0, 0, 0, 0, 0], (live .service), _, granted rfl (by decide +kernel),
      (by decide +kernel), (by decide +kernel), (by decide +kernel), (by decide +kernel), (by decide +kernel),
      (by decide +kernel), (by decide +kernel), (by decide +kernel), (by decide +kernel)⟩,
    ⟨pk 0x0401 [0, 1, 0, 5, 0, 0, 0, 0, 0, 0, 0, 0, 0, 0, 0, 0], (live .service), _, granted rfl (by decide +kernel),
      (by decide +kernel), (by decide +kernel), (by decide +kernel), (by decide +kernel), (by decide +kernel),
      (by decide +kernel), (by decide +kernel), (by decide +kernel), (by decide +kernel), (by decide +kernel),
      (by decide +kernel), (by decide +kernel), (by decide +kernel), (by decide +kernel)⟩,
    ⟨pk 0x0402 [0, 0, 0, 0, 0, 0, 0, 0, 0, 0, 0, 0, 224, 120, 130, 11],
      (modEngine 0 (fun x => { x with state := .locked }) (live .service)), _, granted rfl (by decide +kernel),
      (by decide +kernel), (by decide +kernel), (by decide +kernel), (by decide +kernel), (by decide +kernel),
      (by decide +kernel), (by decide +kernel), (by decide +kernel)⟩,
    ⟨pk 0x0402 [0, 1, 0, 0, 0, 0, 0, 0, 232, 3, 0, 0, 224, 120, 130, 11],
      (modEngine 0 (fun x => { x with state := .noSignal }) (live .service)), _, granted rfl (by decide +kernel),
      (by decide +kernel), (by decide +kernel), (by decide +kernel), (by decide +kernel), (by decide +kernel),
      (by decide +kernel), (by decide +kernel), (by decide +kernel), (by decide +kernel), (by decide +kernel)⟩,
    ⟨pk 0x0402 [0, 1, 0, 0, 0, 0, 0, 0, 232, 3, 0, 0, 224, 120, 130, 11], (live .standby), _, granted rfl (by decide +kernel), (by decide +kernel), (by decide +kernel), (by decide +kernel), (by decide +kernel), (by decide +kernel), (by decide +kernel), (by decide +kernel), (by decide +kernel), (by decide +kernel)⟩,
    ⟨pk 0x0403 [0, 31, 0, 0, 20, 0, 0, 0], (live .service), _, granted rfl (by decide +kernel), (by decide +kernel),
      (by decide +kernel), (by decide +kernel), (by decide +kernel), (by decide +kernel), (by decide +kernel),
      (by decide +kernel)⟩,
    ⟨pk 0x0404 (List.replicate 16 0), (live .standby), _, granted rfl (by decide +kernel), (by decide +kernel),
      (by decide +kernel), (by decide +kernel), (by decide +kernel), (by decide +kernel), (by decide +kernel),
      (by decide +kernel), (by decide +kernel), (by decide +kernel), (by decide +kernel)⟩,
    ⟨pk 0x0405 [0, 0, 32, 0, 48, 0, 0, 0, 0, 0, 0, 0, 0, 0, 0, 0], (live .service), _, granted rfl (by decide +kernel),
      (by decide +kernel)⟩,
    ⟨pk 0x0406 (List.replicate 24 0), (live .standby), _, granted rfl (by decide +kernel), (by decide +kernel),
      (by decide +kernel)⟩,
    ⟨pk 0x0406 (List.replicate 24 0), (live .service), _, granted rfl (by decide +kernel), (by decide +kernel),
      (by decide +kernel), (by decide +kernel)⟩,
    ⟨pk 0x0407 [0, 0, 0, 1, 0, 0, 0, 0, 208, 7, 0, 0], (live .service), _, granted rfl (by decide +kernel), (by decide +kernel)⟩,
    ⟨pk 0x0408 (List.replicate 4 0), (live .standby), _, granted rfl (by decide +kernel), (by decide +kernel),
      (by decide +kernel), (by decide +kernel), (by decide +kernel)⟩,
    ⟨pk 0x0409 [0, 3, 0, 0, 0, 0, 0, 0], (modEngine 0 (fun x => { x with state := .locked }) (live .maintenance)), _,
      granted rfl (by decide +kernel), (by decide +kernel), (by decide +kernel), (by decide +kernel), (by decide +kernel),
      (by decide +kernel)⟩,
    ⟨pk 0x040A [0, 0, 0, 0], (modEngine 0 (fun x => { x with state := .locked }) (live .service)), _,
      granted rfl (by decide +kernel), (by decide +kernel), (by decide +kernel), (by decide +kernel)⟩⟩

/-- The hypotheses of each clause of `Soft_decision_rows_take_their_effect` are met together. -/
theorem witness_Soft_decision_rows :
    (∃ (engine : Fin 2) (bits : Nat) (zeroAt : Option Nat) (s : State),
      (s.fec.powered = true ∧ (s.engine engine.val).state = .locked)) ∧
    (∃ (block : Nat) (result : DecodeResult) (s : State), ∃ b, s.block block = some b) ∧
    (∃ (core : Fin 48) (passed : Bool) (s : State),
      let c := s.core core.val;
      c.kat = true ∧ passed = true) ∧
    (∃ (core : Fin 48) (passed : Bool) (s : State),
      let c := s.core core.val;
      c.kat = true ∧ passed = false) ∧
    (∃ (engine : Fin 2) (s : State),
      let x := s.fecEngine engine.val;
      s.fec.powered = true ∧ x.winBlocks = 0) ∧
    (∃ (engine : Fin 2) (s : State),
      let x := s.fecEngine engine.val;
      s.fec.powered = true ∧ x.winBlocks ≠ 0) ∧
    (∃ (core : Fin 48) (passed : Nat) (s : State), (s.core core.val).retest = true) ∧
    (∃ (failed : BitVec 48) (s : State), (modePowered s.dev.mode = true ∧ s.fec.powered = false)) ∧
    (∃ (p : Packet) (s₀ s : State), Granted (modCmd 0x0501 4) p s₀ s ∧
      let c := u8 p.params 0;
      let w := u8 p.params 1;
      (2 ≤ c ∧ c ≤ 24) ∧ w ≤ 3 ∧ leNat (bytesAt 2 2 p.params) = 0) ∧
    (∃ (p : Packet) (s₀ s : State), Granted (modCmd 0x0502 12) p s₀ s ∧
      let e := u8 p.params 0;
      let t : FecThr := ⟨u32 p.params 4, u32 p.params 8⟩;
      e ≤ 1 ∧ u8 p.params 1 ≤ 1 ∧ leNat (bytesAt 2 2 p.params) = 0 ∧ (t.sd ≠ 0 ∧ t.sd ≤ 1000000000) ∧
      (t.sd ≤ t.sf ∧ t.sf ≤ 1000000000)) ∧
    (∃ (p : Packet) (s₀ s : State), Granted (readCmd 0x0503 4) p s₀ s ∧
      let e := u8 p.params 0;
      modePowered s.dev.mode = true ∧ e ≤ 1 ∧ leNat (bytesAt 1 3 p.params) = 0) ∧
    (∃ (p : Packet) (s₀ s : State), Granted (readCmd 0x0504 0) p s₀ s) ∧
    (∃ (p : Packet) (s₀ s : State), Granted (modCmd 0x0505 4) p s₀ s ∧
      let k := u8 p.params 0;
      s.dev.mode = .standby ∧ k ≤ 47 ∧ leNat (bytesAt 1 3 p.params) = 0 ∧ (s.core k).retired = true ∧
      s.fec.cores.toList.any (fun c => c.retest) = false ∧ s.hif.deferred.length < 64) ∧
    (∃ (p : Packet) (s₀ s : State), Granted { modCmd 0x0506 8 with maintenance := true } p s₀ s ∧
      let e := u8 p.params 0;
      e ≤ 1 ∧ leNat (bytesAt 1 3 p.params) = 0 ∧ u32 p.params 4 ≤ 100000000 ∧ (s.engine e).state ≠ .off) :=
  ⟨⟨1, 100, none, (modEngine 1 (fun x => { x with state := .locked }) (live .service)), (by decide +kernel)⟩,
    ⟨9, ⟨0, false, 0, 0, 0⟩,
      { live .service with fec := { ((live .service)).fec with blocks := [⟨9, 0, 100, 12, 0, none, 0, .running, false⟩] } }, _,
      rfl⟩,
    ⟨47, true, (modCore 47 (fun c => { c with kat := true }) (live .service)), (by decide +kernel), (by decide +kernel)⟩,
    ⟨47, false, (modCore 47 (fun c => { c with kat := true }) (live .service)), (by decide +kernel), (by decide +kernel)⟩,
    ⟨0, (live .standby), (by decide +kernel), (by decide +kernel)⟩,
    ⟨1, (modFecEngine 1 (fun x => { x with winBlocks := 3 }) (live .service)), (by decide +kernel), (by decide +kernel)⟩,
    ⟨47, 3, (modCore 47 (fun c => { c with retired := true, retest := true }) (live .standby)), (by decide +kernel)⟩,
    ⟨1, { live .service with fec := { ((live .service)).fec with powered := false } }, (by decide +kernel)⟩,
    ⟨pk 0x0501 [2, 0, 0, 0], (live .service), _, granted rfl (by decide +kernel), (by decide +kernel), (by decide +kernel),
      (by decide +kernel)⟩,
    ⟨pk 0x0502 [0, 0, 0, 0, 1, 0, 0, 0, 1, 0, 0, 0], (live .service), _, granted rfl (by decide +kernel), (by decide +kernel),
      (by decide +kernel), (by decide +kernel), (by decide +kernel), (by decide +kernel)⟩,
    ⟨pk 0x0503 (List.replicate 4 0), (live .service), _, granted rfl (by decide +kernel), (by decide +kernel),
      (by decide +kernel), (by decide +kernel)⟩,
    ⟨pk 0x0504 [], (live .standby), _, granted rfl (by decide +kernel)⟩,
    ⟨pk 0x0505 [47, 0, 0, 0], (modCore 47 (fun c => { c with retired := true }) (live .standby)), _,
      granted rfl (by decide +kernel), (by decide +kernel), (by decide +kernel), (by decide +kernel), (by decide +kernel),
      (by decide +kernel), (by decide +kernel)⟩,
    ⟨pk 0x0506 [0, 0, 0, 0, 0, 225, 245, 5], (modEngine 0 (fun x => { x with state := .locked }) (live .maintenance)), _,
      granted rfl (by decide +kernel), (by decide +kernel), (by decide +kernel), (by decide +kernel), (by decide +kernel)⟩⟩

/-- The hypotheses of each clause of `Framing_rows_take_their_effect` are met together. -/
theorem witness_Framing_rows :
    (∃ (writer : Writer) (value : Word) (s : State), (writer = .host ∨ writer = .ac ∨ writer = .tc)) ∧
    (∃ (scope : Fin 3) (unit : Fin 256) (frame : FrameIn) (s : State), scope.val = 0 ∧
      (unit.val < 2 ∧ (s.engine unit.val).state = .locked)) ∧
    (∃ (scope : Fin 3) (unit : Fin 256) (frame : FrameIn) (s : State), scope.val ≠ 0 ∧ scope.val = 1 ∧ ∃ x,
      s.entry unit.val = some x ∧ ((s.engine x.engine).state = .locked ∧ engineAligned x.engine s = true)) ∧
    (∃ (scope : Fin 3) (unit : Fin 256) (frame : FrameIn) (s : State), scope.val ≠ 0 ∧ scope.val ≠ 1 ∧
      let u := s.unit (cifKey unit.val);
      (unit.val < 32 ∧ u.otn ≠ 0)) ∧
    (∃ (scope : Fin 3) (unit : Fin 256) (mfas : Nat) (s : State), scope.val = 0 ∧ (unit.val < 2 ∧ modePowered s.dev.mode = true)) ∧
    (∃ (scope : Fin 3) (unit : Fin 256) (mfas : Nat) (s : State), scope.val ≠ 0 ∧ scope.val = 1 ∧
      (s.entry unit.val).isSome = true ∧ modePowered s.dev.mode = true) ∧
    (∃ (scope : Fin 3) (unit : Fin 256) (mfas : Nat) (s : State), scope.val ≠ 0 ∧ scope.val ≠ 1 ∧ unit.val < 32) ∧
    (∃ (scope : Fin 3) (unit : Fin 256) (s : State),
      let k := scope.val * 256 + unit.val;
      let u := s.unit k;
      u.pacing = true ∧ u.changed = 0) ∧
    (∃ (scope : Fin 3) (unit : Fin 256) (s : State),
      let k := scope.val * 256 + unit.val;
      let u := s.unit k;
      u.pacing = true ∧ u.changed ≠ 0) ∧
    (∃ (p : Packet) (s₀ s : State), Granted (modCmd 0x0601 8) p s₀ s ∧
      let scope := u8 p.params 0;
      let code := u8 p.params 1;
      let unit := u16 p.params 2;
      let set := u16 p.params 4;
      let clear := u16 p.params 6;
      let windows := decide (code = 8) || decide (code = 9);
      let deg := decide (code = 7) || decide (code = 15);
      scope ≤ 2 ∧ (scopeCodes scope).contains code = true ∧ (unit ≠ 0xFFFF → unit < scopeSize scope) ∧
      (windows = true → set ≠ 0) ∧ (if windows then set ≤ 255 else if deg then set ≠ 0 ∧ set ≤ 10000 else set ≤ 10000) ∧
      (windows = true → clear ≠ 0) ∧ (if windows then clear ≤ 255 else if deg then 2 ≤ clear ∧ clear ≤ 10 else clear ≤ 10000)) ∧
    (∃ (p : Packet) (s₀ s : State), Granted (modCmd 0x0602 136) p s₀ s ∧
      let layer := u8 p.params 0;
      let unit := u16 p.params 2;
      let fl := u8 p.params 4;
      layer ≤ 3 ∧ u8 p.params 1 ≤ 3 ∧ unit < scopeSize (ttiScope layer) ∧ ttiPresent layer unit s = true ∧ fl ≤ 7 ∧
      leNat (bytesAt 5 3 p.params) = 0) ∧
    (∃ (p : Packet) (s₀ s : State), Granted (readCmd 0x0603 4) p s₀ s ∧
      let layer := u8 p.params 0;
      let unit := u16 p.params 2;
      let u := s.unit (ttiScope layer * 256 + unit);
      layer ≤ 3 ∧ leNat (bytesAt 1 1 p.params) = 0 ∧ unit < scopeSize (ttiScope layer) ∧ ttiPresent layer unit s = true) ∧
    (∃ (p : Packet) (s₀ s : State), Granted (modCmd 0x0604 4) p s₀ s ∧ u8 p.params 0 ≤ 1 ∧ u8 p.params 1 ≤ 7 ∧
      leNat (bytesAt 2 2 p.params) = 0) ∧
    (∃ (p : Packet) (s₀ s : State), Granted (modCmd 0x0605 8) p s₀ s ∧ (u8 p.params 0 ≠ 0 ∧ u8 p.params 0 ≤ 100) ∧
      leNat (bytesAt 1 3 p.params) = 0 ∧ u32 p.params 4 ≤ 86399) ∧
    (∃ (p : Packet) (s₀ s : State), Granted (readCmd 0x0606 8) p s₀ s ∧
      let kind := u8 p.params 0;
      let first := u8 p.params 1;
      let unit := u16 p.params 2;
      let n := u8 p.params 4;
      kind ≤ 3 ∧ first ≤ 18 ∧ (unit < kindSize kind ∧ monitored kind unit s = true) ∧ (n ≠ 0 ∧ (fromBmc p = true → n ≤ 3)) ∧
      first + n ≤ 19 ∧ leNat (bytesAt 5 3 p.params) = 0) ∧
    (∃ (p : Packet) (s₀ s : State), Granted (modCmd 0x0607 4) p s₀ s ∧
      let kind := u8 p.params 0;
      let mask := u8 p.params 1;
      let unit := u16 p.params 2;
      let size := if kind = 0xFF then 256 else kindSize kind;
      (3 < kind → kind = 0xFF) ∧ mask ≤ 7 ∧ (unit ≠ 0xFFFF → unit < size)) ∧
    (∃ (p : Packet) (s₀ s : State), Granted (modCmd 0x0608 36) p s₀ s ∧ u8 p.params 0 ≤ 3 ∧ u8 p.params 1 ≤ 1 ∧
      leNat (bytesAt 2 2 p.params) = 0) ∧
    (∃ (p : Packet) (s₀ s : State), Granted { modCmd 0x0609 8 with maintenance := true } p s₀ s ∧
      let scope := u8 p.params 0;
      let action := u8 p.params 1;
      let unit := u16 p.params 2;
      let rate := u32 p.params 4;
      scope ≤ 2 ∧ (action ≤ 5 ∧ (scope = 2 → 1 ≤ action → 3 < action)) ∧ unit < scopeSize scope ∧
      (action = 5 → rate ≠ 0 ∧ rate ≤ 1000000)) :=
  ⟨⟨.tc, 0, State.reset, (by decide +kernel)⟩,
    ⟨0, 0, ⟨⟨[0], true, 0, true⟩, [], ⟨none, [], [], false, 0, none⟩, ⟨none, [], [], false, 0, none⟩, none, false, 0, 0, none⟩,
      (modEngine 0 (fun x => { x with state := .locked }) (live .service)), (by decide +kernel), (by decide +kernel)⟩,
    ⟨1, 0, ⟨⟨[0], true, 0, true⟩, [], ⟨none, [], [], false, 0, none⟩, ⟨none, [], [], false, 0, none⟩, none, false, 0, 0, none⟩,
      (modUnit (engineKey 0) (fun u => { u with align := ⟨.sync, 0, true, 0, none, 0, true⟩ }) (modEngine 0 (fun x => { x with state := .locked }) { live .service with map := { ((live .service)).map with plan := [(0, ⟨1, 0, 0, 0, 3, true, false, false, false, 20, 0, 0xFFFFF⟩)] } })),
      (by decide +kernel), (by decide +kernel), _, rfl, (by decide +kernel)⟩,
    ⟨2, 0, ⟨⟨[0], true, 0, true⟩, [], ⟨none, [], [], false, 0, none⟩, ⟨none, [], [], false, 0, none⟩, none, false, 0, 0, none⟩,
      (modUnit (cifKey 0) (fun u => { u with otn := 1 }) (live .service)), (by decide +kernel), (by decide +kernel),
      (by decide +kernel)⟩,
    ⟨0, 0, 0, (live .service), (by decide +kernel), (by decide +kernel)⟩,
    ⟨1, 0, 0,
      { live .service with map := { ((live .service)).map with plan := [(0, ⟨1, 0, 0, 0, 3, true, false, false, false, 20, 0, 0xFFFFF⟩)] } },
      (by decide +kernel), (by decide +kernel), (by decide +kernel), (by decide +kernel)⟩,
    ⟨2, 0, 0, (live .service), (by decide +kernel), (by decide +kernel), (by decide +kernel)⟩,
    ⟨0, 0, (modUnit 0 (fun u => { u with pacing := true, changed := 0 }) (live .service)), (by decide +kernel),
      (by decide +kernel)⟩,
    ⟨0, 0, (modUnit 0 (fun u => { u with pacing := true, changed := 1 }) (live .service)), (by decide +kernel),
      (by decide +kernel)⟩,
    ⟨pk 0x0601 (List.replicate 8 0), (live .standby), _, granted rfl (by decide +kernel), (by decide +kernel),
      (by decide +kernel), (by decide +kernel), (by decide +kernel), (by decide +kernel), (by decide +kernel),
      (by decide +kernel)⟩,
    ⟨pk 0x0602 (0 :: 3 :: 0 :: 0 :: 7 :: List.replicate 131 0), (live .service), _, granted rfl (by decide +kernel),
      (by decide +kernel), (by decide +kernel), (by decide +kernel), (by decide +kernel), (by decide +kernel),
      (by decide +kernel)⟩,
    ⟨pk 0x0603 (List.replicate 4 0), (live .standby), _, granted rfl (by decide +kernel), (by decide +kernel),
      (by decide +kernel), (by decide +kernel), (by decide +kernel)⟩,
    ⟨pk 0x0604 (List.replicate 4 0), (live .standby), _, granted rfl (by decide +kernel), (by decide +kernel),
      (by decide +kernel), (by decide +kernel)⟩,
    ⟨pk 0x0605 [15, 0, 0, 0, 0, 0, 0, 0], (live .service), _, granted rfl (by decide +kernel), (by decide +kernel),
      (by decide +kernel), (by decide +kernel)⟩,
    ⟨pk 0x0606 [0, 0, 0, 0, 1, 0, 0, 0], (live .service), _, granted rfl (by decide +kernel), (by decide +kernel),
      (by decide +kernel), (by decide +kernel), (by decide +kernel), (by decide +kernel), (by decide +kernel)⟩,
    ⟨pk 0x0607 (List.replicate 4 0), (live .standby), _, granted rfl (by decide +kernel), (by decide +kernel),
      (by decide +kernel), (by decide +kernel)⟩,
    ⟨pk 0x0608 (List.replicate 36 0), (live .standby), _, granted rfl (by decide +kernel), (by decide +kernel),
      (by decide +kernel), (by decide +kernel)⟩,
    ⟨pk 0x0609 (List.replicate 8 0), (live .maintenance), _, granted rfl (by decide +kernel), (by decide +kernel),
      (by decide +kernel), (by decide +kernel), (by decide +kernel)⟩⟩

/-- The hypotheses of each clause of `Mapping_rows_take_their_effect` are met together. -/
theorem witness_Mapping_rows :
    (∃ (engine : Fin 2) (s : State), ∃ p, s.map.pending = some p ∧
      (modePowered s.dev.mode = true ∧ (if engine.val = 0 then p.done0 else p.done1) = false)) ∧
    (∃ (trib : Fin 256) (s : State), ∃ x, s.entry trib.val = some x ∧
      (modePowered s.dev.mode = true ∧ pathSf trib.val s = false ∧ engineOut x.engine s = false)) ∧
    (∃ (p : Packet) (s₀ s : State), Granted (modCmd 0x0701 4) p s₀ s ∧ u8 p.params 0 ≤ 1 ∧ leNat (bytesAt 1 3 p.params) = 0) ∧
    (∃ (p : Packet) (s₀ s : State), Granted { modCmd 0x0702 0 with lenOk := fun b => b.length = 8 + 96 * u8 b 0 } p s₀ s ∧
      let n := u8 p.params 0;
      ∃ st, s.map.staging = some st ∧
      (∀ chk ∈ [badLen 0 (decide (n = 0) || decide ((if fromBmc p then 2 else 42) < n)), reservedBytes p.params 1 7] ++ (loadEntries p.params n).flatMap (fun e => entryChecks e.1 e.2), chk.bad = false)) ∧
    (∃ (p : Packet) (s₀ s : State), Granted (modCmd 0x0703 20) p s₀ s ∧
      let sec := u48 p.params 8;
      let ns := u32 p.params 16;
      ∃ plan, s.map.staging = some plan ∧ u32 p.params 0 ≠ 0 ∧ u32 p.params 4 = planCrc plan ∧ todAhead sec ns 1000 s = false ∧
      leNat (bytesAt 14 2 p.params) = 0 ∧ ns < 1000000000 ∧ planFails plan s = none ∧ s.map.pending.isSome = false ∧
      s.dev.mode = .standby) ∧
    (∃ (p : Packet) (s₀ s : State), Granted (modCmd 0x0703 20) p s₀ s ∧
      let sec := u48 p.params 8;
      let ns := u32 p.params 16;
      ∃ plan, s.map.staging = some plan ∧ u32 p.params 0 ≠ 0 ∧ u32 p.params 4 = planCrc plan ∧ todAhead sec ns 1000 s = false ∧
      leNat (bytesAt 14 2 p.params) = 0 ∧ ns < 1000000000 ∧ planFails plan s = none ∧ s.map.pending.isSome = false ∧
      s.dev.mode ≠ .standby ∧ s.hif.deferred.length < 64) ∧
    (∃ (p : Packet) (s₀ s : State), Granted (modCmd 0x0704 0) p s₀ s ∧ ∃ c, s.map.pending = some c ∧
      todPast c.seconds c.nanoseconds s = false) ∧
    (∃ (p : Packet) (s₀ s : State), Granted (readCmd 0x0705 8) p s₀ s ∧
      let first := u16 p.params 2;
      let n := u8 p.params 4;
      u8 p.params 0 ≤ 1 ∧ leNat (bytesAt 1 1 p.params) = 0 ∧ first ≤ 255 ∧ (n ≠ 0 ∧ n ≤ (if fromBmc p then 2 else 42)) ∧
      first + n ≤ 256 ∧ leNat (bytesAt 5 3 p.params) = 0) ∧
    (∃ (p : Packet) (s₀ s : State), Granted (modCmd 0x0706 8) p s₀ s ∧
      let w := u16 p.params 0;
      ∃ g, s.apsGroup w = some g ∧ u8 p.params 2 ≤ 3 ∧ leNat (bytesAt 3 1 p.params) = 0 ∧ u16 p.params 4 ≤ 100 ∧
      (60 ≤ u16 p.params 6 ∧ u16 p.params 6 ≤ 720)) ∧
    (∃ (p : Packet) (s₀ s : State), Granted (modCmd 0x0707 4) p s₀ s ∧
      let w := u16 p.params 0;
      ∃ g, s.apsGroup w = some g ∧ u8 p.params 2 ≤ 4 ∧ leNat (bytesAt 3 1 p.params) = 0) ∧
    (∃ (p : Packet) (s₀ s : State), Granted (readCmd 0x0708 4) p s₀ s ∧
      let w := u16 p.params 0;
      ∃ g, s.apsGroup w = some g ∧ leNat (bytesAt 2 2 p.params) = 0) :=
  ⟨⟨1, { live .service with map := { ((live .service)).map with pending := some ⟨1, 0, 0, 0, [], true, false, []⟩ } }, _, rfl,
      (by decide +kernel)⟩,
    ⟨0,
      (modGroup 0 (fun x => { x with state := .running }) (modUnit (engineKey 0) (fun u => { u with align := ⟨.sync, 0, true, 0, none, 0, true⟩ }) (modEngine 0 (fun x => { x with state := .locked }) { live .service with map := { ((live .service)).map with plan := [(0, ⟨1, 0, 0, 0, 3, true, false, false, false, 20, 0, 0xFFFFF⟩)] } }))),
      _, rfl, (by decide +kernel)⟩,
    ⟨pk 0x0701 (List.replicate 4 0), (live .standby), _, granted rfl (by decide +kernel), (by decide +kernel),
      (by decide +kernel)⟩,
    ⟨pk 0x0702 [1, 0, 0, 0, 0, 0, 0, 0, 0, 0, 0, 0, 0, 0, 0, 0, 0, 0, 0, 0, 0, 0, 0, 0, 0, 0, 0, 0, 0, 0, 0, 0, 0, 0, 0, 0, 0, 0, 0, 0, 0, 0, 0, 0, 0, 0, 0, 0, 0, 0, 0, 0, 0, 0, 0, 0, 0, 0, 0, 0, 0, 0, 0, 0, 0, 0, 0, 0, 0, 0, 0, 0, 0, 0, 0, 0, 0, 0, 0, 0, 0, 0, 0, 0, 0, 0, 0, 0, 0, 0, 0, 0, 0, 0, 0, 0, 0, 0, 0, 0, 0, 0, 0, 0],
      { live .service with map := { ((live .service)).map with staging := some [] } }, _, granted rfl (by decide +kernel), _,
      rfl, (by decide +kernel)⟩,
    ⟨pk 0x0703 (1 :: 0 :: 0 :: 0 :: leBytes 4 (planCrc []) ++ List.replicate 12 0),
      { live .standby with map := { ((live .standby)).map with staging := some [] } }, _, granted rfl (by decide +kernel), [],
      rfl, (by decide +kernel), (u32_le _ _ _ _ _ _ (crc32c_lt _)).symm, (by decide +kernel), (by decide +kernel),
      (by decide +kernel), (by decide +kernel), (by decide +kernel), (by decide +kernel)⟩,
    ⟨pk 0x0703 (1 :: 0 :: 0 :: 0 :: leBytes 4 (planCrc []) ++ List.replicate 12 0),
      { live .service with map := { ((live .service)).map with staging := some [] } }, _, granted rfl (by decide +kernel), [],
      rfl, (by decide +kernel), (u32_le _ _ _ _ _ _ (crc32c_lt _)).symm, (by decide +kernel), (by decide +kernel),
      (by decide +kernel), (by decide +kernel), (by decide +kernel), (by decide +kernel), (by decide +kernel)⟩,
    ⟨pk 0x0704 [],
      { live .service with map := { ((live .service)).map with pending := some ⟨1, 9, 0, 0, [], false, false, []⟩ } }, _,
      granted rfl (by decide +kernel), _, rfl, (by decide +kernel)⟩,
    ⟨pk 0x0705 [0, 0, 0, 0, 1, 0, 0, 0], (live .service), _, granted rfl (by decide +kernel), (by decide +kernel),
      (by decide +kernel), (by decide +kernel), (by decide +kernel), (by decide +kernel), (by decide +kernel)⟩,
    ⟨pk 0x0706 [0, 0, 3, 0, 100, 0, 60, 0],
      { live .service with map := { ((live .service)).map with groups := [(0, ApsGroup.new 1 false)] } }, _,
      granted rfl (by decide +kernel), _, rfl, (by decide +kernel), (by decide +kernel), (by decide +kernel),
      (by decide +kernel)⟩,
    ⟨pk 0x0707 [0, 0, 3, 0],
      { live .service with map := { ((live .service)).map with groups := [(0, ApsGroup.new 1 false)] } }, _,
      granted rfl (by decide +kernel), _, rfl, (by decide +kernel), (by decide +kernel)⟩,
    ⟨pk 0x0708 [0, 0, 0, 0],
      { live .service with map := { ((live .service)).map with groups := [(0, ApsGroup.new 1 false)] } }, _,
      granted rfl (by decide +kernel), _, rfl, (by decide +kernel)⟩⟩

/-- The hypotheses of each clause of `Cipher_events_take_their_effect` are met together. -/
theorem witness_Cipher_events :
    (∃ (trib : Fin 256) (group : TxGroup) (s : State), ∃ x, s.entry trib.val = some x ∧ x.encrypt = true) ∧
    (∃ (trib : Fin 256) (group : RxGroup) (s : State), ∃ x, s.entry trib.val = some x ∧ x.encrypt = true ∧
      groupsMasked trib.val s = true) ∧
    (∃ (trib : Fin 256) (group : RxGroup) (s : State), ∃ x, s.entry trib.val = some x ∧ x.encrypt = true ∧
      groupsMasked trib.val s = false ∧
      let s1 := addTwins trib.val true group.mismatched.length s;
      ∃ cause, groupFailure trib.val group (s1.cphTrib trib.val) = some cause) ∧
    (∃ (trib : Fin 256) (group : RxGroup) (s : State), ∃ x, s.entry trib.val = some x ∧ x.encrypt = true ∧
      groupsMasked trib.val s = false ∧
      let s1 := addTwins trib.val true group.mismatched.length s;
      groupFailure trib.val group (s1.cphTrib trib.val) = none) ∧
    (∃ (job : Fin 65536) (end_ : JobEnd) (s : State), ∃ j, s.job job.val = some j ∧ j.cancel = true) ∧
    (∃ (job : Fin 65536) (end_ : JobEnd) (s : State), ∃ j, s.job job.val = some j ∧ j.cancel = false ∧ s.hif.dmaUp = true ∧
      ∃ form addr, j.save = some (form, addr)) ∧
    (∃ (job : Fin 65536) (end_ : JobEnd) (s : State), ∃ j, s.job job.val = some j ∧ j.cancel = false ∧ s.hif.dmaUp = true ∧
      j.save = none ∧ end_.contextError = true) ∧
    (∃ (job : Fin 65536) (end_ : JobEnd) (s : State), ∃ j, s.job job.val = some j ∧ j.cancel = false ∧ s.hif.dmaUp = true ∧
      j.save = none ∧ end_.contextError = false ∧ (runningJob s).map (fun x => x.id) = some j.id ∧ end_.mismatch = true) ∧
    (∃ (job : Fin 65536) (end_ : JobEnd) (s : State), ∃ j, s.job job.val = some j ∧ j.cancel = false ∧ s.hif.dmaUp = true ∧
      j.save = none ∧ end_.contextError = false ∧ (runningJob s).map (fun x => x.id) = some j.id ∧ end_.mismatch = false ∧
      let r := jobResult j end_;
      let checks := decide (u8 j.desc 0 = 2) || decide (u8 j.desc 0 = 6);
      (checks = true ∧ bytesAt 0 16 r.2 ≠ bytesAt 64 16 j.desc)) ∧
    (∃ (job : Fin 65536) (end_ : JobEnd) (s : State), ∃ j, s.job job.val = some j ∧ j.cancel = false ∧ s.hif.dmaUp = true ∧
      j.save = none ∧ end_.contextError = false ∧ (runningJob s).map (fun x => x.id) = some j.id ∧ end_.mismatch = false ∧
      let r := jobResult j end_;
      let checks := decide (u8 j.desc 0 = 2) || decide (u8 j.desc 0 = 6);
      (checks = true → bytesAt 0 16 r.2 = bytesAt 64 16 j.desc)) :=
  ⟨⟨0, ⟨[], [], []⟩,
      { live .service with map := { ((live .service)).map with plan := [(0, ⟨1, 0, 0, 0, 3, true, false, false, false, 20, 0, 0xFFFFF⟩)] } },
      _, rfl, (by decide +kernel)⟩,
    ⟨0, ⟨true, true, false, 1, 1, [], [], [], [], 0, 0, []⟩,
      (modUnit (engineKey 0) (fun u => { u with declared := 1 }) { live .service with map := { ((live .service)).map with plan := [(0, ⟨1, 0, 0, 0, 3, true, false, false, false, 20, 0, 0xFFFFF⟩)] } }),
      _, rfl, (by decide +kernel), (by decide +kernel)⟩,
    ⟨0, ⟨true, true, false, 1, 1, [], [], [], [], 0, 0, []⟩,
      { live .service with map := { ((live .service)).map with plan := [(0, ⟨1, 0, 0, 0, 3, true, false, false, false, 20, 0, 0xFFFFF⟩)] } },
      _, rfl, (by decide +kernel), (by decide +kernel), _, rfl⟩,
    ⟨0, goodGroup,
      (modCphTrib 0 (fun _ => rxTrib) { live .service with map := { ((live .service)).map with plan := [(0, ⟨1, 0, 0, 0, 3, true, false, false, false, 20, 0, 0xFFFFF⟩)] } }),
      _, rfl, (by decide +kernel), (by decide +kernel), (group_passes)⟩,
    ⟨0, ⟨0, [], [], false, false⟩,
      { live .service with cph := { ((live .service)).cph with jobs := [⟨0, (1 :: List.replicate 127 0), 0, 5, 0, 0, 0, false, true, none, []⟩] } },
      _, rfl, (by decide +kernel)⟩,
    ⟨0, ⟨0, [], [], false, false⟩,
      { live .service with cph := { ((live .service)).cph with jobs := [⟨0, (1 :: List.replicate 127 0), 0, 5, 0, 0, 0, false, false, some (1, 0), []⟩] } },
      _, rfl, (by decide +kernel), (by decide +kernel), _, _, rfl⟩,
    ⟨0, ⟨0, [], [], false, true⟩,
      { live .service with cph := { ((live .service)).cph with jobs := [⟨0, (1 :: List.replicate 127 0), 0, 5, 0, 0, 0, false, false, none, []⟩] } },
      _, rfl, (by decide +kernel), (by decide +kernel), (by decide +kernel), (by decide +kernel)⟩,
    ⟨0, ⟨0, [], [], true, false⟩,
      { live .service with cph := { ((live .service)).cph with jobs := [⟨0, (1 :: List.replicate 127 0), 0, 5, 0, 0, 0, false, false, none, []⟩] } },
      _, rfl, (by decide +kernel), (by decide +kernel), (by decide +kernel), (by decide +kernel), rfl, (by decide +kernel)⟩,
    (by
  by_cases h : bytesAt 0 16 (cmac 5 []) = List.replicate 16 0
  · have g : bytesAt 0 16 (cmac 5 []) ≠ List.replicate 16 1 := by rw [h]; decide
    exact ⟨0, ⟨0, [], [], false, false⟩, { live .service with cph := { ((live .service)).cph with jobs := [⟨0, (6 :: List.replicate 63 0 ++ List.replicate 16 1 ++ List.replicate 48 0), 0, 5, 0, 0, 0, false, false, none, []⟩] } }, _, rfl, (by decide +kernel), (by decide +kernel), (by decide +kernel), (by decide +kernel), rfl, (by decide +kernel), ⟨by decide +kernel, g⟩⟩
  · exact ⟨0, ⟨0, [], [], false, false⟩, { live .service with cph := { ((live .service)).cph with jobs := [⟨0, (6 :: List.replicate 63 0 ++ List.replicate 16 0 ++ List.replicate 48 0), 0, 5, 0, 0, 0, false, false, none, []⟩] } }, _, rfl, (by decide +kernel), (by decide +kernel), (by decide +kernel), (by decide +kernel), rfl, (by decide +kernel), ⟨by decide +kernel, h⟩⟩),
    ⟨0, ⟨0, [], [], false, false⟩,
      { live .service with cph := { ((live .service)).cph with jobs := [⟨0, (1 :: List.replicate 127 0), 0, 5, 0, 0, 0, false, false, none, []⟩] } },
      _, rfl, (by decide +kernel), (by decide +kernel), (by decide +kernel), (by decide +kernel), rfl, (by decide +kernel),
      (fun h => by exact absurd h (by decide +kernel))⟩⟩

/-- The hypotheses of each clause of `Cipher_commands_take_their_effect` are met together. -/
theorem witness_Cipher_commands :
    (∃ (p : Packet) (s₀ s : State), Granted (modCmd 0x0801 88) p s₀ s ∧
      let k := u16 p.params 0;
      let kek := beNat (bytesAt 14 2 p.params);
      let usage := beNat (bytesAt 10 2 p.params);
      let wrap := s.keySlot kek;
      let text := gcmDecrypt wrap.key (blobIv p.params) (blobAad p.params) (blobWrapped p.params);
      let vol := bit (u8 p.params 9) 0;
      k ≤ 1023 ∧ slotBound k s ≤ 0 ∧ leNat (bytesAt 2 2 p.params) = 0 ∧ beNat (bytesAt 4 4 p.params) = 0x4B424C31 ∧
      u8 p.params 8 = 1 ∧ u8 p.params 9 ≤ 1 ∧ usage ≤ 31 ∧ usageOk usage = true ∧ beNat (bytesAt 12 2 p.params) = k ∧
      kek ≤ 1023 ∧ (wrap.loaded = true ∧ bit wrap.usage 4 = true) ∧ leNat (bytesAt 28 8 p.params) = 0 ∧
      gcmTag wrap.key (blobIv p.params) (blobAad p.params) (blobWrapped p.params) = bytesAt 72 16 p.params ∧
      (s.keySlot k).history.contains (kcvOf (keyOf text)) = false ∧ (vol = false → s.flashOk = true) ∧
      (vol = true ∧ (s.keySlot k).lasting = false)) ∧
    (∃ (p : Packet) (s₀ s : State), Granted (modCmd 0x0801 88) p s₀ s ∧
      let k := u16 p.params 0;
      let kek := beNat (bytesAt 14 2 p.params);
      let usage := beNat (bytesAt 10 2 p.params);
      let wrap := s.keySlot kek;
      let text := gcmDecrypt wrap.key (blobIv p.params) (blobAad p.params) (blobWrapped p.params);
      let vol := bit (u8 p.params 9) 0;
      k ≤ 1023 ∧ slotBound k s ≤ 0 ∧ leNat (bytesAt 2 2 p.params) = 0 ∧ beNat (bytesAt 4 4 p.params) = 0x4B424C31 ∧
      u8 p.params 8 = 1 ∧ u8 p.params 9 ≤ 1 ∧ usage ≤ 31 ∧ usageOk usage = true ∧ beNat (bytesAt 12 2 p.params) = k ∧
      kek ≤ 1023 ∧ (wrap.loaded = true ∧ bit wrap.usage 4 = true) ∧ leNat (bytesAt 28 8 p.params) = 0 ∧
      gcmTag wrap.key (blobIv p.params) (blobAad p.params) (blobWrapped p.params) = bytesAt 72 16 p.params ∧
      (s.keySlot k).history.contains (kcvOf (keyOf text)) = false ∧ (vol = false → s.flashOk = true) ∧
      (vol = true → (s.keySlot k).lasting = true)) ∧
    (∃ (p : Packet) (s₀ s : State), Granted (modCmd 0x0802 104) p s₀ s ∧
      let k := u16 p.params 0;
      let point := bytesAt 4 97 p.params;
      let vol := bit (u8 p.params 2) 0;
      let text := derive (keyOf (Config.agreeSecret point)) labelKek (bytesAt 1 32 point) 288;
      let kcv := kcvOf (keyOf text);
      let head := bytesAt 0 97 Config.agreePoint ++ leBytes 3 0 ++ kcv;
      k ≤ 1023 ∧ slotBound k s ≤ 0 ∧ u8 p.params 2 ≤ 1 ∧ leNat (bytesAt 3 1 p.params) = 0 ∧
      (u8 p.params 4 = 4 ∧ onCurve point = true) ∧ leNat (bytesAt 101 3 p.params) = 0 ∧
      (s.keySlot k).history.contains kcv = false ∧ (vol = false → s.flashOk = true) ∧
      (vol = true ∧ (s.keySlot k).lasting = false)) ∧
    (∃ (p : Packet) (s₀ s : State), Granted (modCmd 0x0802 104) p s₀ s ∧
      let k := u16 p.params 0;
      let point := bytesAt 4 97 p.params;
      let vol := bit (u8 p.params 2) 0;
      let text := derive (keyOf (Config.agreeSecret point)) labelKek (bytesAt 1 32 point) 288;
      let kcv := kcvOf (keyOf text);
      let head := bytesAt 0 97 Config.agreePoint ++ leBytes 3 0 ++ kcv;
      k ≤ 1023 ∧ slotBound k s ≤ 0 ∧ u8 p.params 2 ≤ 1 ∧ leNat (bytesAt 3 1 p.params) = 0 ∧
      (u8 p.params 4 = 4 ∧ onCurve point = true) ∧ leNat (bytesAt 101 3 p.params) = 0 ∧
      (s.keySlot k).history.contains kcv = false ∧ (vol = false → s.flashOk = true) ∧
      (vol = true → (s.keySlot k).lasting = true)) ∧
    (∃ (p : Packet) (s₀ s : State), Granted (modCmd 0x0803 4) p s₀ s ∧
      let k := u16 p.params 0;
      k ≤ 1023 ∧ slotBound k s ≤ 0 ∧ leNat (bytesAt 2 2 p.params) = 0) ∧
    (∃ (p : Packet) (s₀ s : State), Granted (readCmd 0x0804 4) p s₀ s ∧
      let k := u16 p.params 0;
      k ≤ 1023 ∧ leNat (bytesAt 2 2 p.params) = 0) ∧
    (∃ (p : Packet) (s₀ s : State), Granted (modCmd 0x0805 64) p s₀ s ∧
      let t := u16 p.params 0;
      let receive := decide (u8 p.params 2 = 1);
      let derived := decide (u8 p.params 3 = 1);
      let k := u16 p.params 4;
      let limit := u64 p.params 8;
      let root := s.keySlot k;
      t ≤ 255 ∧ ((s.entry t).map (fun x => x.encrypt)).getD false = true ∧ u8 p.params 2 ≤ 1 ∧ u8 p.params 3 ≤ 1 ∧ k ≤ 1023 ∧
      (if derived then root.loaded = true ∧ bit root.usage 3 = true else slotUsable k receive s = true) ∧ u16 p.params 6 ≠ 0 ∧
      (receive = false → limit ≠ 0) ∧ (receive = false → 2 ^ 21 ≤ limit) ∧
      (receive = true → derived = true → u64 p.params 16 ≠ 0) ∧ (derived = true → receive = false → dctrReady s = true)) ∧
    (∃ (p : Packet) (s₀ s : State), Granted (modCmd 0x0806 16) p s₀ s ∧
      let t := u16 p.params 0;
      let c := s.cphTrib t;
      ∃ e, c.txNext = some e ∧ t ≤ 255 ∧ leNat (bytesAt 2 2 p.params) = 0 ∧
      todAhead (u48 p.params 4) (u32 p.params 12) 1000 s = false ∧ leNat (bytesAt 10 2 p.params) = 0 ∧
      u32 p.params 12 < 1000000000 ∧ c.switchAt.isSome = false ∧ s.hif.deferred.length < 64) ∧
    (∃ (p : Packet) (s₀ s : State), Granted (modCmd 0x0807 4) p s₀ s ∧
      let t := u16 p.params 0;
      t ≤ 255 ∧ ((s.entry t).map (fun x => x.encrypt)).getD false = true ∧ u8 p.params 2 ≤ 1 ∧ leNat (bytesAt 3 1 p.params) = 0) ∧
    (∃ (p : Packet) (s₀ s : State), Granted (readCmd 0x0808 4) p s₀ s ∧
      let t := u16 p.params 0;
      t ≤ 255 ∧ leNat (bytesAt 2 2 p.params) = 0) ∧
    (∃ (p : Packet) (s₀ s : State), Granted (modCmd 0x0809 128) p s₀ s ∧
      let op := u8 p.params 0;
      let derived := decide (u8 p.params 2 = 1);
      let k := u16 p.params 4;
      let id := u16 p.params 6;
      let slot := s.keySlot k;
      let enc := encryptType op;
      (op ≠ 0 ∧ op ≤ 6) ∧ u8 p.params 1 ≤ 3 ∧ u8 p.params 2 ≤ 1 ∧ u8 p.params 3 ≤ 1 ∧ k ≤ 1023 ∧
      (slot.loaded = true ∧ bit slot.usage (if derived then 3 else 2) = true) ∧ (s.job id).isSome = false ∧
      (u64 p.params 24 = 0 → op ≠ 3 ∧ op ≠ 4) ∧ u64 p.params 24 ≤ 4294967296 ∧ u32 p.params 40 ≤ 65536 ∧
      (derived = true → (enc != decide (u64 p.params 112 = 0)) = false) ∧ leNat (bytesAt 120 8 p.params) = 0 ∧
      s.cph.jobs.length < 32 ∧ (derived = true → enc = true → dctrReady s = true) ∧ s.hif.deferred.length < 64) ∧
    (∃ (p : Packet) (s₀ s : State), Granted (modCmd 0x080A 4) p s₀ s ∧ (s.job (u16 p.params 0)).isNone = false ∧
      leNat (bytesAt 2 2 p.params) = 0) ∧
    (∃ (p : Packet) (s₀ s : State), Granted (modCmd 0x080B 12) p s₀ s ∧
      let form := u8 p.params 2;
      ∃ j, s.job (u16 p.params 0) = some j ∧
      let clearOk := bit (u8 j.desc 3) 0 && (decide (u8 j.desc 0 = 3) || decide (u8 j.desc 0 = 4));
      (form ≠ 0 ∧ form ≤ 2) ∧ (form = 2 → clearOk = true) ∧ leNat (bytesAt 3 1 p.params) = 0 ∧ u64 p.params 4 % 8 = 0) ∧
    (∃ (p : Packet) (s₀ s : State), Granted (modCmd 0x080C 24) p s₀ s ∧ ∃ x, contextFor p.hostData s = some x ∧
      let j := x.job;
      ((s.keySlot (u16 j.desc 4)).loaded = true ∧ kcvOf (contextKey j s) = kcvOf j.key ∧ (s.job j.id).isSome = false) ∧
      s.cph.jobs.length < 32 ∧ s.hif.deferred.length < 64) :=
  ⟨⟨pk 0x0801 (blobHead 1 ++ blobTag 1), (modKeySlot 0 (fun _ => ⟨true, true, 16, false, 5, 6, [], 0⟩) (live .service)), _,
      granted rfl (blob_rest _ _ (Laws.gcmTag_length _ _ _ _)), (by decide +kernel), (by decide +kernel), (by decide +kernel),
      (by decide +kernel), (by decide +kernel), (by decide +kernel), (by decide +kernel), (by decide +kernel),
      (by decide +kernel), (by decide +kernel), (by decide +kernel), (by decide +kernel),
      (blob_tag _ _ (Laws.gcmTag_length _ _ _ _)), (by decide +kernel), (by decide +kernel), (by decide +kernel)⟩,
    ⟨pk 0x0801 (blobHead 0 ++ blobTag 0), (modKeySlot 0 (fun _ => ⟨true, true, 16, false, 5, 6, [], 0⟩) (live .service)), _,
      granted rfl (blob_rest _ _ (Laws.gcmTag_length _ _ _ _)), (by decide +kernel), (by decide +kernel), (by decide +kernel),
      (by decide +kernel), (by decide +kernel), (by decide +kernel), (by decide +kernel), (by decide +kernel),
      (by decide +kernel), (by decide +kernel), (by decide +kernel), (by decide +kernel),
      (blob_tag _ _ (Laws.gcmTag_length _ _ _ _)), (by decide +kernel), (by decide +kernel), (by decide +kernel)⟩,
    ⟨pk 0x0802 (0 :: 0 :: 1 :: 0 :: 4 :: (beBytes 48 0xaa87ca22be8b05378eb1c71ef320ad746e1d3b628ba79b9859f741e082542a385502f25dbf55296c3a545e3872760ab7 ++ beBytes 48 0x3617de4a96262c6f5d9e98bf9292dc29f8f41dbd289a147ce9da3113b5f0b8c00a60b1ce1d7e819d7a431d7c90ea0e5f ++ [0, 0, 0])),
      (live .service), _, granted rfl (by decide +kernel), (by decide +kernel), (by decide +kernel), (by decide +kernel),
      (by decide +kernel), (by decide +kernel), (by decide +kernel), (by decide +kernel), (by decide +kernel),
      (by decide +kernel)⟩,
    ⟨pk 0x0802 (0 :: 0 :: 0 :: 0 :: 4 :: (beBytes 48 0xaa87ca22be8b05378eb1c71ef320ad746e1d3b628ba79b9859f741e082542a385502f25dbf55296c3a545e3872760ab7 ++ beBytes 48 0x3617de4a96262c6f5d9e98bf9292dc29f8f41dbd289a147ce9da3113b5f0b8c00a60b1ce1d7e819d7a431d7c90ea0e5f ++ [0, 0, 0])),
      (live .service), _, granted rfl (by decide +kernel), (by decide +kernel), (by decide +kernel), (by decide +kernel),
      (by decide +kernel), (by decide +kernel), (by decide +kernel), (by decide +kernel), (by decide +kernel),
      (by decide +kernel)⟩,
    ⟨pk 0x0803 (List.replicate 4 0), (live .standby), _, granted rfl (by decide +kernel), (by decide +kernel),
      (by decide +kernel), (by decide +kernel)⟩,
    ⟨pk 0x0804 (List.replicate 4 0), (live .standby), _, granted rfl (by decide +kernel), (by decide +kernel),
      (by decide +kernel)⟩,
    ⟨pk 0x0805 [0, 0, 0, 0, 0, 0, 1, 0, 0, 0, 32, 0, 0, 0, 0, 0, 0, 0, 0, 0, 0, 0, 0, 0, 0, 0, 0, 0, 0, 0, 0, 0, 0, 0, 0, 0, 0, 0, 0, 0, 0, 0, 0, 0, 0, 0, 0, 0, 0, 0, 0, 0, 0, 0, 0, 0, 0, 0, 0, 0, 0, 0, 0, 0],
      (modKeySlot 0 (fun _ => ⟨true, true, 1, false, 5, 6, [], 0⟩) { live .service with map := { ((live .service)).map with plan := [(0, ⟨1, 0, 0, 0, 3, true, false, false, false, 20, 0, 0xFFFFF⟩)] } }),
      _, granted rfl (by decide +kernel), (by decide +kernel), (by decide +kernel), (by decide +kernel), (by decide +kernel),
      (by decide +kernel), (by decide +kernel), (by decide +kernel), (by decide +kernel), (by decide +kernel),
      (by decide +kernel), (by decide +kernel)⟩,
    ⟨pk 0x0806 [0, 0, 0, 0, 0, 0, 0, 0, 0, 0, 0, 0, 0, 0, 0, 0],
      (modCphTrib 0 (fun c => { c with txNext := some ⟨none, 0, [], 0, 0, 5, 6, 1, 0xFFFFFFFF, false⟩ }) (live .service)), _,
      granted rfl (by decide +kernel), _, rfl, (by decide +kernel), (by decide +kernel), (by decide +kernel),
      (by decide +kernel), (by decide +kernel), (by decide +kernel), (by decide +kernel)⟩,
    ⟨pk 0x0807 [0, 0, 1, 0],
      { live .service with map := { ((live .service)).map with plan := [(0, ⟨1, 0, 0, 0, 3, true, false, false, false, 20, 0, 0xFFFFF⟩)] } },
      _, granted rfl (by decide +kernel), (by decide +kernel), (by decide +kernel), (by decide +kernel), (by decide +kernel)⟩,
    ⟨pk 0x0808 (List.replicate 4 0), (live .standby), _, granted rfl (by decide +kernel), (by decide +kernel),
      (by decide +kernel)⟩,
    ⟨pk 0x0809 (1 :: List.replicate 127 0), (modKeySlot 0 (fun _ => ⟨true, true, 4, false, 5, 6, [], 0⟩) (live .service)), _,
      granted rfl (by decide +kernel), (by decide +kernel), (by decide +kernel), (by decide +kernel), (by decide +kernel),
      (by decide +kernel), (by decide +kernel), (by decide +kernel), (by decide +kernel), (by decide +kernel),
      (by decide +kernel), (by decide +kernel), (by decide +kernel), (by decide +kernel), (by decide +kernel),
      (by decide +kernel)⟩,
    ⟨pk 0x080A [0, 0, 0, 0],
      { live .service with cph := { ((live .service)).cph with jobs := [⟨0, (4 :: 0 :: List.replicate 126 0), 0, 5, 0, 0, 0, false, false, none, []⟩] } },
      _, granted rfl (by decide +kernel), (by decide +kernel), (by decide +kernel)⟩,
    ⟨pk 0x080B [0, 0, 1, 0, 0, 0, 0, 0, 0, 0, 0, 0],
      { live .service with cph := { ((live .service)).cph with jobs := [⟨0, (4 :: 0 :: List.replicate 126 0), 0, 5, 0, 0, 0, false, false, none, []⟩] } },
      _, granted rfl (by decide +kernel), _, rfl, (by decide +kernel), (by decide +kernel), (by decide +kernel),
      (by decide +kernel)⟩,
    ⟨pk 0x080C (List.replicate 24 0) (restoreHead ++ restoreTag),
      { modKeySlot 0 (fun _ => ⟨true, true, 4, false, 5, 6, [], 0⟩) (live .service) with cph := { ((modKeySlot 0 (fun _ => ⟨true, true, 4, false, 5, 6, [], 0⟩) (live .service))).cph with saved := [⟨1, ⟨0, (4 :: 0 :: List.replicate 126 0), 0, 5, 0, 0, 0, false, false, none, []⟩, [], false⟩] } },
      _, granted rfl (by decide +kernel), _, (restore_ok rfl rfl rfl), (⟨rfl, rfl, rfl⟩), (by decide +kernel),
      (by decide +kernel)⟩⟩

/-- A frame of two tiles whose second no longer gives the CRC-32C that its descriptor keeps. -/
def badSecond : Frame := ⟨0, 256, 0, 5, 300, [], [(0, true), (64, true)], [], [0, 2 ^ 32], false, false, false⟩
theorem bad_second (bs : List Byte) : firstBadTile badSecond ⟨[(1, bs)], false⟩ = some 1 := by
  have h : ∀ xs : List Byte, ¬ crc32c xs = 4294967296 := fun _ => Nat.ne_of_lt (crc32c_lt _)
  simp [firstBadTile, badSecond, List.range, List.range.loop, h]
/-- The hypotheses of each clause of `Packet_events_take_their_effect` are met together. -/
theorem witness_Packet_events :
    (∃ (port : Fin 288) (frame : RxFrame) (s : State),
      let x := s.port port.val;
      (s.pkt.ready = true ∧ x.ingressUp = true ∧ (x.stopped = true → frame.begun = true)) ∧
      (frame.fcsOk = false ∨ frame.len < 64 ∨ x.cfg.mtu < frame.len ∨ frame.control = true)) ∧
    (∃ (port : Fin 288) (frame : RxFrame) (s : State),
      let x := s.port port.val;
      (s.pkt.ready = true ∧ x.ingressUp = true ∧ (x.stopped = true → frame.begun = true)) ∧
      (frame.fcsOk = true ∧ 64 ≤ frame.len ∧ frame.len ≤ x.cfg.mtu ∧ frame.control = false) ∧ frame.authBad = true) ∧
    (∃ (port : Fin 288) (frame : RxFrame) (s : State),
      let x := s.port port.val;
      (s.pkt.ready = true ∧ x.ingressUp = true ∧ (x.stopped = true → frame.begun = true)) ∧
      (frame.fcsOk = true ∧ 64 ≤ frame.len ∧ frame.len ≤ x.cfg.mtu ∧ frame.control = false) ∧ frame.authBad = false ∧
      let s1 := countRx port.val frame.len s;
      lookup (frameKey port.val x.cfg frame) x.cfg s = none) ∧
    (∃ (port : Fin 288) (frame : RxFrame) (s : State),
      let x := s.port port.val;
      (s.pkt.ready = true ∧ x.ingressUp = true ∧ (x.stopped = true → frame.begun = true)) ∧
      (frame.fcsOk = true ∧ 64 ≤ frame.len ∧ frame.len ≤ x.cfg.mtu ∧ frame.control = false) ∧ frame.authBad = false ∧
      let s1 := countRx port.val frame.len s;
      ∃ sub, lookup (frameKey port.val x.cfg frame) x.cfg s = some sub ∧ forwardOk port.val sub s = true) ∧
    (∃ (port : Fin 288) (frame : RxFrame) (s : State),
      let x := s.port port.val;
      (s.pkt.ready = true ∧ x.ingressUp = true ∧ (x.stopped = true → frame.begun = true)) ∧
      (frame.fcsOk = true ∧ 64 ≤ frame.len ∧ frame.len ≤ x.cfg.mtu ∧ frame.control = false) ∧ frame.authBad = false ∧
      let s1 := countRx port.val frame.len s;
      ∃ sub, lookup (frameKey port.val x.cfg frame) x.cfg s = some sub ∧ forwardOk port.val sub s = false) ∧
    (∃ (port : Fin 288) (read : TxRead) (s : State),
      let x := s.port port.val;
      (s.pkt.ready = true ∧ x.egressUp = true ∧ x.held = false) ∧ ∃ s1,
      choose port.val (s.pkt.frames.length + 1) s = .nothing s1) ∧
    (∃ (port : Fin 288) (read : TxRead) (s : State),
      let x := s.port port.val;
      (s.pkt.ready = true ∧ x.egressUp = true ∧ x.held = false) ∧ ∃ f len s1,
      choose port.val (s.pkt.frames.length + 1) s = .send f len s1 ∧ firstBadTile f read = some 0) ∧
    (∃ (port : Fin 288) (read : TxRead) (s : State),
      let x := s.port port.val;
      (s.pkt.ready = true ∧ x.egressUp = true ∧ x.held = false) ∧ ∃ f len s1,
      choose port.val (s.pkt.frames.length + 1) s = .send f len s1 ∧ ∃ i, firstBadTile f read = some i ∧ i ≠ 0) ∧
    (∃ (port : Fin 288) (read : TxRead) (s : State),
      let x := s.port port.val;
      (s.pkt.ready = true ∧ x.egressUp = true ∧ x.held = false) ∧ ∃ f len s1,
      choose port.val (s.pkt.frames.length + 1) s = .send f len s1 ∧ firstBadTile f read = none ∧ read.authBad = true) ∧
    (∃ (port : Fin 288) (read : TxRead) (s : State),
      let x := s.port port.val;
      (s.pkt.ready = true ∧ x.egressUp = true ∧ x.held = false) ∧ ∃ f len s1,
      choose port.val (s.pkt.frames.length + 1) s = .send f len s1 ∧ firstBadTile f read = none ∧ read.authBad = false) ∧
    (∃ (port : Fin 288) (s : State),
      let g := (s.port port.val).gates;
      ∃ l, g.list = some l ∧ g.restart = none ∧ g.entry + 1 < l.windows.length) ∧
    (∃ (port : Fin 288) (s : State),
      let g := (s.port port.val).gates;
      ∃ l, g.list = some l ∧ g.restart = none ∧
      let start := g.cycleStart + l.cycle * unitsPerNs;
      g.disable = true) ∧
    (∃ (port : Fin 288) (s : State),
      let g := (s.port port.val).gates;
      ∃ l, g.list = some l ∧ g.restart = none ∧
      let start := g.cycleStart + l.cycle * unitsPerNs;
      g.disable = false) ∧
    (∃ (port : Fin 288) (s : State),
      let g := (s.port port.val).gates;
      ∃ l, g.restart = some l ∧ (∀ p, g.pending = some p → l.startTod ≤ p.startTod) ∧ g.disable = false) ∧
    (∃ (port : Fin 288) (s : State),
      let g := (s.port port.val).gates;
      ∃ l, g.restart = some l ∧ (∀ p, g.pending = some p → l.startTod ≤ p.startTod) ∧ g.disable = true) ∧
    (∃ (port : Fin 288) (s : State),
      let g := (s.port port.val).gates;
      ∃ l, g.pending = some l ∧ (∀ r, g.restart = some r → l.startTod < r.startTod)) ∧
    (∃ (s : State), (s.pkt.powered = true ∧ s.pkt.ready = false)) :=
  ⟨⟨256, ⟨63, true, false, none, none, false, [0], false, []⟩, routed, (by decide +kernel), (by decide +kernel)⟩,
    ⟨256, ⟨64, true, false, none, none, true, [0], false, []⟩, routed, (by decide +kernel), (by decide +kernel), (by decide +kernel)⟩,
    ⟨256, ⟨9216, true, false, none, none, false, [0], false, []⟩, { routed with pkt := { routed.pkt with rules := [] } },
      (by decide +kernel), (by decide +kernel), (by decide +kernel), (by decide +kernel)⟩,
    ⟨256, ⟨64, true, false, none, none, false, [0], false, []⟩, routed, (by decide +kernel), (by decide +kernel), (by decide +kernel), _,
      rfl, (by decide +kernel)⟩,
    ⟨256, ⟨64, true, false, none, none, false, [0], false, []⟩,
      { routed with pkt := { routed.pkt with rules := [((256, (0, (0, 0))), 6)] } }, (by decide +kernel), (by decide +kernel),
      (by decide +kernel), _, rfl, (by decide +kernel)⟩,
    ⟨0, ⟨[], false⟩, routed, (by decide +kernel), _, rfl⟩,
    ⟨0, ⟨[], false⟩, { routed with pkt := { routed.pkt with frames := [⟨0, 256, 0, 5, 64, [], [(0, true)], [], [], false, false, true⟩] } },
      (by decide +kernel), _, _, _, rfl, (by decide +kernel)⟩,
    ⟨0, ⟨[(1, [1])], false⟩, { routed with pkt := { routed.pkt with frames := [badSecond] } },
      (by decide +kernel), badSecond, _, _, rfl, 1, bad_second _, (by decide +kernel)⟩,
    ⟨0, ⟨[], true⟩, { routed with pkt := { routed.pkt with frames := [⟨0, 256, 0, 5, 64, [], [(0, true)], [], [], false, false, false⟩] } },
      (by decide +kernel), _, _, _, rfl, (by decide +kernel), rfl⟩,
    ⟨0, ⟨[], false⟩, { routed with pkt := { routed.pkt with frames := [⟨0, 256, 0, 5, 64, [], [(0, true)], [], [], false, false, false⟩] } },
      (by decide +kernel), _, _, _, rfl, (by decide +kernel), rfl⟩,
    ⟨287,
      (modPort 287 (fun x => { x with gates := { x.gates with list := some ⟨[⟨1, 5⟩, ⟨2, 120⟩], 1000, (0, 0), (0, 0), 0⟩ } }) (live .service)),
      _, rfl, (by decide +kernel), (by decide +kernel)⟩,
    ⟨287,
      (modPort 287 (fun x => { x with gates := { x.gates with list := some ⟨[⟨1, 5⟩, ⟨2, 120⟩], 1000, (0, 0), (0, 0), 0⟩, disable := true } }) (live .service)),
      _, rfl, (by decide +kernel), (by decide +kernel)⟩,
    ⟨287,
      (modPort 287 (fun x => { x with gates := { x.gates with list := some ⟨[⟨1, 5⟩, ⟨2, 120⟩], 1000, (0, 0), (0, 0), 0⟩ } }) (live .service)),
      _, rfl, (by decide +kernel), (by decide +kernel)⟩,
    ⟨287,
      (modPort 287 (fun x => { x with gates := { x.gates with restart := some ⟨[⟨1, 5⟩, ⟨2, 120⟩], 1000, (0, 0), (0, 0), 0⟩ } }) (live .service)),
      _, rfl, (fun _ h => nomatch h), rfl⟩,
    ⟨287,
      (modPort 287 (fun x => { x with gates := { x.gates with restart := some ⟨[⟨1, 5⟩, ⟨2, 120⟩], 1000, (0, 0), (0, 0), 0⟩, disable := true } }) (live .service)),
      _, rfl, (fun _ h => nomatch h), rfl⟩,
    ⟨287,
      (modPort 287 (fun x => { x with gates := { x.gates with pending := some ⟨[⟨1, 5⟩, ⟨2, 120⟩], 1000, (0, 0), (0, 0), 0⟩ } }) (live .service)),
      _, rfl, (fun _ h => nomatch h)⟩,
    ⟨{ live .service with pkt := { ((live .service)).pkt with powered := true } }, (by decide +kernel)⟩⟩

/-- The hypotheses of each clause of `Packet_commands_take_their_effect` are met together. -/
theorem witness_Packet_commands :
    (∃ (p : Packet) (s₀ s : State), Granted (modCmd 0x0901 32) p s₀ s ∧
      let q := u16 p.params 0;
      let old := (s.port q).cfg;
      let w := (List.range 8).map (fun i => u8 p.params (20 + i));
      let new : PortCfg := ⟨u8 p.params 2, bit (u8 p.params 3) 0, bit (u8 p.params 3) 1, u16 p.params 4, u16 p.params 6, u32 p.params 8, u32 p.params 12, u8 p.params 16, s8 p.params 17, u8 p.params 18, w, u16 p.params 28⟩;
      let s1 := modPort q (fun x => { x with cfg := new }) s;
      (∀ chk ∈ [badParam 0 (decide (287 < q)), badParam 2 (decide (3 < u8 p.params 2)), failIf .badState (decide (new.mode ≠ old.mode) && s.pkt.rules.any (fun r => r.1.1 = q)), badParam 3 (decide (3 < u8 p.params 3)), badParam 4 (decide (u16 p.params 4 < 1518) || decide (16000 < u16 p.params 4)), badParam 8 (decide (458752 < u32 p.params 8)), badParam 8 (decide (activeTiles s.pkt < resSum s1.pkt + 65536)), badLen 12 (decide (u32 p.params 12 = 0)), badParam 12 (decide (u32 p.params 12 < 63) || decide (524288 < u32 p.params 12) || decide (u32 p.params 12 < u32 p.params 8)), badParam 16 (decide (7 < u8 p.params 16)), badParam 17 (decide (s8 p.params 17 < -32) || decide (64 < s8 p.params 17)), reservedBytes p.params 19 1] ++ (List.range 8).map (fun i => badLen (20 + i) (decide (u8 p.params (20 + i) = 0))) ++ [reservedBytes p.params 30 2], chk.bad = false)) ∧
    (∃ (p : Packet) (s₀ s : State), Granted { modCmd 0x0902 0 with lenOk := fun b => b.length = 8 + 32 * u16 b 4 } p s₀ s ∧
      let kind := u8 p.params 0;
      let first := u16 p.params 2;
      let n := u16 p.params 4;
      let es := (List.range n).map (fun i => (8 + 32 * i, (entityKey kind (first + i), bytesAt (8 + 32 * i) 32 p.params)));
      (∀ chk ∈ [badParam 0 (decide (1 < kind)), reservedBytes p.params 1 1, badParam 2 (decide (entityRange kind ≤ first)), badLen 4 (decide (n = 0) || decide ((if fromBmc p then 6 else 126) < n)), badParam 4 (decide (entityRange kind < first + n)), reservedBytes p.params 6 2] ++ es.flatMap (fun e => entityChecks kind e.1 e.2.2) ++ es.map (fun e => failIf .busy (entityBusy kind e.2.1 (parseEntity e.2.2) s)), chk.bad = false)) ∧
    (∃ (p : Packet) (s₀ s : State), Granted (readCmd 0x0903 8) p s₀ s ∧
      let kind := u8 p.params 0;
      let first := u16 p.params 2;
      let n := u16 p.params 4;
      kind ≤ 1 ∧ leNat (bytesAt 1 1 p.params) = 0 ∧ first < entityRange kind ∧ n ≠ 0 ∧
      (n ≤ (if fromBmc p then 6 else 126) ∧ first + n ≤ entityRange kind) ∧ leNat (bytesAt 6 2 p.params) = 0) ∧
    (∃ (p : Packet) (s₀ s : State), Granted { modCmd 0x0904 0 with lenOk := fun b => b.length = 8 + 16 * u16 b 0 } p s₀ s ∧
      let n := u16 p.params 0;
      let rs := (List.range n).map (fun i => (8 + 16 * i, bytesAt (8 + 16 * i) 16 p.params));
      (∀ chk ∈ [badLen 0 (decide (n = 0) || decide ((if fromBmc p then 13 else 253) < n)), reservedBytes p.params 2 6] ++ rs.flatMap (fun r => ruleChecks r.1 r.2 s), chk.bad = false)) ∧
    (∃ (p : Packet) (s₀ s : State), Granted { modCmd 0x0905 0 with lenOk := fun b => b.length = 8 + 16 * u16 b 0 } p s₀ s ∧
      let n := u16 p.params 0;
      let all := bit (u8 p.params 2) 0;
      let rs := (List.range n).map (fun i => (8 + 16 * i, bytesAt (8 + 16 * i) 16 p.params));
      let keys := rs.map (fun r => (parseRule r.2).1);
      (∀ chk ∈ [badLen 0 ((all == decide (n ≠ 0)) || decide ((if fromBmc p then 13 else 253) < n)), badParam 2 (decide (1 < u8 p.params 2)), reservedBytes p.params 3 1, badParam 4 (all && decide (287 < u16 p.params 4)), reservedBytes p.params 6 2] ++ rs.flatMap (fun r => ruleChecks r.1 r.2 s), chk.bad = false)) ∧
    (∃ (p : Packet) (s₀ s : State), Granted { modCmd 0x0906 0 with lenOk := fun b => b.length = 8 + 4 * u16 b 4 } p s₀ s ∧
      let q := u16 p.params 0;
      let first := u16 p.params 2;
      let n := u16 p.params 4;
      (∀ chk ∈ [badParam 0 (decide (287 < q)), badParam 2 (decide (1023 < first)), badLen 4 (decide (n = 0) || decide ((if fromBmc p then 54 else 1014) < n)), badParam 4 (decide (1024 < first + n)), reservedBytes p.params 6 2] ++ (List.range n).map (fun i => badLen (8 + 4 * i) (decide (u32 p.params (8 + 4 * i) / 256 = 0))), chk.bad = false)) ∧
    (∃ (p : Packet) (s₀ s : State), Granted (modCmd 0x0907 24) p s₀ s ∧
      let q := u16 p.params 0;
      let cancel := bit (u8 p.params 2) 1;
      let cycle := u32 p.params 4;
      let base := (u48 p.params 12, u32 p.params 20);
      q ≤ 287 ∧ u8 p.params 2 ≤ 3 ∧ leNat (bytesAt 3 1 p.params) = 0 ∧ leNat (bytesAt 10 2 p.params) = 0 ∧
      leNat (bytesAt 18 2 p.params) = 0 ∧ cancel = true) ∧
    (∃ (p : Packet) (s₀ s : State), Granted (modCmd 0x0907 24) p s₀ s ∧
      let q := u16 p.params 0;
      let enable := bit (u8 p.params 2) 0;
      let cancel := bit (u8 p.params 2) 1;
      let cycle := u32 p.params 4;
      let base := (u48 p.params 12, u32 p.params 20);
      let g := (s.port q).gates;
      q ≤ 287 ∧ u8 p.params 2 ≤ 3 ∧ leNat (bytesAt 3 1 p.params) = 0 ∧ leNat (bytesAt 10 2 p.params) = 0 ∧
      leNat (bytesAt 18 2 p.params) = 0 ∧ cancel = false ∧ enable = false ∧ (g.pending.isSome = false ∧ g.disable = false) ∧
      g.list.isNone = true) ∧
    (∃ (p : Packet) (s₀ s : State), Granted (modCmd 0x0907 24) p s₀ s ∧
      let q := u16 p.params 0;
      let enable := bit (u8 p.params 2) 0;
      let cancel := bit (u8 p.params 2) 1;
      let cycle := u32 p.params 4;
      let base := (u48 p.params 12, u32 p.params 20);
      let g := (s.port q).gates;
      q ≤ 287 ∧ u8 p.params 2 ≤ 3 ∧ leNat (bytesAt 3 1 p.params) = 0 ∧ leNat (bytesAt 10 2 p.params) = 0 ∧
      leNat (bytesAt 18 2 p.params) = 0 ∧ cancel = false ∧ enable = false ∧ (g.pending.isSome = false ∧ g.disable = false) ∧
      g.list.isNone = false ∧ s.hif.deferred.length < 64) ∧
    (∃ (p : Packet) (s₀ s : State), Granted (modCmd 0x0907 24) p s₀ s ∧
      let q := u16 p.params 0;
      let enable := bit (u8 p.params 2) 0;
      let cancel := bit (u8 p.params 2) 1;
      let cycle := u32 p.params 4;
      let n := u16 p.params 8;
      let base := (u48 p.params 12, u32 p.params 20);
      let g := (s.port q).gates;
      let a := anchor base cycle s;
      let baseNs := base.1 * 1000000000 + base.2;
      let nowNs := s.tim.tod / unitsPerNs;
      q ≤ 287 ∧ u8 p.params 2 ≤ 3 ∧ leNat (bytesAt 3 1 p.params) = 0 ∧ leNat (bytesAt 10 2 p.params) = 0 ∧
      leNat (bytesAt 18 2 p.params) = 0 ∧ cancel = false ∧ enable = true ∧
      (1000 ≤ cycle ∧ cycle ≤ 1000000000 ∧ cycle % 8 = 0) ∧ n ≠ 0 ∧ n ≤ 1024 ∧ base.2 < 1000000000 ∧
      nowNs ≤ baseNs + 2 ^ 32 * cycle ∧ baseNs + a.1 * cycle ≤ nowNs + 1000000000000 ∧
      (g.pending.isSome = false ∧ g.disable = false) ∧ ∃ es, stagedList g n = some es ∧ s.hif.deferred.length < 64) ∧
    (∃ (p : Packet) (s₀ s : State), Granted (readCmd 0x0908 8) p s₀ s ∧
      let kind := u8 p.params 0;
      let first := u16 p.params 2;
      let n := u16 p.params 4;
      kind ≤ 1 ∧ leNat (bytesAt 1 1 p.params) = 0 ∧ first < entityRange kind ∧ n ≠ 0 ∧
      (n ≤ (if fromBmc p then 9 else 169) ∧ first + n ≤ entityRange kind) ∧ leNat (bytesAt 6 2 p.params) = 0) :=
  ⟨⟨pk 0x0901 [0, 0, 0, 0, 238, 5, 0, 0, 0, 0, 0, 0, 63, 0, 0, 0, 0, 0, 0, 0, 1, 1, 1, 1, 1, 1, 1, 1, 0, 0, 0, 0],
      (live .service), _, granted rfl (by decide +kernel), (by decide +kernel)⟩,
    ⟨pk 0x0902 [0, 0, 0, 0, 1, 0, 0, 0, 0, 0, 0, 1, 0, 0, 0, 0, 232, 3, 0, 0, 0, 0, 0, 0, 0, 0, 0, 0, 0, 0, 0, 0, 0, 0, 0, 0, 0, 0, 0, 0],
      (live .service), _, granted rfl (by decide +kernel), (by decide +kernel)⟩,
    ⟨pk 0x0903 [0, 0, 0, 0, 1, 0, 0, 0], (live .service), _, granted rfl (by decide +kernel), (by decide +kernel),
      (by decide +kernel), (by decide +kernel), (by decide +kernel), (by decide +kernel), (by decide +kernel)⟩,
    ⟨pk 0x0904 [1, 0, 0, 0, 0, 0, 0, 0, 0, 0, 0, 0, 0, 0, 0, 0, 0, 0, 0, 0, 0, 0, 0, 0], (live .service), _,
      granted rfl (by decide +kernel), (by decide +kernel)⟩,
    ⟨pk 0x0905 [0, 0, 1, 0, 0, 0, 0, 0], (live .service), _, granted rfl (by decide +kernel), (by decide +kernel)⟩,
    ⟨pk 0x0906 [0, 0, 0, 0, 1, 0, 0, 0, 255, 125, 0, 0], (live .service), _, granted rfl (by decide +kernel),
      (by decide +kernel)⟩,
    ⟨pk 0x0907 [0, 0, 2, 0, 0, 0, 0, 0, 0, 0, 0, 0, 0, 0, 0, 0, 0, 0, 0, 0, 0, 0, 0, 0], (live .service), _,
      granted rfl (by decide +kernel), (by decide +kernel), (by decide +kernel), (by decide +kernel), (by decide +kernel), (by decide +kernel), (by decide +kernel)⟩,
    ⟨pk 0x0907 (List.replicate 24 0), (live .standby), _, granted rfl (by decide +kernel), (by decide +kernel),
      (by decide +kernel), (by decide +kernel), (by decide +kernel), (by decide +kernel), (by decide +kernel),
      (by decide +kernel), (by decide +kernel), (by decide +kernel)⟩,
    ⟨pk 0x0907 [0, 0, 0, 0, 0, 0, 0, 0, 0, 0, 0, 0, 0, 0, 0, 0, 0, 0, 0, 0, 0, 0, 0, 0],
      (modPort 0 (fun x => { x with gates := { x.gates with list := some ⟨[⟨255, 125⟩], 1000, (0, 0), (0, 0), 0⟩ } }) (live .service)),
      _, granted rfl (by decide +kernel), (by decide +kernel), (by decide +kernel), (by decide +kernel), (by decide +kernel),
      (by decide +kernel), (by decide +kernel), (by decide +kernel), (by decide +kernel), (by decide +kernel), (by decide +kernel)⟩,
    ⟨pk 0x0907 [0, 0, 1, 0, 232, 3, 0, 0, 1, 0, 0, 0, 0, 0, 0, 0, 0, 0, 0, 0, 0, 0, 0, 0],
      (modPort 0 (fun x => { x with gates := { x.gates with staged := [(0, ⟨255, 125⟩)] } }) (live .service)), _,
      granted rfl (by decide +kernel), (by decide +kernel), (by decide +kernel), (by decide +kernel), (by decide +kernel),
      (by decide +kernel), (by decide +kernel), (by decide +kernel), (by decide +kernel), (by decide +kernel),
      (by decide +kernel), (by decide +kernel), (by decide +kernel), (by decide +kernel), (by decide +kernel), _, rfl,
      (by decide +kernel)⟩,
    ⟨pk 0x0908 [0, 0, 0, 0, 1, 0, 0, 0], (live .service), _, granted rfl (by decide +kernel), (by decide +kernel),
      (by decide +kernel), (by decide +kernel), (by decide +kernel), (by decide +kernel), (by decide +kernel)⟩⟩

/-- The hypotheses of each clause of `Client_rows_take_their_effect` are met together. -/
theorem witness_Client_rows :
    (∃ (lane : Fin 32) (signalLost : Bool) (s : State), laneOn lane.val s = true) ∧
    (∃ (lane : Fin 32) (s : State),
      let x := s.lane lane.val;
      (laneOn lane.val s = true ∧ x.train = true ∧ x.trained = false) ∧
      let s1 := modLane lane.val (fun y => { y with timedOut := true }) s;
      ∃ c, laneCif lane.val s1 = some c) ∧
    (∃ (lane : Fin 32) (s : State), laneOn lane.val s = true ∧
      let s1 := modLane lane.val (fun x => { x with signal := true, cdr := true, timedOut := false }) (trainLane lane.val s);
      ∃ c, laneCif lane.val s1 = some c) ∧
    (∃ (cif : Fin 32) (pcsLanes : List Nat) (s : State),
      let x := s.cif cif.val;
      (s.cln.powered = true ∧ x.typ ≠ 0 ∧ x.up = false ∧ anyLane cif.val Lane.faulted s = false ∧ anyLane cif.val Lane.diverted s = false)) ∧
    (∃ (cif : Fin 32) (cause : AlignLoss) (s : State), (s.cif cif.val).up = true) ∧
    (∃ (cif : Fin 32) (localFault remoteFault : Bool) (s : State),
      let x := s.cif cif.val;
      (x.up = true ∧ x.typ < 3)) ∧
    (∃ (p : Packet) (s₀ s : State), Granted (modCmd 0x0A01 8) p s₀ s ∧
      let c := u8 p.params 0;
      let n := u8 p.params 1;
      let typ := u8 p.params 2;
      let gen := generation typ (u8 p.params 3) n;
      let busy := cifNamed c s || decide ((s.cif c).loop ≠ 0) || anyLane c (fun l => decide (l.loop ≠ 0) || l.gen || l.check) s;
      c ≤ 31 ∧ typ ≤ 4 ∧ u8 p.params 3 ≤ 4 ∧ u8 p.params 4 ≤ 2 ∧ u8 p.params 5 ≤ 15 ∧ u8 p.params 6 ≤ 15 ∧ busy = false ∧
      typ = 0) ∧
    (∃ (p : Packet) (s₀ s : State), Granted (modCmd 0x0A01 8) p s₀ s ∧
      let c := u8 p.params 0;
      let n := u8 p.params 1;
      let typ := u8 p.params 2;
      let gen := generation typ (u8 p.params 3) n;
      let x : Cif := { Cif.reset with lanes := n, typ := typ, rate := u8 p.params 3, fec := if typ ≤ 2 then u8 p.params 4 else 0, gen := gen.getD 0, group := if typ = 4 then u8 p.params 5 else 0, position := if typ = 4 then u8 p.params 6 else 0 };
      let busy := cifNamed c s || decide ((s.cif c).loop ≠ 0) || anyLane c (fun l => decide (l.loop ≠ 0) || l.gen || l.check) s;
      c ≤ 31 ∧ typ ≤ 4 ∧ u8 p.params 3 ≤ 4 ∧ u8 p.params 4 ≤ 2 ∧ u8 p.params 5 ≤ 15 ∧ u8 p.params 6 ≤ 15 ∧ busy = false ∧
      typ ≠ 0 ∧ (n = 1 ∨ n = 2 ∨ n = 4 ∨ n = 8) ∧ c % n = 0 ∧ gen.isNone = false ∧
      fecAllowed typ (u8 p.params 3) n (u8 p.params 4) = true ∧ flexoBad c x s = false ∧
      (List.range n).any (fun i => (laneCif (c + i) s).isSome) = false ∧ synthClash c x s = false) ∧
    (∃ (p : Packet) (s₀ s : State), Granted (modCmd 0x0A02 8) p s₀ s ∧
      let l := u8 p.params 0;
      let f := u8 p.params 1;
      let gen := (laneCif l s).map (fun c => (s.cif c).gen);
      (∀ chk ∈ [badParam 0 (decide (31 < l)), badParam 1 (decide (15 < f)), badParam 1 (bit f 2 && !(decide (gen = some 0) || decide (gen = some 1)))] ++ tapChecks p.params ++ [reservedBytes p.params 7 1], chk.bad = false)) ∧
    (∃ (p : Packet) (s₀ s : State), Granted { modCmd 0x0A03 4 with maintenance := true } p s₀ s ∧
      let unit := u8 p.params 1;
      u8 p.params 0 ≤ 1 ∧ unit ≤ 31 ∧ u8 p.params 2 ≤ 3 ∧ leNat (bytesAt 3 1 p.params) = 0 ∧
      (if u8 p.params 0 = 0 then (laneCif unit s).isNone = false else (s.cif unit).typ ≠ 0) ∧ u8 p.params 0 = 0) ∧
    (∃ (p : Packet) (s₀ s : State), Granted { modCmd 0x0A03 4 with maintenance := true } p s₀ s ∧
      let unit := u8 p.params 1;
      u8 p.params 0 ≤ 1 ∧ unit ≤ 31 ∧ u8 p.params 2 ≤ 3 ∧ leNat (bytesAt 3 1 p.params) = 0 ∧
      (if u8 p.params 0 = 0 then (laneCif unit s).isNone = false else (s.cif unit).typ ≠ 0) ∧ u8 p.params 0 ≠ 0) ∧
    (∃ (p : Packet) (s₀ s : State), Granted { modCmd 0x0A04 4 with maintenance := true } p s₀ s ∧
      let l := u8 p.params 0;
      let pat := u8 p.params 1;
      let nrz := ((laneCif l s).map (fun c => decide ((s.cif c).gen = 3) || decide ((s.cif c).gen = 4))).getD false;
      l ≤ 31 ∧ (pat ≤ 3 ∧ (2 ≤ pat → nrz = false)) ∧ u8 p.params 2 ≤ 3 ∧ leNat (bytesAt 3 1 p.params) = 0) ∧
    (∃ (p : Packet) (s₀ s : State), Granted (readCmd 0x0A05 4) p s₀ s ∧
      let c := u8 p.params 0;
      c ≤ 31 ∧ leNat (bytesAt 1 3 p.params) = 0 ∧ (s.cif c).typ ≠ 0) :=
  ⟨⟨31, true, (modCif 31 (fun c => { c with typ := 1, lanes := 1 }) { live .service with cln := { ((live .service)).cln with powered := true } }), (by decide +kernel)⟩,
    ⟨31, (modCif 31 (fun c => { c with typ := 1, lanes := 1 }) (modLane 31 (fun x => { x with train := true }) { live .service with cln := { ((live .service)).cln with powered := true } })), (by decide +kernel), _, rfl⟩,
    ⟨31, (modCif 31 (fun c => { c with typ := 1, lanes := 1 }) { live .service with cln := { ((live .service)).cln with powered := true } }), (by decide +kernel), _, rfl⟩,
    ⟨31, [0],
      (modCif 31 (fun c => { c with typ := 1, lanes := 1 }) (modLane 31 (fun x => { x with signal := true, cdr := true }) { live .service with cln := { ((live .service)).cln with powered := true } })),
      (by decide +kernel)⟩,
    ⟨31, .highErrors, (modCif 31 (fun c => { c with typ := 1, lanes := 1, up := true }) (live .service)), (by decide +kernel)⟩,
    ⟨31, true, false, (modCif 31 (fun c => { c with typ := 1, lanes := 1, up := true }) (live .service)), (by decide +kernel)⟩,
    ⟨pk 0x0A01 (List.replicate 8 0), (live .standby), _, granted rfl (by decide +kernel), (by decide +kernel), (by decide +kernel), (by decide +kernel), (by decide +kernel), (by decide +kernel), (by decide +kernel), (by decide +kernel), (by decide +kernel)⟩,
    ⟨pk 0x0A01 [31, 1, 1, 0, 2, 0, 0, 0], (live .service), _, granted rfl (by decide +kernel), (by decide +kernel), (by decide +kernel), (by decide +kernel), (by decide +kernel), (by decide +kernel), (by decide +kernel), (by decide +kernel), (by decide +kernel), (by decide +kernel), (by decide +kernel), (by decide +kernel), (by decide +kernel), (by decide +kernel), (by decide +kernel), (by decide +kernel)⟩,
    ⟨pk 0x0A02 [0, 0, 0, 0, 0, 64, 0, 0], (live .service), _, granted rfl (by decide +kernel), (by decide +kernel)⟩,
    ⟨pk 0x0A03 [0, 0, 1, 0], (modCif 0 (fun c => { c with typ := 1, lanes := 1 }) (live .maintenance)), _,
      granted rfl (by decide +kernel), (by decide +kernel), (by decide +kernel), (by decide +kernel), (by decide +kernel),
      (by decide +kernel), (by decide +kernel)⟩,
    ⟨pk 0x0A03 [1, 0, 3, 0], (modCif 0 (fun c => { c with typ := 1, lanes := 1 }) (live .maintenance)), _,
      granted rfl (by decide +kernel), (by decide +kernel), (by decide +kernel), (by decide +kernel), (by decide +kernel),
      (by decide +kernel), (by decide +kernel)⟩,
    ⟨pk 0x0A04 (List.replicate 4 0), (live .maintenance), _, granted rfl (by decide +kernel), (by decide +kernel),
      (by decide +kernel), (by decide +kernel), (by decide +kernel)⟩,
    ⟨pk 0x0A05 [0, 0, 0, 0], (modCif 0 (fun c => { c with typ := 1, lanes := 1 }) (live .service)), _,
      granted rfl (by decide +kernel), (by decide +kernel), (by decide +kernel), (by decide +kernel)⟩⟩

/-- The hypotheses of each clause of `Peer_rows_take_their_effect` are met together. -/
theorem witness_Peer_rows :
    (∃ (lane : Fin 16) (s : State), plkRunning s = true) ∧
    (∃ (lane : Fin 16) (s : State), plkRunning s = true) ∧
    (∃ (lane : Fin 16) (s : State), plkRunning s = true) ∧
    (∃ (lane : Fin 16) (marker : MarkerIn) (s : State), (plkRunning s = true ∧ (s.peerLane lane.val).cdr = true) ∧
      let gap := behind marker s.plk.firsts;
      let s1 := modPeer lane.val (markerStep lane.val (decide (skewSymbols < gap)) marker) s;
      (markerValid lane.val marker = true ∧ (s1.peerLane lane.val).mkrLock = true ∧ (s1.peerLane lane.val).foundAt = marker.symbol)) ∧
    (∃ (lane : Fin 16) (marker : MarkerIn) (s : State), (plkRunning s = true ∧ (s.peerLane lane.val).cdr = true) ∧
      let gap := behind marker s.plk.firsts;
      let s1 := modPeer lane.val (markerStep lane.val (decide (skewSymbols < gap)) marker) s;
      (markerValid lane.val marker = true → (s1.peerLane lane.val).mkrLock = true → (s1.peerLane lane.val).foundAt ≠ marker.symbol)) ∧
    (∃ (stuffed : List Nat) (s : State), plkRunning s = true) ∧
    (∃ (ready : List TribBlock) (s : State), (plkRunning s = true ∧ s.plk.loop ≠ 3 ∧ s.plk.txStripe = 0)) ∧
    (∃ (ready : List TribBlock) (s : State), (plkRunning s = true ∧ s.plk.loop ≠ 3 ∧ s.plk.txStripe ≠ 0) ∧
      let s1 := accrue (plkApsDue s);
      let owed := (apsOwed s1).filter (fun x => s1.plk.apsDue.contains x.1);
      owed ≠ []) ∧
    (∃ (ready : List TribBlock) (s : State), (plkRunning s = true ∧ s.plk.loop ≠ 3 ∧ s.plk.txStripe ≠ 0) ∧
      let s1 := accrue (plkApsDue s);
      let owed := (apsOwed s1).filter (fun x => s1.plk.apsDue.contains x.1);
      owed = [] ∧ s1.plk.helloReady = true) ∧
    (∃ (ready : List TribBlock) (s : State), (plkRunning s = true ∧ s.plk.loop ≠ 3 ∧ s.plk.txStripe ≠ 0) ∧
      let s1 := accrue (plkApsDue s);
      let owed := (apsOwed s1).filter (fun x => s1.plk.apsDue.contains x.1);
      owed = [] ∧ s1.plk.helloReady = false ∧
      let able := ready.filter (fun b => decide (b.data ≠ []) && (xferChannels s1).any (fun x => x.1 = b.chan));
      let best := able.foldl (fun (m : Option TribBlock) b => match m with | none => some b | some a => if tabGet 0 s1.plk.credit a.chan < tabGet 0 s1.plk.credit b.chan then some b else some a) none;
      ∃ b, best = some b) ∧
    (∃ (ready : List TribBlock) (s : State), (plkRunning s = true ∧ s.plk.loop ≠ 3 ∧ s.plk.txStripe ≠ 0) ∧
      let s1 := accrue (plkApsDue s);
      let owed := (apsOwed s1).filter (fun x => s1.plk.apsDue.contains x.1);
      owed = [] ∧ s1.plk.helloReady = false ∧
      let able := ready.filter (fun b => decide (b.data ≠ []) && (xferChannels s1).any (fun x => x.1 = b.chan));
      let best := able.foldl (fun (m : Option TribBlock) b => match m with | none => some b | some a => if tabGet 0 s1.plk.credit a.chan < tabGet 0 s1.plk.credit b.chan then some b else some a) none;
      best = none) ∧
    (∃ (chan : Fin 256) (block : BlockIn) (s : State), (plkRunning s = true ∧ s.plk.loop ≠ 2)) ∧
    (∃ (chan : Fin 256) (block : BlockIn) (s : State), (plkRunning s = true ∧ s.plk.loop = 2)) ∧
    (∃ (block : BlockIn) (entries : List (Nat × Byte)) (s : State), (plkRunning s = true ∧ s.plk.loop ≠ 2)) ∧
    (∃ (block : BlockIn) (entries : List (Nat × Byte)) (s : State), (plkRunning s = true ∧ s.plk.loop = 2)) ∧
    (∃ (hello : HelloIn) (s : State), (plkRunning s = true ∧ s.plk.loop ≠ 2)) ∧
    (∃ (hello : HelloIn) (s : State), (plkRunning s = true ∧ s.plk.loop = 2)) ∧
    (∃ (b : List Byte) (s : State), blockRight b = false) ∧
    (∃ (b : List Byte) (s : State), blockRight b = true ∧ blockType b = 0) ∧
    (∃ (b : List Byte) (s : State), blockRight b = true ∧ blockType b = 1) ∧
    (∃ (b : List Byte) (s : State), blockRight b = true ∧ blockType b = 2) ∧
    (∃ (b : List Byte) (s : State), blockRight b = true ∧ blockType b = 3) ∧
    (∃ (b : List Byte) (s : State), blockRight b = true ∧ 4 ≤ blockType b) ∧
    (∃ (s : State), plkRunning s = true) ∧
    (∃ (s : State), plkRunning s = true) ∧
    (∃ (s : State), s.plk.state = .up) ∧
    (∃ (p : Packet) (s₀ s : State), Granted (modCmd 0x0B01 4) p s₀ s ∧
      let mask := BitVec.ofNat 16 (u16 p.params 2);
      let en := bit (u8 p.params 0) 0;
      u8 p.params 0 ≤ 3 ∧ u8 p.params 1 ≠ 0 ∧ mask ≠ 0 ∧ (u8 p.params 1 ≤ 16 ∧ u8 p.params 1 ≤ laneCount mask) ∧ en = true) ∧
    (∃ (p : Packet) (s₀ s : State), Granted (modCmd 0x0B01 4) p s₀ s ∧
      let mask := BitVec.ofNat 16 (u16 p.params 2);
      let en := bit (u8 p.params 0) 0;
      u8 p.params 0 ≤ 3 ∧ u8 p.params 1 ≠ 0 ∧ mask ≠ 0 ∧ (u8 p.params 1 ≤ 16 ∧ u8 p.params 1 ≤ laneCount mask) ∧ en = false) ∧
    (∃ (p : Packet) (s₀ s : State), Granted (modCmd 0x0B02 8) p s₀ s ∧
      let f := u8 p.params 1;
      (∀ chk ∈ [badParam 0 (decide (15 < u8 p.params 0)), badParam 1 (decide (15 < f) || bit f 2)] ++ tapChecks p.params ++ [reservedBytes p.params 7 1], chk.bad = false)) ∧
    (∃ (p : Packet) (s₀ s : State), Granted { modCmd 0x0B03 4 with maintenance := true } p s₀ s ∧ u8 p.params 0 ≤ 3 ∧
      leNat (bytesAt 1 3 p.params) = 0) ∧
    (∃ (p : Packet) (s₀ s : State), Granted (readCmd 0x0B04 0) p s₀ s) :=
  ⟨⟨15, { live .service with plk := { (live .service).plk with powered := true, en := true, xferEn := true } },
      (by decide +kernel)⟩,
    ⟨15, { live .service with plk := { (live .service).plk with powered := true, en := true, xferEn := true } },
      (by decide +kernel)⟩,
    ⟨15, { live .service with plk := { (live .service).plk with powered := true, en := true, xferEn := true } },
      (by decide +kernel)⟩,
    ⟨15, ⟨markerA 15 0xFFFF, markerB 15 0xFFFF 0xFFFF 7, 540672⟩, (modPeer 15 (fun x => { x with cdr := true, found := true }) { live .service with plk := { (live .service).plk with powered := true, en := true, xferEn := true } }),
      (by decide +kernel), (by decide +kernel)⟩,
    ⟨15, ⟨markerA 15 0xFFFF, markerB 15 0xFFFF 0xFFFF 7, 540672⟩, (modPeer 15 (fun x => { x with cdr := true }) { live .service with plk := { (live .service).plk with powered := true, en := true, xferEn := true } }),
      (by decide +kernel), (by decide +kernel)⟩,
    ⟨[], { live .service with plk := { (live .service).plk with powered := true, en := true, xferEn := true } },
      (by decide +kernel)⟩,
    ⟨[], { live .service with plk := { (live .service).plk with powered := true, en := true, xferEn := true } }, (by decide +kernel)⟩,
    ⟨[], peered, (by decide +kernel), (by decide +kernel)⟩,
    ⟨[], { live .service with plk := { (live .service).plk with powered := true, en := true, txStripe := 1, helloReady := true } },
      (by decide +kernel), (by decide +kernel), (by decide +kernel)⟩,
    ⟨[⟨0, true, [1]⟩], { peered with plk := { peered.plk with apsSent := [(0, 0)] } }, (by decide +kernel),
      (by decide +kernel), (by decide +kernel), ⟨0, true, [1]⟩, (by decide +kernel)⟩,
    ⟨[⟨0, true, [1]⟩], { live .service with plk := { (live .service).plk with powered := true, en := true, txStripe := 1 } },
      (by decide +kernel), (by decide +kernel), (by decide +kernel), (by decide +kernel)⟩,
    ⟨255, ⟨[]⟩, { live .service with plk := { (live .service).plk with powered := true, en := true, xferEn := true } }, (by decide +kernel)⟩,
    ⟨255, ⟨[]⟩, { live .service with plk := { (live .service).plk with powered := true, en := true, loop := 2 } }, (by decide +kernel)⟩,
    ⟨⟨[]⟩, [(3, 0x41)], { live .service with plk := { (live .service).plk with powered := true, en := true, xferEn := true } }, (by decide +kernel)⟩,
    ⟨⟨[]⟩, [(3, 0x41)], { live .service with plk := { (live .service).plk with powered := true, en := true, loop := 2 } }, (by decide +kernel)⟩,
    ⟨⟨[]⟩, { live .service with plk := { (live .service).plk with powered := true, en := true, xferEn := true } }, (by decide +kernel)⟩,
    ⟨⟨[]⟩, { live .service with plk := { (live .service).plk with powered := true, en := true, loop := 2 } }, (by decide +kernel)⟩,
    ⟨[1], (live .service), (by decide +kernel)⟩,
    ⟨blockBytes 0 0 0 0 0 [], (live .service), (by decide +kernel), (by decide +kernel)⟩,
    ⟨blockBytes 1 0 0 0 0 [], (live .service), (by decide +kernel), (by decide +kernel)⟩,
    ⟨blockBytes 2 0 0 0 0 [], (live .service), (by decide +kernel), (by decide +kernel)⟩,
    ⟨blockBytes 3 0 0 0 0 [], (live .service), (by decide +kernel), (by decide +kernel)⟩,
    ⟨blockBytes 9 0 0 0 0 [], (live .service), (by decide +kernel), (by decide +kernel)⟩,
    ⟨{ live .service with plk := { (live .service).plk with powered := true, en := true, xferEn := true } },
      (by decide +kernel)⟩,
    ⟨{ live .service with plk := { (live .service).plk with powered := true, en := true, xferEn := true } },
      (by decide +kernel)⟩,
    ⟨{ live .service with plk := { (live .service).plk with powered := true, en := true, state := .up } }, (by decide +kernel)⟩,
    ⟨pk 0x0B01 [3, 16, 255, 255], (live .service), _, granted rfl (by decide +kernel), (by decide +kernel),
      (by decide +kernel), (by decide +kernel), (by decide +kernel), (by decide +kernel)⟩,
    ⟨pk 0x0B01 [0, 1, 1, 0], (live .service), _, granted rfl (by decide +kernel), (by decide +kernel), (by decide +kernel),
      (by decide +kernel), (by decide +kernel), (by decide +kernel)⟩,
    ⟨pk 0x0B02 [15, 11, 0, 0, 0, 64, 0, 0], (live .service), _, granted rfl (by decide +kernel), (by decide +kernel)⟩,
    ⟨pk 0x0B03 (List.replicate 4 0), (live .maintenance), _, granted rfl (by decide +kernel), (by decide +kernel),
      (by decide +kernel)⟩,
    ⟨pk 0x0B04 [], (live .standby), _, granted rfl (by decide +kernel)⟩⟩

/-- The hypotheses of each clause of `Monitor_rows_take_their_effect` are met together. -/
theorem witness_Monitor_rows :
    (∃ (ring : RingId) (value : Word) (s : State),
      let v := value.toNat;
      ring = .ptp) ∧
    (∃ (ring : RingId) (value : Word) (s : State),
      let v := value.toNat;
      ∃ c, ring = .monitor c) ∧
    (∃ (ring : RingId) (value : Word) (s : State),
      let v := value.toNat;
      ∃ k, ring = .hka k) ∧
    (∃ (chan : Fin 16) (inputs : List Int) (s : State),
      let x := s.chan chan.val;
      (stopCause chan.val s = 0 ∧ x.running = true) ∧
      let r := x.filter.pass x.chain inputs;
      x.filling = true) ∧
    (∃ (chan : Fin 16) (inputs : List Int) (s : State),
      let x := s.chan chan.val;
      (stopCause chan.val s = 0 ∧ x.running = true) ∧
      let r := x.filter.pass x.chain inputs;
      x.filling = false) ∧
    (∃ (chan : Fin 16) (isRms : Bool) (s : State), isRms = true) ∧
    (∃ (chan : Fin 16) (isRms : Bool) (s : State), isRms = false) ∧
    (∃ (p : Packet) (s₀ s : State), Granted (modCmd 0x0C01 24) p s₀ s ∧
      let c := u8 p.params 0;
      let g := parseChan p.params;
      c ≤ 15 ∧ u8 p.params 1 ≤ 7 ∧ g.source ≤ 10 ∧ (3 ≤ g.n ∧ g.n ≤ 5) ∧ (3 ≤ g.dexp ∧ g.dexp ≤ 12) ∧ (1 ≤ g.m ∧ g.m ≤ 2) ∧
      g.phase ≤ 4095 ∧ (g.bin ≤ 511 ∧ (g.bin = 0 ∨ g.source = 5 ∨ g.source = 6)) ∧ g.attack ≤ 15 ∧ g.release ≤ 15 ∧
      g.pkExp ≤ 20 ∧ g.rmsExp ≤ 20 ∧ leNat (bytesAt 14 2 p.params) = 0 ∧ g.hyst ≤ g.thr ∧ isFsop c s = false ∧
      loadWith c g s ≤ loadLimit) ∧
    (∃ (p : Packet) (s₀ s : State), Granted (modCmd 0x0C02 8) p s₀ s ∧
      let e := u8 p.params 0;
      let k := u8 p.params 1;
      e ≤ 1 ∧ k ≤ 7 ∧ u16 p.params 2 ≠ 0 ∧ u16 p.params 2 ≤ 10000 ∧ u16 p.params 4 < u16 p.params 2 ∧ u8 p.params 6 ≤ 15 ∧
      leNat (bytesAt 7 1 p.params) = 0 ∧ loadFsop e k s ≤ loadLimit) ∧
    (∃ (p : Packet) (s₀ s : State), Granted (readCmd 0x0C03 4) p s₀ s ∧ u8 p.params 0 ≤ 15 ∧ leNat (bytesAt 1 3 p.params) = 0) ∧
    (∃ (p : Packet) (s₀ s : State), Granted (modCmd 0x0C04 16) p s₀ s ∧
      let n := u8 p.params 0;
      let en := bit (u8 p.params 1) 0;
      let base := u64 p.params 4;
      let size := u32 p.params 12;
      n ≤ 17 ∧ u8 p.params 1 ≤ 1 ∧ leNat (bytesAt 2 2 p.params) = 0 ∧ base % 64 = 0 ∧ (en = true → size ≠ 0) ∧
      (en = true → ringSizeOk size = true)) :=
  ⟨⟨.ptp, 0, State.reset, (by decide +kernel)⟩,
    ⟨(.monitor 3), 0, (live .service), 3, (by decide +kernel)⟩,
    ⟨(.hka 1), 0, (live .service), 1, (by decide +kernel)⟩,
    ⟨0, [40000], (modChan 0 (fun x => { x with running := true, filling := true, chain := { x.chain with en := true, source := 1 } }) (modEngine 0 (fun x => { x with state := .locked }) (live .service))),
      (by decide +kernel), (by decide +kernel)⟩,
    ⟨0, [40000], (modChan 0 (fun x => { x with running := true, filling := false, chain := { x.chain with en := true, source := 1 } }) (modEngine 0 (fun x => { x with state := .locked }) (live .service))),
      (by decide +kernel), (by decide +kernel)⟩,
    ⟨0, true, (live .maintenance), (by decide +kernel)⟩,
    ⟨0, false, State.reset, (by decide +kernel)⟩,
    ⟨pk 0x0C01 [15, 0, 1, 3, 12, 1, 0, 0, 0, 0, 0, 0, 0, 0, 0, 0, 0, 0, 1, 0, 1, 0, 0, 0], (live .service), _,
      granted rfl (by decide +kernel), (by decide +kernel), (by decide +kernel), (by decide +kernel), (by decide +kernel),
      (by decide +kernel), (by decide +kernel), (by decide +kernel), (by decide +kernel), (by decide +kernel),
      (by decide +kernel), (by decide +kernel), (by decide +kernel), (by decide +kernel), (by decide +kernel),
      (by decide +kernel), (by decide +kernel)⟩,
    ⟨pk 0x0C02 [1, 7, 16, 39, 15, 39, 0, 0], (live .service), _, granted rfl (by decide +kernel), (by decide +kernel),
      (by decide +kernel), (by decide +kernel), (by decide +kernel), (by decide +kernel), (by decide +kernel),
      (by decide +kernel), (by decide +kernel)⟩,
    ⟨pk 0x0C03 (List.replicate 4 0), (live .standby), _, granted rfl (by decide +kernel), (by decide +kernel),
      (by decide +kernel)⟩,
    ⟨pk 0x0C04 (List.replicate 16 0), (live .standby), _, granted rfl (by decide +kernel), (by decide +kernel),
      (by decide +kernel), (by decide +kernel), (by decide +kernel), (by decide +kernel), (by decide +kernel)⟩⟩

/-- The hypotheses of each clause of `Housekeeping_rows_take_their_effect` are met together. -/
theorem witness_Housekeeping_rows :
    (∃ (sar : Fin 2) (raw : Nat) (ovr : Option Bool) (s : State), (s.sar sar.val).work = .settling) ∧
    (∃ (sar : Fin 2) (raw : Nat) (ovr : Option Bool) (s : State), (s.sar sar.val).work = .injected) ∧
    (∃ (sar : Fin 2) (raw : Nat) (ovr : Option Bool) (s : State), (s.sar sar.val).work = .system) ∧
    (∃ (sar : Fin 2) (raw : Nat) (ovr : Option Bool) (s : State), (s.sar sar.val).work = .regular) ∧
    (∃ (sar : Fin 2) (s : State),
      let x := s.sar sar.val;
      x.seq.en = true ∧ (x.seqLeft.isEmpty = true ∧ x.regAvg.isNone = true)) ∧
    (∃ (sar : Fin 2) (s : State),
      let x := s.sar sar.val;
      x.seq.en = true ∧ (x.seqLeft.isEmpty = true → x.regAvg.isNone = false)) ∧
    (∃ (sar : Fin 2) (s : State), (s.mon.calPeriod ≠ 0 ∧ (s.sar sar.val).started = true ∧ (s.sar sar.val).cal = .none)) ∧
    (∃ (sar : Fin 2) (s : State), (s.sar sar.val).cal = .running) ∧
    (∃ (sar : Fin 2) (s : State), ((s.sar sar.val).cal = .running ∧ (s.sar sar.val).calAbort = true)) ∧
    (∃ (p : Packet) (s₀ s : State),
      Granted { modCmd 0x0C05 0 with lenOk := fun ps => decide (ps.length = 8 + 2 * u8 ps 2) } p s₀ s ∧
      let k := u8 p.params 0;
      let n := u8 p.params 2;
      let es := parseEntries p.params 8 n;
      let q : SeqCfg := ⟨bit (u8 p.params 1) 0, bit (u8 p.params 1) 1, u32 p.params 4, es⟩;
      (∀ chk ∈ [badParam 0 (1 < k), badParam 1 (3 < u8 p.params 1), badLen 2 (n = 0), badParam 2 (16 < n), reservedBytes p.params 3 1, badLen 4 (q.period = 0), badParam 4 (q.period < 10 ∨ 1000000 < q.period)] ++ hkaEntryChecks 8 es, chk.bad = false)) ∧
    (∃ (p : Packet) (s₀ s : State),
      Granted { readCmd 0x0C06 0 with lenOk := fun ps => decide (ps.length = 4 + 2 * u8 ps 2) } p s₀ s ∧
      let k := u8 p.params 0;
      let n := u8 p.params 2;
      let es := parseEntries p.params 4 n;
      let want := (es.map (fun e => 2 ^ e.shift)).foldl (· + ·) 0;
      (∀ chk ∈ [badParam 0 (1 < k), badParam 1 (1 < u8 p.params 1), badLen 2 (n = 0), badParam 2 (4 < n), reservedBytes p.params 3 1] ++ hkaEntryChecks 4 es ++ [failIf .noResource (4 < pendingConversions (s.sar k) + want)], chk.bad = false)) ∧
    (∃ (p : Packet) (s₀ s : State), Granted (modCmd 0x0C07 4) p s₀ s ∧
      let k := u8 p.params 0;
      k ≤ 1 ∧ leNat (bytesAt 1 3 p.params) = 0 ∧ (s.sar k).cal = .none ∧ s.hif.deferred.length < 64) ∧
    (∃ (p : Packet) (s₀ s : State), Granted (modCmd 0x0C08 8) p s₀ s ∧
      let off := s16 p.params 2;
      let gain := s16 p.params 4;
      u8 p.params 0 ≤ 1 ∧ u8 p.params 1 ≤ 15 ∧ off.natAbs ≤ 2048 ∧ gain.natAbs ≤ 4096 ∧ leNat (bytesAt 6 2 p.params) = 0) ∧
    (∃ (p : Packet) (s₀ s : State), Granted (modCmd 0x0C09 4) p s₀ s ∧ u8 p.params 0 ≠ 0 ∧ u8 p.params 0 ≤ 64 ∧
      u8 p.params 1 ≤ 240 ∧ leNat (bytesAt 2 2 p.params) = 0) :=
  ⟨⟨1, 4095, none, (modSar 1 (fun x => { x with work := .settling }) (live .service)), (by decide +kernel)⟩,
    ⟨1, 4095, none, (modSar 1 (fun x => { x with work := .injected }) (live .service)), (by decide +kernel)⟩,
    ⟨1, 4095, none, (modSar 1 (fun x => { x with work := .system }) (live .service)), (by decide +kernel)⟩,
    ⟨1, 4095, none, (modSar 1 (fun x => { x with work := .regular }) (live .service)), (by decide +kernel)⟩,
    ⟨1, (modSar 1 (fun x => { x with seq := ⟨true, false, 10, [⟨3, 0⟩]⟩ }) (live .service)), (by decide +kernel),
      (by decide +kernel)⟩,
    ⟨1, (modSar 1 (fun x => { x with seq := ⟨true, false, 10, [⟨3, 0⟩]⟩, seqLeft := [⟨3, 0⟩] }) (live .service)),
      (by decide +kernel), (fun h => by cases h)⟩,
    ⟨1,
      { modSar 1 (fun x => { x with started := true }) (live .service) with mon := { (modSar 1 (fun x => { x with started := true }) (live .service)).mon with calPeriod := 1 } },
      (by decide +kernel)⟩,
    ⟨1, (modSar 1 (fun x => { x with cal := .running }) (live .service)), (by decide +kernel)⟩,
    ⟨1, (modSar 1 (fun x => { x with cal := .running, calAbort := true }) (live .service)), (by decide +kernel)⟩,
    ⟨pk 0x0C05 [1, 1, 1, 0, 10, 0, 0, 0, 0, 0], (live .service), _, granted rfl (by decide +kernel), (by decide +kernel)⟩,
    ⟨pk 0x0C06 [0, 0, 1, 0, 0, 0], (live .service), _, granted rfl (by decide +kernel), (by decide +kernel)⟩,
    ⟨pk 0x0C07 (List.replicate 4 0), (live .standby), _, granted rfl (by decide +kernel), (by decide +kernel),
      (by decide +kernel), (by decide +kernel), (by decide +kernel)⟩,
    ⟨pk 0x0C08 (List.replicate 8 0), (live .standby), _, granted rfl (by decide +kernel), (by decide +kernel),
      (by decide +kernel), (by decide +kernel), (by decide +kernel), (by decide +kernel)⟩,
    ⟨pk 0x0C09 [64, 240, 0, 0], (live .service), _, granted rfl (by decide +kernel), (by decide +kernel), (by decide +kernel),
      (by decide +kernel), (by decide +kernel)⟩⟩

/-- The hypotheses of each clause of `Thermal_rows_take_their_effect` are met together. -/
theorem witness_Thermal_rows :
    (∃ (readings : List SensorIn) (s : State), (s.pins.vddAon = true ∧ readings.length = 74 ∧ s.clocked = false)) ∧
    (∃ (readings : List SensorIn) (s : State), (s.pins.vddAon = true ∧ readings.length = 74 ∧ s.clocked = true)) ∧
    (∃ (s : State), (s.clocked = true ∧ s.thm.pacing = true)) ∧
    (∃ (s : State), (s.clocked = true ∧ s.thm.coolSince.isNone = false) ∧ (s.dev.mode = .ember ∧ s.thm.latched = false)) ∧
    (∃ (s : State), (s.clocked = true ∧ s.thm.coolSince.isNone = false) ∧ (s.dev.mode = .ember → s.thm.latched = true) ∧
      (s.dev.mode = .lockout ∧ s.thm.trip = true)) ∧
    (∃ (s : State), (s.clocked = true ∧ s.thm.coolSince.isNone = false) ∧ (s.dev.mode = .ember → s.thm.latched = true) ∧
      (s.dev.mode = .lockout → s.thm.trip = false)) ∧
    (∃ (margin : Nat) (s : State), (s.pins.vddAon = true ∧ s.clocked = true)) ∧
    (∃ (p : Packet) (s₀ s : State), Granted (modCmd 0x0D01 4) p s₀ s ∧
      let start := u8 p.params 0;
      let span := u8 p.params 1;
      let trip := u8 p.params 2;
      let floor := u8 p.params 3;
      (85 ≤ start ∧ start ≤ 108) ∧ (2 ≤ span ∧ span ≤ 20) ∧ (100 ≤ trip ∧ trip ≤ 118) ∧ trip ≤ s.thm.tripLimit ∧
      (2 ≤ floor ∧ floor ≤ 12) ∧ start + span ≤ trip) ∧
    (∃ (p : Packet) (s₀ s : State), Granted (readCmd 0x0D02 0) p s₀ s) ∧
    (∃ (p : Packet) (s₀ s : State), Granted (readCmd 0x0D03 4) p s₀ s ∧
      let first := u8 p.params 0;
      let count := u8 p.params 1;
      first ≤ 73 ∧ (count ≠ 0 ∧ (fromBmc p = true → count ≤ 55)) ∧ first + count ≤ 74 ∧ leNat (bytesAt 2 2 p.params) = 0) ∧
    (∃ (p : Packet) (s₀ s : State), Granted (readCmd 0x0D04 0) p s₀ s) ∧
    (∃ (p : Packet) (s₀ s : State), Granted (readCmd 0x0D05 0) p s₀ s) ∧
    (∃ (p : Packet) (s₀ s : State), Granted { modCmd 0x0D06 4 with maintenance := true } p s₀ s ∧
      let fix := u8 p.params 0;
      let v := u16 p.params 2;
      fix ≤ 1 ∧ leNat (bytesAt 1 1 p.params) = 0 ∧ (fix = 1 → v % 25 = 0 ∧ 10 * s.thm.floor ≤ v ∧ v ≤ 8000)) :=
  ⟨⟨(List.replicate 74 ⟨1000, 400⟩), { dark with pins := { dark.pins with vddAon := true } }, (by decide +kernel)⟩,
    ⟨(List.replicate 74 ⟨1000, 400⟩), { live .service with pins := { (live .service).pins with vddAon := true } }, (by decide +kernel)⟩,
    ⟨(modThm (fun t => { t with pacing := true }) (live .service)), (by decide +kernel)⟩,
    ⟨(modThm (fun t => { t with coolSince := some 0 }) (live .ember)), (by decide +kernel), (by decide +kernel)⟩,
    ⟨(modThm (fun t => { t with coolSince := some 0, trip := true }) (live .lockout)), (by decide +kernel),
      (by decide +kernel), (by decide +kernel)⟩,
    ⟨(modThm (fun t => { t with coolSince := some 0, latched := true }) (live .ember)), (by decide +kernel),
      (by decide +kernel), (by decide +kernel)⟩,
    ⟨1, { live .maintenance with pins := { (live .maintenance).pins with vddAon := true } }, (by decide +kernel)⟩,
    ⟨pk 0x0D01 [85, 15, 100, 2], (live .service), _, granted rfl (by decide +kernel), (by decide +kernel), (by decide +kernel),
      (by decide +kernel), (by decide +kernel), (by decide +kernel), (by decide +kernel)⟩,
    ⟨pk 0x0D02 [], (live .standby), _, granted rfl (by decide +kernel)⟩,
    ⟨pk 0x0D03 [73, 1, 0, 0], (live .service), _, granted rfl (by decide +kernel), (by decide +kernel), (by decide +kernel),
      (by decide +kernel), (by decide +kernel)⟩,
    ⟨pk 0x0D04 [], (live .standby), _, granted rfl (by decide +kernel)⟩,
    ⟨pk 0x0D05 [], (live .standby), _, granted rfl (by decide +kernel)⟩,
    ⟨pk 0x0D06 (List.replicate 4 0), (live .maintenance), _, granted rfl (by decide +kernel), (by decide +kernel),
      (by decide +kernel), (by decide +kernel)⟩⟩

/-- The hypotheses of each clause of `Memory_rows_take_their_effect` are met together. -/
theorem witness_Memory_rows :
    (∃ (target : UeTarget) (faulty : Bool) (s : State), s.mi.awaiting.any (fun a => a.1 = target) = true) ∧
    (∃ (cls : Fin 14) (inst row : Nat) (scrub : Bool) (found : CeFound) (s : State),
      (rowLive cls.val inst s = true ∧ isError found cls.val inst row s = true) ∧
      let injected := flipPending cls.val inst row s;
      (isStuck found = true ∧ injected = false)) ∧
    (∃ (cls : Fin 14) (inst row : Nat) (scrub : Bool) (found : CeFound) (s : State),
      (rowLive cls.val inst s = true ∧ isError found cls.val inst row s = true) ∧
      let injected := flipPending cls.val inst row s;
      (isStuck found = true → injected = true)) ∧
    (∃ (cls : Fin 14) (inst row : Nat) (scrub : Bool) (target : UeTarget) (s : State),
      (rowLive cls.val inst s = true ∧ unwritten cls.val inst row s = false) ∧
      (s.memClass cls.val).poisoned.contains (inst, row) = true ∧ scrub = false) ∧
    (∃ (cls : Fin 14) (inst row : Nat) (scrub : Bool) (target : UeTarget) (s : State),
      (rowLive cls.val inst s = true ∧ unwritten cls.val inst row s = false) ∧
      (s.memClass cls.val).poisoned.contains (inst, row) = false) ∧
    (∃ (cls : Fin 14) (s : State), classPowered cls.val s = true) ∧
    (∃ (ok : Bool) (s : State), s.mi.reloading.isNone = false ∧
      let s1 := rebuilt .codePage false { s with mi := { s.mi with reloading := none } };
      (ok = true ∨ resetAllowed s1.dev.mode = false)) ∧
    (∃ (ok : Bool) (s : State), s.mi.reloading.isNone = false ∧
      let s1 := rebuilt .codePage false { s with mi := { s.mi with reloading := none } };
      (ok = false ∧ resetAllowed s1.dev.mode = true)) ∧
    (∃ (tile : Nat) (passed : Bool) (s : State), s.pkt.marching.contains tile = true ∧ passed = true) ∧
    (∃ (tile : Nat) (passed : Bool) (s : State), s.pkt.marching.contains tile = true ∧ passed = false) ∧
    (∃ (cls : Fin 14) (unwritten : Nat) (s : State), ∃ x, (s.memClass cls.val).range = some x) ∧
    (∃ (p : Packet) (s₀ s : State), Granted (modCmd 0x0E01 12) p s₀ s ∧
      let k := u8 p.params 0;
      let x : Scrub := ⟨u16 p.params 2, u32 p.params 4, u32 p.params 8, s.tim.now, 0, 0, 0⟩;
      k ≤ 13 ∧ leNat (bytesAt 1 1 p.params) = 0 ∧ x.inst < classInstances k ∧ x.first + x.count ≤ classRows k ∧ x.count = 0) ∧
    (∃ (p : Packet) (s₀ s : State), Granted (modCmd 0x0E01 12) p s₀ s ∧
      let k := u8 p.params 0;
      let x : Scrub := ⟨u16 p.params 2, u32 p.params 4, u32 p.params 8, s.tim.now, 0, 0, 0⟩;
      k ≤ 13 ∧ leNat (bytesAt 1 1 p.params) = 0 ∧ x.inst < classInstances k ∧ x.first + x.count ≤ classRows k ∧ x.count ≠ 0 ∧
      classPowered k s = true ∧
      ((s.memClass k).range.isSome = false ∧ ((List.range 14).filter (fun j => (s.memClass j).range.isSome)).length < 4) ∧
      s.hif.deferred.length < 64) ∧
    (∃ (p : Packet) (s₀ s : State), Granted (modCmd 0x0E02 4) p s₀ s ∧
      let n := u8 p.params 0;
      n ≠ 0 ∧ n ≤ 168 ∧ leNat (bytesAt 1 3 p.params) = 0) ∧
    (∃ (p : Packet) (s₀ s : State), Granted (modCmd 0x0E03 24) p s₀ s ∧
      let k := u8 p.params 0;
      let mode := u8 p.params 1;
      let inst := u16 p.params 2;
      let row := u32 p.params 4;
      let dm := u64 p.params 8;
      let cm := u8 p.params 16;
      let m := s.dev.mode;
      k ≤ 13 ∧ mode ≤ 2 ∧ (mode = 1 → 3 ≤ k) ∧ (mode = 2 → k = 3) ∧
      (if mode = 2 then inst ≤ 287 else inst < classInstances k) ∧ (mode = 1 → row < classRows k) ∧ (mode = 2 → row ≠ 0) ∧
      (mode = 2 → row ≤ 16) ∧ (mode = 0 → maskBits dm cm ≤ 2) ∧ leNat (bytesAt 17 3 p.params) = 0 ∧
      (mode = 2 → u32 p.params 20 ≠ 0) ∧ (if mode = 0 then m = .standby ∨ ladderActive m = true else m = .maintenance) ∧
      classPowered k s = true ∧ (mode = 2 → portExists inst s = true) ∧ mode = 0) ∧
    (∃ (p : Packet) (s₀ s : State), Granted (modCmd 0x0E03 24) p s₀ s ∧
      let k := u8 p.params 0;
      let mode := u8 p.params 1;
      let inst := u16 p.params 2;
      let row := u32 p.params 4;
      let dm := u64 p.params 8;
      let cm := u8 p.params 16;
      let m := s.dev.mode;
      k ≤ 13 ∧ mode ≤ 2 ∧ (mode = 1 → 3 ≤ k) ∧ (mode = 2 → k = 3) ∧
      (if mode = 2 then inst ≤ 287 else inst < classInstances k) ∧ (mode = 1 → row < classRows k) ∧ (mode = 2 → row ≠ 0) ∧
      (mode = 2 → row ≤ 16) ∧ (mode = 0 → maskBits dm cm ≤ 2) ∧ leNat (bytesAt 17 3 p.params) = 0 ∧
      (mode = 2 → u32 p.params 20 ≠ 0) ∧ (if mode = 0 then m = .standby ∨ ladderActive m = true else m = .maintenance) ∧
      classPowered k s = true ∧ (mode = 2 → portExists inst s = true) ∧ mode ≠ 0 ∧ mode = 1) ∧
    (∃ (p : Packet) (s₀ s : State), Granted (modCmd 0x0E03 24) p s₀ s ∧
      let k := u8 p.params 0;
      let mode := u8 p.params 1;
      let inst := u16 p.params 2;
      let row := u32 p.params 4;
      let dm := u64 p.params 8;
      let cm := u8 p.params 16;
      let m := s.dev.mode;
      k ≤ 13 ∧ mode ≤ 2 ∧ (mode = 1 → 3 ≤ k) ∧ (mode = 2 → k = 3) ∧
      (if mode = 2 then inst ≤ 287 else inst < classInstances k) ∧ (mode = 1 → row < classRows k) ∧ (mode = 2 → row ≠ 0) ∧
      (mode = 2 → row ≤ 16) ∧ (mode = 0 → maskBits dm cm ≤ 2) ∧ leNat (bytesAt 17 3 p.params) = 0 ∧
      (mode = 2 → u32 p.params 20 ≠ 0) ∧ (if mode = 0 then m = .standby ∨ ladderActive m = true else m = .maintenance) ∧
      classPowered k s = true ∧ (mode = 2 → portExists inst s = true) ∧ mode ≠ 0 ∧ mode ≠ 1) ∧
    (∃ (p : Packet) (s₀ s : State), Granted (readCmd 0x0E04 4) p s₀ s ∧
      let first := u16 p.params 0;
      let want := u16 p.params 2;
      let held := s.mi.cinders.length;
      (first ≤ held ∧ (first = held → held = 0)) ∧ (want ≠ 0 ∧ want ≤ (if fromBmc p then 13 else 253))) ∧
    (∃ (p : Packet) (s₀ s : State), Granted (readCmd 0x0E05 4) p s₀ s ∧
      let k := u8 p.params 0;
      k ≤ 13 ∧ leNat (bytesAt 1 3 p.params) = 0) :=
  ⟨⟨(.lane true 15), false,
      { live .service with mi := { ((live .service)).mi with awaiting := [(.lane true 15, (12, (0, 3)))] } },
      (by decide +kernel)⟩,
    ⟨0, 0, 0, true, .bit true, (live .kindling), (by decide +kernel), (by decide +kernel)⟩,
    ⟨0, 0, 0, false, .copies (true, true, false) (false, false, false) false, (live .maintenance), (by decide +kernel), (by decide +kernel)⟩,
    ⟨0, 0, 7, false, .unused, (modClass 0 (fun c => { c with poisoned := [(0, 7)] }) (live .service)), (by decide +kernel),
      (by decide +kernel), (by decide +kernel)⟩,
    ⟨0, 0, 0, true, .unused, (live .kindling), (by decide +kernel), (by decide +kernel)⟩,
    ⟨0, (live .kindling), (by decide +kernel)⟩,
    ⟨true, { live .service with mi := { ((live .service)).mi with reloading := some 4 } }, (by decide +kernel),
      (by decide +kernel)⟩,
    ⟨false, { live .service with mi := { ((live .service)).mi with reloading := some 4 } }, (by decide +kernel),
      (by decide +kernel)⟩,
    ⟨5, true, { live .service with pkt := { ((live .service)).pkt with marching := [5] } }, (by decide +kernel),
      (by decide +kernel)⟩,
    ⟨5, false, { live .service with pkt := { ((live .service)).pkt with marching := [5] } }, (by decide +kernel),
      (by decide +kernel)⟩,
    ⟨13, 0, (modClass 13 (fun c => { c with range := some ⟨0, 0, 1, 0, 0, 0, 0⟩ }) (live .service)), _, rfl⟩,
    ⟨pk 0x0E01 (List.replicate 12 0), (live .standby), _, granted rfl (by decide +kernel), (by decide +kernel),
      (by decide +kernel), (by decide +kernel), (by decide +kernel), (by decide +kernel)⟩,
    ⟨pk 0x0E01 [1, 0, 0, 0, 255, 3, 0, 0, 1, 0, 0, 0], (live .service), _, granted rfl (by decide +kernel),
      (by decide +kernel), (by decide +kernel), (by decide +kernel), (by decide +kernel), (by decide +kernel),
      (by decide +kernel), (by decide +kernel), (by decide +kernel)⟩,
    ⟨pk 0x0E02 [168, 0, 0, 0], (live .service), _, granted rfl (by decide +kernel), (by decide +kernel), (by decide +kernel),
      (by decide +kernel)⟩,
    ⟨pk 0x0E03 (List.replicate 24 0), (live .standby), _, granted rfl (by decide +kernel), (by decide +kernel),
      (by decide +kernel), (by decide +kernel), (by decide +kernel), (by decide +kernel), (by decide +kernel),
      (by decide +kernel), (by decide +kernel), (by decide +kernel), (by decide +kernel), (by decide +kernel),
      (by decide +kernel), (by decide +kernel), (by decide +kernel), (by decide +kernel)⟩,
    ⟨pk 0x0E03 [3, 1, 0, 0, 255, 255, 0, 0, 0, 0, 0, 0, 0, 0, 0, 0, 0, 0, 0, 0, 0, 0, 0, 0],
      { live .maintenance with mi := { ((live .maintenance)).mi with power := 2 } }, _, granted rfl (by decide +kernel),
      (by decide +kernel), (by decide +kernel), (by decide +kernel), (by decide +kernel), (by decide +kernel),
      (by decide +kernel), (by decide +kernel), (by decide +kernel), (by decide +kernel), (by decide +kernel),
      (by decide +kernel), (by decide +kernel), (by decide +kernel), (by decide +kernel), (by decide +kernel),
      (by decide +kernel)⟩,
    ⟨pk 0x0E03 [3, 2, 0, 0, 16, 0, 0, 0, 0, 0, 0, 0, 0, 0, 0, 0, 0, 0, 0, 0, 1, 0, 0, 0],
      { { live .maintenance with map := { ((live .maintenance)).map with plan := [(0, ⟨4, 0, 255, 0, 3, true, false, false, false, 20, 0, 0xFFFFF⟩)] } } with mi := { (({ live .maintenance with map := { ((live .maintenance)).map with plan := [(0, ⟨4, 0, 255, 0, 3, true, false, false, false, 20, 0, 0xFFFFF⟩)] } })).mi with power := 2 } },
      _, granted rfl (by decide +kernel), (by decide +kernel), (by decide +kernel), (by decide +kernel), (by decide +kernel),
      (by decide +kernel), (by decide +kernel), (by decide +kernel), (by decide +kernel), (by decide +kernel),
      (by decide +kernel), (by decide +kernel), (by decide +kernel), (by decide +kernel), (by decide +kernel),
      (by decide +kernel), (by decide +kernel)⟩,
    ⟨pk 0x0E04 [0, 0, 253, 0], (live .service), _, granted rfl (by decide +kernel), (by decide +kernel), (by decide +kernel)⟩,
    ⟨pk 0x0E05 (List.replicate 4 0), (live .standby), _, granted rfl (by decide +kernel), (by decide +kernel),
      (by decide +kernel)⟩⟩

/-- The hypotheses of each clause of `Logbook_rows_take_their_effect` are met together. -/
theorem witness_Logbook_rows :
    (∃ (result : FlashEnd) (s : State), ∃ copyB b r rest, s.log.work = .program copyB b ∧ s.log.queue = r :: rest ∧
      result = .ok ∧ copyB = true) ∧
    (∃ (result : FlashEnd) (s : State), ∃ copyB b r rest, s.log.work = .program copyB b ∧ s.log.queue = r :: rest ∧
      result = .ok ∧ copyB = false) ∧
    (∃ (result : FlashEnd) (s : State), ∃ copyB b r rest, s.log.work = .program copyB b ∧ s.log.queue = r :: rest ∧
      (result = .programFailed ∨ result = .readBackFailed)) ∧
    (∃ (ok : Bool) (s : State), ∃ b role, s.log.work = .erase b role ∧ ok = false) ∧
    (∃ (ok : Bool) (s : State), ∃ b role, s.log.work = .erase b role ∧ ok = true ∧
      let s1 := modLog (fun l => setBlock b (fun x => { x with erases := x.erases + 1, role := .free, pages := 0 }) { l with compacting := if l.compacting = some b then none else l.compacting }) s;
      let s2 := eraseCounted s1;
      20000 ≤ (s2.log.block b).erases) ∧
    (∃ (ok : Bool) (s : State), ∃ b role, s.log.work = .erase b role ∧ ok = true ∧
      let s1 := modLog (fun l => setBlock b (fun x => { x with erases := x.erases + 1, role := .free, pages := 0 }) { l with compacting := if l.compacting = some b then none else l.compacting }) s;
      let s2 := eraseCounted s1;
      (s2.log.block b).erases < 20000 ∧ role = .free) ∧
    (∃ (ok : Bool) (s : State), ∃ b role, s.log.work = .erase b role ∧ ok = true ∧
      let s1 := modLog (fun l => setBlock b (fun x => { x with erases := x.erases + 1, role := .free, pages := 0 }) { l with compacting := if l.compacting = some b then none else l.compacting }) s;
      let s2 := eraseCounted s1;
      (s2.log.block b).erases < 20000 ∧ role ≠ .free) ∧
    (∃ (s : State), s.pins.vddAon = true ∧
      let s0 := advancePs (s.log.lastLife + 1000000000000 - s.tim.now) s;
      let s1 := modLog (fun l => { l with lastLife := s0.tim.now }) s0;
      s1.log.ready = true) ∧
    (∃ (s : State), s.pins.vddAon = true ∧
      let s0 := advancePs (s.log.lastLife + 1000000000000 - s.tim.now) s;
      let s1 := modLog (fun l => { l with lastLife := s0.tim.now }) s0;
      s1.log.ready = false) ∧
    (∃ (s : State), s.log.ready = true) ∧
    (∃ (shifts : List Int) (s : State), (s.log.ready = true ∧ shifts.length = 16)) ∧
    (∃ (s : State), s.log.ready = true) ∧
    (∃ (s : State), (s.log.ready = true ∧ s.log.refresh.isSome = false)) ∧
    (∃ (failed : List Nat) (s : State), (s.log.refresh.isNone = false ∧ s.thm.flashOk = true)) ∧
    (∃ (s : State), s.log.ready = true ∧ (s.thm.flashOk = true ∧ s.log.plan.isNone = true)) ∧
    (∃ (s : State), s.log.ready = true ∧ (s.thm.flashOk = false ∨ s.log.plan.isNone = false)) ∧
    (∃ (s : State), ∃ p, s.log.plan = some p ∧ p.dry = true) ∧
    (∃ (s : State), ∃ p, s.log.plan = some p ∧ p.dry = false ∧ s.log.queue.any (fun r => r.seq = p.seq) = false) ∧
    (∃ (failed : List (Nat × Bool)) (s : State), ∃ x, s.log.exporting = some x) ∧
    (∃ (p : Packet) (s₀ s : State), Granted { readCmd 0x0F01 24 with bmcDenied := true } p s₀ s ∧
      let size := u32 p.params 8;
      (notReady s).bad = false ∧ u64 p.params 0 % 256 = 0 ∧ size ≠ 0 ∧ (size % 256 = 0 ∧ 512 ≤ size) ∧
      leNat (bytesAt 22 2 p.params) = 0 ∧ s.dev.mode ≠ .ember ∧ s.log.exporting.isSome = false ∧ s.hif.deferred.length < 64) ∧
    (∃ (p : Packet) (s₀ s : State), Granted (readCmd 0x0F02 0) p s₀ s ∧ (notReady s).bad = false) ∧
    (∃ (p : Packet) (s₀ s : State), Granted (readCmd 0x0F03 0) p s₀ s ∧ (notReady s).bad = false) ∧
    (∃ (p : Packet) (s₀ s : State), Granted (modCmd 0x0F04 4) p s₀ s ∧
      let dry := u8 p.params 0;
      (notReady s).bad = false ∧ dry ≤ 1 ∧ leNat (bytesAt 1 3 p.params) = 0 ∧ s.log.plan.isSome = false ∧
      (dry = 0 → s.thm.flashOk = true) ∧ s.hif.deferred.length < 64) ∧
    (∃ (p : Packet) (s₀ s : State), Granted { modCmd 0x0F05 0 with lenOk := fun b => decide (4 ≤ b.length) } p s₀ s ∧
      let n := u8 p.params 0;
      (notReady s).bad = false ∧ (n ≠ 0 ∧ n ≤ 200) ∧ p.params.length = 4 + n ∧ leNat (bytesAt 1 3 p.params) = 0 ∧
      queueStuck s.log = false) ∧
    (∃ (p : Packet) (s₀ s : State), Granted (readCmd 0x0F06 0) p s₀ s ∧ (notReady s).bad = false) ∧
    (∃ (p : Packet) (s₀ s : State), Granted (modCmd 0x0F07 0) p s₀ s ∧ (notReady s).bad = false ∧
      (s.log.refresh.isSome = false ∧ hasDeferred 0x0F04 0 s = false) ∧ s.thm.flashOk = true ∧ s.hif.deferred.length < 64) :=
  ⟨⟨.ok,
      (modLog (fun l => { l with work := .program true 0, queue := [{ birthRecord with type := 0x0004, seq := 1, blockA := none, blockB := none }] }) (live .service)),
      _, _, _, _, rfl, rfl, (by decide +kernel), (by decide +kernel)⟩,
    ⟨.ok,
      (modLog (fun l => { l with work := .program false 0, queue := [{ birthRecord with type := 0x0004, seq := 1, blockA := none, blockB := none }] }) (live .service)),
      _, _, _, _, rfl, rfl, (by decide +kernel), (by decide +kernel)⟩,
    ⟨.readBackFailed,
      (modLog (fun l => { l with work := .program true 0, queue := [{ birthRecord with type := 0x0004, seq := 1, blockA := none, blockB := none }] }) (live .service)),
      _, _, _, _, rfl, rfl, (by decide +kernel)⟩,
    ⟨false,
      (modLog (fun l => { l with work := .erase 0 .event, blocks := [(0, ⟨.event, 0, 1, 2, 0, true, false, false⟩)] }) (live .service)),
      _, _, rfl, (by decide +kernel)⟩,
    ⟨true,
      (modLog (fun l => { l with work := .erase 0 .event, blocks := [(0, ⟨.event, 0, 19999, 2, 0, true, false, false⟩)] }) (live .service)),
      _, _, rfl, (by decide +kernel), (by decide +kernel)⟩,
    ⟨true,
      (modLog (fun l => { l with work := .erase 0 .free, blocks := [(0, ⟨.event, 0, 19998, 2, 0, true, false, false⟩)] }) (live .service)),
      _, _, rfl, (by decide +kernel), (by decide +kernel), (by decide +kernel)⟩,
    ⟨true,
      (modLog (fun l => { l with work := .erase 0 .state, blocks := [(0, ⟨.event, 0, 1, 2, 0, true, false, false⟩)] }) (live .service)),
      _, _, rfl, (by decide +kernel), (by decide +kernel), (by decide +kernel)⟩,
    ⟨{ live .service with pins := { (live .service).pins with vddAon := true } }, (by decide +kernel), (by decide +kernel)⟩,
    ⟨{ live .kindling with log := Log.reset, pins := { (live .kindling).pins with vddAon := true } }, (by decide +kernel),
      (by decide +kernel)⟩,
    ⟨(live .standby), (by decide +kernel)⟩,
    ⟨(List.replicate 16 5), (live .service), (by decide +kernel)⟩,
    ⟨(live .standby), (by decide +kernel)⟩,
    ⟨(live .standby), (by decide +kernel)⟩,
    ⟨[3], (modLog (fun l => { l with refresh := some ⟨true⟩ }) (live .service)), (by decide +kernel)⟩,
    ⟨(live .standby), (by decide +kernel), (by decide +kernel)⟩,
    ⟨(modThm (fun t => { t with flashOk := false }) (live .service)), (by decide +kernel), (by decide +kernel)⟩,
    ⟨(modLog (fun l => { l with plan := some ⟨true, true, 1, 650, 0, 700, false, 0, 0, none, none, 0, 0, 0, 0, 9⟩ }) (live .service)),
      _, rfl, (by decide +kernel)⟩,
    ⟨(modLog (fun l => { l with plan := some ⟨false, true, 1, 650, 0, 700, false, 0, 0, none, none, 0, 0, 0, 0, 9⟩ }) (live .service)),
      _, rfl, (by decide +kernel), (by decide +kernel)⟩,
    ⟨[], (modLog (fun l => { l with exporting := some ⟨0, 512, 0, 0, 5⟩ }) (live .service)), _, rfl⟩,
    ⟨pk 0x0F01 [0, 0, 0, 0, 0, 0, 0, 0, 0, 2, 0, 0, 0, 0, 0, 0, 0, 0, 0, 0, 0, 0, 0, 0], (live .service), _,
      granted rfl (by decide +kernel), (by decide +kernel), (by decide +kernel), (by decide +kernel), (by decide +kernel),
      (by decide +kernel), (by decide +kernel), (by decide +kernel), (by decide +kernel)⟩,
    ⟨pk 0x0F02 [], (live .standby), _, granted rfl (by decide +kernel), (by decide +kernel)⟩,
    ⟨pk 0x0F03 [], (live .standby), _, granted rfl (by decide +kernel), (by decide +kernel)⟩,
    ⟨pk 0x0F04 (List.replicate 4 0), (live .standby), _, granted rfl (by decide +kernel), (by decide +kernel),
      (by decide +kernel), (by decide +kernel), (by decide +kernel), (by decide +kernel), (by decide +kernel)⟩,
    ⟨pk 0x0F05 [1, 0, 0, 0, 0], (live .service), _, granted rfl (by decide +kernel), (by decide +kernel), (by decide +kernel),
      (by decide +kernel), (by decide +kernel), (by decide +kernel)⟩,
    ⟨pk 0x0F06 [], (live .standby), _, granted rfl (by decide +kernel), (by decide +kernel)⟩,
    ⟨pk 0x0F07 [], (live .standby), _, granted rfl (by decide +kernel), (by decide +kernel), (by decide +kernel),
      (by decide +kernel), (by decide +kernel)⟩⟩

end Sys2Proof.Tests
end

namespace Sys2Proof.Machine

/-! ### Little-endian fields (R5) -/

/-- Writing a field of `n` bytes and reading it back gives the value modulo the field's width. -/
theorem leNat_leBytes (n v : Nat) : leNat (leBytes n v) = v % 256 ^ n := by
  induction n generalizing v with
  | zero => simp [leBytes, leNat, Nat.mod_one]
  | succ n ih =>
    calc leNat (leBytes (n + 1) v) = v % 256 + 256 * (v / 256 % 256 ^ n) := by simp only [leBytes, leNat, ih, BitVec.toNat_ofNat]
      _ = v % 256 ^ (n + 1) := by rw [Nat.pow_succ', Nat.mod_mul]

/-- Byte `i` of a field holds bits `8 i` to `8 i + 7` of the value. -/
theorem leBytes_getElem? {n i : Nat} (v : Nat) (h : i < n) : (leBytes n v)[i]? = some (BitVec.ofNat 8 (v / 256 ^ i)) := by
  induction n generalizing i v with
  | zero => exact absurd h (Nat.not_lt_zero i)
  | succ n ih =>
    cases i with
    | zero => simp [leBytes]
    | succ i =>
      rw [leBytes, List.getElem?_cons_succ, ih _ (Nat.lt_of_succ_lt_succ h), Nat.div_div_eq_div_mul, Nat.pow_succ']

/-- Settles O17: the bytes of a field are the digits of its value in base 256, least significant first. -/
theorem fieldsAreLittleEndian : Obligations.Fields_are_little_endian :=
  fun n v => ⟨leNat_leBytes n v, fun _ h => leBytes_getElem? v h⟩

/-! ### Register accesses (R10, R29, R91, R107, R108, R483) -/

/-- All that a register write can do (R10, R29): nothing without the crystal, a counted bad access, an MSI-X write, or the write of a
register. -/
theorem execRegisterWrite_eq (src : Writer) (addr width : Nat) (value : Word) (s : State) :
    (s.clocked = false → execRegisterWrite src addr width value s = .next s)
    ∧ (s.clocked = true →
      ((width ≠ 4 ∨ addr % 4 ≠ 0) → execRegisterWrite src addr width value s = .next (countBadAccess s))
      ∧ (width = 4 ∧ addr % 4 = 0 →
        (0x400000 ≤ addr → execRegisterWrite src addr width value s = .next (msixWrite (addr - 0x400000) value.toNat s))
        ∧ (addr < 0x400000 → execRegisterWrite src addr width value s = .next (writeReg src addr value s)))) := by
  unfold execRegisterWrite
  refine ⟨fun hc => by simp [hc], fun hc => ⟨fun hb => by simp [hc, hb], fun hw => ?_⟩⟩
  obtain ⟨h4, ha⟩ := hw
  exact ⟨fun hm => by simp [hc, h4, ha, hm], fun hm => by simp [hc, h4, ha, Nat.not_le.mpr hm]⟩

/-- A read of a low word latches its high word (R483): LOG_SEQ's as it stands, a life counter's from the copy of the last boundary. -/
theorem execLogLoWordRead_eq (counter : Option (Fin 12)) (s : State) :
    (counter = none →
      execLogLoWordRead counter s = .next (modLog (fun l => { l with seqHi := if l.ready then highWord l.seq else 0 }) s))
    ∧ (∀ k, counter = some k →
      execLogLoWordRead counter s = .next (modLog (fun l =>
        { l with lifeHi := tabInsert l.lifeHi k.val (tabGet 0 s.latched (0x50104 + 8 * k.val)) }) s)) := by
  constructor
  · rintro rfl
    rfl
  · rintro k rfl
    rfl

/-- Settles O37: the register write and the latch of the Logbook by their cases, each other row by its one meaning. -/
theorem registerAccessesTakeTheirEffect : Obligations.Register_accesses_take_their_effect := by
  unfold Obligations.Register_accesses_take_their_effect
  refine ⟨execRegisterWrite_eq, ?readClear, ?arrival, ?timeOfDay, execLogLoWordRead_eq, ?snapRequest, ?snapDone, ?q0Set, ?q0Clear,
    ?eqSet, ?eqClear⟩
  case readClear | snapRequest | snapDone => exact fun _ _ => rfl
  case arrival | timeOfDay | q0Set | q0Clear | eqSet | eqClear => exact fun _ => rfl

/-! ### What a step can do to the spine -/

/-- Every row but the three resets of the pins moves the spine at most as R32 and the fuses allow. -/
theorem exec_moves (i : Instr) (s : State) (h : leavesLockout i = false) : OutcomeMoves s (exec i s) := by
  cases i with
  | aonPowerUp => exact moves_of_keeps (execAonPowerUp_keeps ..)
  | aonPowerLoss => exact absurd h nofun
  | resetNLow => exact absurd h nofun
  | pwrOkLow => exact absurd h nofun
  | kindlingStart => exact moves_of_keeps (execKindlingStart_keeps ..)
  | supplyCheckTimeout => exact execSupplyCheckTimeout_moves ..
  | fuseCheckDone => exact execFuseCheckDone_moves ..
  | tcRamTestDone => exact execTcRamTestDone_moves ..
  | tcImageFetchDone => exact moves_of_keeps (execTcImageFetchDone_keeps ..)
  | tcImageCheckDone => exact execTcImageCheckDone_moves ..
  | trustPhaseDone => exact moves_of_keeps (execTrustPhaseDone_keeps ..)
  | acImageFetchDone => exact moves_of_keeps (execAcImageFetchDone_keeps ..)
  | acImageCheckDone => exact moves_of_keeps (execAcImageCheckDone_keeps ..)
  | selftestDone => exact execSelftestDone_moves ..
  | devLoadCtrlGo => exact moves_of_keeps (execDevLoadCtrlGo_keeps ..)
  | modeChangeComplete => exact execModeChangeComplete_moves ..
  | quiesceDrainComplete => exact execQuiesceDrainComplete_moves ..
  | quiesceDrainTimeout => exact execQuiesceDrainTimeout_moves ..
  | acWatchdogExpiry => exact execAcWatchdogExpiry_moves ..
  | tcWatchdogExpiry => exact execTcWatchdogExpiry_moves ..
  | appResetComplete => exact execAppResetComplete_moves ..
  | acResumeAfterEmber => exact execAcResumeAfterEmber_moves ..
  | imageLoadComplete => exact execImageLoadComplete_moves ..
  | devModeSet => exact execDevModeSet_moves ..
  | devAppReset => exact execDevAppReset_moves ..
  | devEngineReset => exact moves_of_keeps (execDevEngineReset_keeps ..)
  | devEmberRelease => exact execDevEmberRelease_moves ..
  | devImageLoad => exact moves_of_keeps (execDevImageLoad_keeps ..)
  | devOpkey => exact moves_of_keeps (execDevOpkey_keeps ..)
  | devAttestQuote => exact moves_of_keeps (execDevAttestQuote_keeps ..)
  | devAttestCert => exact moves_of_keeps (execDevAttestCert_keeps ..)
  | devLockoutDiag => exact moves_of_keeps (execDevLockoutDiag_keeps ..)
  | registerWrite => exact execRegisterWrite_moves ..
  | readClearRegister => exact moves_of_keeps (execReadClearRegister_keeps ..)
  | hifArrivalLoRead => exact moves_of_keeps (execHifArrivalLoRead_keeps ..)
  | timTodSecLoRead => exact moves_of_keeps (execTimTodSecLoRead_keeps ..)
  | cphDctrLoRead => exact moves_of_keeps (execCphDctrLoRead_keeps ..)
  | logLoWordRead => exact moves_of_keeps (execLogLoWordRead_keeps ..)
  | frmPmSelWrite => exact moves_of_keeps (execFrmPmSelWrite_keeps ..)
  | dmaRingHeadWrite => exact moves_of_keeps (execDmaRingHeadWrite_keeps ..)
  | snapRequest => exact moves_of_keeps (execSnapRequest_keeps ..)
  | snapCopyDone => exact moves_of_keeps (execSnapCopyDone_keeps ..)
  | pcieLinkChange => exact moves_of_keeps (execPcieLinkChange_keeps ..)
  | functionLevelReset => exact execFunctionLevelReset_moves ..
  | d3hotEntry => exact moves_of_keeps (execD3hotEntry_keeps ..)
  | d0Return => exact moves_of_keeps (execD0Return_keeps ..)
  | pciePerstFall => exact moves_of_keeps (execPciePerstFall_keeps ..)
  | pciePerstRise => exact moves_of_keeps (execPciePerstRise_keeps ..)
  | hifQ0EnSet => exact moves_of_keeps (execHifQ0EnSet_keeps ..)
  | hifQ0EnClear => exact moves_of_keeps (execHifQ0EnClear_keeps ..)
  | hifEqEnSet => exact moves_of_keeps (execHifEqEnSet_keeps ..)
  | hifEqEnClear => exact moves_of_keeps (execHifEqEnClear_keeps ..)
  | hifSqTailWrite => exact moves_of_keeps (execHifSqTailWrite_keeps ..)
  | hifCqHeadWrite => exact moves_of_keeps (execHifCqHeadWrite_keeps ..)
  | hifEqHeadWrite => exact moves_of_keeps (execHifEqHeadWrite_keeps ..)
  | packetFetchFailed => exact moves_of_keeps (execPacketFetchFailed_keeps ..)
  | undefinedOpcode => exact moves_of_keeps (execUndefinedOpcode_keeps ..)
  | leaseExpiry => exact execLeaseExpiry_moves ..
  | mgmtPacketWrite => exact execMgmtPacketWrite_moves ..
  | mgmtResponseRead => exact moves_of_keeps (execMgmtResponseRead_keeps ..)
  | mgmtStatusRead => exact moves_of_keeps (execMgmtStatusRead_keeps ..)
  | mgmtAvsRead => exact moves_of_keeps (execMgmtAvsRead_keeps ..)
  | mgmtBadSelector => exact moves_of_keeps (execMgmtBadSelector_keeps ..)
  | mgmtBusTimeout => exact moves_of_keeps (execMgmtBusTimeout_keeps ..)
  | hifIdentify => exact moves_of_keeps (execHifIdentify_keeps ..)
  | hifQueueCreate => exact moves_of_keeps (execHifQueueCreate_keeps ..)
  | hifQueueDelete => exact moves_of_keeps (execHifQueueDelete_keeps ..)
  | hifLeaseGrant => exact execHifLeaseGrant_moves ..
  | hifLeaseRevoke => exact execHifLeaseRevoke_moves ..
  | hifLeaseQuery => exact moves_of_keeps (execHifLeaseQuery_keeps ..)
  | hifEventMask => exact moves_of_keeps (execHifEventMask_keeps ..)
  | hifSpiXfer => exact moves_of_keeps (execHifSpiXfer_keeps ..)
  | hifI2cXfer => exact moves_of_keeps (execHifI2cXfer_keeps ..)
  | passthroughXferComplete => exact moves_of_keeps (execPassthroughXferComplete_keeps ..)
  | hifMgmtEventRead => exact moves_of_keeps (execHifMgmtEventRead_keeps ..)
  | hifNop => exact moves_of_keeps (execHifNop_keeps ..)
  | secondBoundary => exact moves_of_keeps (execSecondBoundary_keeps ..)
  | ppsOutPulseEnd => exact moves_of_keeps (execPpsOutPulseEnd_keeps ..)
  | ppsInEdge => exact moves_of_keeps (execPpsInEdge_keeps ..)
  | ppsInMissing => exact moves_of_keeps (execPpsInMissing_keeps ..)
  | ptpUpdateTimeout => exact moves_of_keeps (execPtpUpdateTimeout_keeps ..)
  | slewComplete => exact moves_of_keeps (execSlewComplete_keeps ..)
  | refLost => exact moves_of_keeps (execRefLost_keeps ..)
  | refRestored => exact moves_of_keeps (execRefRestored_keeps ..)
  | synceResumeTimer => exact moves_of_keeps (execSynceResumeTimer_keeps ..)
  | ptpFrameReceived => exact moves_of_keeps (execPtpFrameReceived_keeps ..)
  | ptpFrameSent => exact moves_of_keeps (execPtpFrameSent_keeps ..)
  | snapshotInstant => exact moves_of_keeps (execSnapshotInstant_keeps ..)
  | timGet => exact moves_of_keeps (execTimGet_keeps ..)
  | timSet => exact moves_of_keeps (execTimSet_keeps ..)
  | timAdjust => exact moves_of_keeps (execTimAdjust_keeps ..)
  | timFreqSet => exact moves_of_keeps (execTimFreqSet_keeps ..)
  | timSrcSet => exact moves_of_keeps (execTimSrcSet_keeps ..)
  | timPtpCfg => exact moves_of_keeps (execTimPtpCfg_keeps ..)
  | timPtpRing => exact moves_of_keeps (execTimPtpRing_keeps ..)
  | timPtpSend => exact moves_of_keeps (execTimPtpSend_keeps ..)
  | timSnapshot => exact moves_of_keeps (execTimSnapshot_keeps ..)
  | cnvStepStart => exact moves_of_keeps (execCnvStepStart_keeps ..)
  | cnvSpareSettled => exact moves_of_keeps (execCnvSpareSettled_keeps ..)
  | cnvMatchDone => exact moves_of_keeps (execCnvMatchDone_keeps ..)
  | cnvTrimDone => exact moves_of_keeps (execCnvTrimDone_keeps ..)
  | cnvVerifyDone => exact moves_of_keeps (execCnvVerifyDone_keeps ..)
  | cnvStatsWindowDone => exact moves_of_keeps (execCnvStatsWindowDone_keeps ..)
  | cnvRefreshInterval => exact moves_of_keeps (execCnvRefreshInterval_keeps ..)
  | cnvRefreshComplete => exact moves_of_keeps (execCnvRefreshComplete_keeps ..)
  | cnvFgCalComplete => exact execCnvFgCalComplete_moves ..
  | cnvSliceClockLocked => exact moves_of_keeps (execCnvSliceClockLocked_keeps ..)
  | cnvTsetSaveDue => exact moves_of_keeps (execCnvTsetSaveDue_keeps ..)
  | cnvFgCal => exact moves_of_keeps (execCnvFgCal_keeps ..)
  | cnvRefresh => exact moves_of_keeps (execCnvRefresh_keeps ..)
  | cnvCfgSet => exact moves_of_keeps (execCnvCfgSet_keeps ..)
  | cnvTsetRead => exact moves_of_keeps (execCnvTsetRead_keeps ..)
  | cnvTsetClear => exact moves_of_keeps (execCnvTsetClear_keeps ..)
  | cnvDacCharRead => exact moves_of_keeps (execCnvDacCharRead_keeps ..)
  | cnvLoop => exact moves_of_keeps (execCnvLoop_keeps ..)
  | dspBlockBoundary => exact moves_of_keeps (execDspBlockBoundary_keeps ..)
  | dspLosDeclared => exact moves_of_keeps (execDspLosDeclared_keeps ..)
  | dspLosCleared => exact moves_of_keeps (execDspLosCleared_keeps ..)
  | dspCdFilterSet => exact moves_of_keeps (execDspCdFilterSet_keeps ..)
  | dspClockAcquired => exact moves_of_keeps (execDspClockAcquired_keeps ..)
  | dspEqPreconverged => exact moves_of_keeps (execDspEqPreconverged_keeps ..)
  | dspSyncWordFound => exact moves_of_keeps (execDspSyncWordFound_keeps ..)
  | dspAcqStageTimeout => exact moves_of_keeps (execDspAcqStageTimeout_keeps ..)
  | dspSyncLost => exact moves_of_keeps (execDspSyncLost_keeps ..)
  | dspCdSearchComplete => exact moves_of_keeps (execDspCdSearchComplete_keeps ..)
  | fastsopEntry => exact moves_of_keeps (execFastsopEntry_keeps ..)
  | fastsopHoldExpiry => exact moves_of_keeps (execFastsopHoldExpiry_keeps ..)
  | nlcComputeComplete => exact moves_of_keeps (execNlcComputeComplete_keeps ..)
  | txpdRecomputeComplete e limited => exact moves_of_keeps (execTxpdRecomputeComplete_keeps e limited s)
  | profileSwitchInstant => exact moves_of_keeps (execProfileSwitchInstant_keeps ..)
  | profileTxBoundary => exact moves_of_keeps (execProfileTxBoundary_keeps ..)
  | profileSwitchTimeout => exact moves_of_keeps (execProfileSwitchTimeout_keeps ..)
  | dspProfileSet => exact moves_of_keeps (execDspProfileSet_keeps ..)
  | dspCdSet => exact moves_of_keeps (execDspCdSet_keeps ..)
  | dspEqSet => exact moves_of_keeps (execDspEqSet_keeps ..)
  | dspNlcSet => exact moves_of_keeps (execDspNlcSet_keeps ..)
  | dspRxSet => exact moves_of_keeps (execDspRxSet_keeps ..)
  | dspTxSet => exact moves_of_keeps (execDspTxSet_keeps ..)
  | dspTxRespLoad => exact moves_of_keeps (execDspTxRespLoad_keeps ..)
  | dspFastsopForce => exact moves_of_keeps (execDspFastsopForce_keeps ..)
  | dspTestPattern => exact moves_of_keeps (execDspTestPattern_keeps ..)
  | dspQualityGet => exact moves_of_keeps (execDspQualityGet_keeps ..)
  | fecBlockArrival => exact moves_of_keeps (execFecBlockArrival_keeps ..)
  | fecIterationBoundary => exact moves_of_keeps (execFecIterationBoundary_keeps ..)
  | fecBlockDelivery => exact moves_of_keeps (execFecBlockDelivery_keeps ..)
  | fecKatDue => exact moves_of_keeps (execFecKatDue_keeps ..)
  | fecKatComplete => exact moves_of_keeps (execFecKatComplete_keeps ..)
  | fecWindowEnd => exact moves_of_keeps (execFecWindowEnd_keeps ..)
  | fecCeilingPacingEnd => exact moves_of_keeps (execFecCeilingPacingEnd_keeps ..)
  | coreRetestComplete => exact moves_of_keeps (execCoreRetestComplete_keeps ..)
  | poolSelfcheckComplete => exact moves_of_keeps (execPoolSelfcheckComplete_keeps ..)
  | fecCfgSet => exact moves_of_keeps (execFecCfgSet_keeps ..)
  | fecThrSet => exact moves_of_keeps (execFecThrSet_keeps ..)
  | fecStatsGet => exact moves_of_keeps (execFecStatsGet_keeps ..)
  | fecPoolGet => exact moves_of_keeps (execFecPoolGet_keeps ..)
  | fecCoreRetest => exact moves_of_keeps (execFecCoreRetest_keeps ..)
  | fecErrInject => exact moves_of_keeps (execFecErrInject_keeps ..)
  | frmFrameReceived => exact moves_of_keeps (execFrmFrameReceived_keeps ..)
  | frameBoundary => exact moves_of_keeps (execFrameBoundary_keeps ..)
  | defectDeclared => exact moves_of_keeps (execDefectDeclared_keeps ..)
  | defectCleared => exact moves_of_keeps (execDefectCleared_keeps ..)
  | defectPacingEnd => exact moves_of_keeps (execDefectPacingEnd_keeps ..)
  | frmDefectCfgSet => exact moves_of_keeps (execFrmDefectCfgSet_keeps ..)
  | frmTtiSet => exact moves_of_keeps (execFrmTtiSet_keeps ..)
  | frmTtiGet => exact moves_of_keeps (execFrmTtiGet_keeps ..)
  | frmCaSet => exact moves_of_keeps (execFrmCaSet_keeps ..)
  | frmPmCfgSet => exact moves_of_keeps (execFrmPmCfgSet_keeps ..)
  | frmPmRead => exact moves_of_keeps (execFrmPmRead_keeps ..)
  | frmPmClear => exact moves_of_keeps (execFrmPmClear_keeps ..)
  | frmTcaSet => exact moves_of_keeps (execFrmTcaSet_keeps ..)
  | frmMaintInsert => exact moves_of_keeps (execFrmMaintInsert_keeps ..)
  | mapPlanApply => exact moves_of_keeps (execMapPlanApply_keeps ..)
  | demapperLocked => exact moves_of_keeps (execDemapperLocked_keeps ..)
  | apsHoldoffExpiry => exact moves_of_keeps (execApsHoldoffExpiry_keeps ..)
  | apsWtrExpiry => exact moves_of_keeps (execApsWtrExpiry_keeps ..)
  | apsSelectorSwitch => exact moves_of_keeps (execApsSelectorSwitch_keeps ..)
  | apsPccReceived => exact moves_of_keeps (execApsPccReceived_keeps ..)
  | apsMismatchHeld => exact moves_of_keeps (execApsMismatchHeld_keeps ..)
  | apsPacingEnd => exact moves_of_keeps (execApsPacingEnd_keeps ..)
  | mapPlanBegin => exact moves_of_keeps (execMapPlanBegin_keeps ..)
  | mapPlanLoad => exact moves_of_keeps (execMapPlanLoad_keeps ..)
  | mapPlanCommit => exact moves_of_keeps (execMapPlanCommit_keeps ..)
  | mapPlanAbort => exact moves_of_keeps (execMapPlanAbort_keeps ..)
  | mapPlanGet => exact moves_of_keeps (execMapPlanGet_keeps ..)
  | apsCfgSet => exact moves_of_keeps (execApsCfgSet_keeps ..)
  | apsCmd => exact moves_of_keeps (execApsCmd_keeps ..)
  | apsStatusGet => exact moves_of_keeps (execApsStatusGet_keeps ..)
  | cphTxGroupBoundary => exact moves_of_keeps (execCphTxGroupBoundary_keeps ..)
  | cphRxGroupCheck => exact moves_of_keeps (execCphRxGroupCheck_keeps ..)
  | cphJobComplete => exact moves_of_keeps (execCphJobComplete_keeps ..)
  | epochRebuildComplete => exact moves_of_keeps (execEpochRebuildComplete_keeps ..)
  | cphKeyImport => exact moves_of_keeps (execCphKeyImport_keeps ..)
  | cphKeyAgree => exact moves_of_keeps (execCphKeyAgree_keeps ..)
  | cphKeyErase => exact moves_of_keeps (execCphKeyErase_keeps ..)
  | cphKeyInfo => exact moves_of_keeps (execCphKeyInfo_keeps ..)
  | cphEpochSet => exact moves_of_keeps (execCphEpochSet_keeps ..)
  | cphEpochSwitch => exact moves_of_keeps (execCphEpochSwitch_keeps ..)
  | cphTribSet => exact moves_of_keeps (execCphTribSet_keeps ..)
  | cphTribGet => exact moves_of_keeps (execCphTribGet_keeps ..)
  | cphJobSubmit => exact moves_of_keeps (execCphJobSubmit_keeps ..)
  | cphJobCancel => exact moves_of_keeps (execCphJobCancel_keeps ..)
  | cphCtxSave => exact moves_of_keeps (execCphCtxSave_keeps ..)
  | cphCtxRestore => exact moves_of_keeps (execCphCtxRestore_keeps ..)
  | pktFrameReceived => exact moves_of_keeps (execPktFrameReceived_keeps ..)
  | pktTxOpportunity => exact moves_of_keeps (execPktTxOpportunity_keeps ..)
  | pktFineWheelSlot => exact moves_of_keeps (execPktFineWheelSlot_keeps ..)
  | pktCoarseWheelSlot => exact moves_of_keeps (execPktCoarseWheelSlot_keeps ..)
  | pktGateEntryEnd => exact moves_of_keeps (execPktGateEntryEnd_keeps ..)
  | pktGateCycleStart => exact moves_of_keeps (execPktGateCycleStart_keeps ..)
  | pktGateListStart => exact moves_of_keeps (execPktGateListStart_keeps ..)
  | pktInitComplete => exact moves_of_keeps (execPktInitComplete_keeps ..)
  | configEntryRebuilt => exact moves_of_keeps (execConfigEntryRebuilt_keeps ..)
  | pktPortSet => exact moves_of_keeps (execPktPortSet_keeps ..)
  | pktEntitySet => exact moves_of_keeps (execPktEntitySet_keeps ..)
  | pktEntityGet => exact moves_of_keeps (execPktEntityGet_keeps ..)
  | pktRuleAdd => exact moves_of_keeps (execPktRuleAdd_keeps ..)
  | pktRuleDel => exact moves_of_keeps (execPktRuleDel_keeps ..)
  | pktGateLoad => exact moves_of_keeps (execPktGateLoad_keeps ..)
  | pktGateSet => exact moves_of_keeps (execPktGateSet_keeps ..)
  | pktStatsGet => exact moves_of_keeps (execPktStatsGet_keeps ..)
  | clnLaneFault => exact moves_of_keeps (execClnLaneFault_keeps ..)
  | clnTrainingTimeout => exact moves_of_keeps (execClnTrainingTimeout_keeps ..)
  | clnLaneClean => exact moves_of_keeps (execClnLaneClean_keeps ..)
  | clnCifUp => exact moves_of_keeps (execClnCifUp_keeps ..)
  | plkLaneCdrLocked => exact moves_of_keeps (execPlkLaneCdrLocked_keeps ..)
  | plkDfeConverged => exact moves_of_keeps (execPlkDfeConverged_keeps ..)
  | plkLaneLoss => exact moves_of_keeps (execPlkLaneLoss_keeps ..)
  | plkMarkerReceived => exact moves_of_keeps (execPlkMarkerReceived_keeps ..)
  | plkMarkerPeriodStart stuffed => exact moves_of_keeps (execPlkMarkerPeriodStart_keeps stuffed s)
  | plkBlockTransmit => exact moves_of_keeps (execPlkBlockTransmit_keeps ..)
  | plkTribBlockReceived chan block => exact moves_of_keeps (execPlkTribBlockReceived_keeps chan block s)
  | plkApsBlockReceived block entries => exact moves_of_keeps (execPlkApsBlockReceived_keeps block entries s)
  | plkHelloReceived => exact moves_of_keeps (execPlkHelloReceived_keeps ..)
  | plkHelloTimer => exact moves_of_keeps (execPlkHelloTimer_keeps ..)
  | plkApsRefreshTimer => exact moves_of_keeps (execPlkApsRefreshTimer_keeps ..)
  | plkApsEntryTimeout => exact moves_of_keeps (execPlkApsEntryTimeout_keeps ..)
  | plkHelloTimeout => exact moves_of_keeps (execPlkHelloTimeout_keeps ..)
  | clnCifSet => exact moves_of_keeps (execClnCifSet_keeps ..)
  | clnLaneSet => exact moves_of_keeps (execClnLaneSet_keeps ..)
  | clnLoop => exact moves_of_keeps (execClnLoop_keeps ..)
  | clnPrbs => exact moves_of_keeps (execClnPrbs_keeps ..)
  | clnCifGet => exact moves_of_keeps (execClnCifGet_keeps ..)
  | plkCfgSet => exact moves_of_keeps (execPlkCfgSet_keeps ..)
  | plkLaneSet => exact moves_of_keeps (execPlkLaneSet_keeps ..)
  | plkLoop => exact moves_of_keeps (execPlkLoop_keeps ..)
  | plkStatusGet => exact moves_of_keeps (execPlkStatusGet_keeps ..)
  | monOutputSample => exact moves_of_keeps (execMonOutputSample_keeps ..)
  | monFsopRepeat => exact moves_of_keeps (execMonFsopRepeat_keeps ..)
  | monChainFilled => exact moves_of_keeps (execMonChainFilled_keeps ..)
  | monDetectorWindowEnd => exact moves_of_keeps (execMonDetectorWindowEnd_keeps ..)
  | monRecordWrite => exact moves_of_keeps (execMonRecordWrite_keeps ..)
  | hkaConversionDone => exact moves_of_keeps (execHkaConversionDone_keeps ..)
  | hkaSystemTick => exact moves_of_keeps (execHkaSystemTick_keeps ..)
  | hkaSeqPeriodStart => exact moves_of_keeps (execHkaSeqPeriodStart_keeps ..)
  | hkaCalTimer => exact moves_of_keeps (execHkaCalTimer_keeps ..)
  | hkaCalComplete => exact moves_of_keeps (execHkaCalComplete_keeps ..)
  | hkaCalStepAbort => exact moves_of_keeps (execHkaCalStepAbort_keeps ..)
  | monChSet => exact moves_of_keeps (execMonChSet_keeps ..)
  | monFsopSet => exact moves_of_keeps (execMonFsopSet_keeps ..)
  | monDetGet => exact moves_of_keeps (execMonDetGet_keeps ..)
  | monRingSet => exact moves_of_keeps (execMonRingSet_keeps ..)
  | hkaSeqSet => exact moves_of_keeps (execHkaSeqSet_keeps ..)
  | hkaInject => exact moves_of_keeps (execHkaInject_keeps ..)
  | hkaCal => exact moves_of_keeps (execHkaCal_keeps ..)
  | hkaCorrSet => exact moves_of_keeps (execHkaCorrSet_keeps ..)
  | hkaCfgSet => exact moves_of_keeps (execHkaCfgSet_keeps ..)
  | thmSample => exact execThmSample_moves ..
  | thmLevelPacingEnd => exact moves_of_keeps (execThmLevelPacingEnd_keeps ..)
  | coolingRuleMet => exact execCoolingRuleMet_moves ..
  | avsEvaluation => exact moves_of_keeps (execAvsEvaluation_keeps ..)
  | thmLimitSet => exact moves_of_keeps (execThmLimitSet_keeps ..)
  | thmStatusGet => exact moves_of_keeps (execThmStatusGet_keeps ..)
  | thmSensorGet => exact moves_of_keeps (execThmSensorGet_keeps ..)
  | thmTripGet => exact moves_of_keeps (execThmTripGet_keeps ..)
  | pwrAvsGet => exact moves_of_keeps (execPwrAvsGet_keeps ..)
  | pwrAvsFix => exact moves_of_keeps (execPwrAvsFix_keeps ..)
  | memoryCorrectableError => exact moves_of_keeps (execMemoryCorrectableError_keeps ..)
  | memoryUncorrectableError => exact execMemoryUncorrectableError_moves ..
  | miPatrolRead => exact moves_of_keeps (execMiPatrolRead_keeps ..)
  | acmPageReloadComplete => exact execAcmPageReloadComplete_moves ..
  | wpTileMarchComplete => exact moves_of_keeps (execWpTileMarchComplete_keeps ..)
  | scrubRangeComplete => exact moves_of_keeps (execScrubRangeComplete_keeps ..)
  | miScrubRange => exact moves_of_keeps (execMiScrubRange_keeps ..)
  | miPatrolSet => exact moves_of_keeps (execMiPatrolSet_keeps ..)
  | miFlipTest => exact moves_of_keeps (execMiFlipTest_keeps ..)
  | miCinderRead => exact moves_of_keeps (execMiCinderRead_keeps ..)
  | miClassGet => exact moves_of_keeps (execMiClassGet_keeps ..)
  | flashPageProgrammed => exact moves_of_keeps (execFlashPageProgrammed_keeps ..)
  | flashBlockErased => exact moves_of_keeps (execFlashBlockErased_keeps ..)
  | lifeClockSecond => exact moves_of_keeps (execLifeClockSecond_keeps ..)
  | countersHourlyDue => exact moves_of_keeps (execCountersHourlyDue_keeps ..)
  | ageingDayDue => exact moves_of_keeps (execAgeingDayDue_keeps ..)
  | ageingMonthDue => exact moves_of_keeps (execAgeingMonthDue_keeps ..)
  | logRefreshPassDue => exact moves_of_keeps (execLogRefreshPassDue_keeps ..)
  | logRefreshPassComplete => exact moves_of_keeps (execLogRefreshPassComplete_keeps ..)
  | planYearDue => exact moves_of_keeps (execPlanYearDue_keeps ..)
  | marginPlanComplete => exact moves_of_keeps (execMarginPlanComplete_keeps ..)
  | logExportComplete => exact moves_of_keeps (execLogExportComplete_keeps ..)
  | logExport => exact moves_of_keeps (execLogExport_keeps ..)
  | logCountersGet => exact moves_of_keeps (execLogCountersGet_keeps ..)
  | logPlanGet => exact moves_of_keeps (execLogPlanGet_keeps ..)
  | logPlanRun => exact moves_of_keeps (execLogPlanRun_keeps ..)
  | logNote => exact moves_of_keeps (execLogNote_keeps ..)
  | logAgeingGet => exact moves_of_keeps (execLogAgeingGet_keeps ..)
  | logRefresh => exact moves_of_keeps (execLogRefresh_keeps ..)
  | supplyGroupsWithinRange => exact moves_of_keeps (execSupplyGroupsWithinRange_keeps ..)
  | ppsOutRise => exact moves_of_keeps (execPpsOutRise_keeps ..)
  | crystalLoss => exact moves_of_keeps (execCrystalLoss_keeps ..)
  | pcsAlignmentLost => exact moves_of_keeps (execPcsAlignmentLost_keeps ..)
  | localFaultReceived => exact moves_of_keeps (execLocalFaultReceived_keeps ..)

/-- The spine after a reset of the pins (R42): KINDLING with READY low and the outputs squelched, no change in progress and no lease;
the fuses and the queue stand. -/
def Spine.pinReset (a : Spine) : Spine :=
  { a with mode := .kindling, changing := none, ready := false, squelched := true, leases := [] }

theorem warmReset_spine (s : State) : (warmReset s).spine = s.spine.pinReset := rfl
theorem coldReset_spine (s : State) : (coldReset s).spine = s.spine.pinReset := rfl

theorem leavesLockout_iff (i : Instr) : leavesLockout i = true ↔ i = .aonPowerLoss ∨ i = .resetNLow ∨ i = .pwrOkLow := by
  refine ⟨fun h => ?_, ?_⟩
  · unfold leavesLockout at h
    split at h
    · exact .inl rfl
    · exact .inr (.inl rfl)
    · exact .inr (.inr rfl)
    · exact nomatch h
  · rintro (rfl | rfl | rfl) <;> rfl

/-- A row of the three resets resets, or changes nothing when its pin is low already (R42, R489). -/
theorem exec_pinReset {i : Instr} (s : State) (h : leavesLockout i = true) :
    ∃ t, exec i s = .next t ∧ (t = s ∨ t.spine = s.spine.pinReset) := by
  rcases (leavesLockout_iff i).mp h with rfl | rfl | rfl
  · show ∃ t, execAonPowerLoss s = .next t ∧ _
    unfold execAonPowerLoss
    split
    · exact ⟨_, rfl, .inr (coldReset_spine s)⟩
    · exact ⟨_, rfl, .inl rfl⟩
  · show ∃ t, execResetNLow s = .next t ∧ _
    unfold execResetNLow
    split
    · exact ⟨_, rfl, .inr (warmReset_spine s)⟩
    · exact ⟨_, rfl, .inl rfl⟩
  · show ∃ t, execPwrOkLow s = .next t ∧ _
    unfold execPwrOkLow
    split
    · exact ⟨_, rfl, .inl rfl⟩
    · exact ⟨_, rfl, .inr (warmReset_spine s)⟩

/-- A step takes the front of the queue; beyond that it moves the spine as a row may, or its row is a reset of the pins. -/
theorem step_cases {s t : State} (h : step s = .next t) :
    Moves { s.spine with pending := s.pending.tail } t.spine
    ∨ ∃ i rest, s.pending = i :: rest ∧ leavesLockout i = true ∧ t.spine = { s.spine.pinReset with pending := rest } := by
  unfold step at h
  split at h
  next hp =>
    cases h
    have e : { s.spine with pending := s.pending.tail } = s.spine := by
      rw [hp]
      exact congrArg (fun p => { s.spine with pending := p }) hp.symm
    rw [e, advancePs_spine]
    exact .inl (startHeld_moves s)
  next i rest hp =>
    rw [hp]
    cases hi : leavesLockout i with
    | false =>
      obtain ⟨u, hu, hm⟩ := exec_moves i { s with pending := rest } hi
      cases hu.symm.trans h
      exact .inl hm
    | true =>
      obtain ⟨u, hu, hr⟩ := exec_pinReset { s with pending := rest } hi
      cases hu.symm.trans h
      rcases hr with rfl | hr
      · exact .inl (Moves.refl _)
      · exact .inr ⟨i, rest, rfl, hi, hr⟩

/-! ### The fuses (R1, R41, R89) -/

/-- Settles O16: a row that is no reset moves the spine with the fuses kept and the SVN minima at or above what they were, and a reset
of the pins leaves all four. -/
theorem everyStepKeepsTheFuses : Obligations.Every_step_keeps_the_fuses := by
  intro s t h
  rcases step_cases h with hm | ⟨_, rest, _, _, hr⟩
  · exact ⟨hm.variantN, hm.serial, hm.svnTc, hm.svnAc⟩
  · have hTc : t.dev.svnMinTc = s.dev.svnMinTc := congrArg Spine.svnMinTc hr
    have hAc : t.dev.svnMinAc = s.dev.svnMinAc := congrArg Spine.svnMinAc hr
    exact ⟨congrArg Spine.variantN hr, congrArg Spine.serial hr, Nat.le_of_eq hTc.symm, Nat.le_of_eq hAc.symm⟩

end Sys2Proof.Machine

namespace Sys2Proof.Machine

/-! ### The admission of a frame's tiles (R318) -/

/-- While the reservation lasts, the next tile comes from it. -/
theorem admitTiles_succ_reserved {resF res : Nat} (maxT alpha n sh free : Nat) (h : res < resF) :
    admitTiles resF maxT alpha (n + 1) res sh free
      = (admitTiles resF maxT alpha n (res + 1) sh free).map (fun l => true :: l) :=
  if_pos h

/-- With the reservation used up, an admitted tile is a shared one: there was one free, and the port used fewer than MAX tiles. -/
theorem admitTiles_succ_shared {resF maxT alpha n res sh free : Nat} {l : List Bool} (h : resF ≤ res)
    (hl : admitTiles resF maxT alpha (n + 1) res sh free = some l) :
    1 ≤ free ∧ res + sh < maxT ∧ ∃ l', admitTiles resF maxT alpha n res (sh + 1) (free - 1) = some l' ∧ l = false :: l' := by
  rw [admitTiles, if_neg (Nat.not_lt.mpr h)] at hl
  split at hl
  next hc =>
    obtain ⟨l', hl', rfl⟩ := Option.map_eq_some_iff.mp hl
    exact ⟨hc.1, hc.2.2, l', hl', rfl⟩
  next => exact nomatch hl

/-- Settles O31, by induction on the tiles still to admit: the next one is reserved or shared, and the bounds shift by one with it. -/
theorem admissionTakesTheReservationFirst : Obligations.Admission_takes_the_reservation_first := by
  intro resF maxT alpha n
  induction n with
  | zero =>
    rintro res sh free l ⟨⟩
    simp
  | succ n ih =>
    intro res sh free l h
    rcases Nat.lt_or_ge res resF with hr | hr
    · rw [admitTiles_succ_reserved _ _ _ _ _ hr] at h
      obtain ⟨l', hl', rfl⟩ := Option.map_eq_some_iff.mp h
      obtain ⟨hlist, hfree, hmax⟩ := ih _ _ _ _ hl'
      have hown : min (n + 1) (resF - res) = min n (resF - (res + 1)) + 1 := by omega
      simp only [hown, Nat.add_sub_add_right, List.replicate_succ, List.cons_append, ← hlist]
      exact ⟨trivial, hfree, fun hlt => by have := hmax (by omega); omega⟩
    · obtain ⟨hone, hroom, l', hl', rfl⟩ := admitTiles_succ_shared hr h
      obtain ⟨hlist, hfree, hmax⟩ := ih _ _ _ _ hl'
      have hnone : resF - res = 0 := Nat.sub_eq_zero_of_le hr
      simp only [hnone, Nat.min_zero, List.replicate_zero, List.nil_append, Nat.sub_zero] at hlist hfree hmax ⊢
      refine ⟨by rw [hlist, List.replicate_succ], by omega, fun _ => ?_⟩
      rcases Nat.eq_zero_or_pos n with rfl | hn
      · omega
      · have := hmax hn
        omega

/-! ### Time events (R22, R95 to R98, R103 to R108) -/

/-- An edge of PPS_IN that the servo discards or steps to, or acts on (R95, R96). -/
theorem execPpsInEdge_of_pps {s : State} (h : s.tim.source = .pps) :
    let s1 := applyLabel s
    let q := edgeOffset s1.tim.tod
    let s2 := modTim (fun t => { t with ppsOffset := (q + 2) / 4, quiet := false }) s1
    ((s2.tim.servo = .locked ∧ 4000 < q.natAbs) →
      let n := s2.tim.outliers + 1
      (n < 4 → execPpsInEdge s = .next (modTim (fun t => { t with outliers := n }) s2))
      ∧ (4 ≤ n → execPpsInEdge s = .next (setServo .acquiring (stepTo (nearestSecond s2.tim.tod * unitsPerSecond) s2))))
    ∧ ((s2.tim.servo = .locked → q.natAbs ≤ 4000) →
      let starts := decide (s2.tim.servo = .freerun) || (decide (s2.tim.servo = .holdover) && s2.tim.client)
      let s3 := modTim (servoAct q) (if starts then setServo .acquiring s2 else s2)
      execPpsInEdge s = .next (if s3.tim.servo = .acquiring ∧ 16 ≤ s3.tim.goodPulses then setServo .locked s3 else s3)) := by
  unfold execPpsInEdge
  rw [if_neg (not_not_intro h)]
  refine ⟨fun hout => ⟨fun hn => ?_, fun hn => ?_⟩, fun hin => ?_⟩
  · exact (if_pos hout).trans (if_pos hn)
  · exact (if_pos hout).trans (if_neg (Nat.not_lt.mpr hn))
  · exact if_neg (fun hc => Nat.not_lt.mpr (hin hc.1) hc.2)

/-- Settles O41: each row by the branch of its meaning that its hypotheses choose. -/
theorem timeEventsTakeTheirEffect : Obligations.Time_events_take_their_effect := by
  unfold Obligations.Time_events_take_their_effect
  refine ⟨?second, ?pulseEnd, fun s => execPpsInEdge_of_pps, ?missing, ?ptpTimeout, ?slew, ?lost, ?restored, ?resume,
    ?received, ?sent, ?snapshot, ?rise⟩
  case second =>
    intro m s
    refine ⟨fun hc => if_pos (by simp [hc]), fun hc => if_neg (by simp [hc])⟩
  case pulseEnd | rise => exact fun _ => rfl
  case missing | ptpTimeout => exact fun s h => if_neg (not_not_intro h)
  case slew => exact fun s h => if_neg h
  case lost =>
    rintro ref s ⟨hc, hp⟩
    have hlive : ¬ (!s.clocked || !refPresent ref s.tim) = true := by simp [hc, hp]
    refine ⟨?_, ?_, ?_, ?_⟩ <;> rintro rfl <;> exact if_neg hlive
  case restored =>
    rintro ref s ⟨hc, hp⟩
    have hlive : ¬ (!s.clocked || refPresent ref s.tim) = true := by simp [hc, hp]
    refine ⟨?_, ?_, ?client, ?_⟩
    case client =>
      rintro rfl
      refine ⟨fun hs => (if_neg hlive).trans (if_pos hs), fun hs => ⟨fun hh => ?_, fun hh => ?_⟩⟩
      · exact ((if_neg hlive).trans (if_neg (not_not_intro hs))).trans (if_pos hh)
      · exact ((if_neg hlive).trans (if_neg (not_not_intro hs))).trans (if_neg hh)
    all_goals rintro rfl; exact if_neg hlive
  case resume =>
    rintro o s x ⟨he, hq, hcdr⟩
    exact if_pos (by rw [Bool.and_eq_true, Bool.and_eq_true]; exact ⟨⟨he, hq⟩, hcdr⟩)
  case received =>
    rintro cif esmc transport frame s t ⟨hd, hu⟩
    have hlive : ¬ (!diverted cif.val esmc transport t || !(s.cif cif.val).up) = true := by simp [hd, hu]
    refine ⟨fun hfull => (if_neg hlive).trans (if_pos hfull), fun ⟨hlen, hsize, hroom, hdma⟩ => ?_⟩
    refine (if_neg hlive).trans (if_neg ?_)
    rintro (hc | hc | hc | hc)
    · exact Nat.not_lt.mpr hlen hc
    · exact hsize hc
    · exact hroom hc
    · exact absurd (hdma.symm.trans hc) nofun
  case sent =>
    intro cif m d q s f hf
    have hrow : exec (.ptpFrameSent cif m d q) s = execPtpFrameSent cif m d q s := rfl
    rw [hrow, execPtpFrameSent, hf]
    exact ⟨fun hr => if_pos (by simp [hr]), fun hr => if_neg (by simp [hr])⟩
  case snapshot =>
    intro key s x hx
    show execSnapshotInstant key s = _
    rw [execSnapshotInstant, hx]

/-! ### A granted command whose own part answers at once (R70, R71) -/

@[simp] theorem badParam_bad (off : Nat) (b : Bool) : (badParam off b).bad = b := rfl
@[simp] theorem badLen_bad (off : Nat) (b : Bool) : (badLen off b).bad = b := rfl
@[simp] theorem failIf_bad (st : Status) (b : Bool) : (failIf st b).bad = b := rfl
@[simp] theorem reservedBytes_bad (ps : List Byte) (off n : Nat) :
    (reservedBytes ps off n).bad = decide (leNat (bytesAt off n ps) ≠ 0) := rfl

/-- A granted command whose checks all pass, and which goes on with an answer, is answered so. -/
theorem runCommand_checked {c : CmdInfo} {body : Packet → State → Reply} {p : Packet} {s₀ s t : State} {cs : List Check}
    {st : Status} {resp : List Byte} (h : Granted c p s₀ s) (hbody : body p s = checked s cs (.done st 0xFFFF resp t))
    (hpass : ∀ chk ∈ cs, chk.bad = false) : runCommand c body p s₀ = answered c.opcode p s₀ st resp t := by
  rw [runCommand_granted h, hbody, checked_pass hpass]
  rfl

/-! ### Framing, defects and performance monitoring (R26, R217 to R245) -/

/-- Settles O48: each event by the branch its hypotheses choose, each command by its checks passing. -/
theorem framingRowsTakeTheirEffect : Obligations.Framing_rows_take_their_effect := by
  unfold Obligations.Framing_rows_take_their_effect
  refine ⟨?pmSel, ?frame, ?boundary, ?declared, ?cleared, ?pacing, ?defectCfg, ?ttiSet, ?ttiGet, ?ca, ?pmCfg, ?pmRead, ?pmClear,
    ?tca, ?maint⟩
  case pmSel =>
    rintro w v s (rfl | rfl | rfl) <;> rfl
  case frame =>
    refine fun scope unit f s => ⟨fun h0 hl => ?_, fun h0 => ⟨fun h1 x hx ha => ?_, fun h1 hu => ?_⟩⟩
    · exact (if_pos h0).trans (if_neg (by simpa using hl))
    · refine (if_neg h0).trans ((if_pos h1).trans ?_)
      rw [hx]
      exact if_neg (by simpa using ha)
    · exact (if_neg h0).trans ((if_neg h1).trans (if_neg (by simpa using hu)))
  case boundary =>
    refine fun scope unit m s => ⟨fun h0 hl => ?_, fun h0 => ⟨fun h1 he hm => ?_, fun h1 hu => ?_⟩⟩
    · exact (if_pos h0).trans (if_neg (by simpa using hl))
    · obtain ⟨x, hx⟩ := Option.isSome_iff_exists.mp he
      refine (if_neg h0).trans ((if_pos h1).trans ?_)
      rw [hx]
      exact if_pos hm
    · exact (if_neg h0).trans ((if_neg h1).trans (if_neg (Nat.not_le.mpr hu)))
  case declared | cleared => exact fun _ _ _ _ => rfl
  case pacing =>
    intro scope unit s k u hp
    have hlive : ¬ (!u.pacing) = true := by simp [hp]
    exact ⟨fun hc => (if_neg hlive).trans (if_pos hc), fun hc => (if_neg hlive).trans (if_neg hc)⟩
  case defectCfg =>
    dsimp only
    intro p s₀ s h hscope hcode hunit hset0 hset hclear0 hclear
    refine congrArg _ (runCommand_checked h rfl ?_)
    simpa [hscope, Nat.succ_le_iff] using
      And.intro hcode (And.intro hunit (And.intro hset0 (And.intro hset (And.intro hclear0 hclear))))
  case ttiSet =>
    dsimp only
    intro p s₀ s h hlayer hmode hunit hpresent hflags hres
    exact congrArg _ (runCommand_checked h rfl (by simp [hlayer, hmode, hunit, hpresent, hflags, hres]))
  case ttiGet =>
    dsimp only
    intro p s₀ s h hlayer hres hunit hpresent
    exact congrArg _ (runCommand_checked h rfl (by simp [hlayer, hres, hunit, hpresent]))
  case ca =>
    intro p s₀ s h hunit haction hres
    exact congrArg _ (runCommand_checked h rfl (by simp [hunit, haction, hres]))
  case pmCfg =>
    intro p s₀ s h hthr hres hoffset
    exact congrArg _ (runCommand_checked h rfl (by simp [hthr, hres, hoffset]))
  case pmRead =>
    dsimp only
    intro p s₀ s h hkind hfirst hunit hcount hend hres
    exact congrArg _ (runCommand_checked h rfl (by simpa [hkind, hfirst, hunit, hend, hres] using hcount))
  case pmClear =>
    dsimp only
    intro p s₀ s h hkind hmask hunit
    exact congrArg _ (runCommand_checked h rfl (by simpa [hmask] using And.intro hkind hunit))
  case tca =>
    intro p s₀ s h hkind hperiod hres
    exact congrArg _ (runCommand_checked h rfl (by simp [hkind, hperiod, hres]))
  case maint =>
    dsimp only
    intro p s₀ s h hscope haction hunit hrate
    exact congrArg _ (runCommand_checked h rfl (by simpa [hscope, hunit] using And.intro haction hrate))

end Sys2Proof.Machine

namespace Sys2Proof.Machine

/-! ### The mode, its pins and its changes (R30, R32, R34, R43, R54) -/

/-- Beyond taking the front of the queue, a step moves the spine as a row may, or a reset of the pins was at the front and has left
KINDLING with no change in progress, READY low and the outputs squelched (R42). -/
theorem step_moves_or_resets {s t : State} (h : step s = .next t) :
    Moves { s.spine with pending := s.pending.tail } t.spine
    ∨ (t.dev.mode = .kindling ∧ t.dev.changing = none ∧ t.pins.ready = false ∧ t.pins.squelched = true)
      ∧ ∃ i rest, s.pending = i :: rest ∧ leavesLockout i = true := by
  rcases step_cases h with hm | ⟨i, rest, hp, hi, hr⟩
  · exact .inl hm
  · exact .inr ⟨⟨congrArg Spine.mode hr, congrArg Spine.changing hr, congrArg Spine.ready hr, congrArg Spine.squelched hr⟩,
      i, rest, hp, hi⟩

/-- Settles O12: a row keeps the pins in step with the mode it leaves, and a reset leaves KINDLING with the pins of KINDLING. -/
theorem everyStepKeepsThePinsInStepWithTheMode : Obligations.Every_step_keeps_the_pins_in_step_with_the_mode := by
  intro s t h hs
  rcases step_moves_or_resets h with hm | ⟨⟨hmode, _, hready, hsquelched⟩, _⟩
  · exact hm.pins hs
  · exact ⟨by rw [hready, hmode]; rfl, by rw [hsquelched, hmode]; rfl⟩

/-- Settles O13: a row leaves no change but a commanded one, and a reset leaves none. -/
theorem everyStepKeepsTheChangeCommanded : Obligations.Every_step_keeps_the_change_commanded := by
  intro s t h hs
  rcases step_moves_or_resets h with hm | ⟨⟨_, hnone, _⟩, _⟩
  · exact hm.change hs
  · exact fun c hc => nomatch hnone.symm.trans hc

/-- Settles O14: a row steps the mode as R32 allows, and a reset takes KINDLING, which may follow every mode. -/
theorem everyStepMakesOnlyTheTransitionsOfTheTable : Obligations.Every_step_makes_only_the_transitions_of_the_table := by
  intro s t h hs
  rcases step_moves_or_resets h with hm | ⟨⟨hmode, _⟩, _⟩
  · exact hm.enter hs
  · exact hmode ▸ modeStep_kindling _

/-- Settles O15: every row but the three resets keeps a LOCKOUT in force, and none of these is at the front. -/
theorem lockoutIsLeftByAResetAlone : Obligations.Lockout_is_left_by_a_reset_alone := by
  rintro s t h ⟨hmode, hnone⟩ hfront
  rcases step_moves_or_resets h with hm | ⟨_, i, rest, hp, hi⟩
  · exact hm.lockout hmode hnone
  · exact absurd ((hfront i rest hp).symm.trans hi) nofun

/-! ### Writes to a register marked TC (R48, R431) -/

/-- A record changes the Logbook alone (R462). -/
theorem logRecord_onlyLog (type item : Nat) (payload : List Byte) (s : State) :
    logRecord type item payload s = { s with log := (logRecord type item payload s).log } := by
  unfold logRecord logInjected flashKick
  dsimp only
  split <;> rfl

/-- The registers marked TC are words of BAR0. -/
theorem tcRegisters_aligned {addr : Nat} (h : addr ∈ tcRegisters) : addr % 4 = 0 ∧ addr < 0x400000 := by
  revert addr
  decide

theorem writeReg_tc {addr : Nat} (v : Word) (s : State) (h : addr ∈ tcRegisters) :
    writeReg .tc addr v s = tcWrite addr v.toNat s :=
  if_pos (List.contains_iff_mem.mpr h)

theorem writeReg_refused {src : Writer} {addr : Nat} (v : Word) (s : State) (hsrc : src ≠ .tc) (h : addr ∈ tcRegisters) :
    writeReg src addr v s = refuseTc (decide (src = .host)) addr s := by
  refine (if_pos (List.contains_iff_mem.mpr h)).trans ?_
  cases src with
  | tc => exact absurd rfl hsrc
  | host | ac => rfl

/-- A write to a register marked TC waits for the crystal, and is then a write of the register. -/
theorem exec_registerWrite_tcRegister (src : Writer) {addr : Nat} (v : Word) (s : State) (h : addr ∈ tcRegisters) :
    (s.clocked = false → exec (.registerWrite src addr 4 v) s = .next s)
    ∧ (s.clocked = true → exec (.registerWrite src addr 4 v) s = .next (writeReg src addr v s)) := by
  obtain ⟨halign, hbar⟩ := tcRegisters_aligned h
  obtain ⟨hoff, hon⟩ := execRegisterWrite_eq src addr 4 v s
  exact ⟨hoff, fun hc => ((hon hc).2 ⟨rfl, halign⟩).2 hbar⟩

/-- A refused write leaves what the registers marked TC hold, and is counted for its writer. -/
theorem refuseTc_effect (host : Bool) (addr : Nat) (s : State) :
    (refuseTc host addr s).thm = s.thm ∧ (refuseTc host addr s).fec = s.fec
    ∧ (refuseTc host addr s).dev.svnMinTc = s.dev.svnMinTc ∧ (refuseTc host addr s).dev.svnMinAc = s.dev.svnMinAc
    ∧ (refuseTc host addr s).dev.dropHost = (if host then min 0xFFFF (s.dev.dropHost + 1) else s.dev.dropHost)
    ∧ (refuseTc host addr s).dev.dropAc = (if host then s.dev.dropAc else min 0xFFFF (s.dev.dropAc + 1)) := by
  unfold refuseTc
  dsimp only
  split
  · exact ⟨rfl, rfl, rfl, rfl, rfl, rfl⟩
  · rw [logRecord_onlyLog]
    exact ⟨rfl, rfl, rfl, rfl, rfl, rfl⟩

/-- Settles O25: with the crystal a write by the host or an AC to a register marked TC is refused. -/
theorem tcRegistersRefuseOtherWriters : Obligations.Tc_registers_refuse_other_writers := by
  intro src addr v s hsrc haddr
  obtain ⟨hoff, hon⟩ := exec_registerWrite_tcRegister src v s haddr
  refine ⟨hoff, fun hc => ⟨_, (hon hc).trans (congrArg _ (writeReg_refused v s hsrc haddr)), ?_⟩⟩
  cases src with
  | tc => exact absurd rfl hsrc
  | host => exact refuseTc_effect true addr s
  | ac => exact refuseTc_effect false addr s

/-- The TC's write of PWR_AVS_FLOOR takes a value in its range and drops another (R431). -/
theorem tcWrite_avsFloor (v : Nat) (s : State) :
    tcWrite 0x20304 v s = { s with thm := { s.thm with
      floor := if 650 ≤ v % 1024 ∧ v % 1024 ≤ 800 then v % 1024 else s.thm.floor } } := by
  have hbits : bits v 9 0 = v % 1024 := by simp [bits]
  have hwrite : tcWrite 0x20304 v s
      = if 650 ≤ bits v 9 0 ∧ bits v 9 0 ≤ 800 then modThm (fun t => { t with floor := bits v 9 0 }) s else s := rfl
  rw [hwrite, hbits]
  split <;> rfl

/-- Settles O28: PWR_AVS_FLOOR is a register marked TC; the TC writes it, and the others are refused. -/
theorem avsFloorIsWrittenByTheTCAlone : Obligations.Avs_floor_is_written_by_the_TC_alone := by
  intro v s
  have hreg : 0x20304 ∈ tcRegisters := by decide
  refine ⟨fun hc src => (exec_registerWrite_tcRegister src v s hreg).1 hc, fun hc => ?_, fun hc src hsrc => ?_⟩
  · rw [(exec_registerWrite_tcRegister .tc v s hreg).2 hc, writeReg_tc v s hreg, tcWrite_avsFloor]
  · obtain ⟨_, hrefused⟩ := tcRegistersRefuseOtherWriters src _ v s hsrc hreg
    obtain ⟨t, ht, hthm, _⟩ := hrefused hc
    exact ⟨t, ht, hthm⟩

/-! ### The state after cold reset (R30, R36, R42, R55, R91, R94) -/

/-- No queue pair is enabled at reset: each is absent. -/
theorem reset_queue (n : Nat) : State.reset.queue n = QueuePair.absent := vecGet_replicate 16 QueuePair.absent n

/-- Settles O10: the reset state's fields one by one, and no queue, no key and no plan entry at any index. -/
theorem resetValues : Obligations.Reset_values := by
  refine ⟨⟨rfl, rfl, rfl, rfl, rfl⟩, ⟨rfl, rfl, rfl⟩, ⟨rfl, rfl, rfl, rfl, rfl⟩, fun n => ?_, ⟨rfl, rfl⟩, fun _ => rfl,
    fun _ => rfl⟩
  exact congrArg QueuePair.enabled (reset_queue n)

/-- Settles O11: KINDLING has READY low and the outputs squelched; there is no change and no lease. -/
theorem resetSatisfiesTheInvariants : Obligations.Reset_satisfies_the_invariants :=
  ⟨⟨rfl, rfl⟩, fun _ hc => (nomatch hc), leasesApart_nil⟩

/-! ### Device events (R34, R36, R38, R39, R41, R42, R46, R49, R486, R487, R489) -/

/-- Settles O35: each row by the branch of its meaning that its hypotheses choose. -/
theorem deviceEventsTakeTheirEffect : Obligations.Device_events_take_their_effect := by
  unfold Obligations.Device_events_take_their_effect
  refine ⟨?powerUp, ?powerLoss, ?resetN, ?pwrOk, ?kindling, ?supplyTimeout, ?fuses, ?ramTest, ?tcFetch,
    ?tcCheck, ?trust, ?acFetch, ?acCheck, ?selftest, ?loadGo, ?modeChange, ?drainComplete,
    ?drainTimeout, ?acWatchdog, ?tcWatchdog, ?appReset, ?resume, ?imageLoad, ?supplies⟩
  case powerUp => exact fun _ s h => if_neg (by simp [h])
  case powerLoss | resetN | drainComplete | drainTimeout | tcWatchdog | supplies => exact fun _ h => if_pos h
  case pwrOk => exact fun s h => if_neg (by simp [h])
  case kindling => exact fun _ _ _ s h => if_neg (by simp [h])
  case supplyTimeout | selftest => exact fun s h => if_pos (by simp [h])
  case fuses =>
    intro ok s h
    have hlive : (inPhase 1 s && s.dev.suppliesOk) = true := by simp [h]
    exact ⟨fun hok => (if_pos hlive).trans (if_pos hok), fun hok => (if_pos hlive).trans (if_neg (by simp [hok]))⟩
  case ramTest =>
    exact fun ok s h => ⟨fun hok => (if_pos h).trans (if_pos hok), fun hok => (if_pos h).trans (if_neg (by simp [hok]))⟩
  case tcFetch | acFetch | loadGo => exact fun _ => rfl
  case tcCheck =>
    intro image s h
    have hlive : ¬ (!(inPhase 3 s && s.dev.fetched)) = true := by simp [h]
    refine ⟨fun ha => (if_neg hlive).trans (if_pos ha), fun ha => ?_⟩
    have hrefused : ¬ tcAccepted image s = true := by simp [ha]
    exact ⟨fun ht => (if_neg hlive).trans ((if_neg hrefused).trans (if_pos (by simp [ht]))),
      fun ht => (if_neg hlive).trans ((if_neg hrefused).trans (if_neg (by simpa using ht)))⟩
  case trust => exact fun s h => if_neg (by simp [h])
  case acCheck =>
    intro image s h
    have hlive : ¬ (!(inPhase 5 s && s.dev.fetched)) = true := by simp [h]
    refine ⟨fun hr => ⟨fun hsame => ?_, fun hother => ?_⟩, fun hr => ?_⟩
    · exact (if_neg hlive).trans ((if_pos hr).trans (if_pos hsame))
    · exact (if_neg hlive).trans ((if_pos hr).trans (if_neg (by simpa using hother)))
    · have hboot : ¬ s.dev.appReset.isSome = true := by simp [hr]
      exact ⟨fun ha => (if_neg hlive).trans ((if_neg hboot).trans (if_pos ha)),
        fun ha => (if_neg hlive).trans ((if_neg hboot).trans (if_neg (by simp [ha])))⟩
  case modeChange =>
    intro s c hc
    show execModeChangeComplete s = _
    rw [execModeChangeComplete, hc]
  case acWatchdog =>
    intro ac s h
    have hlive : ¬ s.dev.acHeld = true := by simp [h]
    exact ⟨fun ha => (if_neg hlive).trans (congrArg _ (if_pos ha)),
      fun ha => (if_neg hlive).trans (congrArg _ (if_neg (by simp [ha])))⟩
  case appReset =>
    intro ok s h
    have hlive : ¬ (!(inPhase 6 s && s.dev.appReset.isSome)) = true := by simp [h]
    exact ⟨fun hok => (if_neg hlive).trans (if_pos hok), fun hok => (if_neg hlive).trans (if_neg (by simp [hok]))⟩
  case resume =>
    intro s h
    have hlive : ¬ (s.dev.resumeDue = false ∨ s.dev.mode ≠ .standby ∨ s.dev.changing.isSome = true) := by simp [h]
    exact ⟨fun d hd => (if_neg hlive).trans (by rw [hd]), fun hd => (if_neg hlive).trans (by rw [hd])⟩
  case imageLoad =>
    intro image s x hx
    refine ⟨fun hst => ?_, fun hst => ⟨fun ht => ?_, fun ht => ?_⟩⟩
    all_goals
      show execImageLoadComplete image s = _
      rw [execImageLoadComplete, hx]
    · exact if_pos hst
    · exact (if_neg (not_not_intro hst)).trans (if_pos ht)
    · exact (if_neg (not_not_intro hst)).trans (if_neg ht)

/-! ### The commands of group 0x00 (R32, R43, R44, R50, R52, R53, R428) -/

/-- A granted command whose checks all pass, and which goes on with a deferral that finds room, is answered DEFERRED and begins its
effect (R72, R75). -/
theorem runCommand_checked_later {c : CmdInfo} {body : Packet → State → Reply} {p : Packet} {s₀ s : State} {cs : List Check}
    {unit group code : Nat} {abortPayload : List Byte} {eff : State → State} (h : Granted c p s₀ s)
    (hbody : body p s = checked s cs (.later unit group code abortPayload eff)) (hpass : ∀ chk ∈ cs, chk.bad = false)
    (hroom : s.hif.deferred.length < 64) :
    runCommand c body p s₀ = endOrigin (eff (deferredAs c.opcode p s₀ unit group code abortPayload s)) := by
  rw [runCommand_granted h, hbody, checked_pass hpass]
  exact if_neg (Nat.not_le.mpr hroom)

/-- DEV_MODE_SET to a mode of the table: its checks, then the entry at once or the change begun (R32, R34). -/
theorem replyDevModeSet_of_mode {p : Packet} {s : State} {m : Mode} (hm : modeOf (u8 p.params 0) = some m) :
    replyDevModeSet p s = checked s [failIf .badState (!commanded s.dev.mode m), reservedBytes p.params 1 1,
        badParam 2 (60000 < u16 p.params 2), failIf .busy s.dev.changing.isSome]
      (if immediate s.dev.mode m then Reply.ok (enterMode m .ok s)
       else .later 0 0 1 (modePayload s.dev.mode m .aborted)
        (modDev (fun d => { d with changing := some ⟨m, u16 p.params 2⟩, drain := none }))) := by
  unfold replyDevModeSet
  dsimp only
  rw [hm]

/-- Settles O36: each command's checks pass, and it goes on with its answer or its deferral. -/
theorem deviceCommandsTakeTheirEffect : Obligations.Device_commands_take_their_effect := by
  unfold Obligations.Device_commands_take_their_effect
  refine ⟨?modeSet, ?appReset, ?engineReset, ?emberRelease, ?imageLoad, ?opkey, ?quote, ?cert, ?diag⟩
  case modeSet =>
    intro p s₀ s h m hm hres hdrain hidle hcmd
    have hbody := replyDevModeSet_of_mode (s := s) hm
    refine ⟨fun hi => congrArg Host.Outcome.next (runCommand_checked h (hbody.trans (congrArg (checked s _) (if_pos hi))) ?_),
      fun hi hroom => congrArg Host.Outcome.next
        (runCommand_checked_later h (hbody.trans (congrArg (checked s _) (if_neg (by simp [hi])))) ?_ hroom)⟩
    all_goals simp [hres, hidle, hcmd, hdrain]
  case appReset =>
    exact fun p s₀ s h _ hroom => congrArg Host.Outcome.next (runCommand_checked_later (cs := []) h rfl nofun hroom)
  case engineReset =>
    dsimp only
    intro p s₀ s h he hres
    refine ⟨fun hp hidle hroom => congrArg Host.Outcome.next
        (runCommand_checked_later h (congrArg (checked s _) (if_pos ?_)) ?_ hroom),
      fun hp => congrArg Host.Outcome.next (runCommand_checked h (congrArg (checked s _) (if_neg ?_)) ?_)⟩
    · simp [hp]
    · simp [he, hres, hidle]
    · simp [hp]
    · simp [he, hres, hp]
  case emberRelease =>
    intro p s₀ s h hs
    exact congrArg Host.Outcome.next (runCommand_checked h rfl (by simp [hs]))
  case imageLoad =>
    dsimp only
    intro p s₀ s h hlen htarget hflags hres hidle hwin hroom
    exact congrArg Host.Outcome.next
      (runCommand_checked_later h rfl (by simpa [hlen, htarget, hflags, hres, hidle] using hwin) hroom)
  case opkey =>
    dsimp only
    intro p s₀ s h hop hslot hres2 halg hres5 hpoint hpad hres105 hauth hres113 hlen hfirst hsigned
    have hlater : (u8 p.params 0 ≠ 1 ∨ u8 p.params 112 ≠ 255) → authorised p.params (u8 p.params 112) s = true :=
      fun hn => hsigned (by rcases hn with hn | hn <;> simp [hn])
    refine ⟨fun hsame => congrArg Host.Outcome.next (runCommand_checked h (congrArg (checked s _) (if_pos hsame)) ?_),
      fun hnew => congrArg Host.Outcome.next (runCommand_checked h (congrArg (checked s _) (if_neg hnew)) ?_)⟩
    all_goals
      simpa [hslot, hres2, hres5, hres105, hres113, hlen] using And.intro (Or.resolve_left hop)
        (And.intro halg (And.intro hpoint (And.intro hpad (And.intro hauth (And.intro hfirst hlater)))))
  case quote => exact fun p s₀ s h => congrArg Host.Outcome.next (runCommand_checked (cs := []) h rfl nofun)
  case cert =>
    dsimp only
    intro p s₀ s h hn hoff
    exact congrArg Host.Outcome.next (runCommand_checked h rfl (by simp [hoff, hn]))
  case diag => exact fun p s₀ s h _ => congrArg Host.Outcome.next (runCommand_checked (cs := []) h rfl nofun)

end Sys2Proof.Machine

namespace Sys2Proof.Machine

/-! ### The leases at every step (R81, R84) -/

/-- Settles O23: a row leaves the leases apart, and a reset of the pins leaves none. -/
theorem everyStepKeepsTheLeasesApart : Obligations.Every_step_keeps_the_leases_apart := by
  intro s t h hs
  rcases step_cases h with hm | ⟨_, _, _, _, hr⟩
  · exact hm.leases hs
  · have hnone : t.hif.leases = [] := congrArg Spine.leases hr
    exact hnone ▸ leasesApart_nil

/-! ### The command rows and the pipeline (R66, R67, R70, R71, R86) -/

/-- A command row runs the pipeline on its own part. -/
theorem exec_of_commandOf {i : Instr} {c : CmdInfo} {body : Packet → State → Reply} {p : Packet}
    (h : commandOf i = some (c, body, p)) (s : State) : exec i s = .next (runCommand c body p s) := by
  cases i <;> cases h <;> rfl

/-- The management port finds under the opcode of a command row the meaning of that row. -/
theorem runnerOf_of_commandOf {i : Instr} {c : CmdInfo} {body : Packet → State → Reply} {p : Packet}
    (h : commandOf i = some (c, body, p)) (s : State) : runnerOf c.opcode p s = exec i s := by
  cases i <;> cases h <;> rfl

/-- Settles O6: R74 numbers the rows as the port's tables list their meanings. -/
theorem managementPortRunsTheSameCommands : Obligations.Management_port_runs_the_same_commands :=
  fun _ _ _ _ s h => runnerOf_of_commandOf h s

/-- INTEGRITY is the admission's answer to a wrong CRC alone. -/
theorem admission_eq_integrity_iff (c : CmdInfo) (p : Packet) (s : State) :
    admission c p s = .integrity ↔ packetCrcOk c.opcode p = false := by
  unfold admission
  cases packetCrcOk c.opcode p with
  | false => simp
  | true =>
    refine iff_of_false ?_ nofun
    rw [if_neg (by simp)]
    repeat' split
    all_goals nofun

/-- The pipeline where the device does not start the packet. -/
theorem runCommand_notStarted {c : CmdInfo} {p : Packet} {s : State} (body : Packet → State → Reply)
    (h : startable p s = false) : runCommand c body p s = notStarted c.opcode p s :=
  if_pos (by simp [h])

/-- The pipeline where the kept response stands. -/
theorem runCommand_retry {c : CmdInfo} {p : Packet} {s : State} (body : Packet → State → Reply) (h : startable p s = true)
    (hr : isRetry p s = true) :
    runCommand c body p s = { s with hif := { s.hif with mgmt := { s.hif.mgmt with state := 2 } } } :=
  (if_neg (by simp [h])).trans (if_pos hr)

/-- The pipeline where the steps 1 to 8 of R71 reject the packet: their first fault answers, and a bad CRC is counted. -/
theorem runCommand_rejected {c : CmdInfo} {p : Packet} {s : State} (body : Packet → State → Reply) (h : startable p s = true)
    (hr : isRetry p s = false) (ha : admission c p (takePacket p s) ≠ .ok) :
    runCommand c body p s = answered c.opcode p s (admission c p (takePacket p s)) []
      (if admission c p (takePacket p s) = .integrity then countBadCrc (takePacket p s) else takePacket p s) := by
  rcases runCommand_cases c body p s with ⟨h', _⟩ | ⟨_, hr', _⟩ | ⟨_, _, hi, e⟩ | ⟨_, _, _, hi, e⟩ | ⟨_, _, _, hok⟩
  · exact nomatch h.symm.trans h'
  · exact nomatch hr.symm.trans hr'
  · rw [e, hi]
    rfl
  · rw [e, if_neg hi]
    rfl
  · exact absurd hok ha

/-- Settles O4: a command row is the pipeline, whose four cases the hypotheses choose among. -/
theorem commandRowsRunThroughThePipeline : Obligations.Command_rows_run_through_the_pipeline := by
  intro i c body p s hi
  rw [exec_of_commandOf hi]
  refine ⟨fun h => congrArg _ (runCommand_notStarted body h), fun h hr => congrArg _ (runCommand_retry body h hr),
    fun h hr => ?_⟩
  refine ⟨fun hcrc => ?badCrc, fun hcrc ha => ?fault, fun ha => congrArg _ (runCommand_granted ⟨h, hr, rfl, ha⟩)⟩
  case badCrc =>
    have hint := (admission_eq_integrity_iff c p (takePacket p s)).mpr hcrc
    rw [runCommand_rejected body h hr (by rw [hint]; nofun), hint]
    rfl
  case fault =>
    have hint : admission c p (takePacket p s) ≠ .integrity := fun hint =>
      nomatch hcrc.symm.trans ((admission_eq_integrity_iff c p (takePacket p s)).mp hint)
    rw [runCommand_rejected body h hr ha, if_neg hint]

/-! ### A refused command (R70, R72) -/

/-- R70: a command is executed when its status is OK, DEFERRED or PARTIAL. -/
def Status.Executes (st : Status) : Prop := st = .ok ∨ st = .deferred ∨ st = .partly

/-- A command's own part that answers at once with a status that does not execute it has left the state as it was, but for the
model's count of free values. -/
def Reply.RefusesUnchanged (s : State) : Reply → Prop
  | .done st _ _ t => st.Executes ∨ t = { s with freeCount := t.freeCount }
  | .later .. | .laterWith .. | .wait .. => True

theorem Reply.refusesUnchanged_ok (s t : State) : (Reply.ok t).RefusesUnchanged s := .inl (.inl rfl)
theorem Reply.refusesUnchanged_answer (resp : List Byte) (s t : State) : (Reply.answer resp t).RefusesUnchanged s :=
  .inl (.inl rfl)
theorem Reply.refusesUnchanged_fail (st : Status) (s : State) : (Reply.fail st s).RefusesUnchanged s := .inr rfl
theorem Reply.refusesUnchanged_failAt (st : Status) (off : Nat) (s : State) : (Reply.failAt st off s).RefusesUnchanged s :=
  .inr rfl

theorem checked_refusesUnchanged {s : State} {cs : List Check} {r : Reply} (h : r.RefusesUnchanged s) :
    (checked s cs r).RefusesUnchanged s := by
  rcases checked_cases s cs r with ⟨_, e⟩ | ⟨_, _, _, e⟩ <;> rw [e]
  · exact h
  · exact Reply.refusesUnchanged_failAt ..

theorem ite_refusesUnchanged {s : State} {c : Prop} [Decidable c] {r r' : Reply} (h : r.RefusesUnchanged s)
    (h' : r'.RefusesUnchanged s) : (if c then r else r').RefusesUnchanged s := by
  split
  · exact h
  · exact h'

/-- The shapes of a command's own part: its checks, then OK, OK with a response, or a deferral. -/
theorem checked_ok_refusesUnchanged {s t : State} {cs : List Check} : (checked s cs (.ok t)).RefusesUnchanged s :=
  checked_refusesUnchanged (Reply.refusesUnchanged_ok s t)

theorem checked_answer_refusesUnchanged {s t : State} {cs : List Check} {resp : List Byte} :
    (checked s cs (.answer resp t)).RefusesUnchanged s :=
  checked_refusesUnchanged (Reply.refusesUnchanged_answer resp s t)

theorem checked_later_refusesUnchanged {s : State} {cs : List Check} {unit group code : Nat} {ab : List Byte}
    {eff : State → State} : (checked s cs (.later unit group code ab eff)).RefusesUnchanged s :=
  checked_refusesUnchanged trivial

/-- A key command answers at once or waits for the Logbook. -/
theorem durable_refusesUnchanged (vol : Bool) (resp : List Byte) (s t : State) : (durable vol resp t).RefusesUnchanged s :=
  ite_refusesUnchanged (Reply.refusesUnchanged_answer ..) trivial

theorem replyDevModeSet_refusesUnchanged (p : Packet) (s : State) : (replyDevModeSet p s).RefusesUnchanged s := by
  unfold replyDevModeSet
  dsimp only
  split
  · exact Reply.refusesUnchanged_failAt ..
  · exact checked_refusesUnchanged (ite_refusesUnchanged (Reply.refusesUnchanged_ok ..) trivial)

theorem replyDspProfileSet_refusesUnchanged (p : Packet) (s : State) : (replyDspProfileSet p s).RefusesUnchanged s :=
  checked_refusesUnchanged (ite_refusesUnchanged (Reply.refusesUnchanged_ok ..)
    (checked_refusesUnchanged (ite_refusesUnchanged (Reply.refusesUnchanged_ok ..) trivial)))

theorem replyDspCdSet_refusesUnchanged (p : Packet) (s : State) : (replyDspCdSet p s).RefusesUnchanged s :=
  checked_refusesUnchanged (ite_refusesUnchanged (Reply.refusesUnchanged_ok ..)
    (ite_refusesUnchanged trivial (Reply.refusesUnchanged_ok ..)))

/-- A command on the working switch of a protection group: a group that is absent refuses it. -/
theorem apsGroup_refusesUnchanged {s : State} {o : Option ApsGroup} {w : Nat} {f : ApsGroup → Reply}
    (h : ∀ g, (f g).RefusesUnchanged s) : (match o with
      | none => if 255 < w then .failAt .badParam 0 s else .fail .badState s
      | some g => f g : Reply).RefusesUnchanged s := by
  split
  · exact ite_refusesUnchanged (Reply.refusesUnchanged_failAt ..) (Reply.refusesUnchanged_fail ..)
  · exact h _

theorem replyMapPlanLoad_refusesUnchanged (p : Packet) (s : State) : (replyMapPlanLoad p s).RefusesUnchanged s := by
  unfold replyMapPlanLoad
  dsimp only
  split
  · exact Reply.refusesUnchanged_fail ..
  · exact checked_ok_refusesUnchanged

theorem replyMapPlanCommit_refusesUnchanged (p : Packet) (s : State) : (replyMapPlanCommit p s).RefusesUnchanged s := by
  unfold replyMapPlanCommit
  dsimp only
  split
  · exact Reply.refusesUnchanged_fail ..
  · refine checked_refusesUnchanged ?_
    split
    · exact .inr rfl
    · exact ite_refusesUnchanged (Reply.refusesUnchanged_fail ..)
        (ite_refusesUnchanged (Reply.refusesUnchanged_answer ..) trivial)

theorem replyMapPlanAbort_refusesUnchanged (p : Packet) (s : State) : (replyMapPlanAbort p s).RefusesUnchanged s := by
  unfold replyMapPlanAbort
  split
  · exact Reply.refusesUnchanged_fail ..
  · exact ite_refusesUnchanged (Reply.refusesUnchanged_fail ..) (Reply.refusesUnchanged_ok ..)

theorem replyCphEpochSwitch_refusesUnchanged (p : Packet) (s : State) : (replyCphEpochSwitch p s).RefusesUnchanged s := by
  unfold replyCphEpochSwitch
  dsimp only
  split
  · exact ite_refusesUnchanged (Reply.refusesUnchanged_failAt ..) (Reply.refusesUnchanged_fail ..)
  · exact checked_later_refusesUnchanged

theorem replyCphCtxSave_refusesUnchanged (p : Packet) (s : State) : (replyCphCtxSave p s).RefusesUnchanged s := by
  unfold replyCphCtxSave
  dsimp only
  split
  · exact Reply.refusesUnchanged_failAt ..
  · exact checked_ok_refusesUnchanged

theorem replyCphCtxRestore_refusesUnchanged (p : Packet) (s : State) : (replyCphCtxRestore p s).RefusesUnchanged s := by
  unfold replyCphCtxRestore
  dsimp only
  split
  · exact Reply.refusesUnchanged_fail ..
  · exact checked_later_refusesUnchanged

theorem replyPktRuleAdd_refusesUnchanged (p : Packet) (s : State) : (replyPktRuleAdd p s).RefusesUnchanged s := by
  refine checked_refusesUnchanged (.inl ?_)
  split
  · exact .inl rfl
  · exact .inr (.inr rfl)

theorem replyPktGateSet_refusesUnchanged (p : Packet) (s : State) : (replyPktGateSet p s).RefusesUnchanged s := by
  refine checked_refusesUnchanged (ite_refusesUnchanged checked_ok_refusesUnchanged (ite_refusesUnchanged
    (checked_refusesUnchanged (ite_refusesUnchanged (Reply.refusesUnchanged_ok ..) trivial)) (checked_refusesUnchanged ?_)))
  split
  · exact Reply.refusesUnchanged_fail ..
  · trivial

/-- Mode 0 answers OK whatever its checker gives; mode 1 refuses a row never written, having drawn a free value; mode 2 answers
OK. -/
theorem replyMiFlipTest_refusesUnchanged (p : Packet) (s : State) : (replyMiFlipTest p s).RefusesUnchanged s :=
  checked_refusesUnchanged (ite_refusesUnchanged (Reply.refusesUnchanged_answer ..)
    (ite_refusesUnchanged (ite_refusesUnchanged (Reply.refusesUnchanged_ok ..) (.inr rfl)) (Reply.refusesUnchanged_ok ..)))

/-- The own part of every command row, by the shape of its answer. -/
theorem body_refusesUnchanged {i : Instr} {c : CmdInfo} {body : Packet → State → Reply} {p : Packet}
    (h : commandOf i = some (c, body, p)) (s : State) : (body p s).RefusesUnchanged s := by
  cases i <;> cases h
  case devEmberRelease | hifQueueCreate | hifQueueDelete | hifLeaseGrant | hifLeaseRevoke | hifEventMask | timSet |
      timAdjust | timFreqSet | timSrcSet | timPtpCfg | timPtpRing | timPtpSend | cnvCfgSet | cnvTsetClear | cnvLoop |
      dspEqSet | dspNlcSet | dspRxSet | dspTxRespLoad | dspFastsopForce | dspTestPattern | fecCfgSet | fecThrSet |
      fecErrInject | frmDefectCfgSet | frmTtiSet | frmCaSet | frmPmCfgSet | frmPmClear | frmTcaSet | frmMaintInsert |
      mapPlanBegin | cphKeyErase | cphTribSet | cphJobCancel | pktPortSet | pktEntitySet | pktGateLoad | clnLaneSet |
      clnPrbs | plkLaneSet | plkLoop | monChSet | monFsopSet | monRingSet | hkaSeqSet | hkaCorrSet | hkaCfgSet |
      thmLimitSet | pwrAvsFix | miPatrolSet => exact checked_ok_refusesUnchanged
  case devAttestCert | hifMgmtEventRead | cnvTsetRead | cnvDacCharRead | dspQualityGet | fecStatsGet | frmTtiGet |
      frmPmRead | mapPlanGet | cphKeyInfo | cphEpochSet | cphTribGet | pktEntityGet | pktRuleDel | pktStatsGet |
      clnCifGet | monDetGet | thmSensorGet | miCinderRead | miClassGet | logCountersGet | logPlanGet | logNote |
      logAgeingGet => exact checked_answer_refusesUnchanged
  case devAttestQuote | devLockoutDiag | hifIdentify | hifLeaseQuery | hifNop | timGet | fecPoolGet | plkStatusGet |
      thmStatusGet | thmTripGet | pwrAvsGet => exact Reply.refusesUnchanged_answer ..
  case devImageLoad | timSnapshot | cnvFgCal | cnvRefresh | fecCoreRetest | cphJobSubmit | hkaCal | logExport |
      logPlanRun | logRefresh => exact checked_later_refusesUnchanged
  case devAppReset => exact trivial
  case hifSpiXfer | hifI2cXfer | hkaInject => exact checked_refusesUnchanged trivial
  case cphKeyImport | cphKeyAgree => exact checked_refusesUnchanged (durable_refusesUnchanged ..)
  case dspTxSet => exact checked_refusesUnchanged (ite_refusesUnchanged (Reply.refusesUnchanged_ok ..) trivial)
  case devEngineReset => exact checked_refusesUnchanged (ite_refusesUnchanged trivial (Reply.refusesUnchanged_ok ..))
  case clnCifSet =>
    exact checked_refusesUnchanged (ite_refusesUnchanged (Reply.refusesUnchanged_ok ..) checked_ok_refusesUnchanged)
  case devOpkey | clnLoop | plkCfgSet =>
    exact checked_refusesUnchanged (ite_refusesUnchanged (Reply.refusesUnchanged_ok ..) (Reply.refusesUnchanged_ok ..))
  case miScrubRange =>
    exact checked_refusesUnchanged (ite_refusesUnchanged (Reply.refusesUnchanged_answer ..) checked_later_refusesUnchanged)
  case apsCfgSet | apsCmd => exact apsGroup_refusesUnchanged (fun _ => checked_ok_refusesUnchanged)
  case apsStatusGet => exact apsGroup_refusesUnchanged (fun _ => checked_answer_refusesUnchanged)
  case devModeSet => exact replyDevModeSet_refusesUnchanged ..
  case dspProfileSet => exact replyDspProfileSet_refusesUnchanged ..
  case dspCdSet => exact replyDspCdSet_refusesUnchanged ..
  case mapPlanLoad => exact replyMapPlanLoad_refusesUnchanged ..
  case mapPlanCommit => exact replyMapPlanCommit_refusesUnchanged ..
  case mapPlanAbort => exact replyMapPlanAbort_refusesUnchanged ..
  case cphEpochSwitch => exact replyCphEpochSwitch_refusesUnchanged ..
  case cphCtxSave => exact replyCphCtxSave_refusesUnchanged ..
  case cphCtxRestore => exact replyCphCtxRestore_refusesUnchanged ..
  case pktRuleAdd => exact replyPktRuleAdd_refusesUnchanged ..
  case pktGateSet => exact replyPktGateSet_refusesUnchanged ..
  case miFlipTest => exact replyMiFlipTest_refusesUnchanged ..

/-- Settles O5: the admission's fault and the limit of 64 answer from the state of the packet taken, and so does a refusal of the
command's own part. -/
theorem refusedCommandHasNoEffect : Obligations.Refused_command_has_no_effect := by
  refine ⟨rfl, fun i c body p hi s₀ s => ⟨?rejected, fun hg => ⟨?refused, ?full, ?fullWith⟩⟩⟩
  case rejected =>
    rintro hstart hr rfl ha
    rw [exec_of_commandOf hi, runCommand_rejected body hstart hr ha]
  all_goals rw [exec_of_commandOf hi, runCommand_granted hg]
  case refused =>
    intro st off resp t hbody hst
    have hkept := body_refusesUnchanged hi s
    rw [hbody] at hkept ⊢
    rw [← hkept.resolve_left hst]
    rfl
  case full =>
    intro hfull unit group code ab eff hbody
    rw [hbody]
    exact congrArg _ (if_pos hfull)
  case fullWith =>
    intro hfull resp unit group code ab eff hbody
    rw [hbody]
    exact congrArg _ (if_pos hfull)

/-! ### Events: the ring, the mask and the BMC buffer (R61, R75 to R77, R87, R103) -/

/-- A signal changes what MSI-X has sent and holds pending, and nothing else. -/
theorem signalVector_hif (v : Nat) (s : State) : (signalVector v s).hif =
    { s.hif with msixPending := (signalVector v s).hif.msixPending, msixSent := (signalVector v s).hif.msixSent } := by
  unfold signalVector
  repeat' split
  all_goals rfl

/-- An event offered to the ring changes the ring and what MSI-X has sent and holds pending. -/
theorem toRing_hif (e : Event) (s : State) : (toRing e s).hif =
    { s.hif with
      events := (toRing e s).hif.events
      msixPending := (toRing e s).hif.msixPending
      msixSent := (toRing e s).hif.msixSent } := by
  unfold toRing
  split
  · rfl
  split
  · rfl
  split
  · rfl
  · rw [signalVector_hif]

/-- The BMC buffer alone changes when an event is offered to it. -/
theorem toBmc_hif (e : Event) (s : State) : (toBmc e s).hif =
    { s.hif with mgmt := if bmcTakes s e then bmcAppend s.hif.mgmt e else s.hif.mgmt } := by
  unfold toBmc
  split <;> rfl

/-- Which leases are active rests on the leases and the arrival clock. -/
theorem activeLeases_congr {s t : State} (hl : t.hif.leases = s.hif.leases) (ht : t.tim = s.tim) :
    t.activeLeases = s.activeLeases := by
  have harr : t.arrival = s.arrival := by rw [State.arrival, ht, State.arrival]
  simp only [State.activeLeases, hl, harr]

/-- Whether the BMC buffer takes an event rests on the leases and the arrival clock. -/
theorem bmcTakes_congr {s t : State} (e : Event) (hl : t.hif.leases = s.hif.leases) (ht : t.tim = s.tim) :
    bmcTakes t e = bmcTakes s e := by
  simp only [bmcTakes, State.leasedMask, activeLeases_congr hl ht]

/-- A suppressed event leaves the ring and signals nothing. -/
theorem toRing_masked {e : Event} {s : State} (h : masked s.hif e = true) : toRing e s = s := if_pos h

/-- The state in which an event raised now is offered to the ring: EVENT_SEQ has advanced (R75, R77). -/
def advanceSeq (s : State) : State := { s with hif := { s.hif with eventSeq := s.hif.eventSeq + 1 } }

theorem raiseEvent_clocked (e : Event) {s : State} (h : s.clocked = true) :
    raiseEvent e s = toBmc e (toRing e (advanceSeq s)) := if_pos h

theorem raiseEvent_unclocked (e : Event) {s : State} (h : s.clocked = false) : raiseEvent e s = s :=
  if_neg (by simp [h])

/-- What an event raised under the crystal does to the host interface, the ring and the signals left as `toRing` leaves them. -/
theorem raiseEvent_hif (e : Event) {s : State} (h : s.clocked = true) : (raiseEvent e s).hif =
    { (toRing e (advanceSeq s)).hif with
      mgmt := if bmcTakes s e then bmcAppend s.hif.mgmt e else s.hif.mgmt } := by
  have ht : (toRing e (advanceSeq s)).tim = s.tim := (congrArg State.tim (toRing_onlyHif e (advanceSeq s))).trans rfl
  have hl : (toRing e (advanceSeq s)).hif.leases = s.hif.leases := (congrArg Hif.leases (toRing_hif e (advanceSeq s))).trans rfl
  have hm : (toRing e (advanceSeq s)).hif.mgmt = s.hif.mgmt := (congrArg Hif.mgmt (toRing_hif e (advanceSeq s))).trans rfl
  rw [raiseEvent_clocked e h, toBmc_hif, bmcTakes_congr e hl ht, hm]

theorem raiseEvent_eventSeq (e : Event) {s : State} (h : s.clocked = true) :
    (raiseEvent e s).hif.eventSeq = s.hif.eventSeq + 1 := by
  rw [raiseEvent_hif e h]
  exact (congrArg Hif.eventSeq (toRing_hif e (advanceSeq s))).trans rfl

theorem raiseEvent_mgmt (e : Event) {s : State} (h : s.clocked = true) :
    (raiseEvent e s).hif.mgmt = if bmcTakes s e then bmcAppend s.hif.mgmt e else s.hif.mgmt := by
  rw [raiseEvent_hif e h]

/-- An event leaves the queue pairs, and the commands and transfers in progress. -/
theorem raiseEvent_keeps_commands (e : Event) (s : State) :
    (raiseEvent e s).hif.queues = s.hif.queues ∧ (raiseEvent e s).hif.deferred = s.hif.deferred := by
  cases hc : s.clocked with
  | false => rw [raiseEvent_unclocked e hc]; exact ⟨rfl, rfl⟩
  | true =>
    rw [raiseEvent_hif e hc]
    exact ⟨(congrArg Hif.queues (toRing_hif e (advanceSeq s))).trans rfl,
      (congrArg Hif.deferred (toRing_hif e (advanceSeq s))).trans rfl⟩

/-- A suppressed event leaves the ring and what MSI-X has sent. -/
theorem raiseEvent_masked {e : Event} {s : State} (h : masked s.hif e = true) :
    (raiseEvent e s).hif.events = s.hif.events ∧ (raiseEvent e s).hif.msixSent = s.hif.msixSent := by
  cases hc : s.clocked with
  | false => rw [raiseEvent_unclocked e hc]; exact ⟨rfl, rfl⟩
  | true =>
    have hring : toRing e (advanceSeq s) = advanceSeq s := toRing_masked h
    rw [raiseEvent_hif e hc, hring]
    exact ⟨rfl, rfl⟩

theorem masked_iff (h : Hif) (e : Event) :
    masked h e = true ↔ e.completion = false ∧ e.group ≠ 1 ∧ h.evtMask.getLsbD e.group = true := by
  simp [masked, and_assoc]

/-- Settles O18: a suppressed event stops before the ring, and EVENT_SEQ advances before the mask is asked. -/
theorem everyEventAdvancesTheSequence : Obligations.Every_event_advances_the_sequence :=
  fun e s => ⟨masked_iff s.hif e, raiseEvent_masked, raiseEvent_eventSeq e, raiseEvent_unclocked e, raiseEvent_onlyHif e s⟩

/-- The buffer with room takes a record as its newest; a full one gives up its oldest for it, which is counted. -/
theorem bmcAppend_of_room {m : MgmtPort} (e : Event) (h : m.buffer.length < 32) :
    bmcAppend m e = { m with buffer := m.buffer ++ [e] } := if_pos h

theorem bmcAppend_of_full {m : MgmtPort} (e : Event) (h : m.buffer.length = 32) :
    bmcAppend m e = { m with buffer := m.buffer.tail ++ [e], overwritten := m.overwritten + 1 } := by
  rw [← List.drop_one]
  exact if_neg (by omega)

theorem bmcAppend_length_le {m : MgmtPort} (e : Event) (h : m.buffer.length ≤ 32) : (bmcAppend m e).buffer.length ≤ 32 := by
  rcases Nat.lt_or_eq_of_le h with hroom | hfull
  · rw [bmcAppend_of_room e hroom]
    show (m.buffer ++ [e]).length ≤ 32
    rw [List.length_append]
    exact hroom
  · simp [bmcAppend_of_full e hfull, hfull]

/-- Settles O19: an event that the buffer takes is appended, where there is room or in place of the oldest record. -/
theorem bmcBufferKeepsTheNewest32Events : Obligations.Bmc_buffer_keeps_the_newest_32_events := by
  intro e s hc hlen
  dsimp only
  rw [raiseEvent_mgmt e hc]
  cases ht : bmcTakes s e with
  | false => exact ⟨hlen, fun _ => rfl, nofun, nofun⟩
  | true =>
    rw [if_pos rfl]
    refine ⟨bmcAppend_length_le e hlen, nofun, fun _ hroom => ?_, fun _ hfull => ?_⟩
    · simp [bmcAppend_of_room e hroom]
    · simp [bmcAppend_of_full e hfull]

/-! ### Completions (R59, R65, R68) -/

/-- A queue pair replaced reads back; every other stays. -/
theorem queue_setQueue_same (s : State) {n : Nat} (q : QueuePair) (h : n < 16) : (s.setQueue n q).queue n = q :=
  (vecGet_vecMod ..).trans (if_pos ⟨rfl, h⟩)

theorem queue_setQueue_other (s : State) {n m : Nat} (q : QueuePair) (h : m ≠ n) : (s.setQueue n q).queue m = s.queue m :=
  (vecGet_vecMod ..).trans (if_neg (fun hc => h hc.1.symm))

/-- Signals, events and responses leave the queue pairs. -/
theorem queue_congr {s t : State} (h : t.hif.queues = s.hif.queues) (m : Nat) : t.queue m = s.queue m :=
  congrArg (vecGet QueuePair.absent · m) h

theorem queue_signalVector (v : Nat) (s : State) (m : Nat) : (signalVector v s).queue m = s.queue m :=
  queue_congr ((congrArg Hif.queues (signalVector_hif v s)).trans rfl) m

theorem queue_stallEvent (n : Nat) (s : State) (m : Nat) : (stallEvent n s).queue m = s.queue m :=
  queue_congr (raiseEvent_keeps_commands _ s).1 m

theorem queue_setQueue_congr {s t : State} (h : t.hif.queues = s.hif.queues) (n : Nat) (q : QueuePair) (m : Nat) :
    (t.setQueue n q).queue m = (s.setQueue n q).queue m :=
  queue_congr (congrArg (vecMod · n (fun _ => q)) h) m

theorem writeResponse_queues (e : CqEntry) (s : State) : (writeResponse e s).hif.queues = s.hif.queues := by
  unfold writeResponse
  split <;> rfl

/-- What the queue of a completion becomes: the entry is written where nothing is held, a slot is free and data moves, else it is
held behind those held before. -/
theorem queue_postCompletion (n m : Nat) (e : CqEntry) (s : State) (h : (s.queue n).enabled = true) :
    (postCompletion n e s).queue m = (s.setQueue n (if ((s.queue n).held.isEmpty && !(s.queue n).full && s.hif.dmaUp) = true
      then (s.queue n).write e
      else { s.queue n with held := (s.queue n).held ++ [e], stalled := (s.queue n).stalled || (s.queue n).full })).queue m := by
  have hon : ¬ (!(s.queue n).enabled) = true := by simp [h]
  rw [show postCompletion n e s = _ from if_neg hon]
  split
  · split
    · rw [queue_signalVector, queue_setQueue_congr (writeResponse_queues e s)]
    · exact queue_setQueue_congr (writeResponse_queues e s) ..
  · dsimp only
    split
    · rw [queue_stallEvent]
    · rfl

/-- Settles O20: the entry is written or held in its own queue, as the hypotheses choose, and no other queue is touched. -/
theorem noCompletionIsLost : Obligations.No_completion_is_lost := by
  intro n m e s hn hon
  dsimp only
  refine ⟨fun hheld hfree hdma => ?written, fun hwait => ?held, fun hne => ?other⟩
  case written =>
    rw [queue_postCompletion n n e s hon, if_pos (by simp [hheld, hfree, hdma]), queue_setQueue_same s _ hn]
    exact ⟨hheld, rfl, rfl, rfl⟩
  case held =>
    have hnot : ¬ ((s.queue n).held.isEmpty && !(s.queue n).full && s.hif.dmaUp) = true := by
      rcases hwait with h | h | h <;> simp [h]
    rw [queue_postCompletion n n e s hon, if_neg hnot, queue_setQueue_same s _ hn]
    exact ⟨rfl, rfl⟩
  case other => rw [queue_postCompletion n m e s hon, queue_setQueue_other s _ hne]

/-! ### Aborted commands (R73, R75, R88) -/

/-- The event of an aborted command leaves the commands in progress and the crystal. -/
theorem completionEvent_deferred (d : Deferred) (st : Status) (payload : List Byte) (s : State) :
    (completionEvent d st payload s).hif.deferred = s.hif.deferred := by
  unfold completionEvent
  split
  · rfl
  · exact (raiseEvent_keeps_commands _ s).2

theorem completionEvent_clocked (d : Deferred) (st : Status) (payload : List Byte) (s : State) :
    (completionEvent d st payload s).clocked = s.clocked :=
  (congrArg State.clocked (completionEvent_onlyHif d st payload s)).trans rfl

/-- The completion of a command that has not been discarded is one event. -/
theorem completionEvent_eventSeq (d : Deferred) (st : Status) (payload : List Byte) {s : State} (h : s.clocked = true) :
    (completionEvent d st payload s).hif.eventSeq = s.hif.eventSeq + if d.discard then 0 else 1 := by
  unfold completionEvent
  split
  · simp
  · exact raiseEvent_eventSeq _ h

theorem completionEvent_unclocked (d : Deferred) (st : Status) (payload : List Byte) {s : State} (h : s.clocked = false) :
    completionEvent d st payload s = s := by
  unfold completionEvent
  split
  · rfl
  · exact raiseEvent_unclocked _ h

theorem abortEach_deferred (ds : List Deferred) (s : State) : (abortEach ds s).hif.deferred = s.hif.deferred := by
  induction ds generalizing s with
  | nil => rfl
  | cons d ds ih => rw [abortEach, ih, completionEvent_deferred]

theorem abortEach_onlyHif (ds : List Deferred) (s : State) : OnlyHif s (abortEach ds s) := by
  induction ds generalizing s with
  | nil => rfl
  | cons d ds ih => exact (completionEvent_onlyHif ..).trans (ih _)

theorem abortEach_unclocked (ds : List Deferred) {s : State} (h : s.clocked = false) : abortEach ds s = s := by
  induction ds with
  | nil => rfl
  | cons d ds ih => rw [abortEach, completionEvent_unclocked _ _ _ h, ih]

/-- EVENT_SEQ advances once for each command aborted that has not been discarded. -/
theorem abortEach_eventSeq (ds : List Deferred) {s : State} (h : s.clocked = true) :
    (abortEach ds s).hif.eventSeq = s.hif.eventSeq + BitVec.ofNat 32 (ds.filter (fun d => !d.discard)).length := by
  induction ds generalizing s with
  | nil => simp [abortEach]
  | cons d ds ih =>
    rw [abortEach, ih ((completionEvent_clocked ..).trans h), completionEvent_eventSeq _ _ _ h]
    cases hd : d.discard with
    | true => simp [hd]
    | false => simp [hd, BitVec.ofNat_add, BitVec.add_assoc, BitVec.add_comm]

theorem abortDeferred_eq (f : Deferred → Bool) (s : State) : abortDeferred f s =
    abortEach (s.hif.deferred.filter f) (modHif (fun h => { h with deferred := h.deferred.filter (fun d => !f d) }) s) := rfl

theorem modHif_onlyHif (f : Hif → Hif) (s : State) : OnlyHif s (modHif f s) := rfl

theorem abortDeferred_onlyHif (f : Deferred → Bool) (s : State) : OnlyHif s (abortDeferred f s) := by
  rw [abortDeferred_eq]
  exact (modHif_onlyHif ..).trans (abortEach_onlyHif ..)

/-- Settles O21: the commands named leave the list, and each completes in turn. -/
theorem abortCompletesExactlyTheNamedCommands : Obligations.Abort_completes_exactly_the_named_commands := by
  intro f s
  refine ⟨abortEach_deferred .., fun hc => abortEach_eventSeq _ hc, fun hc => ?_, abortDeferred_onlyHif f s⟩
  rw [abortDeferred_eq, abortEach_unclocked]
  · rfl
  · exact hc

/-! ### Leases and the admission (R71, R81, R82, R84) -/

theorem takePacket_activeLeases (p : Packet) (s : State) : (takePacket p s).activeLeases = s.activeLeases :=
  activeLeases_congr (congrArg Spine.leases (takePacket_spine p s)) ((congrArg State.tim (takePacket_onlyHif p s)).trans rfl)

theorem lease_covers_iff (l : Lease) (c : CmdInfo) : l.covers c = true ↔
    l.mask.getLsbD c.group = true ∧ (c.group = 1 → c.opcode = 0x0108 ∨ c.opcode = 0x0109) := by
  simp only [Lease.covers, Bool.and_eq_true, Bool.or_eq_true, decide_eq_true_eq, or_assoc,
    Decidable.imp_iff_not_or, ne_eq]

/-- A command denied to the BMC that the admission accepts came from the host. -/
theorem fromBmc_of_admitted {c : CmdInfo} {p : Packet} {s : State} (hc : c.bmcDenied = true) (h : admission c p s = .ok) :
    fromBmc p = false := by
  cases hb : fromBmc p with
  | false => rfl
  | true =>
    have hdenied : fromBmc p = true ∧ c.bmcDenied = true ∨ (!fromBmc p) = true ∧ c.hostDenied = true := .inl ⟨hb, hc⟩
    refine absurd h ?_
    simp only [admission, if_pos hdenied]
    repeat' split
    all_goals nofun

/-- What HIF_LEASE_GRANT's own part does to the leases: nothing, or the lapsed ones end and one with the packet's identifier and
mask comes after the active ones (R81, R84). -/
theorem replyHifLeaseGrant_leases (p : Packet) (s : State) :
    ∃ st off t, replyHifLeaseGrant p s = .done st off [] t
      ∧ (t.hif.leases = s.hif.leases
        ∨ ∃ l, t.hif.leases = s.activeLeases ++ [l] ∧ l.id = BitVec.ofNat 32 (u32 p.params 0)
          ∧ l.mask = BitVec.ofNat 16 (u16 p.params 4)) := by
  unfold replyHifLeaseGrant
  dsimp only
  generalize ([_, _, _, _, _, _] : List Check) = cs
  have hlapsed : (endLapsed s).hif.leases = s.activeLeases := congrArg Spine.leases (endLapsed_spine s)
  rcases checked_cases s cs (Reply.ok _) with ⟨_, e⟩ | ⟨k, _, _, e⟩
  · exact ⟨_, _, _, e, .inr ⟨_, congrArg (· ++ [_]) hlapsed, rfl, rfl⟩⟩
  · exact ⟨_, _, _, e, .inl rfl⟩

/-- Settles O22: the pipeline alone leaves the leases, and a granted packet came from the host. -/
theorem leaseGrantAddsOneLeaseApart : Obligations.Lease_grant_adds_one_lease_apart := by
  refine ⟨lease_covers_iff, fun p s t h => ⟨?grant, ?apart⟩⟩
  case apart =>
    obtain ⟨u, hu, hm⟩ := execHifLeaseGrant_moves p s
    cases hu.symm.trans h
    exact hm.leases
  case grant =>
    cases h
    have htake : (takePacket p s).hif.leases = s.hif.leases := congrArg Spine.leases (takePacket_spine p s)
    rcases runCommand_cases { modCmd 0x0104 12 with bmcDenied := true } replyHifLeaseGrant p s with
      ⟨_, e⟩ | ⟨_, _, e⟩ | ⟨_, _, _, e⟩ | ⟨_, _, _, _, e⟩ | g
    · rw [e]
      exact .inl (congrArg Spine.leases (notStarted_spine ..))
    · rw [e]
      exact .inl rfl
    · rw [e]
      exact .inl ((congrArg Spine.leases ((reply_spine ..).trans (countBadCrc_spine _))).trans htake)
    · rw [e]
      exact .inl ((congrArg Spine.leases (reply_spine ..)).trans htake)
    · obtain ⟨st, off, t, hbody, hl⟩ := replyHifLeaseGrant_leases p (takePacket p s)
      rw [runCommand_granted g, hbody]
      have hreply : ∀ f, (conclude f (takePacket p s) (.done st off [] t)).hif.leases = t.hif.leases :=
        fun f => congrArg Spine.leases (reply_spine f st off [] t)
      rw [hreply, ← htake, ← takePacket_activeLeases p s]
      obtain ⟨_, _, _, hadmitted⟩ := g
      exact hl.imp_right (⟨fromBmc_of_admitted rfl hadmitted, ·⟩)

/-- The steps of R71 before the leases pass, and a lease of another covers the modifying command: LEASED. -/
theorem admission_leased {c : CmdInfo} {p : Packet} {s : State} (hhost : fromBmc p = false) (hmod : c.modifying = true)
    (hlease : ∃ l ∈ s.activeLeases, l.covers c = true) (hcrc : packetCrcOk c.opcode p = true)
    (hlen : p.params.length ≤ packetLimit p) (hversion : p.version = 1) (hflags : p.flags.toNat < 4) (hid : p.leaseId = 0)
    (hvariant : ¬ (c.group = 8 ∧ s.dev.variantN = true)) (hdenied : c.hostDenied = false) : admission c p s = .leased := by
  have hany : s.activeLeases.any (fun l => l.covers c) = true := List.any_eq_true.mpr hlease
  unfold admission
  rw [if_neg (by simp [hcrc]), if_neg (Nat.not_lt.mpr hlen), if_neg (by simp [hversion, hflags, hid]), if_neg hvariant,
    if_neg (by simp [hhost, hdenied]), if_neg (by simp [hhost]), if_pos (by simp [hhost, hmod, hany])]

/-- The admission of a read-only command of the host does not look at the leases. -/
theorem admission_readOnly_host {c : CmdInfo} {p : Packet} (s : State) (hhost : fromBmc p = false) (hread : c.modifying = false)
    (leases : List Lease) : admission c p { s with hif := { s.hif with leases := leases } } = admission c p s := by
  simp only [admission, hhost, hread, Bool.false_eq_true, false_and, and_false, if_false]

/-- Settles O24: a packet covered by a lease stops at that step of the admission, which a read-only command passes over. -/
theorem leasedGroupsRefuseTheHost : Obligations.Leased_groups_refuse_the_host := by
  intro i c body p s₀ s hi hhost
  refine ⟨?_, fun hread => admission_readOnly_host s hhost hread⟩
  rintro hstart rfl hmod hlease hcrc hlen hversion hflags hid hvariant hdenied
  have ha := admission_leased hhost hmod hlease hcrc hlen hversion hflags hid hvariant hdenied
  have hr : isRetry p s₀ = false := by simp [isRetry, hhost]
  rw [exec_of_commandOf hi, runCommand_rejected body hstart hr (by rw [ha]; nofun), ha]
  rfl

/-! ### Read-only commands (R70, R71) -/

/-- To differ in the host interface alone is a relation of the pipeline. -/
theorem onlyHif_framed : Framed OnlyHif := ⟨id, OnlyHif.trans⟩

/-- A command row whose own part leaves all but the host interface does so as a whole. -/
theorem onlyHif_of_commandOf {i : Instr} {c : CmdInfo} {body : Packet → State → Reply} {p : Packet} {s t : State}
    (hi : commandOf i = some (c, body, p)) (hbody : ∀ u, (body p u).Frame OnlyHif u) (h : exec i s = .next t) :
    t = { s with hif := t.hif } := by
  rw [exec_of_commandOf hi] at h
  cases h
  exact runCommand_frame onlyHif_framed hbody

/-- An answer that leaves the state, behind the command's checks. -/
theorem checked_answer_onlyHif {s : State} {cs : List Check} {resp : List Byte} :
    (checked s cs (.answer resp s)).Frame OnlyHif s :=
  checked_frame onlyHif_framed (OnlyHif.refl s)

/-- The buffer that HIF_MGMT_EVENT_READ empties stands in the host interface (R87). -/
theorem replyHifMgmtEventRead_onlyHif (p : Packet) (s : State) : (replyHifMgmtEventRead p s).Frame OnlyHif s :=
  checked_frame onlyHif_framed (modHif_onlyHif ..)

theorem replyApsStatusGet_onlyHif (p : Packet) (s : State) : (replyApsStatusGet p s).Frame OnlyHif s := by
  unfold replyApsStatusGet
  dsimp only
  split
  · split
    · exact OnlyHif.refl s
    · exact OnlyHif.refl s
  · exact checked_answer_onlyHif

/-- Settles O7: each of the rows answers with its state as it was, but the read of the BMC buffer, which empties it. -/
theorem readOnlyCommandsFrame : Obligations.Read_only_commands_frame := by
  intro p s t
  simp only [List.forall_mem_cons]
  exact ⟨onlyHif_of_commandOf rfl OnlyHif.refl,
    onlyHif_of_commandOf rfl fun _ => checked_answer_onlyHif,
    onlyHif_of_commandOf rfl OnlyHif.refl,
    onlyHif_of_commandOf rfl OnlyHif.refl,
    onlyHif_of_commandOf rfl OnlyHif.refl,
    onlyHif_of_commandOf rfl (replyHifMgmtEventRead_onlyHif p),
    onlyHif_of_commandOf rfl OnlyHif.refl,
    onlyHif_of_commandOf rfl OnlyHif.refl,
    onlyHif_of_commandOf rfl fun _ => checked_answer_onlyHif,
    onlyHif_of_commandOf rfl fun _ => checked_answer_onlyHif,
    onlyHif_of_commandOf rfl fun _ => checked_answer_onlyHif,
    onlyHif_of_commandOf rfl fun _ => checked_answer_onlyHif,
    onlyHif_of_commandOf rfl OnlyHif.refl,
    onlyHif_of_commandOf rfl fun _ => checked_answer_onlyHif,
    onlyHif_of_commandOf rfl fun _ => checked_answer_onlyHif,
    onlyHif_of_commandOf rfl fun _ => checked_answer_onlyHif,
    onlyHif_of_commandOf rfl (replyApsStatusGet_onlyHif p),
    onlyHif_of_commandOf rfl fun _ => checked_answer_onlyHif,
    onlyHif_of_commandOf rfl fun _ => checked_answer_onlyHif,
    onlyHif_of_commandOf rfl fun _ => checked_answer_onlyHif,
    onlyHif_of_commandOf rfl fun _ => checked_answer_onlyHif,
    onlyHif_of_commandOf rfl fun _ => checked_answer_onlyHif,
    onlyHif_of_commandOf rfl OnlyHif.refl,
    onlyHif_of_commandOf rfl fun _ => checked_answer_onlyHif,
    onlyHif_of_commandOf rfl OnlyHif.refl,
    onlyHif_of_commandOf rfl fun _ => checked_answer_onlyHif,
    onlyHif_of_commandOf rfl OnlyHif.refl,
    onlyHif_of_commandOf rfl OnlyHif.refl,
    onlyHif_of_commandOf rfl fun _ => checked_answer_onlyHif,
    onlyHif_of_commandOf rfl fun _ => checked_answer_onlyHif,
    onlyHif_of_commandOf rfl fun _ => checked_answer_onlyHif,
    onlyHif_of_commandOf rfl fun _ => checked_answer_onlyHif,
    onlyHif_of_commandOf rfl fun _ => checked_answer_onlyHif,
    List.forall_mem_nil _⟩

/-! ### Host-interface events (R58 to R60, R66 to R68, R74, R76, R84, R88) -/

/-- Settles O38: each event by the branch of its meaning that its hypotheses choose. -/
theorem hostInterfaceEventsTakeTheirEffect : Obligations.Host_interface_events_take_their_effect := by
  unfold Obligations.Host_interface_events_take_their_effect
  refine ⟨?link, ?reset, ?d3hot, ?d0, ?perstFall, fun _ => rfl, ?sqTail, ?cqHead, ?eqHead, ?fetchFailed, ?undefined, ?expiry,
    ?transfer⟩
  case link => exact fun _ _ _ h => if_pos h
  case reset =>
    rintro s ⟨hup, hperst⟩
    have hlive : ¬ (s.hif.linkGen = 0 ∨ s.hif.perstLow = true) := by simp [hup, hperst]
    exact ⟨fun hr => (if_neg hlive).trans (if_pos (by simp [hr])), fun hr => (if_neg hlive).trans (if_neg (by simp [hr]))⟩
  case d3hot => exact fun _ h => if_neg h
  case d0 => exact fun _ h => if_pos h
  case perstFall => exact fun _ h => if_neg (by simp [h])
  case sqTail => exact fun _ _ _ _ => ⟨fun h => if_pos h, fun h => if_neg (Nat.not_le.mpr h)⟩
  case cqHead => exact fun _ _ _ => ⟨fun h => if_pos h, fun h => if_neg (Nat.not_le.mpr h)⟩
  case eqHead =>
    refine fun _ _ => ⟨fun h => if_pos (by simpa using h), fun ⟨hon, hlt⟩ => if_neg ?_⟩
    simpa [hon] using hlt
  case fetchFailed =>
    intro queue s q hf
    have hlive : ¬ (!fetches queue.val s) = true := by simp [hf]
    exact ⟨fun hw => (if_neg hlive).trans (if_neg (by simpa using hw)),
      fun hw => (if_neg hlive).trans (if_pos (by simpa using hw))⟩
  case undefined =>
    rintro opcode p s op ⟨hundef, hstart⟩
    have hop : ¬ opcodeDefined opcode.toNat = true := by rw [hundef]; nofun
    have hlive : ¬ (!startable p s) = true := by simp [hstart]
    refine ⟨fun hr => (if_neg hop).trans ((if_neg hlive).trans (if_pos hr)), fun hr => ?_⟩
    have hfresh : ¬ isRetry p s = true := by simp [hr]
    refine ⟨fun hcrc => ?_, fun hcrc => ⟨fun hlen => ?_, fun hlen => ?_⟩⟩
    all_goals refine (if_neg hop).trans ((if_neg hlive).trans ((if_neg hfresh).trans ?_))
    · exact if_pos (by simpa using hcrc)
    · exact (if_neg (by simpa using hcrc)).trans (if_pos hlen)
    · exact (if_neg (by simpa using hcrc)).trans (if_neg (Nat.not_lt.mpr hlen))
  case expiry =>
    intro id s l hl
    show execLeaseExpiry id s = _
    rw [execLeaseExpiry, hl]
  case transfer =>
    intro key result done read s t ht hfirst a ha
    show execPassthroughXferComplete key result done read s = _
    rw [execPassthroughXferComplete, ht]
    dsimp only
    rw [if_neg (not_not_intro hfirst), ha]

/-! ### The commands of group 0x01 (R62, R77, R81 to R84, R87 to R89) -/

/-- A granted command whose checks all pass, and which goes on to wait, waits under its key. -/
theorem runCommand_checked_wait {c : CmdInfo} {body : Packet → State → Reply} {p : Packet} {s₀ s t : State} {cs : List Check}
    {key : Nat} (h : Granted c p s₀ s) (hbody : body p s = checked s cs (.wait key t)) (hpass : ∀ chk ∈ cs, chk.bad = false) :
    runCommand c body p s₀ = waiting c.opcode p s₀ key t := by
  rw [runCommand_granted h, hbody, checked_pass hpass]
  rfl

/-- Settles O39: each command's checks pass, and it goes on with its answer or begins to wait. -/
theorem hostInterfaceCommandsTakeTheirEffect : Obligations.Host_interface_commands_take_their_effect := by
  unfold Obligations.Host_interface_commands_take_their_effect
  refine ⟨?identify, ?create, ?delete, ?grant, ?revoke, ?query, ?mask, ?spi, ?i2c, ?events, ?nop⟩
  case identify | query | nop => exact fun p s₀ s h => congrArg Host.Outcome.next (runCommand_checked (cs := []) h rfl nofun)
  case create =>
    dsimp only
    intro p s₀ s h hn hirq hsq hsqPower hcq hcqPower hres hsqBase hcqBase hfree
    exact congrArg Host.Outcome.next (runCommand_checked h rfl
      (by simp [hn, hirq, hsq, hsqPower, hcq, hcqPower, hres, hsqBase, hcqBase, hfree]))
  case delete =>
    dsimp only
    intro p s₀ s h hn hres hon
    exact congrArg Host.Outcome.next (runCommand_checked h rfl (by simp [hn, hres, hon]))
  case grant =>
    dsimp only
    rintro p s₀ s h ⟨hid, hnew⟩ hmask hres hdur hapart hroom
    exact congrArg Host.Outcome.next
      (runCommand_checked h rfl (by simpa [hnew, hres, hdur, hapart, hroom] using And.intro hid hmask))
  case revoke =>
    dsimp only
    intro p s₀ s h hid
    exact congrArg Host.Outcome.next (runCommand_checked h rfl (by simpa using hid))
  case mask =>
    intro p s₀ s h hres
    exact congrArg Host.Outcome.next (runCommand_checked h rfl (by simp [hres]))
  case spi | i2c => exact fun p s₀ s h hpass => congrArg Host.Outcome.next (runCommand_checked_wait h rfl hpass)
  case events =>
    dsimp only
    intro p s₀ s h hn hmax hres
    exact congrArg Host.Outcome.next (runCommand_checked h rfl (by simp [hn, hmax, hres]))

/-! ### The management port (R85, R86, R432) -/

/-- Settles O40: each transaction by the branch of its meaning that its hypotheses choose; a packet runs what its opcode names,
which answers a next state. -/
theorem managementPortTransactionsTakeTheirEffect : Obligations.Management_port_transactions_take_their_effect := by
  unfold Obligations.Management_port_transactions_take_their_effect
  refine ⟨?packet, ?response, ?status, ?avs, ?selector, fun _ => rfl⟩
  case packet =>
    intro bytes s halive
    have hlive : ¬ (!portAlive s) = true := by simp [halive]
    refine ⟨fun hbusy => (if_neg hlive).trans (if_pos hbusy), fun hidle => ⟨fun hlong => ?_, fun hfits => ?_⟩⟩
    · exact (if_neg hlive).trans ((if_neg hidle).trans (if_pos hlong))
    have hlong : ¬ 256 < bytes.length := Nat.not_lt.mpr hfits
    refine ⟨fun hcrc => ?_, fun hcrc => ?_⟩
    · obtain ⟨t, ht, _⟩ := runnerOf_moves (u16 bytes 0) (packetFrom bytes)
        (modPort16 (fun m => { m with nacked := false, busOut := [] }) s)
      exact ⟨t, ht, (if_neg hlive).trans ((if_neg hidle).trans ((if_neg hlong).trans ((if_pos hcrc).trans ht)))⟩
    · exact (if_neg hlive).trans ((if_neg hidle).trans ((if_neg hlong).trans (if_neg (by simp [hcrc]))))
  case response | status | avs => exact fun _ h => if_neg (by simp [h])
  case selector =>
    rintro selector s ⟨halive, hbad⟩
    refine if_neg ?_
    simpa [halive] using hbad

end Sys2Proof.Machine

namespace Sys2Proof.Machine

/-! ### The clock (R93, R98) -/

/-- A slew takes back at most 51,200 units a picosecond: 100 ppm (R98). -/
theorem neg_le_slewPart (slew : Int) (n : Nat) : -(51200 * (n : Int)) ≤ slewPart slew n := by
  unfold slewPart
  omega

/-- A slew that is over adds nothing. -/
@[simp] theorem slewPart_zero (n : Nat) : slewPart 0 n = 0 := by
  unfold slewPart
  omega

/-- The rest of a slew shrinks by the part carried out, and stops at 0. -/
theorem natAbs_sub_slewPart (slew : Int) (n : Nat) :
    (slew - slewPart slew n).natAbs = slew.natAbs - min slew.natAbs (51200 * n) := by
  unfold slewPart
  omega

/-- With an adjustment of −500 ppm or more, `n` ps gain more than a slew can take back in them (R93, R98). -/
theorem slew_le_ticks {t : Tim} (h : -512000000 ≤ clockAdj t) (n : Nat) : 51200 * n ≤ n * tickUnits t / 2000 := by
  have hrate : 1023488000000 ≤ tickUnits t := by
    unfold tickUnits
    omega
  rw [Nat.le_div_iff_mul_le (by decide)]
  calc 51200 * n * 2000 = n * 102400000 := by omega
    _ ≤ n * tickUnits t := Nat.mul_le_mul_left n (by omega)

/-- Device time never runs back with such an adjustment (R93, R98). -/
theorem Tim.tod_le_run {t : Tim} (h : -512000000 ≤ clockAdj t) (n : Nat) : t.tod ≤ (t.run n).tod := by
  have hticks := slew_le_ticks h n
  have hslew := neg_le_slewPart t.slew n
  have htod : (t.run n).tod = ((t.tod : Int) + (n * tickUnits t / 2000 : Nat) + slewPart t.slew n).toNat := rfl
  omega

/-- Without a slew device time gains what the ticks give (R93). -/
theorem Tim.run_tod_of_slew_zero {t : Tim} (h : t.slew = 0) (n : Nat) : (t.run n).tod = t.tod + n * tickUnits t / 2000 := by
  have htod : (t.run n).tod = ((t.tod : Int) + (n * tickUnits t / 2000 : Nat) + slewPart t.slew n).toNat := rfl
  rw [htod, h, slewPart_zero]
  omega

/-- Settles O34: the crystal decides whether the clock runs (log 89, the model's choice); where it does, the ticks gain at least
what 999,500 ppm give and the slew takes back at most 100 ppm. -/
theorem deviceTimeRunsForwardThroughASlew : Obligations.Device_time_runs_forward_through_a_slew := by
  intro n s hlow _
  refine ⟨fun hstands => if_neg (by simp [hstands]), fun hclocked => ?_⟩
  have hrun : advancePs n s = { s with tim := s.tim.run n } := if_pos hclocked
  rw [hrun]
  exact ⟨rfl, Tim.tod_le_run hlow n, natAbs_sub_slewPart s.tim.slew n, fun h => Tim.run_tod_of_slew_zero h n⟩

/-! ### The commands of group 0x02 (R93 to R95, R98, R99, R105, R106, R108, R110) -/

/-- Settles O42: each command's checks pass, and it goes on with its answer or its deferral. That a slew ordered during a slew
takes its place is log 37, the model's choice. -/
theorem timeCommandsTakeTheirEffect : Obligations.Time_commands_take_their_effect := by
  unfold Obligations.Time_commands_take_their_effect
  refine ⟨?get, ?set, ?adjust, ?freqSet, ?srcSet, ?ptpCfg, ?ptpRing, ?ptpSend, ?snapshot⟩
  case get => exact fun p s₀ s h => congrArg Host.Outcome.next (runCommand_checked (cs := []) h rfl nofun)
  case set =>
    dsimp only
    rintro p s₀ s h hres ⟨hns, hpps⟩
    exact congrArg Host.Outcome.next (runCommand_checked h rfl (by simpa [hres, hns] using hpps))
  case adjust =>
    dsimp only
    rintro p s₀ s h ⟨hslew, hrange⟩ hmode hres hsrc
    exact congrArg Host.Outcome.next (runCommand_checked h rfl (by simpa [hrange, hmode, hres, hsrc] using hslew))
  case freqSet =>
    dsimp only
    intro p s₀ s h hf hsrc
    exact congrArg Host.Outcome.next (runCommand_checked h rfl (by simp [hf, hsrc]))
  case srcSet =>
    dsimp only
    intro p s₀ s h hn hres hzero hlimit
    exact congrArg Host.Outcome.next (runCommand_checked h rfl (by simpa [hn, hres] using And.intro hzero hlimit))
  case ptpCfg =>
    dsimp only
    rintro p s₀ s h hc ⟨hf, hflags⟩ hres
    exact congrArg Host.Outcome.next (runCommand_checked h rfl (by simpa [hc, hf, hres] using hflags))
  case ptpRing =>
    dsimp only
    intro p s₀ s h hbase hn hpower hres
    exact congrArg Host.Outcome.next (runCommand_checked h rfl (by simp [hbase, hn, hpower, hres]))
  case ptpSend =>
    dsimp only
    rintro p s₀ s h hc hflag hn ⟨hmin, hmax⟩ ⟨hup, hen⟩
    exact congrArg Host.Outcome.next (runCommand_checked h rfl (by simp [hc, hflag, hn, hmin, hmax, hup, hen]))
  case snapshot =>
    dsimp only
    intro p s₀ s h hmask hgroups hahead hns hroom
    have hrun := runCommand_checked_later (body := replyTimSnapshot) h rfl (by simp [hmask, hgroups, hahead, hns]) hroom
    exact congrArg Host.Outcome.next hrun

end Sys2Proof.Machine

namespace Sys2Proof.Machine

/-! ### Converter calibration (R117 to R146) -/

/-- Settles O43: each row by the branch of its meaning that its hypotheses choose. That BG_EN at 0 keeps the coefficient of a step that
passes, and that an abandoned step counts as a failed position of the refresh, are log 45, the model's choice. -/
theorem converterEventsTakeTheirEffect : Obligations.Converter_events_take_their_effect := by
  unfold Obligations.Converter_events_take_their_effect
  refine ⟨fun _ _ h => if_pos h, fun _ _ => rfl, ?matched, ?trimmed, ?verified, ?window, ?interval, ?refreshed, ?foreground, ?locked,
    fun _ _ _ _ h => if_pos h⟩
  case matched =>
    intro group adc stats s x hx
    have hlive : ¬ (!stepIn x .matching) = true := by simp [hx]
    refine ⟨fun ha => (if_neg hlive).trans (if_pos ha), fun ha => ?_⟩
    have hwhole : ¬ pairAbandoned stats = true := by simp [ha]
    exact ⟨fun hp => (if_neg hlive).trans ((if_neg hwhole).trans (if_pos hp)),
      fun hp => (if_neg hlive).trans ((if_neg hwhole).trans (if_neg (by simp [hp])))⟩
  case trimmed =>
    intro group adc selfTest s x p hp hph z c
    have hrow : exec (.cnvTrimDone group adc selfTest) s = execCnvTrimDone group adc selfTest s := rfl
    rw [hrow, execCnvTrimDone, hp]
    have hlive : ¬ x.phase ≠ .trim := not_not_intro hph
    refine ⟨fun hgood => (if_neg hlive).trans (if_pos ?_), fun hbad => (if_neg hlive).trans (if_neg ?_)⟩
    · simpa [and_assoc] using hgood
    · simpa using hbad
  case verified =>
    intro group adc stats s x p hp hph
    have hrow : exec (.cnvVerifyDone group adc stats) s = execCnvVerifyDone group adc stats s := rfl
    rw [hrow, execCnvVerifyDone, hp]
    have hlive : ¬ x.phase ≠ .verify := not_not_intro hph
    refine ⟨fun ha => (if_neg hlive).trans (if_pos ha), fun ha => ?_⟩
    have hwhole : ¬ pairAbandoned stats = true := by simp [ha]
    exact ⟨fun hq => (if_neg hlive).trans ((if_neg hwhole).trans (if_pos hq)),
      fun hq => (if_neg hlive).trans ((if_neg hwhole).trans (if_neg (by simp [hq])))⟩
  case window =>
    intro group adc slice stats s x s0 hlock hpath
    have hlive : ¬ (!(s.group group.val).clockLocked || !inPath x slice.val) = true := by simp [hlock, hpath]
    refine ⟨fun hleft => (if_neg hlive).trans (if_pos hleft), fun hleft => ?_⟩
    have hstayed : ¬ (x.slice slice.val).leftPath = true := by simp [hleft]
    refine ⟨fun hover => (if_neg hlive).trans ((if_neg hstayed).trans (if_pos hover)), fun hover => ?_⟩
    have hrange : ¬ 4096 < stats.excluded := Nat.not_lt.mpr hover
    refine ⟨fun hweak => ⟨fun ⟨hrun, hsignal⟩ => ?_, fun hkept => ?_⟩, fun hstrong => ?_⟩
    all_goals refine (if_neg hlive).trans ((if_neg hstayed).trans ((if_neg hrange).trans ?_))
    · exact (if_pos hweak).trans (if_pos ⟨hrun, Bool.eq_false_iff.mp hsignal⟩)
    · exact (if_pos hweak).trans (if_neg fun ⟨hrun, hsignal⟩ => hsignal (hkept hrun))
    · exact if_neg (Nat.not_lt.mpr hstrong)
  case interval =>
    rintro group s x ⟨hmode, hen, hrun⟩
    exact if_pos (by simp [x, hmode, hen, hrun])
  case refreshed =>
    intro group s x r hr
    show execCnvRefreshComplete group s = _
    rw [execCnvRefreshComplete, hr]
  case foreground => exact fun _ _ _ _ h => if_neg (not_not_intro h)
  case locked => exact fun _ _ h => if_pos (.inl h)

/-! ### The commands of group 0x03 (R134, R137, R139, R143, R144) -/

/-- Settles O44: each command's checks pass, and it goes on with its answer or its deferral. That a change of the loop makes the engine
reacquire with cause 2 is log 46, the model's choice. -/
theorem converterCommandsTakeTheirEffect : Obligations.Converter_commands_take_their_effect := by
  unfold Obligations.Converter_commands_take_their_effect
  refine ⟨?fgCal, ?refresh, ?cfgSet, ?tsetRead, ?tsetClear, ?dacCharRead, ?loop⟩
  case fgCal =>
    dsimp only
    intro p s₀ s h _ hmask hlt hres href hidle hroom
    exact congrArg Host.Outcome.next
      (runCommand_checked_later (body := replyCnvFgCal) h rfl (by simp [hmask, hlt, hres, href, hidle]) hroom)
  case refresh =>
    dsimp only
    intro p s₀ s h _ hg hres hpow hidle hroom
    exact congrArg Host.Outcome.next (runCommand_checked_later h rfl (by simp [hg, hres, hpow, hidle]) hroom)
  case cfgSet =>
    dsimp only
    rintro p s₀ s h hg ⟨hdt0, hdt⟩ ⟨hmax0, hmax⟩ hflags ⟨hper0, hper⟩ hres
    exact congrArg Host.Outcome.next
      (runCommand_checked h rfl (by simp [hg, hdt0, hdt, hmax0, hmax, hflags, hper0, hper, hres]))
  case tsetRead =>
    dsimp only
    intro p s₀ s h hg hset hconv hres hn hbmc hsize hend hres6
    exact congrArg Host.Outcome.next
      (runCommand_checked h rfl (by simpa [hg, hset, hconv, hres, hn, hsize, hend, hres6] using hbmc))
  case tsetClear =>
    dsimp only
    intro p s₀ s h _ hg hmask hres
    exact congrArg Host.Outcome.next (runCommand_checked h rfl (by simp [hg, hmask, hres]))
  case dacCharRead =>
    dsimp only
    intro p s₀ s h hg hd hfirst hn hbmc hend
    exact congrArg Host.Outcome.next (runCommand_checked h rfl (by simpa [hg, hd, hfirst, hn, hend] using hbmc))
  case loop =>
    dsimp only
    intro p s₀ s h hg hclose hres hpow
    exact congrArg Host.Outcome.next (runCommand_checked h rfl (by simp [hg, hclose, hres, hpow]))

end Sys2Proof.Machine

namespace Sys2Proof.Machine

/-! ### Acquisition, profile switch and fast-SOP (R149 to R177) -/

/-- Settles O45: each event by the branch of its meaning that its hypotheses choose. That the failed reacquisitions are counted since
LOCKED, and that a SYNC which does not regain lock is none, are log 46, the model's choice. -/
theorem dspEventsTakeTheirEffect : Obligations.Dsp_events_take_their_effect := by
  unfold Obligations.Dsp_events_take_their_effect
  refine ⟨fun _ _ _ => ⟨fun h => if_pos h, fun h => if_neg h⟩, fun _ _ => rfl, fun _ _ => rfl, fun _ _ => rfl, fun _ _ => rfl,
    fun _ _ => rfl, fun _ _ h => if_neg (not_not_intro h), fun _ _ => rfl, fun _ _ => rfl, ?searched, ?fastEntry, fun _ _ => rfl,
    fun _ _ => rfl, fun _ _ _ h => if_neg (by simp [h]), ?instant, ?txBoundary, ?timeout⟩
  case searched =>
    rintro engine found s x ⟨hsearch, hacq⟩
    have hlive : ¬ (!x.searching || decide (x.state ≠ .cdAcq)) = true := by simp [hsearch, hacq]
    exact ⟨fun v hv => (if_neg hlive).trans (by rw [hv]), fun hv => (if_neg hlive).trans (by rw [hv])⟩
  case fastEntry =>
    intro engine s x src hsrc s1 inChange
    have hrow : exec (.fastsopEntry engine) s = execFastsopEntry engine s := rfl
    rw [hrow, execFastsopEntry, hsrc]
    refine ⟨fun hclosed => if_pos (by simpa [or_assoc] using hclosed), fun ⟨hen, hlocked, hsteady⟩ => ?_⟩
    have hopen : ¬ (!x.eqForce.fsopEn || decide (x.state ≠ .locked) || inChange) = true := by simp [hen, hlocked, hsteady]
    exact ⟨fun hheld => (if_neg hopen).trans (if_pos (by simpa using hheld)),
      fun hover => (if_neg hopen).trans (if_neg (by simpa using hover))⟩
  case instant =>
    intro engine s c hc hwait
    show execProfileSwitchInstant engine s = _
    rw [execProfileSwitchInstant, hc]
    exact if_neg (by simp [hwait])
  case txBoundary =>
    intro engine s c hc hdue
    show execProfileTxBoundary engine s = _
    rw [execProfileTxBoundary, hc]
    exact if_pos (by simp [hdue])
  case timeout =>
    intro engine s c hc hlate
    show execProfileSwitchTimeout engine s = _
    rw [execProfileSwitchTimeout, hc]
    exact if_pos hlate

/-! ### The commands of group 0x04 (R152 to R159, R165, R169, R170, R176 to R179) -/

/-- Settles O46: each command's checks pass, and it goes on with its answer or its deferral. For DSP_PROFILE_SET and DSP_CD_SET `hbody`
is what the command does once the checks of its parameters pass (R155, R176); the branch is then the hypotheses' choice. -/
theorem dspCommandsTakeTheirEffect : Obligations.Dsp_commands_take_their_effect := by
  unfold Obligations.Dsp_commands_take_their_effect
  refine ⟨?profileSet, ?cdSet, ?eqSet, ?nlcSet, ?rxSet, ?txSet, ?txRespLoad, ?fastsopForce, ?testPattern, ?qualityGet⟩
  case profileSet =>
    dsimp only
    rintro p s₀ s h he hprofile ⟨hpilot, hallowed⟩ ⟨hroll0, hroll⟩ hahead hres hns
    have hbody : replyDspProfileSet p s = _ :=
      checked_pass (by simp [he, hprofile, hpilot, hallowed, hroll0, hroll, hahead, hres, hns])
    refine ⟨fun hstandby hslots hrange hidle => ?stored,
      fun hlive => ⟨fun ⟨hsame, hnone⟩ => ?same, fun hnew href hslots hrange hidle hroom => ?begun⟩⟩
    case stored =>
      have hchange := hbody.trans (if_neg fun ⟨_, _, hlive⟩ => hlive hstandby)
      refine congrArg Host.Outcome.next (runCommand_checked h (hchange.trans (congrArg (checked s _) (if_pos hstandby))) ?_)
      simp [hstandby, hslots, hrange, hidle]
    case same =>
      exact congrArg Host.Outcome.next (runCommand_checked (cs := []) h (hbody.trans (if_pos ⟨hsame, hnone, hlive⟩)) nofun)
    case begun =>
      have hchange := hbody.trans (if_neg fun ⟨hsel, hnone, _⟩ => Bool.eq_false_iff.mp (hnew hsel) hnone)
      have hrun := runCommand_checked_later h (hchange.trans (congrArg (checked s _) (if_neg hlive)))
        (by simp [href, hslots, hrange, hidle]) hroom
      exact congrArg Host.Outcome.next hrun
  case cdSet =>
    rintro p s₀ s h e search cd x reach hold stored he hsearch hres hreach hhalf ⟨hlow, hhigh⟩ hidle
    have hbody : replyDspCdSet p s = _ := checked_pass (by
      simpa [e, he, hsearch, hres, x, hidle, cd, hlow, hhigh, search, reach] using And.intro hreach hhalf)
    refine ⟨fun hhold => ?held, fun hmoved => ⟨fun hscan hroom => ?begun, fun hscan => ?set⟩⟩
    case held =>
      exact congrArg Host.Outcome.next (runCommand_checked (cs := []) h (hbody.trans (if_pos hhold)) nofun)
    case begun =>
      have hlater := (hbody.trans (if_neg (Bool.eq_false_iff.mp hmoved))).trans (if_pos hscan)
      have hrun := runCommand_checked_later (cs := []) h hlater nofun hroom
      exact congrArg Host.Outcome.next hrun
    case set =>
      have hnone : ¬ (search = true ∧ modePowered s.dev.mode = true) :=
        not_and.mpr fun hs => Bool.eq_false_iff.mp (hscan hs)
      have hset := (hbody.trans (if_neg (Bool.eq_false_iff.mp hmoved))).trans (if_neg hnone)
      exact congrArg Host.Outcome.next (runCommand_checked (cs := []) h hset nofun)
  case eqSet =>
    dsimp only
    rintro p s₀ s h he ⟨hodd, hmin, hmax⟩ hrate hflags hhold0 hhold hres
    exact congrArg Host.Outcome.next
      (runCommand_checked h rfl (by simp [he, hmin, hmax, hrate, hflags, hhold0, hhold, hres, hodd]))
  case nlcSet =>
    dsimp only
    intro p s₀ s h he hstages hspans0 hspans hlength hdisp hgamma hatt hpower hres
    exact congrArg Host.Outcome.next (runCommand_checked h rfl (by
      simpa [he, hstages, hres] using And.intro hspans0 (And.intro hspans (And.intro hlength (And.intro hdisp
        (And.intro hgamma (And.intro hatt hpower)))))))
  case rxSet => exact fun p s₀ s h hpass => congrArg Host.Outcome.next (runCommand_checked h rfl hpass)
  case txSet =>
    intro p s₀ s h e f tx x store hpass
    refine ⟨fun hstandby => congrArg Host.Outcome.next
      (runCommand_checked h (congrArg (checked s _) (if_pos hstandby)) hpass), fun hlive hroom => ?_⟩
    have hrun := runCommand_checked_later (body := replyDspTxSet) h (congrArg (checked s _) (if_neg hlive)) hpass hroom
    exact congrArg Host.Outcome.next hrun
  case txRespLoad => exact fun p s₀ s h hpass => congrArg Host.Outcome.next (runCommand_checked h rfl hpass)
  case fastsopForce =>
    dsimp only
    intro p s₀ s h he hflag hres hready
    exact congrArg Host.Outcome.next (runCommand_checked h rfl (by simpa [he, hflag, hres] using hready))
  case testPattern =>
    dsimp only
    intro p s₀ s h he hpattern hres htone hon
    exact congrArg Host.Outcome.next (runCommand_checked h rfl (by simp [he, hpattern, hres, htone, hon]))
  case qualityGet =>
    dsimp only
    intro p s₀ s h he hres hon
    exact congrArg Host.Outcome.next (runCommand_checked h rfl (by simp [he, hres, hon]))

end Sys2Proof.Machine

namespace Sys2Proof.Machine

/-! ### The ceiling in force (R194, R212) -/

/-- The least of the four limits of R194: configured, throttle, fit and margin. -/
def leastLimit (s : State) : Nat := min (min s.fec.ceilUse s.fec.thmLimit) (min (fitLimit s) (marginLimit s))

/-- The least limit is one of the four. -/
theorem leastLimit_mem (s : State) : leastLimit s = s.fec.ceilUse ∨ leastLimit s = s.fec.thmLimit ∨
    leastLimit s = fitLimit s ∨ leastLimit s = marginLimit s := by
  unfold leastLimit
  omega

/-- The least limit is at most each of the four. -/
theorem leastLimit_le (s : State) : leastLimit s ≤ s.fec.ceilUse ∧ leastLimit s ≤ s.fec.thmLimit ∧
    leastLimit s ≤ fitLimit s ∧ leastLimit s ≤ marginLimit s := by
  unfold leastLimit
  omega

theorem ceilingForce_of_powered {s : State} (h : s.fec.powered = true) : ceilingForce s = max 2 (leastLimit s) := if_pos h

theorem ceilingForce_of_unpowered {s : State} (h : s.fec.powered = false) : ceilingForce s = 0 := if_neg (by simp [h])

/-- Settles O26: a powered pool runs at the least limit or, where that is below 2, at 2 (R194, R198); an unpowered one reads 0
(R212). -/
theorem ceilingIsTheLeastLimitAndNeverBelowTwo : Obligations.Ceiling_is_the_least_limit_and_never_below_two := by
  refine fun s => ⟨fun hp => ?_, ceilingForce_of_unpowered⟩
  rw [ceilingForce_of_powered hp]
  rcases Nat.le_total (leastLimit s) 2 with hlow | hhigh
  · rw [Nat.max_eq_left hlow]
    exact ⟨Nat.le_refl 2, fun h => absurd h (Nat.lt_irrefl 2), .inl rfl⟩
  · rw [Nat.max_eq_right hhigh]
    exact ⟨hhigh, fun _ => leastLimit_le s, .inr (leastLimit_mem s)⟩

/-! ### The decoder pool and the commands of group 0x05 (R191, R197 to R211) -/

/-- Settles O47: each event by the branch its hypotheses choose, each command by its checks passing. That KAT_PASS counts the passes
of the power-up self-check and of a retest too is log 88, the model's choice. -/
theorem softDecisionRowsTakeTheirEffect : Obligations.Soft_decision_rows_take_their_effect := by
  unfold Obligations.Soft_decision_rows_take_their_effect
  refine ⟨?arrival, fun _ => rfl, ?delivery, fun _ _ => rfl, ?katComplete, ?window, fun _ => rfl, ?retestComplete, ?selfcheck,
    ?cfgSet, ?thrSet, ?statsGet, ?poolGet, ?coreRetest, ?errInject⟩
  case arrival =>
    rintro engine bits zeroAt s ⟨hpow, hlock⟩
    exact if_neg (by simp [hpow, hlock])
  case delivery =>
    intro block result s b hb
    show execFecBlockDelivery block result s = _
    rw [execFecBlockDelivery, hb]
  case katComplete =>
    intro core passed s c hkat
    have hlive : ¬ (!c.kat) = true := by simp [hkat]
    exact ⟨fun hp => (if_neg hlive).trans (if_pos hp), fun hp => (if_neg hlive).trans (if_neg (by simp [hp]))⟩
  case window =>
    intro engine s x t hpow
    have hlive : ¬ (!s.fec.powered) = true := by simp [hpow]
    exact ⟨fun hnone => (if_neg hlive).trans (if_pos hnone), fun hsome => (if_neg hlive).trans (if_neg hsome)⟩
  case retestComplete => exact fun _ _ _ hretest => if_neg (by simp [hretest])
  case selfcheck =>
    rintro failed s ⟨hmode, hpow⟩
    exact if_neg (by simp [hmode, hpow])
  case cfgSet =>
    dsimp only
    rintro p s₀ s h ⟨hmin, hmax⟩ hwindow hres
    have hrange : ¬ (u8 p.params 0 < 2 ∨ 24 < u8 p.params 0) := by omega
    exact congrArg Host.Outcome.next (runCommand_checked h rfl (by
      simp only [List.forall_mem_cons, badParam_bad, reservedBytes_bad, decide_eq_false_iff_not]
      exact ⟨hrange, Nat.not_lt.mpr hwindow, not_not_intro hres, nofun⟩))
  case thrSet =>
    dsimp only
    rintro p s₀ s h he hfamily hres ⟨hsd0, hsd⟩ ⟨hsf0, hsf⟩
    exact congrArg Host.Outcome.next (runCommand_checked h rfl (by simp [he, hfamily, hres, hsd0, hsd, hsf0, hsf]))
  case statsGet =>
    dsimp only
    intro p s₀ s h _ he hres
    exact congrArg Host.Outcome.next (runCommand_checked h rfl (by simp [he, hres]))
  case poolGet => exact fun p s₀ s h => congrArg Host.Outcome.next (runCommand_checked (cs := []) h rfl nofun)
  case coreRetest =>
    dsimp only
    intro p s₀ s h _ hcore hres hretired hidle hroom
    have hrun := runCommand_checked_later (body := replyFecCoreRetest) h rfl (by simp [hcore, hres, hretired, hidle]) hroom
    exact congrArg Host.Outcome.next hrun
  case errInject =>
    dsimp only
    intro p s₀ s h he hres hrate hon
    exact congrArg Host.Outcome.next (runCommand_checked h rfl (by simp [he, hres, hrate, hon]))

end Sys2Proof.Machine

namespace Sys2Proof.Machine

/-! ### A deferral that answers with response bytes (R70, R72) -/

/-- A granted command whose checks all pass, and which goes on with a deferral that finds room, is answered DEFERRED with its response
bytes and begins its effect (R72, R75). -/
theorem runCommand_checked_laterWith {c : CmdInfo} {body : Packet → State → Reply} {p : Packet} {s₀ s : State} {cs : List Check}
    {resp : List Byte} {unit group code : Nat} {abortPayload : List Byte} {eff : State → State} (h : Granted c p s₀ s)
    (hbody : body p s = checked s cs (.laterWith resp unit group code abortPayload eff)) (hpass : ∀ chk ∈ cs, chk.bad = false)
    (hroom : s.hif.deferred.length < 64) :
    runCommand c body p s₀ = endOrigin (eff (beginOrigin p.tag p.chan.val (answered c.opcode p s₀ .deferred resp
      (addDeferred (senderOf c.opcode p s₀) unit group code abortPayload s)))) := by
  rw [runCommand_granted h, hbody, checked_pass hpass]
  exact if_neg (Nat.not_le.mpr hroom)

/-! ### Map plans, protection and the commands of group 0x07 (R250 to R266) -/

/-- Settles O49: each event by the branch its hypotheses choose, each command by its checks passing; `hbody` is what a command does with
the staged plan, the pending plan or the group that its hypotheses name. That a plan committed in STANDBY is only stored, and that each
engine applies its own part of a plan, are log 49, the model's choice. -/
theorem mappingRowsTakeTheirEffect : Obligations.Mapping_rows_take_their_effect := by
  unfold Obligations.Mapping_rows_take_their_effect
  refine ⟨?apply, ?locked, fun _ _ => rfl, fun _ _ => rfl, fun _ _ => rfl, fun _ _ _ => rfl, fun _ _ => rfl, fun _ _ => rfl,
    ?begin, ?load, ?commit, ?abort, ?get, ?cfgSet, ?cmd, ?status⟩
  case apply =>
    rintro engine s p hp ⟨hpow, hdone⟩
    show execMapPlanApply engine s = _
    rw [execMapPlanApply, hp]
    exact if_neg (by rw [hpow, hdone]; decide)
  case locked =>
    rintro trib s x hx ⟨hpow, hpath, hin⟩
    show execDemapperLocked trib s = _
    rw [execDemapperLocked, hx]
    exact if_neg (by simp [hpow, hpath, hin])
  case begin =>
    intro p s₀ s h hop hres
    exact congrArg Host.Outcome.next (runCommand_checked h rfl (by simp [hop, hres]))
  case load =>
    dsimp only
    intro p s₀ s h st hst hpass
    have hbody := replyMapPlanLoad.eq_def p s
    simp only [hst] at hbody
    exact congrArg Host.Outcome.next (runCommand_checked h hbody hpass)
  case commit =>
    dsimp only
    intro p s₀ s h plan hst hid hcrc hahead hres hns hfits hidle
    have hbody := replyMapPlanCommit.eq_def p s
    simp only [hst, hfits, hidle, Bool.false_eq_true, if_false] at hbody
    refine ⟨fun hstandby => congrArg Host.Outcome.next
      (runCommand_checked h (hbody.trans (congrArg (checked s _) (if_pos hstandby))) ?_), fun hlive hroom => ?_⟩
    · simp [hid, hcrc, hahead, hres, hns]
    · have hrun := runCommand_checked_laterWith h (hbody.trans (congrArg (checked s _) (if_neg hlive)))
        (by simp [hid, hcrc, hahead, hres, hns]) hroom
      exact congrArg Host.Outcome.next hrun
  case abort =>
    intro p s₀ s h c hc hahead
    have hbody : replyMapPlanAbort p s = .ok (planAbort s) := by
      rw [replyMapPlanAbort, hc]
      exact if_neg (Bool.eq_false_iff.mp hahead)
    exact congrArg Host.Outcome.next (runCommand_checked (cs := []) h hbody nofun)
  case get =>
    dsimp only
    intro p s₀ s h hop hres1 hfirst hn hend hres5
    exact congrArg Host.Outcome.next (runCommand_checked h rfl (by simpa [hop, hres1, hfirst, hend, hres5] using hn))
  case cfgSet =>
    dsimp only
    rintro p s₀ s h g hg hflags hres hholdoff ⟨hmin, hmax⟩
    have hbody := replyApsCfgSet.eq_def p s
    simp only [hg] at hbody
    exact congrArg Host.Outcome.next (runCommand_checked h hbody (by simp [hflags, hres, hholdoff, hmin, hmax]))
  case cmd =>
    dsimp only
    intro p s₀ s h g hg hcmd hres
    have hbody := replyApsCmd.eq_def p s
    simp only [hg] at hbody
    exact congrArg Host.Outcome.next (runCommand_checked h hbody (by simp [hcmd, hres]))
  case status =>
    dsimp only
    intro p s₀ s h g hg hres
    have hbody := replyApsStatusGet.eq_def p s
    simp only [hg] at hbody
    exact congrArg Host.Outcome.next (runCommand_checked h hbody (by simp [hres]))

end Sys2Proof.Machine

namespace Sys2Proof.Machine

/-! ### Erasing a key (R290, R293) -/

/-- A record of the Logbook leaves the cipher engine. -/
theorem logRecord_cph (type item : Nat) (payload : List Byte) (s : State) : (logRecord type item payload s).cph = s.cph :=
  (congrArg State.cph (logRecord_onlyLog type item payload s) :)

/-- The records of a slot leave the cipher engine. -/
theorem logSlot_cph (old : KeySlot) (k : Nat) (s : State) : (logSlot old k s).cph = s.cph := by
  unfold logSlot
  dsimp only
  rw [logRecord_cph]
  split
  · exact logRecord_cph ..
  · rfl

/-- An answer leaves the cipher engine. -/
theorem answered_cph (opcode : Nat) (p : Packet) (s₀ : State) (st : Status) (resp : List Byte) (t : State) :
    (answered opcode p s₀ st resp t).cph = t.cph :=
  (congrArg State.cph (reply_onlyHif (senderOf opcode p s₀) st 0xFFFF resp t) :)

/-- The state CPH_KEY_ERASE leads to: a slot with a key is emptied and recorded, an empty one stays (R290, R293). -/
def erasedKey (k : Nat) (s : State) : State :=
  if (s.keySlot k).loaded then logSlot (s.keySlot k) k (modKeySlot k retireKey s) else s

/-- CPH_KEY_ERASE refuses a slot that an epoch or a job uses (R293). -/
theorem runCommand_keyErase_bound {p : Packet} {s₀ s : State} (h : Granted (modCmd 0x0803 4) p s₀ s) (hk : u16 p.params 0 ≤ 1023)
    (hbound : 0 < slotBound (u16 p.params 0) s) :
    runCommand (modCmd 0x0803 4) replyCphKeyErase p s₀ = answered 0x0803 p s₀ .badState [] s := by
  have hslot : ¬ (badParam 0 (decide (1023 < u16 p.params 0))).bad = true := by simp [hk]
  have hbody : replyCphKeyErase p s = .fail .badState s := (if_neg hslot).trans (if_pos (decide_eq_true hbound))
  exact runCommand_checked (cs := []) h hbody nofun

/-- CPH_KEY_ERASE of a slot that nothing uses (R293). -/
theorem runCommand_keyErase_unused {p : Packet} {s₀ s : State} (h : Granted (modCmd 0x0803 4) p s₀ s) (hk : u16 p.params 0 ≤ 1023)
    (hunused : slotBound (u16 p.params 0) s = 0) (hres : leNat (bytesAt 2 2 p.params) = 0) :
    runCommand (modCmd 0x0803 4) replyCphKeyErase p s₀ = answered 0x0803 p s₀ .ok [] (erasedKey (u16 p.params 0) s) :=
  runCommand_checked h rfl (by simp [hk, hunused, hres])

/-- The slots after an erasure: the retired key's check value stands in front of the history, of which 64 are kept (R290). -/
theorem erasedKey_slots {k : Nat} {s : State} (hload : (s.keySlot k).loaded = true) :
    (erasedKey k s).cph.slots = tabSet KeySlot.empty s.cph.slots k (retireKey (s.keySlot k)) := by
  rw [erasedKey, if_pos hload, logSlot_cph]
  rfl

/-- Settles O29: the slot's use decides between BAD_STATE and the erasure, in which a slot with a key is retired. -/
theorem keyEraseEmptiesAnUnusedSlot : Obligations.Key_erase_empties_an_unused_slot := by
  intro p s₀ s h hk k x
  refine ⟨fun hbound => congrArg Host.Outcome.next (runCommand_keyErase_bound h hk hbound), fun hunused hres => ?_⟩
  refine ⟨_, congrArg Host.Outcome.next (runCommand_keyErase_unused h hk hunused hres), fun hload => ?_, fun hempty => ?_⟩
  · rw [answered_cph, erasedKey_slots hload]
    exact congrArg (tabSet KeySlot.empty s.cph.slots k) (if_pos hload)
  · exact congrArg (answered 0x0803 p s₀ .ok []) (if_neg (by simp [k, x, hempty]))

/-! ### Groups, jobs and epochs (R277, R279, R282, R298, R302, R305) -/

/-- Settles O50: each event by the branch of its meaning that its hypotheses choose. That a job mismatch is recorded as 0x0033, that a
cancel leaves the output up to the block boundary, and that the header recorded is the next boundary's, are log 52, the model's choice. -/
theorem cipherEventsTakeTheirEffect : Obligations.Cipher_events_take_their_effect := by
  unfold Obligations.Cipher_events_take_their_effect
  refine ⟨fun _ => rfl, ?txBoundary, ?rxCheck, ?jobComplete, fun _ _ _ => rfl⟩
  case txBoundary =>
    intro trib group s x hx henc
    show execCphTxGroupBoundary trib group s = _
    rw [execCphTxGroupBoundary, hx]
    exact if_neg (by simp [henc])
  case rxCheck =>
    intro trib group s x hx henc
    have hrow : exec (.cphRxGroupCheck trib group) s = execCphRxGroupCheck trib group s := rfl
    rw [hrow]
    have hstep := execCphRxGroupCheck.eq_def trib group s
    simp only [hx] at hstep
    have hlive := hstep.trans (if_neg (by simp [henc]))
    refine ⟨fun hmask => hlive.trans (if_pos hmask), fun hmask => ?_⟩
    have hopen := hlive.trans (if_neg (by simp [hmask]))
    exact ⟨fun cause hfail => hopen.trans (by rw [hfail]), fun hpass => hopen.trans (by rw [hpass])⟩
  case jobComplete =>
    intro job end_ s j hj
    have hrow : exec (.cphJobComplete job end_) s = execCphJobComplete job end_ s := rfl
    rw [hrow]
    have hstep := execCphJobComplete.eq_def job end_ s
    simp only [hj] at hstep
    refine ⟨fun hc => hstep.trans (if_pos hc), fun hc hup => ?_⟩
    have hlive := (hstep.trans (if_neg (by simp [hc]))).trans (if_neg (by simp [hup]))
    refine ⟨fun form addr hs => hlive.trans (by rw [hs]), fun hs => ?_⟩
    simp only [hs] at hlive
    refine ⟨fun herr => hlive.trans (if_pos herr), fun herr hrun => ?_⟩
    have hruns := (hlive.trans (if_neg (by simp [herr]))).trans (if_neg (not_not_intro hrun))
    refine ⟨fun hm => hruns.trans (if_pos hm), fun hm => ?_⟩
    have hends := hruns.trans (if_neg (by simp [hm]))
    exact ⟨fun ⟨hchecks, htag⟩ => hends.trans (if_pos (by simpa [htag] using hchecks)),
      fun htag => hends.trans (if_neg (by simpa using htag))⟩

/-! ### The commands of group 0x08 (R276, R278, R285, R291 to R293, R296, R299, R300, R303) -/

/-- A granted command whose checks all pass, and which writes a key: it answers at once, or waits for the Logbook's commit where the
slot's record must be durable (R289, R469). -/
theorem runCommand_checked_durable {c : CmdInfo} {body : Packet → State → Reply} {p : Packet} {s₀ s t : State} {cs : List Check}
    {atOnce : Bool} {resp : List Byte} (h : Granted c p s₀ s) (hbody : body p s = checked s cs (durable atOnce resp t))
    (hpass : ∀ chk ∈ cs, chk.bad = false) :
    (atOnce = true → runCommand c body p s₀ = answered c.opcode p s₀ .ok resp t) ∧
    (atOnce = false → runCommand c body p s₀
      = waiting c.opcode p s₀ (takeKey t).1 (waitCommit (takeKey t).1 resp (takeKey t).2)) := by
  refine ⟨?_, ?_⟩ <;> rintro rfl
  · exact runCommand_checked h hbody hpass
  · exact runCommand_checked_wait h hbody hpass

/-- Settles O51: each command's checks pass, and it goes on with its answer, its deferral or the commit it waits for; `hbody` is what a
command does with the epoch, the job or the saved context that its hypotheses name. That every job advances the invocation counter, and
that a restore of an admitted JOB_ID is BAD_STATE, are log 52, the model's choice. -/
theorem cipherCommandsTakeTheirEffect : Obligations.Cipher_commands_take_their_effect := by
  unfold Obligations.Cipher_commands_take_their_effect
  refine ⟨?keyImport, ?keyAgree, ?keyErase, ?keyInfo, ?epochSet, ?epochSwitch, ?tribSet, ?tribGet, ?jobSubmit, ?jobCancel,
    ?ctxSave, ?ctxRestore⟩
  case keyImport =>
    dsimp only
    rintro p s₀ s h hk hunused hres2 hmagic hver hflags husage hallowed hslot hkek ⟨hload, hwrap⟩ hres28 htag hnew hflash
    obtain ⟨hnow, hwait⟩ := runCommand_checked_durable (body := replyCphKeyImport) h rfl (by
      simpa [hk, Nat.le_zero.mp hunused, hres2, hmagic, hver, hflags, husage, hallowed, hslot, hkek, hload, hwrap, hres28, htag]
        using And.intro hnew hflash)
    exact ⟨fun ⟨hvol, hkept⟩ => congrArg Host.Outcome.next (hnow (by simp [hvol, hkept])),
      fun hlast => congrArg Host.Outcome.next (hwait (by simpa using hlast))⟩
  case keyAgree =>
    dsimp only
    rintro p s₀ s h hk hunused hflags hres3 ⟨hform, hcurve⟩ hres101 hnew hflash
    obtain ⟨hnow, hwait⟩ := runCommand_checked_durable (body := replyCphKeyAgree) h rfl (by
      simpa [hk, Nat.le_zero.mp hunused, hflags, hres3, hform, hcurve, hres101] using And.intro hnew hflash)
    exact ⟨fun ⟨hvol, hkept⟩ => congrArg Host.Outcome.next (hnow (by simp [hvol, hkept])),
      fun hlast => congrArg Host.Outcome.next (hwait (by simpa using hlast))⟩
  case keyErase =>
    intro p s₀ s h k hk hunused hres
    exact congrArg Host.Outcome.next (runCommand_keyErase_unused h hk (Nat.le_zero.mp hunused) hres)
  case keyInfo =>
    dsimp only
    intro p s₀ s h hk hres
    exact congrArg Host.Outcome.next (runCommand_checked h rfl (by simp [hk, hres]))
  case epochSet =>
    dsimp only
    intro p s₀ s h ht henc hdir hsrc hk hkey href hlimit0 hlimit hdctr hready
    exact congrArg Host.Outcome.next (runCommand_checked h rfl (by
      simpa [ht, henc, hdir, hsrc, hk, href]
        using And.intro hkey (And.intro hlimit0 (And.intro hlimit (And.intro hdctr hready)))))
  case epochSwitch =>
    dsimp only
    intro p s₀ s h e he ht hres2 hahead hres10 hns hidle hroom
    have hbody := replyCphEpochSwitch.eq_def p s
    simp only [he] at hbody
    have hrun := runCommand_checked_later h hbody (by simp [ht, hres2, hahead, hres10, hns, hidle]) hroom
    exact congrArg Host.Outcome.next hrun
  case tribSet =>
    dsimp only
    intro p s₀ s h ht henc hsav hres
    exact congrArg Host.Outcome.next (runCommand_checked h rfl (by simp [ht, henc, hsav, hres]))
  case tribGet =>
    dsimp only
    intro p s₀ s h ht hres
    exact congrArg Host.Outcome.next (runCommand_checked h rfl (by simp [ht, hres]))
  case jobSubmit =>
    dsimp only
    rintro p s₀ s h ⟨hop0, hop⟩ hprio hsrc hflags hk ⟨hload, husage⟩ hid hlen0 hlen haad hdctr hres hfree hready hroom
    have hrun := runCommand_checked_later (body := replyCphJobSubmit) h rfl (by
      simpa [hop0, hop, hprio, hsrc, hflags, hk, hload, hid, hlen, haad, hres, hfree]
        using And.intro husage (And.intro hlen0 (And.intro hdctr hready))) hroom
    exact congrArg Host.Outcome.next hrun
  case jobCancel =>
    intro p s₀ s h hjob hres
    exact congrArg Host.Outcome.next (runCommand_checked h rfl (by simp [hjob, hres]))
  case ctxSave =>
    rintro p s₀ s h form j hj clearOk ⟨hform0, hform⟩ hclear hres haddr
    have hbody := replyCphCtxSave.eq_def p s
    simp only [hj] at hbody
    have hrange : (decide (form = 0) || decide (2 < form)) = false := by simp [hform0, hform]
    have hallowed : (decide (form = 2) && !clearOk) = false := by simpa using hclear
    exact congrArg Host.Outcome.next (runCommand_checked h hbody (by
      simp only [List.forall_mem_cons, badParam_bad, failIf_bad, reservedBytes_bad]
      exact ⟨hrange, hallowed, by simp [hres], by simp [haddr], nofun⟩))
  case ctxRestore =>
    dsimp only
    rintro p s₀ s h x hx ⟨hload, hkey, hid⟩ hfree hroom
    have hbody := replyCphCtxRestore.eq_def p s
    simp only [hx] at hbody
    have hrun := runCommand_checked_later h hbody (by simp [hload, hkey, hid, hfree]) hroom
    exact congrArg Host.Outcome.next hrun

end Sys2Proof.Machine

namespace Sys2Proof.Machine

/-! ### Deficit round robin (R323) -/

/-- A visit ends at an entity of the list, with the positive deficit it wrote for it. -/
theorem drrVisit_some {weight : Nat → Nat} {fuel : Nat} {ks : List Nat} {d d' : Tab Int} {k : Nat} (hd : tabWf 0 d = true)
    (h : drrVisit weight fuel ks d = some (k, d')) : k ∈ ks ∧ 0 < tabGet 0 d' k ∧ tabWf 0 d' = true := by
  fun_induction drrVisit weight fuel ks d with
  | case1 | case2 => exact nomatch h
  | case3 fuel j js d v d1 hpos =>
    obtain ⟨rfl, rfl⟩ := Prod.mk.inj (Option.some.inj h)
    refine ⟨List.mem_cons_self, ?_, tabSet_wf 0 d j v hd⟩
    rwa [tabGet_tabSet 0 d j j v hd, if_pos rfl]
  | case4 fuel j js d v d1 hneg ih =>
    obtain ⟨hk, hrest⟩ := ih (tabSet_wf 0 d j v hd) h
    exact ⟨(List.perm_append_singleton j js).mem_iff.mp hk, hrest⟩

/-- Reading a shape after a write: the value written there, what stood there elsewhere. -/
theorem modShape_shape {s : State} (hs : tabWf Shape.reset s.pkt.shapes = true) (j k : Nat) (f : Shape → Shape) :
    (modShape j f s).shape k = if j = k then f (s.shape j) else s.shape k :=
  tabGet_tabSet Shape.reset s.pkt.shapes j k (f (s.shape j)) hs

/-- Setting deficits to 0 one after the other: those listed end at 0, and one that was 0 stays so. -/
theorem foldl_modShape_deficit_zero {l : List Nat} {k : Nat} {s : State} (hs : tabWf Shape.reset s.pkt.shapes = true)
    (h : k ∈ l ∨ (s.shape k).deficit = 0) :
    ((l.foldl (fun u j => modShape j (fun x => { x with deficit := 0 }) u) s).shape k).deficit = 0 := by
  induction l generalizing s with
  | nil => exact h.resolve_left (List.not_mem_nil)
  | cons j l ih =>
    refine ih (tabSet_wf Shape.reset s.pkt.shapes j _ hs) ?_
    rw [modShape_shape hs]
    by_cases hjk : j = k
    · exact .inr (by rw [if_pos hjk])
    · rw [if_neg hjk]
      exact h.imp_left fun hk => (List.mem_cons.mp hk).resolve_left (Ne.symm hjk)

/-- An index that a table does not list reads as the default. -/
theorem tabGet_of_not_mem {α : Type} (d : α) {t : Tab α} {k : Nat} (h : k ∉ t.map (fun e => e.1)) : tabGet d t k = d := by
  induction t with
  | nil => rfl
  | cons e t ih =>
    exact (if_neg (List.ne_of_not_mem_cons h).symm).trans (ih (List.not_mem_of_not_mem_cons h))

/-- What has no eligible frame at its port's transmission opportunity loses its deficit; what has no shape listed has none. -/
theorem loseDeficits_deficit {q k : Nat} {s : State} (hs : tabWf Shape.reset s.pkt.shapes = true) (hport : portOf k s = q)
    (hidle : hasEligible k s = false) : ((loseDeficits q s).shape k).deficit = 0 := by
  refine foldl_modShape_deficit_zero hs ?_
  by_cases hk : k ∈ s.pkt.shapes.map (fun e => e.1)
  · exact .inl (List.mem_filter.mpr ⟨hk, by simp [hport, hidle]⟩)
  · exact .inr (congrArg Shape.deficit (tabGet_of_not_mem Shape.reset hk))

/-- Settles O32: the entity served last keeps its turn on a positive deficit, and a visit ends only at one. That the deficit is lost
at the port's transmission opportunity is log 53, the model's choice. -/
theorem roundRobinSendsOnAPositiveDeficit : Obligations.Round_robin_sends_on_a_positive_deficit := by
  refine ⟨fun weight elig last k d d' hd h => ?_, fun q k s hs => loseDeficits_deficit hs⟩
  rw [drrPick] at h
  split at h
  next hlast =>
    obtain ⟨hmem, hpos⟩ := Bool.and_eq_true_iff.mp hlast
    obtain ⟨rfl, rfl⟩ := Prod.mk.inj (Option.some.inj h)
    exact ⟨List.contains_iff_mem.mp hmem, of_decide_eq_true hpos, hd⟩
  next =>
    obtain ⟨hk, hrest⟩ := drrVisit_some hd h
    exact ⟨(List.mem_append.mp hk).elim (fun h => (List.mem_filter.mp h).1) (fun h => (List.mem_filter.mp h).1), hrest⟩

/-! ### The windows of a gate list (R331) -/

/-- The lengths sum to the cycle: the last window is cut at its end or held to it. -/
theorem gateWindows_sum {es : List GateEntry} {cycle : Nat} (hes : es ≠ []) :
    ((gateWindows es cycle).map (fun w => w.2)).sum = cycle := by
  fun_induction gateWindows es cycle with
  | case1 => exact absurd rfl hes
  | case2 | case4 => rfl
  | case3 | case5 => exact Nat.add_zero _
  | case6 e f es left _ hlong ih =>
    rw [List.map_cons, List.sum_cons, ih (List.cons_ne_nil f es)]
    omega

/-- The states are those of the first entries, in order. -/
theorem gateWindows_states_isPrefix (es : List GateEntry) (cycle : Nat) :
    (gateWindows es cycle).map (fun w => w.1) <+: es.map (fun e => e.states) := by
  fun_induction gateWindows es cycle with
  | case1 | case2 | case3 | case4 | case5 => exact ⟨_, rfl⟩
  | case6 e f es left _ _ ih =>
    obtain ⟨rest, hrest⟩ := ih
    exact ⟨rest, congrArg (List.cons e.states) hrest⟩

/-- Only an entry with an interval of 0 gives an empty window. -/
theorem gateWindows_pos {es : List GateEntry} {cycle : Nat} {w : Nat × Nat} (hw : w ∈ gateWindows es cycle) :
    0 < w.2 ∨ ∃ e ∈ es, e.interval = 0 := by
  fun_induction gateWindows es cycle with
  | case1 | case2 | case4 => exact nomatch hw
  | case3 e left hleft | case5 e f es left hleft =>
    rw [List.mem_singleton.mp hw]
    exact .inl (Nat.pos_of_ne_zero hleft)
  | case6 e f es left _ _ ih =>
    rcases List.mem_cons.mp hw with rfl | hw
    · exact (Nat.eq_zero_or_pos e.interval).symm.imp (Nat.mul_pos (by decide)) fun h0 => ⟨e, List.mem_cons_self, h0⟩
    · exact (ih hw).imp_right fun ⟨x, hx, h0⟩ => ⟨x, List.mem_cons_of_mem e hx, h0⟩

/-- Settles O33: each of the three by the recursion of the windows over the entries. -/
theorem gateWindowsFillTheCycle : Obligations.Gate_windows_fill_the_cycle :=
  fun es cycle hes => ⟨gateWindows_sum hes, gateWindows_states_isPrefix es cycle, fun _ hw => gateWindows_pos hw⟩

end Sys2Proof.Machine

namespace Sys2Proof.Machine

/-! ### Frames, shaping wheels and gates (R309 to R346) -/

/-- A re-anchored list restarts where no pending one starts before it (R335). -/
theorem execPktGateListStart_of_restart {port : Fin 288} {s : State} {l : GateList} (hl : (s.port port.val).gates.restart = some l)
    (hp : ∀ p, (s.port port.val).gates.pending = some p → l.startTod ≤ p.startTod) :
    execPktGateListStart port s = .next (restartList port.val l s) := by
  have hstep := execPktGateListStart.eq_def port s
  simp only [hl] at hstep
  cases hpend : (s.port port.val).gates.pending with
  | none => rw [hstep, hpend]
  | some p => rw [hstep, hpend]; exact congrArg Host.Outcome.next (if_neg (Nat.not_lt.mpr (hp p hpend)))

/-- A pending list starts where it comes before every re-anchored one (R332). -/
theorem execPktGateListStart_of_pending {port : Fin 288} {s : State} {l : GateList} (hl : (s.port port.val).gates.pending = some l)
    (hr : ∀ r, (s.port port.val).gates.restart = some r → l.startTod < r.startTod) :
    execPktGateListStart port s = .next (startPending port.val l s) := by
  have hstep := execPktGateListStart.eq_def port s
  simp only [hl] at hstep
  cases hrest : (s.port port.val).gates.restart with
  | none => rw [hstep, hrest]
  | some r => rw [hstep, hrest]; exact congrArg Host.Outcome.next (if_pos (hr r hrest))

/-- Settles O52: each event by the branch of its meaning that its hypotheses choose. That an arriving frame with a failed tag is
counted in PKT_DROP_AUTH, that a pending disable takes effect at a restart, and that a drop at classification counts in the statistics of
a known subscriber, are log 53, and that the gates hold their STATES while a re-anchored list waits is log 55: the model's choice. -/
theorem packetEventsTakeTheirEffect : Obligations.Packet_events_take_their_effect := by
  unfold Obligations.Packet_events_take_their_effect
  refine ⟨?received, ?opportunity, fun _ _ => rfl, fun _ _ => rfl, ?entryEnd, ?cycleStart, ?listStart, ?init⟩
  case received =>
    rintro port frame s x ⟨hready, hup, hbegun⟩
    have hlive : ¬ (s.pkt.ready = false ∨ x.ingressUp = false ∨ (x.stopped = true ∧ frame.begun = false)) := by
      simpa [hready, hup] using hbegun
    refine ⟨fun hmac => (if_neg hlive).trans (if_pos hmac), fun ⟨hfcs, hmin, hmax, hctl⟩ => ?_⟩
    have hwhole : ¬ (frame.fcsOk = false ∨ frame.len < 64 ∨ x.cfg.mtu < frame.len ∨ frame.control = true) := by
      simp [hfcs, hmin, hmax, hctl]
    refine ⟨fun hauth => (if_neg hlive).trans ((if_neg hwhole).trans (if_pos hauth)), fun hauth => ?_⟩
    have htag : ¬ frame.authBad = true := Bool.eq_false_iff.mp hauth
    refine ⟨fun hmiss => ?_, fun sub hsub => ⟨fun hfwd => ?_, fun hfwd => ?_⟩⟩
    all_goals refine (if_neg hlive).trans ((if_neg hwhole).trans ((if_neg htag).trans ?_))
    · rw [hmiss]
    · rw [hsub]
      exact if_pos hfwd
    · rw [hsub]
      exact if_neg (Bool.eq_false_iff.mp hfwd)
  case opportunity =>
    rintro port read s x ⟨hready, hup, hfree⟩
    have hlive : ¬ (s.pkt.ready = false ∨ x.egressUp = false ∨ x.held = true) := by simp [hready, hup, hfree]
    refine ⟨fun s1 hnone => (if_neg hlive).trans (by rw [hnone]), fun f len s1 hsend => ?_⟩
    refine ⟨fun hfirst => ?_, fun i hlater hi => ?_, fun hgood => ⟨fun hauth => ?_, fun hauth => ?_⟩⟩
    all_goals refine (if_neg hlive).trans ?_; simp only [hsend]
    · simp only [hfirst]
    · obtain ⟨j, rfl⟩ := Nat.exists_eq_succ_of_ne_zero hi
      simp only [hlater]
    · simp only [hgood]
      exact congrArg Host.Outcome.next (if_pos hauth)
    · simp only [hgood]
      exact congrArg Host.Outcome.next (if_neg (Bool.eq_false_iff.mp hauth))
  case entryEnd =>
    dsimp only
    intro port s l hl hr hmore
    have hstep := execPktGateEntryEnd.eq_def port s
    simp only [hl, hr] at hstep
    exact hstep.trans (if_neg (Nat.not_le.mpr hmore))
  case cycleStart =>
    dsimp only
    intro port s l hl hr
    have hstep := execPktGateCycleStart.eq_def port s
    simp only [hl, hr] at hstep
    exact ⟨fun hoff => hstep.trans (if_pos hoff), fun hon => hstep.trans (if_neg (Bool.eq_false_iff.mp hon))⟩
  case listStart =>
    refine fun port s => ⟨fun l hl hp => ?_, fun l hl hr => execPktGateListStart_of_pending hl hr⟩
    have hstart := execPktGateListStart_of_restart hl hp
    exact ⟨fun hon => hstart.trans (congrArg Host.Outcome.next (if_neg (Bool.eq_false_iff.mp hon))),
      fun hoff => hstart.trans (congrArg Host.Outcome.next (if_pos hoff))⟩
  case init =>
    rintro s ⟨hpow, hready⟩
    exact if_neg (by simp [hpow, hready])

/-! ### The commands of group 0x09 (R312, R319, R331, R332, R343, R344) -/

/-- Settles O53: each command's checks pass, and it goes on with its answer or its deferral; for PKT_GATE_SET `hbody` is what it does
once the checks of its port and flags pass. That CANCEL discards the staged entries and a pending disable, and that the statistics are of
kinds 0 and 1, are log 53, the model's choice. -/
theorem packetCommandsTakeTheirEffect : Obligations.Packet_commands_take_their_effect := by
  unfold Obligations.Packet_commands_take_their_effect
  refine ⟨?portSet, ?entitySet, ?entityGet, ?ruleAdd, ?ruleDel, ?gateLoad, ?gateSet, ?statsGet⟩
  case portSet | entitySet | ruleAdd | ruleDel | gateLoad =>
    dsimp only
    exact fun p s₀ s h hpass => congrArg Host.Outcome.next (runCommand_checked h rfl hpass)
  case entityGet | statsGet =>
    dsimp only
    rintro p s₀ s h hkind hres1 hfirst hn ⟨hbatch, hend⟩ hres6
    exact congrArg Host.Outcome.next
      (runCommand_checked h rfl (by simpa [hkind, hres1, hfirst, hn, hend, hres6] using hbatch))
  case gateSet =>
    intro p s₀ s h q enable cancel cycle n base g a baseNs nowNs hq hflags hres3 hres10 hres18
    have hbody : replyPktGateSet p s = _ := checked_pass (by simp [q, hq, hflags, hres3])
    refine ⟨fun hcancel => ?cancelled, fun hkeep => ⟨fun hoff hidle => ⟨fun hnone => ?opened, fun hsome hroom => ?disabled⟩,
      fun hon hcycle hn0 hn hns hpast hahead hidle es hes hroom => ?started⟩⟩
    case cancelled =>
      exact congrArg Host.Outcome.next
        (runCommand_checked h (hbody.trans (if_pos hcancel)) (by simp [hres10, hres18]))
    case opened =>
      have hset := (hbody.trans (if_neg (Bool.eq_false_iff.mp hkeep))).trans (if_pos (by simpa using hoff))
      exact congrArg Host.Outcome.next (runCommand_checked h (hset.trans (congrArg (checked s _) (if_pos hnone)))
        (by simpa [hres10, hres18] using hidle))
    case disabled =>
      have hset := (hbody.trans (if_neg (Bool.eq_false_iff.mp hkeep))).trans (if_pos (by simpa using hoff))
      have hrun := runCommand_checked_later h
        (hset.trans (congrArg (checked s _) (if_neg (Bool.eq_false_iff.mp hsome)))) (by simpa [hres10, hres18] using hidle) hroom
      exact congrArg Host.Outcome.next hrun
    case started =>
      have hset := (hbody.trans (if_neg (Bool.eq_false_iff.mp hkeep))).trans (if_neg (by simpa using hon))
      have hlater := hset.trans (congrArg (checked s _) (by rw [hes]))
      have hrun := runCommand_checked_later h hlater
        (by
        simpa [hres10, hres18, and_assoc, nowNs, baseNs, n, cycle, base, a, g, q, hes] using
          And.intro hcycle (And.intro hn0 (And.intro hn (And.intro hpast (And.intro hahead (And.intro hns hidle)))))) hroom
      exact congrArg Host.Outcome.next hrun

end Sys2Proof.Machine

namespace Sys2Proof.Machine

/-! ### Memory integrity and the commands of group 0x0E (R340, R442 to R457) -/

/-- Settles O59: each event by the branch its hypotheses choose, each command by its checks passing. That a failed reload of a code page
resets nothing where an application reset is not possible (log 11), which rows stay poisoned (log 67), and that the outcome of a flip test
of mode 0 is a free value (log 14), are the model's choice. -/
theorem memoryRowsTakeTheirEffect : Obligations.Memory_rows_take_their_effect := by
  unfold Obligations.Memory_rows_take_their_effect
  refine ⟨fun _ _ _ h => if_pos h, ?correctable, ?uncorrectable, ?patrolRead, ?reload, ?march, ?scrubEnd, ?scrub, ?patrolSet,
    ?flip, ?cinders, ?classGet⟩
  case correctable =>
    rintro cls inst row scrub found s ⟨hrow, herr⟩
    have hlive : ¬ (!(rowLive cls.val inst s && isError found cls.val inst row s)) = true := by simp [hrow, herr]
    exact ⟨fun ⟨hstuck, hreal⟩ => (if_neg hlive).trans (if_pos (by simp [hstuck, hreal])),
      fun hgone => (if_neg hlive).trans (if_neg (by simpa using hgone))⟩
  case uncorrectable =>
    rintro cls inst row scrub target s ⟨hrow, hwritten⟩
    have hlive : ¬ (!rowLive cls.val inst s || unwritten cls.val inst row s) = true := by simp [hrow, hwritten]
    refine ⟨fun hpoison hread => ?_, fun hfresh => (if_neg hlive).trans (if_neg (Bool.eq_false_iff.mp hfresh))⟩
    exact (if_neg hlive).trans ((if_pos hpoison).trans (if_neg (Bool.eq_false_iff.mp hread)))
  case patrolRead => exact fun _ _ h => if_neg (by simp [h])
  case reload =>
    intro ok s hrun
    have hlive : ¬ s.mi.reloading.isNone = true := Bool.eq_false_iff.mp hrun
    refine ⟨fun hdone => (if_neg hlive).trans (if_pos ?_), fun ⟨hfail, hreset⟩ => (if_neg hlive).trans (if_neg ?_)⟩
    · simpa using hdone
    · simpa [hfail] using hreset
  case march =>
    intro tile passed s hmarch
    have hlive : ¬ (!s.pkt.marching.contains tile) = true := by rw [hmarch]; decide
    exact ⟨fun hp => (if_neg hlive).trans (if_pos hp), fun hp => (if_neg hlive).trans (if_neg (Bool.eq_false_iff.mp hp))⟩
  case scrubEnd =>
    intro cls unwritten s x hx
    have hstep := execScrubRangeComplete.eq_def cls unwritten s
    simp only [hx] at hstep
    exact hstep
  case scrub =>
    intro p s₀ s h k x hk hres hinst hrows
    have hbody : replyMiScrubRange p s = _ := checked_pass (by simp [k, x, hk, hres, hinst, hrows])
    refine ⟨fun hnone => congrArg Host.Outcome.next (runCommand_checked (cs := []) h (hbody.trans (if_pos hnone)) nofun),
      fun hsome hpow ⟨hidle, hfew⟩ hroom => ?_⟩
    have hrun := runCommand_checked_later h (hbody.trans (if_neg hsome)) (by simpa [k, hpow, hidle] using hfew) hroom
    exact congrArg Host.Outcome.next hrun
  case patrolSet =>
    dsimp only
    intro p s₀ s h hn0 hn hres
    exact congrArg Host.Outcome.next (runCommand_checked h rfl (by simp [hn0, hn, hres]))
  case flip =>
    intro p s₀ s h k mode inst row dm cm m hk hmode hlive hpile hinst hrow hn0 hn hmask hres hlast hallowed hpow hport
    rw [Decidable.or_iff_not_imp_left] at hallowed
    have hbody : replyMiFlipTest p s = _ := checked_pass (by
      simpa [k, mode, inst, row, dm, cm, m, hk, hmode, hinst, hres, hpow] using
        And.intro hallowed (And.intro hlive (And.intro hpile (And.intro hrow (And.intro hn0 (And.intro hn (And.intro hmask
          (And.intro hlast hport))))))))
    have hrun := runCommand_granted (body := replyMiFlipTest) h
    rw [hbody] at hrun
    refine ⟨fun h0 => ?_, fun h0 => ⟨fun h1 => ?_, fun h1 => ?_⟩⟩
    · exact congrArg Host.Outcome.next (hrun.trans (congrArg _ (if_pos h0)))
    · exact congrArg Host.Outcome.next (hrun.trans (congrArg _ ((if_neg h0).trans (if_pos h1))))
    · exact congrArg Host.Outcome.next (hrun.trans (congrArg _ ((if_neg h0).trans (if_neg h1))))
  case cinders =>
    dsimp only
    rintro p s₀ s h ⟨hfirst, hend⟩ ⟨hn0, hn⟩
    exact congrArg Host.Outcome.next (runCommand_checked h rfl (by simpa [hfirst, hn0] using And.intro hend hn))
  case classGet =>
    dsimp only
    intro p s₀ s h hk hres
    exact congrArg Host.Outcome.next (runCommand_checked h rfl (by simp [hk, hres]))

end Sys2Proof.Machine

namespace Sys2Proof.Machine

/-! ### One step (R67, R93) -/

/-- Settles O1: a step takes the front of the queue by definition. -/
theorem stepRunsTheFrontCommand : Obligations.Step_runs_the_front_command := fun _ _ _ => rfl

/-- Every row, a reset of the pins among them, answers a next state and leaves the queue of waiting commands. -/
theorem exec_next_pending (i : Instr) (s : State) : ∃ t, exec i s = .next t ∧ t.pending = s.pending := by
  cases hi : leavesLockout i with
  | false =>
    obtain ⟨t, ht, hm⟩ := exec_moves i s hi
    exact ⟨t, ht, hm.pending⟩
  | true =>
    obtain ⟨t, ht, rfl | hr⟩ := exec_pinReset s hi
    · exact ⟨t, ht, rfl⟩
    · exact ⟨t, ht, congrArg Spine.pending hr⟩

/-- Settles O3: by what the rows do to the spine, of which the queue is a part. That no row answers a fault or a refusal is log 76,
the model's choice. -/
theorem everyRowAnswersAndKeepsTheQueue : Obligations.Every_row_answers_and_keeps_the_queue := exec_next_pending

theorem canStart_eq_none {s : State} {n : Nat} (h : (s.queue n).waiting = []) : canStart s n = none := by
  rw [canStart, h]

/-- Where no queue holds a waiting entry, none starts. -/
theorem nextHeld_eq_none {s : State} (h : ∀ n, n < 16 → (s.queue n).waiting = []) : nextHeld s = none := by
  refine congrArg (Option.map _) (List.foldlRecOn (motive := (· = none)) (List.range 16) _ rfl ?_)
  rintro _ rfl n hn
  rw [canStart_eq_none (h n (List.mem_range.mp hn))]

theorem startHeld_eq_self {s : State} (h : ∀ n, n < 16 → (s.queue n).waiting = []) : startHeld s = s := by
  rw [startHeld, nextHeld_eq_none h]

/-- Settles O2: on an empty queue a step is the tick after the start of a held entry, and without one the tick alone. -/
theorem idleStepIsOneTick : Obligations.Idle_step_is_one_tick := by
  intro s hp
  have hstep : step s = .next (advancePs 2000 (startHeld s)) := by rw [step, hp]
  exact ⟨hstep, fun hidle => hstep.trans (by rw [startHeld_eq_self hidle])⟩

end Sys2Proof.Machine

namespace Sys2Proof.Machine

/-! ### The throttle ladder's target (R421) -/

theorem targetLevel_of_le {s : State} (nr : Nat) {t : Int} (h : t ≤ 16 * (s.thm.thrStart : Int)) : targetLevel s nr t = 0 :=
  if_pos (by omega)

/-- Above THR_START the target is the share of the rungs, rounded up, or all of them. -/
theorem targetLevel_of_lt {s : State} (nr : Nat) {t : Int} (h : 16 * (s.thm.thrStart : Int) < t) :
    targetLevel s nr t = min nr (((t - 16 * (s.thm.thrStart : Int)).toNat * nr) ⌈/⌉ (16 * s.thm.span)) := by
  rw [Nat.ceilDiv_eq_add_pred_div]
  exact if_neg (by omega)

/-- Settles O30: a level is below a share rounded up exactly when it is below the share itself. -/
theorem targetLevelIsTheRoundedShareOfTheRungs : Obligations.Target_level_is_the_rounded_share_of_the_rungs := by
  intro s nr t hspan
  have hpos : 0 < 16 * s.thm.span := by omega
  refine ⟨?bound, targetLevel_of_le nr, fun hall => ?all, fun hlow _ m hm => ?between⟩
  case bound =>
    rcases le_or_gt t (16 * (s.thm.thrStart : Int)) with hlow | hhigh
    · rw [targetLevel_of_le nr hlow]
      exact Nat.zero_le nr
    · rw [targetLevel_of_lt nr hhigh]
      exact Nat.min_le_left ..
  case all =>
    have hshare : 16 * s.thm.span ≤ (t - 16 * (s.thm.thrStart : Int)).toNat := by omega
    rw [targetLevel_of_lt nr (by omega)]
    refine Nat.min_eq_left (Nat.le_of_mul_le_mul_left ?_ hpos)
    calc 16 * s.thm.span * nr ≤ (t - 16 * (s.thm.thrStart : Int)).toNat * nr := Nat.mul_le_mul_right nr hshare
      _ ≤ _ := le_smul_ceilDiv hpos
  case between =>
    obtain ⟨d, hd⟩ : ∃ d : Nat, t - 16 * (s.thm.thrStart : Int) = d := Int.eq_ofNat_of_zero_le (by omega)
    rw [targetLevel_of_lt nr hlow, Nat.lt_min, and_iff_right hm, hd, Int.toNat_natCast, ← not_le, ceilDiv_le_iff_le_mul hpos, not_le]
    norm_cast

end Sys2Proof.Machine

namespace Sys2Proof.Machine

/-! ### The patrol (R445) -/

/-- A class after a change of one class. -/
theorem modClass_memClass (k j : Nat) (f : MemClass → MemClass) (s : State) :
    (modClass k f s).memClass j = if k = j ∧ k < 14 then f (s.memClass k) else s.memClass j :=
  vecGet_vecMod ..

/-- Settles O27: a patrol read changes the class it reads, which goes on in its block of rows, to the next block or to the first. -/
theorem patrolVisitsTheRowsInOrder : Obligations.Patrol_visits_the_rows_in_order := by
  intro cls s hpow
  refine ⟨_, if_neg (by simp [hpow]), ?_⟩
  dsimp only
  rw [modClass_memClass, if_pos ⟨rfl, cls.isLt⟩]
  refine ⟨fun hrow => ?_, fun hlast => ?_, fun k hk => ?_⟩
  · rw [if_pos hrow]
    exact ⟨rfl, rfl⟩
  · rw [if_neg (Nat.not_lt.mpr hlast)]
    split
    · exact ⟨rfl, rfl⟩
    · exact ⟨rfl, rfl⟩
  · exact (modClass_memClass ..).trans (if_neg fun h => hk h.1.symm)

end Sys2Proof.Machine

namespace Sys2Proof.Machine

/-! ### Client lanes and the commands of group 0x0A (R350 to R357, R377) -/

/-- Settles O54: each event by the branch its hypotheses choose, each command by its checks passing; for CLN_CIF_SET `hbody` is what it
does once the checks of its fields pass. That CLN_CIF_UP carries cause 0, and that a high error rate leaves ALIGNED set, are log 57, the
model's choice. -/
theorem clientRowsTakeTheirEffect : Obligations.Client_rows_take_their_effect := by
  unfold Obligations.Client_rows_take_their_effect
  refine ⟨fun _ _ _ hon => if_neg (by simp [hon]), ?timeout, ?clean, ?cifUp, fun _ _ _ hup => if_neg (by simp [hup]), ?fault,
    ?cifSet, ?laneSet, ?loop, ?prbs, ?cifGet⟩
  case timeout =>
    rintro lane s x ⟨hon, htrain, huntrained⟩ s1 c hc
    refine (if_neg (by simp [hon, x, htrain, huntrained])).trans ?_
    simp only [s1, hc]
  case clean =>
    intro lane s hon s1 c hc
    refine (if_neg (by simp [hon])).trans (congrArg Host.Outcome.next ?_)
    simp only [s1, hc]
  case cifUp =>
    rintro cif pcsLanes s x ⟨hpow, htyp, hdown, hfaulted, hdiverted⟩
    exact if_neg (by simp [x, hpow, htyp, hdown, hfaulted, hdiverted])
  case fault =>
    rintro cif localFault remoteFault s x ⟨hup, heth⟩
    exact if_neg (by simpa [x, hup] using heth)
  case cifSet =>
    intro p s₀ s h c n typ gen x busy hc htyp hrate hfec hgroup hpos hfree
    have hbody (hlanes : typ ≠ 0 → (n = 1 ∨ n = 2 ∨ n = 4 ∨ n = 8) ∧ c % n = 0) : replyClnCifSet p s = _ := checked_pass (by
      have hnum : (typ ≠ 0 && n ≠ 1 && n ≠ 2 && n ≠ 4 && decide (n ≠ 8)) = false := by grind
      have hfirst : (typ ≠ 0 && decide (c % n ≠ 0)) = false := by grind
      simp only [List.forall_mem_cons, badParam_bad, failIf_bad, decide_eq_false_iff_not, Nat.not_lt]
      exact ⟨hc, hnum, hfirst, htyp, hrate, hfec, hgroup, hpos, hfree, nofun⟩)
    refine ⟨fun hnone => ?removed, fun hsome hn halign hgen hallowed hflexo hidle hclash => ?configured⟩
    case removed =>
      have hset := (hbody (absurd hnone)).trans (if_pos hnone)
      exact congrArg Host.Outcome.next (runCommand_checked (cs := []) h hset nofun)
    case configured =>
      have hset := (hbody fun _ => ⟨hn, halign⟩).trans (if_neg hsome)
      exact congrArg Host.Outcome.next (runCommand_checked h hset (by
        simp only [List.forall_mem_cons, badParam_bad, failIf_bad, Bool.not_eq_false']
        exact ⟨hgen, hallowed, hflexo, hidle, hclash, nofun⟩))
  case laneSet =>
    dsimp only
    exact fun p s₀ s h hpass => congrArg Host.Outcome.next (runCommand_checked h rfl hpass)
  case loop =>
    intro p s₀ s h unit put hscope hunit hloop hres hthere
    refine ⟨fun hlane => ?_, fun hcif => ?_⟩
    · rw [if_pos hlane] at hthere
      exact congrArg Host.Outcome.next
        (runCommand_checked h (congrArg (checked s _) (if_pos hlane)) (by simp [unit, hlane, hunit, hloop, hres, hthere]))
    · rw [if_neg hcif] at hthere
      exact congrArg Host.Outcome.next
        (runCommand_checked h (congrArg (checked s _) (if_neg hcif)) (by simpa [unit, hcif, hunit, hloop, hres, hthere] using hscope))
  case prbs =>
    rintro p s₀ s h l pat nrz hl ⟨hpat, hnrz⟩ hmode hres
    exact congrArg Host.Outcome.next (runCommand_checked h rfl (by simpa [l, pat, nrz, hl, hpat, hmode, hres] using hnrz))
  case cifGet =>
    dsimp only
    intro p s₀ s h hc hres hthere
    exact congrArg Host.Outcome.next (runCommand_checked h rfl (by simp [hc, hres, hthere]))

end Sys2Proof.Machine

namespace Sys2Proof.Machine

/-! ### The peer link and the commands of group 0x0B (R363 to R377) -/

/-- What the block layer takes from the lanes, but in the near-end parallel loop (R375). -/
theorem receiveBlock_of_running {ws : List Long} {s : State} (h : plkRunning s = true) :
    receiveBlock ws s
      = if s.plk.loop = 2 then receiveWords ws s else takeBlock (receiveWords ws s).plk.rxBlock (receiveWords ws s) :=
  if_pos h

/-- A running link takes the block it has received, or drops it in the near-end parallel loop. -/
theorem receiveBlock_effect (ws : List Long) (s : State) :
    ((plkRunning s = true ∧ s.plk.loop ≠ 2) →
      receiveBlock ws s = takeBlock (receiveWords ws s).plk.rxBlock (receiveWords ws s)) ∧
    ((plkRunning s = true ∧ s.plk.loop = 2) → receiveBlock ws s = receiveWords ws s) :=
  ⟨fun ⟨hrun, hloop⟩ => (receiveBlock_of_running hrun).trans (if_neg hloop),
    fun ⟨hrun, hloop⟩ => (receiveBlock_of_running hrun).trans (if_pos hloop)⟩

/-- A block with a wrong CRC is counted; any other is taken by its type, and one of a type without a meaning is counted (R366). -/
theorem takeBlock_effect (b : List Byte) (s : State) :
    (blockRight b = false → takeBlock b s = { s with plk := { s.plk with blkCrc := sat32 s.plk.blkCrc 1 } }) ∧
    (blockRight b = true → blockType b = 0 → takeBlock b s = s) ∧
    (blockRight b = true → blockType b = 1 → takeBlock b s = takeTrib b s) ∧
    (blockRight b = true → blockType b = 2 → takeBlock b s = takeAps b s) ∧
    (blockRight b = true → blockType b = 3 → takeBlock b s = takeHello b s) ∧
    (blockRight b = true → 4 ≤ blockType b → takeBlock b s = { s with plk := { s.plk with blkBad := sat32 s.plk.blkBad 1 } }) := by
  refine ⟨fun hbad => if_pos (by simp [hbad]), ?_⟩
  refine ⟨fun hok ht => ?_, fun hok ht => ?_, fun hok ht => ?_, fun hok ht => ?_, fun hok ht => ?_⟩
  all_goals refine (if_neg (by simp [hok])).trans ?_
  case refine_5 =>
    obtain ⟨n, hn⟩ := Nat.exists_eq_add_of_le' ht
    simp only [hn]
  all_goals simp only [ht]

/-- Settles O55: each event by the branch its hypotheses choose, each command by its checks passing. That the row position restarts where
STRIPE changes, and that a link without a STRIPE sends zero words, are log 59, the model's choice. -/
theorem peerRowsTakeTheirEffect : Obligations.Peer_rows_take_their_effect := by
  unfold Obligations.Peer_rows_take_their_effect
  refine ⟨fun _ _ hrun => if_pos hrun, fun _ _ hrun => if_pos hrun, fun _ _ hrun => if_pos hrun, ?marker,
    fun _ _ hrun => if_pos hrun, ?zeros, ?transmit, ?trib, ?aps, ?hello, takeBlock_effect, fun _ hrun => if_pos hrun,
    fun _ hrun => if_pos hrun, fun _ _ => rfl, fun _ hup => if_pos hup, ?cfgSet, ?laneSet, ?loop, ?statusGet⟩
  case marker =>
    rintro lane marker s ⟨hrun, hcdr⟩ gap known s1
    have hlive : (plkRunning s && (s.peerLane lane.val).cdr) = true := by simp [hrun, hcdr]
    refine ⟨fun ⟨hvalid, hlock, hat⟩ => ?_, fun hother => ?_⟩
    · exact (if_pos hlive).trans (if_pos (by simpa [hvalid] using And.intro hlock hat))
    · exact (if_pos hlive).trans (if_neg (by simpa using hother))
  case zeros =>
    rintro ready s ⟨hrun, hloop, hstripe⟩
    exact (if_neg (by simp [hrun, hloop])).trans (if_pos hstripe)
  case transmit =>
    rintro ready s ⟨hrun, hloop, hstripe⟩ s1 owed
    have hlive : ¬ (!plkRunning s || decide (s.plk.loop = 3)) = true := by simp [hrun, hloop]
    refine ⟨fun howed => ?_, fun hnone => ⟨fun hready => ?_, fun hwait => ?_⟩⟩
    · exact (if_neg hlive).trans ((if_neg hstripe).trans (if_pos howed))
    · exact (if_neg hlive).trans ((if_neg hstripe).trans ((if_neg (not_not_intro hnone)).trans (if_pos hready)))
    · intro able best
      have hstep : exec (.plkBlockTransmit ready) s = _ := (if_neg hlive).trans ((if_neg hstripe).trans
        ((if_neg (not_not_intro hnone)).trans (if_neg (Bool.eq_false_iff.mp hwait))))
      rw [hstep]
      dsimp only
      refine ⟨fun b hb => ?_, fun hb => ?_⟩
      · split
        next hbest => cases hb.symm.trans hbest; rfl
        next hbest => cases hb.symm.trans hbest
      · split
        next hbest => cases hb.symm.trans hbest
        next => rfl
  case trib => exact fun _ block s => (receiveBlock_effect block.words s).imp (fun f h => congrArg _ (f h)) (fun f h => congrArg _ (f h))
  case aps => exact fun block _ s => (receiveBlock_effect block.words s).imp (fun f h => congrArg _ (f h)) (fun f h => congrArg _ (f h))
  case hello => exact fun hello s => (receiveBlock_effect hello.words s).imp (fun f h => congrArg _ (f h)) (fun f h => congrArg _ (f h))
  case cfgSet =>
    rintro p s₀ s h mask en hflags hmin hmask ⟨hmax, hlanes⟩ s1
    have hpass : ∀ chk ∈ [badParam 0 (decide (3 < u8 p.params 0)), badLen 1 (decide (u8 p.params 1 = 0)),
        badParam 2 (decide (mask = 0)), badParam 1 (decide (16 < u8 p.params 1) || decide (laneCount mask < u8 p.params 1))],
        chk.bad = false := by
      simp only [List.forall_mem_cons, badParam_bad, badLen_bad, decide_eq_false_iff_not, Bool.or_eq_false_iff, Nat.not_lt]
      exact ⟨hflags, hmin, hmask, ⟨hmax, hlanes⟩, nofun⟩
    exact ⟨fun hon => congrArg Host.Outcome.next (runCommand_checked h (congrArg (checked s _) (if_pos hon)) hpass),
      fun hoff => congrArg Host.Outcome.next
        (runCommand_checked h (congrArg (checked s _) (if_neg (Bool.eq_false_iff.mp hoff))) hpass)⟩
  case laneSet =>
    dsimp only
    exact fun p s₀ s h hpass => congrArg Host.Outcome.next (runCommand_checked h rfl hpass)
  case loop => exact fun p s₀ s h hloop hres => congrArg Host.Outcome.next (runCommand_checked h rfl (by simp [hloop, hres]))
  case statusGet => exact fun p s₀ s h => congrArg Host.Outcome.next (runCommand_checked (cs := []) h rfl nofun)

end Sys2Proof.Machine

namespace Sys2Proof.Machine

/-! ### The monitor chain and its commands of group 0x0C (R384 to R393, R404 to R410) -/

/-- Settles O56: each event by the branch its hypotheses choose, each command by its checks passing. That MON_FSOP_SET takes effect at
once where the engine is OFF is log 61, the model's choice. -/
theorem monitorRowsTakeTheirEffect : Obligations.Monitor_rows_take_their_effect := by
  unfold Obligations.Monitor_rows_take_their_effect
  refine ⟨?headWrite, ?sample, fun _ _ _ => rfl, fun _ _ => rfl, fun _ _ => rfl, ?windowEnd, fun _ _ => rfl, ?chSet, ?fsopSet,
    ?detGet, ?ringSet⟩
  case headWrite =>
    refine fun ring value s => ⟨?_, ?_, ?_⟩
    · rintro rfl
      rfl
    · rintro c rfl
      rfl
    · rintro k rfl
      rfl
  case sample =>
    rintro chan inputs s x ⟨hgo, hrun⟩
    have hlive : ¬ (stopCause chan.val s ≠ 0 ∨ x.running = false) := by simp [hgo, hrun]
    exact ⟨fun hfill => (if_neg hlive).trans (congrArg Host.Outcome.next (if_pos hfill)),
      fun hfull => (if_neg hlive).trans (congrArg Host.Outcome.next (if_neg (Bool.eq_false_iff.mp hfull)))⟩
  case windowEnd =>
    exact fun chan isRms s => ⟨fun hrms => if_pos hrms, fun hpeak => if_neg (Bool.eq_false_iff.mp hpeak)⟩
  case chSet =>
    dsimp only
    rintro p s₀ s h hc hflags hsource ⟨hn3, hn5⟩ ⟨hd3, hd12⟩ ⟨hm1, hm2⟩ hphase ⟨hbin, hspectrum⟩ hattack hrelease hpk hrms hres
      hhyst hfree hload
    exact congrArg Host.Outcome.next (runCommand_checked h rfl (by
      simp only [List.forall_mem_cons, badParam_bad, failIf_bad, reservedBytes_bad, decide_eq_false_iff_not, Nat.not_lt]
      exact ⟨hc, hflags, hsource, by omega, by omega, by omega, hphase, by omega, hattack, hrelease, hpk, hrms, not_not_intro hres,
        hhyst, hfree, hload, nofun⟩))
  case fsopSet =>
    dsimp only
    intro p s₀ s h he hk hn0 hn hlevel hcode hres hload
    exact congrArg Host.Outcome.next (runCommand_checked h rfl (by simp [he, hk, hn0, hn, hlevel, hcode, hres, hload]))
  case detGet =>
    dsimp only
    intro p s₀ s h hc hres
    exact congrArg Host.Outcome.next (runCommand_checked h rfl (by simp [hc, hres]))
  case ringSet =>
    intro p s₀ s h n en base size hn hflags hres hbase hsize hpower
    exact congrArg Host.Outcome.next (runCommand_checked h rfl (by
      simpa [n, base, hn, hflags, hres, hbase] using And.intro hsize hpower))

end Sys2Proof.Machine

namespace Sys2Proof.Machine

/-! ### The housekeeping converters and their commands of group 0x0C (R396 to R410) -/

/-- The result of a conversion by the kind of conversion it was, then the choice of the next one (R396). -/
theorem execHkaConversionDone_effect (sar : Fin 2) (raw : Nat) (ovr : Option Bool) (s : State) :
    ((s.sar sar.val).work = .settling → execHkaConversionDone sar raw ovr s
      = .next (sarStep sar.val (modSar sar.val (fun x => { x with settleFrom := none }) s))) ∧
    ((s.sar sar.val).work = .injected → execHkaConversionDone sar raw ovr s
      = .next (sarStep sar.val (doneInjected sar.val raw ovr s))) ∧
    ((s.sar sar.val).work = .system → execHkaConversionDone sar raw ovr s
      = .next (sarStep sar.val (doneSystem sar.val raw ovr s))) ∧
    ((s.sar sar.val).work = .regular → execHkaConversionDone sar raw ovr s
      = .next (sarStep sar.val (doneRegular sar.val raw ovr s))) := by
  unfold execHkaConversionDone
  refine ⟨?_, ?_, ?_, ?_⟩ <;> intro hwork <;> simp only [hwork]

/-- Settles O57: each event by the branch its hypotheses choose, each command by its checks passing. -/
theorem housekeepingRowsTakeTheirEffect : Obligations.Housekeeping_rows_take_their_effect := by
  unfold Obligations.Housekeeping_rows_take_their_effect
  refine ⟨execHkaConversionDone_effect, fun _ => rfl, ?periodStart, ?calTimer, ?calComplete, ?calAbort, ?seqSet, ?inject, ?cal,
    ?corrSet, ?cfgSet⟩
  case periodStart =>
    intro sar s x hen
    have hlive : ¬ (!x.seq.en) = true := by simp [hen]
    exact ⟨fun ⟨hleft, havg⟩ => (if_neg hlive).trans (if_pos (by simp [x, hleft, havg])),
      fun hbusy => (if_neg hlive).trans (if_neg (by simpa only [Bool.and_eq_true, not_and, Bool.not_eq_true] using hbusy))⟩
  case calTimer =>
    rintro sar s ⟨hperiod, hstarted, hidle⟩
    exact if_neg (by simp [hperiod, hstarted, hidle])
  case calComplete => exact fun sar s hrun => if_neg (not_not_intro hrun)
  case calAbort =>
    rintro sar s ⟨hrun, habort⟩
    exact if_neg (by simp [hrun, habort])
  case seqSet =>
    dsimp only
    exact fun p s₀ s h hpass => congrArg Host.Outcome.next (runCommand_checked (body := replyHkaSeqSet) h rfl hpass)
  case inject =>
    dsimp only
    exact fun p s₀ s h hpass => congrArg Host.Outcome.next (runCommand_checked_wait (body := replyHkaInject) h rfl hpass)
  case cal =>
    dsimp only
    intro p s₀ s h hk hres hidle hroom
    have hrun := runCommand_checked_later (body := replyHkaCal) h rfl (by simp [hk, hres, hidle]) hroom
    exact congrArg Host.Outcome.next hrun
  case corrSet =>
    dsimp only
    intro p s₀ s h hk hch hoff hgain hres
    exact congrArg Host.Outcome.next (runCommand_checked h rfl (by simp [hk, hch, hoff, hgain, hres]))
  case cfgSet =>
    intro p s₀ s h htol0 htol hperiod hres
    exact congrArg Host.Outcome.next (runCommand_checked h rfl (by simp [htol0, htol, hperiod, hres]))

end Sys2Proof.Machine

namespace Sys2Proof.Machine

/-! ### Temperature, the trip, AVS and the commands of group 0x0D (R103, R415 to R435) -/

/-- Settles O58: each event by the branch its hypotheses choose, each command by its checks passing. That a sample without the crystal
serves the trip alone, and that the other events wait for the crystal, is log 89, the model's choice. -/
theorem thermalRowsTakeTheirEffect : Obligations.Thermal_rows_take_their_effect := by
  unfold Obligations.Thermal_rows_take_their_effect
  refine ⟨?tripSample, ?sample, ?pacingEnd, ?cooling, ?avs, fun _ => rfl, ?limitSet, ?statusGet, ?sensorGet, ?tripGet, ?avsGet,
    ?avsFix⟩
  case tripSample =>
    rintro readings s ⟨hpow, hlen, hclock⟩
    exact (if_neg (by simp [hpow, hlen])).trans (if_pos (by simp [hclock]))
  case sample =>
    rintro readings s ⟨hpow, hlen, hclock⟩
    exact (if_neg (by simp [hpow, hlen])).trans (if_neg (by simp [hclock]))
  case pacingEnd =>
    rintro s ⟨hclock, hpacing⟩
    exact if_pos (by simp [hclock, hpacing])
  case cooling =>
    rintro s ⟨hclock, hcool⟩ s1
    have hlive : ¬ (!s.clocked || s.thm.coolSince.isNone) = true := by simp [hclock, hcool]
    refine ⟨fun hember => (if_neg hlive).trans (if_pos hember), fun hlatched => ?_⟩
    have hstep : exec .coolingRuleMet s = _ := (if_neg hlive).trans (if_neg (by simpa using hlatched))
    exact ⟨fun hlockout => hstep.trans (if_pos hlockout), fun hclear => hstep.trans (if_neg (by simpa using hclear))⟩
  case avs =>
    rintro margin s ⟨hpow, hclock⟩
    exact if_neg (by simp [hpow, hclock])
  case limitSet =>
    dsimp only
    rintro p s₀ s h ⟨hstart85, hstart108⟩ ⟨hspan2, hspan20⟩ ⟨htrip100, htrip118⟩ hlimit ⟨hfloor2, hfloor12⟩ hsum
    exact congrArg Host.Outcome.next (runCommand_checked h rfl (by
      simp only [List.forall_mem_cons, badParam_bad, failIf_bad, decide_eq_false_iff_not]
      exact ⟨by omega, by omega, by omega, by omega, by omega, by omega, nofun⟩))
  case statusGet | tripGet | avsGet =>
    exact fun p s₀ s h => congrArg Host.Outcome.next (runCommand_checked (cs := []) h rfl nofun)
  case sensorGet =>
    dsimp only
    rintro p s₀ s h hfirst ⟨hcount, hbmc⟩ hend hres
    exact congrArg Host.Outcome.next (runCommand_checked h rfl (by simpa [hfirst, hcount, hend, hres] using hbmc))
  case avsFix =>
    intro p s₀ s h fix v hfix hres hrange
    exact congrArg Host.Outcome.next (runCommand_checked h rfl (by simpa [fix, hfix, hres, and_assoc] using hrange))

end Sys2Proof.Machine

namespace Sys2Proof.Machine

/-! ### The Logbook and its commands of group 0x0F (R462 to R481) -/

/-- A page program ends (R462, R467): the copy is kept, and with copy B the record commits; or its block is retired and the record is
written again. -/
theorem execFlashPageProgrammed_effect {copyB : Bool} {b : Nat} {r : LogRecord} {rest : List LogRecord} {s : State}
    (result : FlashEnd) (hwork : s.log.work = .program copyB b) (hqueue : s.log.queue = r :: rest) :
    let s1 := modLog (fun l => countPage (setBlock b (fun x => { x with pages := x.pages + 1 }) l)) s
    (result = .ok →
      (copyB = true → execFlashPageProgrammed result s = .next (workDone (answerWaits (commitHook { r with blockB := some b }
        (modLog (fun l => commit { r with blockB := some b } { l with queue := rest }) s1))))) ∧
      (copyB = false → execFlashPageProgrammed result s = .next (workDone (modLog (fun l =>
        { l with queue := { r with blockA := some b } :: rest }) s1)))) ∧
    ((result = .programFailed ∨ result = .readBackFailed) → execFlashPageProgrammed result s
      = .next (workDone (retireFlash b (if result = .programFailed then 1 else 2)
        (modLog (fun l => { l with queue := { r with blockA := none, blockB := none } :: rest, work := .idle }) s1)))) := by
  unfold execFlashPageProgrammed
  simp only [hwork, hqueue]
  refine ⟨?_, ?_⟩
  · rintro rfl
    exact ⟨fun hB => if_pos hB, fun hA => if_neg (Bool.eq_false_iff.mp hA)⟩
  · rintro (rfl | rfl)
    · rfl
    · rfl

/-- Settles O60: each event by the branch its hypotheses choose, each command by its checks passing. That unread seconds of life are
kept and a LOG_EXPORT without room for a record ends PARTIAL (log 71), and that a plan due waits for the one that runs (log 69), are the
model's choice. -/
theorem logbookRowsTakeTheirEffect : Obligations.Logbook_rows_take_their_effect := by
  unfold Obligations.Logbook_rows_take_their_effect
  refine ⟨fun result s copyB b r rest hwork hqueue => execFlashPageProgrammed_effect result hwork hqueue, ?erased, ?lifeSecond,
    fun _ hready => if_pos hready, ?day, fun _ hready => if_pos hready, ?refreshDue, ?refreshed, ?year, ?planned, ?exported, ?exportTo,
    ?countersGet, ?planGet, ?planRun, ?note, ?ageingGet, ?refresh⟩
  case erased =>
    intro ok s b role hwork
    have hstep : exec (.flashBlockErased ok) s = _ := execFlashBlockErased.eq_def ok s
    simp only [hwork] at hstep
    refine ⟨fun hfail => hstep.trans (if_pos (by simp [hfail])), fun hok => ?_⟩
    have herased := hstep.trans (if_neg (by simp [hok]))
    refine ⟨fun hworn => herased.trans (if_pos hworn), fun hgood => ?_⟩
    have hkept := herased.trans (if_neg (Nat.not_le.mpr hgood))
    exact ⟨fun hfree => hkept.trans (if_pos hfree), fun hrole => hkept.trans (if_neg hrole)⟩
  case lifeSecond =>
    intro s hpow s0 s1
    have hlive : ¬ (!s.pins.vddAon) = true := by simp [hpow]
    exact ⟨fun hready => (if_neg hlive).trans (if_pos hready),
      fun hunread => (if_neg hlive).trans (if_neg (Bool.eq_false_iff.mp hunread))⟩
  case day =>
    rintro shifts s ⟨hready, hlen⟩
    exact if_neg (by simp [hready, hlen])
  case refreshDue =>
    rintro s ⟨hready, hidle⟩
    exact if_neg (by simp only [hready, hidle]; decide)
  case refreshed =>
    rintro failed s ⟨hrun, hflash⟩
    exact if_neg (by simp only [hrun, hflash]; decide)
  case year =>
    intro s hready
    have hlive : ¬ s.log.ready = false := by simp [hready]
    refine ⟨fun ⟨hflash, hidle⟩ => (if_neg hlive).trans (if_pos ?_), fun hwait => (if_neg hlive).trans (if_neg ?_)⟩
    · simp only [hflash, hidle, Bool.and_self]
    · simpa only [Bool.and_eq_true, not_and_or, Bool.not_eq_true] using hwait
  case planned =>
    intro s p hp
    have hstep : exec .marginPlanComplete s = _ := execMarginPlanComplete.eq_def s
    simp only [hp] at hstep
    refine ⟨fun hdry => hstep.trans (if_pos hdry), fun hreal hdurable => ?_⟩
    exact hstep.trans ((if_neg (Bool.eq_false_iff.mp hreal)).trans (if_neg (Bool.eq_false_iff.mp hdurable)))
  case exported =>
    intro failed s x hx
    have hstep : exec (.logExportComplete failed) s = _ := execLogExportComplete.eq_def failed s
    simp only [hx] at hstep
    exact hstep
  case exportTo =>
    dsimp only
    rintro p s₀ s h hready haddr hsize0 ⟨hsize, hsize512⟩ hres _ hidle hroom
    have hrun := runCommand_checked_later (body := replyLogExport) h rfl
      (by simp [hready, haddr, hsize0, hsize, hsize512, hres, hidle]) hroom
    exact congrArg Host.Outcome.next hrun
  case countersGet | planGet | ageingGet =>
    exact fun p s₀ s h hready => congrArg Host.Outcome.next (runCommand_checked h rfl (List.forall_mem_singleton.mpr hready))
  case planRun =>
    dsimp only
    intro p s₀ s h hready hdry hres hidle hwindow hroom
    have hrun := runCommand_checked_later (body := replyLogPlanRun) h rfl
      (by simpa [hready, hdry, hres, hidle] using hwindow) hroom
    exact congrArg Host.Outcome.next hrun
  case note =>
    dsimp only
    rintro p s₀ s h hready ⟨hn0, hn⟩ hlen hres hroom
    exact congrArg Host.Outcome.next (runCommand_checked h rfl (by simp [hready, hn0, hn, hlen, hres, hroom]))
  case refresh =>
    rintro p s₀ s h hready ⟨hidle, hplan⟩ hflash hroom
    have hrun := runCommand_checked_later (body := replyLogRefresh) h rfl (by simp [hready, hidle, hplan, hflash]) hroom
    exact congrArg Host.Outcome.next hrun

end Sys2Proof.Machine

namespace Sys2Proof.Machine

/-! ### What a row leaves unchanged: frames over the blocks of the state -/

/-- The blocks of the state, one for each of its fields. -/
inductive Block where
  | dev | hif | tim | cnv | dsp | fec | frm | map | cph | pkt | cln | plk | mon | thm | mi | log | pins | atTrip | snap | latched
  | snapBusy | freeCount | pending
deriving DecidableEq

/-- The state `s` with the blocks of `l` as `t` has them. -/
def State.put (l : List Block) (s t : State) : State where
  dev := if .dev ∈ l then t.dev else s.dev
  hif := if .hif ∈ l then t.hif else s.hif
  tim := if .tim ∈ l then t.tim else s.tim
  cnv := if .cnv ∈ l then t.cnv else s.cnv
  dsp := if .dsp ∈ l then t.dsp else s.dsp
  fec := if .fec ∈ l then t.fec else s.fec
  frm := if .frm ∈ l then t.frm else s.frm
  map := if .map ∈ l then t.map else s.map
  cph := if .cph ∈ l then t.cph else s.cph
  pkt := if .pkt ∈ l then t.pkt else s.pkt
  cln := if .cln ∈ l then t.cln else s.cln
  plk := if .plk ∈ l then t.plk else s.plk
  mon := if .mon ∈ l then t.mon else s.mon
  thm := if .thm ∈ l then t.thm else s.thm
  mi := if .mi ∈ l then t.mi else s.mi
  log := if .log ∈ l then t.log else s.log
  pins := if .pins ∈ l then t.pins else s.pins
  atTrip := if .atTrip ∈ l then t.atTrip else s.atTrip
  snap := if .snap ∈ l then t.snap else s.snap
  latched := if .latched ∈ l then t.latched else s.latched
  snapBusy := if .snapBusy ∈ l then t.snapBusy else s.snapBusy
  freeCount := if .freeCount ∈ l then t.freeCount else s.freeCount
  pending := if .pending ∈ l then t.pending else s.pending

/-- Two states that differ in the blocks of `l` alone. -/
def Only (l : List Block) (s t : State) : Prop := t = s.put l t

theorem OnlyHif.only {s t : State} (h : OnlyHif s t) : Only [.hif] s t := h

theorem State.put_self (l : List Block) (s : State) : s.put l s = s := by simp only [State.put, ite_self]

/-- What the blocks of `l` hold after other blocks of `l` have changed. -/
theorem State.put_put {l l' : List Block} (h : ∀ b ∈ l', b ∈ l) (s t u : State) : (s.put l t).put l' u = s.put l ((s.put l t).put l' u) := by
  have hfield : ∀ {α : Type} (b : Block) (x y z : α), (if b ∈ l' then z else if b ∈ l then y else x)
      = if b ∈ l then (if b ∈ l' then z else if b ∈ l then y else x) else x := by
    intro α b x y z
    by_cases hb : b ∈ l
    · simp only [if_pos hb]
    · simp only [if_neg hb, if_neg fun h' => hb (h b h')]
  unfold State.put
  congr 1 <;> exact hfield ..

theorem Only.refl {l : List Block} {s : State} : Only l s s := (State.put_self l s).symm

/-- A change of the blocks of `l'` after one of the blocks of `l`, which has all of `l'`: for lists written out, `rfl` says so. -/
theorem Only.after {l l' : List Block} {s t u : State} (h : Only l' t u) (g : Only l s t) (hl : l'.all (· ∈ l) = true) :
    Only l s u := by
  unfold Only at g h
  rw [g] at h
  rw [h]
  exact State.put_put (by simpa using hl) s t u

theorem Only.mono {l l' : List Block} {s t : State} (h : Only l' s t) (hl : l'.all (· ∈ l) = true) : Only l s t :=
  h.after .refl hl

theorem Only.ite {l : List Block} {s t u : State} {c : Prop} [Decidable c] (h : Only l s t) (g : Only l s u) :
    Only l s (if c then t else u) := by
  split
  · exact h
  · exact g

/-- A change that is made after another one or not at all. -/
theorem Only.ifAfter {l l' : List Block} {s t u : State} {c : Prop} [Decidable c] (h : Only l' t u) (g : Only l s t)
    (hl : l'.all (· ∈ l) = true) : Only l s (if c then u else t) :=
  .ite (h.after g hl) g

/-- A change that is made after another one unless a condition holds. -/
theorem Only.elseAfter {l l' : List Block} {s t u : State} {c : Prop} [Decidable c] (h : Only l' t u) (g : Only l s t)
    (hl : l'.all (· ∈ l) = true) : Only l s (if c then t else u) :=
  .ite g (h.after g hl)

/-- A fold of changes of the blocks of `l`. -/
theorem Only.foldl {α : Type} {l : List Block} {s t : State} {f : State → α → State} {as : List α} (h : ∀ u a, Only l u (f u a))
    (g : Only l s t) : Only l s (as.foldl f t) :=
  List.foldlRecOn (motive := Only l s) as f g fun t ht a _ => (h t a).after ht (by simp)

/-- A meaning that answers with the blocks of `l` alone changed. -/
def NextOnly (l : List Block) (s : State) (o : Host.Outcome State Fault Refusal) : Prop := ∀ t, o = .next t → Only l s t

theorem Only.next {l : List Block} {s t : State} (h : Only l s t) : NextOnly l s (.next t) := by
  rintro _ ⟨⟩
  exact h

theorem NextOnly.ite {l : List Block} {s : State} {o r : Host.Outcome State Fault Refusal} {c : Prop} [Decidable c]
    (h : NextOnly l s o) (g : NextOnly l s r) : NextOnly l s (if c then o else r) := by
  split
  · exact h
  · exact g

/-- To differ in some blocks with the host interface is a relation of the pipeline. -/
theorem Only.framed {l : List Block} (h : .hif ∈ l) : Framed (Only l) :=
  ⟨fun g => g.only.mono (by simpa using h), fun g g' => g'.after g (by simp)⟩

end Sys2Proof.Machine

namespace Sys2Proof.Machine

section
variable {s : State}

/-! ### Which blocks the operations on one block change -/

theorem Only.set_hif {x} : Only [.hif] s { s with hif := x } := rfl
theorem Only.set_tim {x} : Only [.tim] s { s with tim := x } := rfl
theorem Only.set_cnv {x} : Only [.cnv] s { s with cnv := x } := rfl
theorem Only.set_fec {x} : Only [.fec] s { s with fec := x } := rfl
theorem Only.set_frm {x} : Only [.frm] s { s with frm := x } := rfl
theorem Only.set_map {x} : Only [.map] s { s with map := x } := rfl
theorem Only.set_cph {x} : Only [.cph] s { s with cph := x } := rfl
theorem Only.set_pkt {x} : Only [.pkt] s { s with pkt := x } := rfl
theorem Only.set_plk {x} : Only [.plk] s { s with plk := x } := rfl
theorem Only.set_mon {x} : Only [.mon] s { s with mon := x } := rfl
theorem Only.set_thm {x} : Only [.thm] s { s with thm := x } := rfl
theorem Only.set_mi {x} : Only [.mi] s { s with mi := x } := rfl
theorem Only.set_log {x} : Only [.log] s { s with log := x } := rfl
theorem Only.set_snap {x} : Only [.snap] s { s with snap := x } := rfl
theorem Only.set_latched {x} : Only [.latched] s { s with latched := x } := rfl
theorem Only.set_snapBusy {x} : Only [.snapBusy] s { s with snapBusy := x } := rfl

theorem modDev_only {f} : Only [.dev] s (modDev f s) := rfl
theorem modHif_only {f} : Only [.hif] s (modHif f s) := rfl
theorem setQueue_only {n q} : Only [.hif] s (s.setQueue n q) := rfl
theorem hostWrite_only {a bs} : Only [.hif] s (hostWrite a bs s) := rfl
theorem takeKey_only : Only [.hif] s (takeKey s).2 := rfl
theorem modTim_only {f} : Only [.tim] s (modTim f s) := rfl
theorem modGroup_only {g f} : Only [.cnv] s (modGroup g f s) := rfl
theorem modAdc_only {g a f} : Only [.cnv] s (modAdc g a f s) := rfl
theorem modEngine_only {e f} : Only [.dsp] s (modEngine e f s) := rfl
theorem modCore_only {k f} : Only [.fec] s (modCore k f s) := rfl
theorem modFecEngine_only {e f} : Only [.fec] s (modFecEngine e f s) := rfl
theorem modUnit_only {k f} : Only [.frm] s (modUnit k f s) := rfl
theorem setApsGroup_only {w g} : Only [.map] s (setApsGroup w g s) := rfl
theorem modTrib_only {t f} : Only [.map] s (modTrib t f s) := rfl
theorem modCphTrib_only {t f} : Only [.cph] s (modCphTrib t f s) := rfl
theorem modJob_only {j f} : Only [.cph] s (modJob j f s) := rfl
theorem modPort_only {q f} : Only [.pkt] s (modPort q f s) := rfl
theorem modCif_only {c f} : Only [.cln] s (modCif c f s) := rfl
theorem modLane_only {l f} : Only [.cln] s (modLane l f s) := rfl
theorem modPeer_only {l f} : Only [.plk] s (modPeer l f s) := rfl
theorem modChan_only {c f} : Only [.mon] s (modChan c f s) := rfl
theorem modFsop_only {e f} : Only [.mon] s (modFsop e f s) := rfl
theorem modRing_only {n f} : Only [.mon] s (modRing n f s) := rfl
theorem modSar_only {k f} : Only [.mon] s (modSar k f s) := rfl
theorem modThm_only {f} : Only [.thm] s (modThm f s) := rfl
theorem modClass_only {k f} : Only [.mi] s (modClass k f s) := rfl
theorem modLog_only {f} : Only [.log] s (modLog f s) := rfl
theorem takeFree_only : Only [.freeCount] s (takeFree s).2 := rfl

/-! ### Events, completions and queues (R67, R70, R74, R76) -/

theorem signalVector_only {v} : Only [.hif] s (signalVector v s) := (signalVector_onlyHif ..).only
theorem raiseEvent_only {e} : Only [.hif] s (raiseEvent e s) := (raiseEvent_onlyHif ..).only
theorem emit_only {g c p} : Only [.hif] s (emit g c p s) := (emit_onlyHif ..).only
theorem completeOr_only {o u st g c p} : Only [.hif] s (completeOr o u st g c p s) := (completeOr_onlyHif ..).only
theorem countBadDb_only : Only [.hif] s (countBadDb s) := signalVector_only.after .set_hif rfl
theorem reply_only {f st d r} : Only [.hif] s (reply f st d r s) := (reply_onlyHif ..).only
theorem takePacket_only {p} : Only [.hif] s (takePacket p s) := (takePacket_onlyHif ..).only
theorem abortDeferred_only {f} : Only [.hif] s (abortDeferred f s) := (abortDeferred_onlyHif ..).only
theorem holdEntry_only {n x} : Only [.hif] s (holdEntry n x s) := rfl

theorem fetchFailed_only {n} : Only [.hif] s (fetchFailed n s) :=
  (postCompletion_onlyHif ..).only.after ((countBadFetch_onlyHif ..).only.after setQueue_only rfl) rfl

theorem completeDeferred_only {o u st p} : Only [.hif] s (completeDeferred o u st p s) := by
  unfold completeDeferred
  split
  · exact (completionEvent_onlyHif ..).only.after .set_hif rfl
  · exact .refl

theorem finishWaiting_only {k st r} : Only [.hif] s (finishWaiting k st r s) := by
  unfold finishWaiting
  split
  · exact (finish_onlyHif ..).only.after .set_hif rfl
  · exact .refl

theorem flushHeld_only {n} : Only [.hif] s (flushHeld n s) :=
  .ite .refl ((stallEvent_onlyHif ..).only.ifAfter (signalVector_only.ifAfter (setQueue_only.after
    (.foldl (fun _ _ => (writeResponse_onlyHif ..).only) .refl) rfl) rfl) rfl)

theorem reportLost_only : Only [.hif] s (reportLost s) := .ite (raiseEvent_only.after .set_hif rfl) .refl
theorem resumeDma_only : Only [.hif] s (resumeDma s) := reportLost_only.after (.foldl (fun _ _ => flushHeld_only) .refl) rfl

theorem deleteQueue_only {n} : Only [.hif] s (deleteQueue n s) :=
  abortDeferred_only.after (Only.set_hif.after setQueue_only rfl) rfl

theorem setLink_only {g w} : Only [.hif] s (setLink g w s) :=
  .ite .refl (emit_only.after (.ite (resumeDma_only.after modHif_only rfl) modHif_only) rfl)

theorem endLapsed_only : Only [.hif] s (endLapsed s) := .foldl (fun _ _ => emit_only) modHif_only

/-! ### The Logbook (R462 to R480) -/

theorem flashKick_only : Only [.log] s (flashKick s) := .ite .set_log .refl
theorem logRecord_only {t i p} : Only [.log] s (logRecord t i p s) := logRecord_onlyLog ..
theorem retireFlash_only {b c} : Only [.hif, .log] s (retireFlash b c s) := emit_only.after (Only.set_log.mono rfl) rfl

theorem workDone_only : Only [.thm, .log] s (workDone s) :=
  .ite (modLog_only.after (Only.set_thm.after (modLog_only.mono rfl) rfl) rfl)
    (flashKick_only.after (modLog_only.after (modLog_only.mono rfl) rfl) rfl)

theorem eraseCounted_only : Only [.log] s (eraseCounted s) := .ite modLog_only (logRecord_only.after modLog_only rfl)
theorem openBlock_only {b r} : Only [.log] s (openBlock b r s) := modLog_only

theorem exportEnd_only {x c st} : Only [.hif, .log] s (exportEnd x c st s) :=
  completeOr_only.after (Only.set_log.after (.ite (hostWrite_only.mono rfl) .refl) rfl) rfl

theorem planDone_only {st f r a b} : Only [.hif] s (planDone st f r a b s) := completeOr_only

theorem planStart_only {d c} : Only [.hif, .log] s (planStart d c s) :=
  .ite (planDone_only.after (Only.set_log.mono rfl) rfl) (.ite (Only.set_log.mono rfl) (logRecord_only.after (Only.set_log.mono rfl) rfl))

theorem planWaiting_only : Only [.hif, .log] s (planWaiting s) := .ite planStart_only .refl

theorem adviceStep_only {e g a r p} : Only [.hif, .log] s (adviceStep e g a r p s) := by
  unfold adviceStep
  split
  · exact Only.set_log.mono rfl
  · exact emit_only.after (Only.set_log.mono rfl) rfl

theorem planApply_only {p} : Only [.hif, .fec, .thm, .log] s (planApply p s) :=
  emit_only.ifAfter (adviceStep_only.after (adviceStep_only.after (planDone_only.after rfl rfl) rfl) rfl) rfl

/-! ### Time and references (R93, R97, R104) -/

theorem advancePs_only {n} : Only [.tim] s (advancePs n s) := .ite .set_tim .refl
theorem advanceToUnits_only {n} : Only [.tim] s (advanceToUnits n s) := .ite .refl advancePs_only
theorem setServo_only {x} : Only [.hif, .tim] s (setServo x s) := .ite .refl (emit_only.after (Only.set_tim.mono rfl) rfl)

/-! ### Converters (R118 to R138) -/

theorem saveBlock_only {g t c} : Only [.cnv, .log] s (saveBlock g t c s) := logRecord_only.after (modGroup_only.mono rfl) rfl

theorem spareFailure_only {g a} : Only [.hif, .cnv, .log] s (spareFailure g a s) :=
  .ite (logRecord_only.after (emit_only.after (modAdc_only.after (modAdc_only.mono rfl) rfl) rfl) rfl) (modAdc_only.mono rfl)

theorem startRefresh_only {g t} : Only [.cnv] s (startRefresh g t s) := .ite .refl modGroup_only

/-! ### Monitor and housekeeping (R384 to R410) -/

theorem writeRing_only {n e} : Only [.hif, .mon] s (writeRing n e s) :=
  .ite .refl (.ite (.ite (Only.set_mon.after (modRing_only.mono rfl) rfl) (modRing_only.mono rfl))
    (signalVector_only.after (modRing_only.mono rfl) rfl))

theorem flushRecord_only {c} : Only [.hif, .mon] s (flushRecord c s) := .ite .refl (modChan_only.after writeRing_only rfl)

theorem storeChan_only {c g} : Only [.hif, .mon] s (storeChan c g s) :=
  .ite (modChan_only.mono rfl) (modChan_only.after (.ite (flushRecord_only.after (modChan_only.mono rfl) rfl) (modChan_only.mono rfl)) rfl)

theorem closeFull_only {c} : Only [.mon] s (closeFull c s) := modChan_only.ifAfter (modChan_only.ifAfter .refl rfl) rfl
theorem sendFsop_only {e} : Only [.dsp, .mon] s (sendFsop e s) := modEngine_only.after (modFsop_only.mono rfl) rfl
theorem envCross_only {c} : Only [.hif, .mon] s (envCross c s) := .ite .refl (emit_only.after (modChan_only.mono rfl) rfl)
theorem addSample_only {c v b} : Only [.hif, .mon] s (addSample c v b s) := .ite .refl (modChan_only.after (.ite flushRecord_only .refl) rfl)

theorem outputSample_only {c y} : Only [.hif, .dsp, .mon] s (outputSample c y s) :=
  addSample_only.after (envCross_only.after (sendFsop_only.ifAfter (modChan_only.after (closeFull_only.mono rfl) rfl) rfl) rfl) rfl

theorem sarKick_only {k} : Only [.mon] s (sarKick k s) := .ite modSar_only .refl
theorem calBegin_only {k o} : Only [.mon] s (calBegin k o s) := sarKick_only.after modSar_only rfl
theorem calReport_only {k st} : Only [.hif] s (calReport k st s) := .ite completeOr_only emit_only
theorem systemDue_only {k} : Only [.mon] s (systemDue k s) := .ite .refl (sarKick_only.after modSar_only rfl)
theorem toTick_only : Only [.tim] s (toTick s) := .ite advanceToUnits_only .refl
theorem putResult_only {k d} : Only [.mon] s (putResult k d s) := modSar_only

theorem crossCheck_only : Only [.hif, .mon] s (crossCheck s) := by
  have hcodes : ∀ {x f g}, Only [.hif, .mon] s (modSar 1 g (modSar 0 f { s with mon := x })) :=
    modSar_only.after (modSar_only.after (Only.set_mon.mono rfl) rfl) rfl
  have hevent : ∀ {u : State} {b f g x}, Only [.hif, .mon] u (xchkEvent b { modSar 1 g (modSar 0 f u) with mon := x }) :=
    emit_only.after (Only.set_mon.after (modSar_only.after (modSar_only.mono rfl) rfl) rfl) rfl
  exact .ite .refl (.ite hcodes (.ite (hevent.elseAfter (Only.set_mon.after hcodes rfl) rfl) (hevent.elseAfter (Only.set_mon.after hcodes rfl) rfl)))

theorem doneInjected_only {k r o} : Only [.hif, .mon] s (doneInjected k r o s) := by
  unfold doneInjected
  split
  · exact .refl
  split
  · exact modSar_only.mono rfl
  have hresult : ∀ {d f}, Only [.hif, .mon] s (putResult k d (modSar k f s)) := putResult_only.after (modSar_only.mono rfl) rfl
  exact .ite (modSar_only.after (modSar_only.mono rfl) rfl)
    (.ite (finishWaiting_only.after (modSar_only.after hresult rfl) rfl) (modSar_only.after hresult rfl))

theorem doneSystem_only {k r o} : Only [.hif, .mon, .thm] s (doneSystem k r o s) := by
  have hrail : ∀ {d} {u : State}, Only [.thm] u (takeRail k d u) := .ite .set_thm .refl
  unfold doneSystem
  dsimp only
  split
  · exact .refl
  · exact .ite (modSar_only.mono rfl) (crossCheck_only.ifAfter (writeRing_only.ifAfter
      (hrail.after (putResult_only.after (modSar_only.after (modSar_only.mono rfl) rfl) rfl) rfl) rfl) rfl)

theorem doneRegular_only {k r o} : Only [.hif, .mon] s (doneRegular k r o s) := by
  unfold doneRegular
  dsimp only
  split
  · exact .refl
  · exact .ite (modSar_only.mono rfl) (writeRing_only.after (putResult_only.after (modSar_only.after (modSar_only.mono rfl) rfl) rfl) rfl)

/-! ### Coherent DSP (R150 to R180) -/

theorem fastExitNow_only {e} : Only [.hif, .dsp] s (fastExitNow e s) := by
  unfold fastExitNow
  split
  · exact .refl
  · exact emit_only.after (modEngine_only.mono rfl) rfl

theorem setLock_only {e st d c} : Only [.hif, .dsp] s (setLock e st d c s) :=
  emit_only.elseAfter (modEngine_only.after (fastExitNow_only.elseAfter .refl rfl) rfl) rfl

theorem profileDone_only {e st} : Only [.hif, .dsp] s (profileDone e st s) := by
  unfold profileDone
  dsimp only
  split
  · exact .refl
  · exact completeOr_only.after (modEngine_only.mono rfl) rfl

theorem engineStart_only {e} : Only [.hif, .dsp] s (engineStart e s) := .ite .refl (setLock_only.after (modEngine_only.mono rfl) rfl)
theorem toCdAcq_only {e c} : Only [.hif, .dsp] s (toCdAcq e c s) := setLock_only.after (modEngine_only.mono rfl) rfl

theorem fastEnter_only {e c} : Only [.hif, .dsp] s (fastEnter e c s) := emit_only.ifAfter (modEngine_only.mono rfl) rfl

/-! ### The decoder pool (R194 to R208) -/

theorem ceilingCheck_only : Only [.hif, .fec] s (ceilingCheck s) := .ite (emit_only.after (Only.set_fec.mono rfl) rfl) .refl

theorem fecRecompute_only : Only [.hif, .fec] s (fecRecompute s) := by
  have hoverload : ∀ {u : State}, Only [.hif, .fec] u (overloadCheck u) :=
    .ite .refl (.ite (emit_only.after (Only.set_fec.mono rfl) rfl) (emit_only.after (Only.set_fec.mono rfl) rfl))
  exact hoverload.after ceilingCheck_only rfl

theorem retireCore_only {k a} : Only [.hif, .fec, .log, .freeCount] s (retireCore k a s) :=
  fecRecompute_only.after (logRecord_only.after (emit_only.after (modCore_only.after
    (.foldl (fun _ _ => Only.set_fec.mono rfl) (takeFree_only.mono rfl)) rfl) rfl) rfl) rfl

/-! ### Frames and ports (R309 to R342) -/

theorem addStats_only {n f} : Only [.pkt] s (addStats n f s) := rfl
theorem releaseTiles_only {f} : Only [.pkt] s (releaseTiles f s) := Only.set_pkt.after modPort_only rfl
theorem wheelPlace_only {k} : Only [.pkt] s (wheelPlace k s) := .ite .set_pkt (.ite .set_pkt .set_pkt)

theorem dropFrame_only {f} : Only [.pkt] s (dropFrame f s) := by
  unfold dropFrame
  exact wheelPlace_only.after (wheelPlace_only.after (modPort_only.after (releaseTiles_only.after addStats_only rfl) rfl) rfl) rfl

theorem countDown_only {q} : Only [.pkt] s (countDown q s) := rfl

theorem flushPort_only {q} : Only [.pkt] s (flushPort q s) := by
  unfold flushPort flushFrames
  exact .foldl (fun _ _ => countDown_only.after dropFrame_only rfl) .refl

theorem refreshPort_only {q} : Only [.hif, .pkt] s (refreshPort q s) :=
  .ite .refl (emit_only.after (flushPort_only.ifAfter (modPort_only.mono rfl) rfl) rfl)

theorem pktRefresh_only : Only [.hif, .pkt] s (pktRefresh s) := .foldl (fun _ _ => refreshPort_only) .refl

theorem pktTribEnd_only {t} : Only [.hif, .pkt] s (pktTribEnd t s) :=
  .ite (emit_only.after (flushPort_only.after (modPort_only.mono rfl) rfl) rfl) .refl

theorem retireTile_only {t} : Only [.pkt] s (retireTile t s) := rfl
theorem retireBank_only {b} : Only [.hif, .pkt] s (retireBank b s) := .ite .refl (emit_only.after (Only.set_pkt.mono rfl) rfl)

/-! ### Framer, plan and peer link (R217 to R266, R359 to R380) -/

theorem sendStructure_only {c u} : Only [.frm] s (sendStructure c u s) := modUnit_only
theorem cifLos_only {c} : Only [.frm] s (cifLos c s) := .ite .refl modUnit_only

theorem unitOff_only {k} : Only [.hif, .frm, .latched] s (unitOff k s) := by
  have hdeclared : Only [.hif, .frm, .latched] s (setDeclared k 0 s) :=
    .ite .refl (.ite (modUnit_only.mono rfl) (emit_only.after (modUnit_only.after (modUnit_only.mono rfl) rfl) rfl))
  exact Only.set_latched.after (modUnit_only.after hdeclared rfl) rfl

theorem apsRefresh_only : Only [.map] s (apsRefresh s) := .foldl (fun _ _ => .ite .refl setApsGroup_only) .refl
theorem apsReport_only {w g} : Only [.hif, .map] s (apsReport w g s) := emit_only.after (setApsGroup_only.mono rfl) rfl

theorem withGroup_only {l w} {f : ApsGroup → State → State} (h : ∀ g u, Only l u (f g u)) : Only l s (withGroup w f s) := by
  unfold withGroup
  split
  · exact h ..
  · exact .refl

theorem plkApsDue_only : Only [.plk] s (plkApsDue s) := rfl
theorem plkMirror_only : Only [.plk] s (plkMirror s) := rfl

theorem plkRefresh_only : Only [.hif, .map, .plk] s (plkRefresh s) := by
  have hshed : Only [.hif, .map, .plk] s (plkShed s) := .ite .refl (emit_only.after (Only.set_plk.mono rfl) rfl)
  exact plkApsDue_only.after (apsRefresh_only.after (Only.set_map.after hshed rfl) rfl) rfl

theorem setPlk_only {st c} : Only [.hif, .map, .plk] s (setPlk st c s) :=
  .ite .refl (plkRefresh_only.after (emit_only.after (Only.set_plk.mono rfl) rfl) rfl)

theorem plkProgress_only : Only [.hif, .map, .plk] s (plkProgress s) := by
  unfold plkProgress
  dsimp only
  split
  · exact .refl
  · exact .ite setPlk_only .refl
  · exact .ite setPlk_only (.ite setPlk_only .refl)
  · exact .ite setPlk_only .refl
  · exact .ite setPlk_only (.ite setPlk_only .refl)

theorem receiveBlock_only {w} : Only [.hif, .map, .plk] s (receiveBlock w s) := by
  have haps : ∀ {b} {u : State}, Only [.hif, .map, .plk] u (takeAps b u) := plkRefresh_only.after (Only.set_plk.mono rfl) rfl
  have hhello : ∀ {b} {u : State}, Only [.hif, .map, .plk] u (takeHello b u) :=
    .ite (.ite (setPlk_only.after (Only.set_plk.mono rfl) rfl) (plkRefresh_only.after (Only.set_plk.mono rfl) rfl))
      (.ite (setPlk_only.after (Only.set_plk.mono rfl) rfl) (plkRefresh_only.after (Only.set_plk.mono rfl) rfl))
  have hblock : ∀ {b} {u : State}, Only [.hif, .map, .plk] u (takeBlock b u) := by
    intro b u
    unfold takeBlock
    split
    · exact Only.set_plk.mono rfl
    split
    · exact .refl
    · exact Only.set_plk.mono rfl
    · exact haps
    · exact hhello
    · exact Only.set_plk.mono rfl
  exact .ite (.ite (Only.set_plk.mono rfl) (hblock.after (Only.set_plk.mono rfl) rfl)) .refl

theorem cphTribEnd_only {t} : Only [.hif, .cph] s (cphTribEnd t s) := by
  have habort : Only [.hif, .cph] s (switchAbort t s) := by
    unfold switchAbort
    dsimp only
    split
    · exact completeDeferred_only.after (modCphTrib_only.mono rfl) rfl
    · exact .refl
  unfold cphTribEnd
  exact modCphTrib_only.after habort rfl

theorem tribEnd_only {t} : Only [.hif, .frm, .map, .cph, .pkt, .latched] s (tribEnd t s) := by
  unfold tribEnd
  exact modTrib_only.after (unitOff_only.after (pktTribEnd_only.after (cphTribEnd_only.mono rfl) rfl) rfl) rfl

theorem tribStart_only {t x} : Only [.hif, .frm, .map, .latched] s (tribStart t x s) := by
  unfold tribStart pktTribStart cphTribStart
  exact modTrib_only.after (modUnit_only.after (unitOff_only.mono rfl) rfl) rfl

theorem installPlan_only {n} : Only [.hif, .frm, .map, .cph, .pkt, .plk, .latched] s (installPlan n s) := by
  have hstart : ∀ {u : State} {t}, Only [.hif, .frm, .map, .cph, .pkt, .plk, .latched] u
      (match planFind n t with | some x => tribStart t x u | none => u) := by
    intro u t
    split
    · exact tribStart_only.mono rfl
    · exact .refl
  have hswap : ∀ {u : State} {m f}, Only [.frm, .map] u { u with map := m, frm := f } := rfl
  exact pktRefresh_only.after (plkRefresh_only.after
    (.foldl (fun _ _ => hstart) (hswap.after (.foldl (fun _ _ => tribEnd_only.mono rfl) .refl) rfl)) rfl) rfl

theorem planCommitted_only {p} : Only [.hif, .map] s (planCommitted p s) := completeOr_only.after (Only.set_map.mono rfl) rfl

theorem applyPart_only {e p} : Only [.hif, .frm, .map, .cph, .pkt, .plk, .latched] s (applyPart e p s) := by
  unfold applyPart
  exact planCommitted_only.ifAfter (Only.set_map.after
    (.foldl (fun _ _ => sendStructure_only.mono rfl) (sendStructure_only.after installPlan_only rfl)) rfl) rfl

theorem applyAtSwitch_only {e} : Only [.hif, .frm, .map, .cph, .pkt, .plk, .latched] s (applyAtSwitch e s) := by
  unfold applyAtSwitch
  split
  · exact .refl
  · exact .ite applyPart_only .refl

/-! ### Cipher jobs (R294 to R306) -/

theorem jobDone_only {j st n t} : Only [.hif, .cph] s (jobDone j st n t s) := completeOr_only.after (Only.set_cph.mono rfl) rfl
theorem writeOutput_only {j e n} : Only [.hif] s (writeOutput j e n s) := .ite .refl hostWrite_only

theorem saveJob_only {f a j e} : Only [.hif, .cph] s (saveJob f a j e s) :=
  jobDone_only.after (hostWrite_only.after (writeOutput_only.after (Only.set_cph.mono rfl) rfl) rfl) rfl

theorem zeroFill_only {j n} : Only [.hif] s (zeroFill j n s) := .ite .refl (.foldl (fun _ _ => .ite .refl hostWrite_only) .refl)

/-! ### Temperature and AVS (R422, R430 to R433) -/

theorem levelEvent_only : Only [.hif, .thm] s (levelEvent s) := .ite .refl (emit_only.after (Only.set_thm.mono rfl) rfl)

theorem avsStep_only {m} : Only [.hif, .thm] s (avsStep m s) := by
  have htarget : ∀ {u : State} {v c}, Only [.hif, .thm] u (setTarget v c u) := .ite .refl (emit_only.after (modThm_only.mono rfl) rfl)
  exact .ite .refl (.ite (modThm_only.mono rfl) (htarget.after (modThm_only.mono rfl) rfl))

theorem avsCheck_only : Only [.hif, .thm] s (avsCheck s) := by
  have hevent : ∀ {u : State} {b}, Only [.hif, .thm] u (avsFaultEvent b u) := emit_only.after (modThm_only.mono rfl) rfl
  exact .ite .refl (.ite (hevent.after (modThm_only.mono rfl) rfl) (.ite (hevent.after (modThm_only.mono rfl) rfl) (modThm_only.mono rfl)))

/-! ### Memory integrity (R442 to R451) -/

theorem addCinder_only {c} : Only [.hif, .mi, .log] s (addCinder c s) :=
  .ite (logRecord_only.after (Only.set_mi.mono rfl) rfl) (.ite .refl (emit_only.after (Only.set_mi.mono rfl) rfl))

theorem retireRow_only {k i r c} : Only [.hif, .mi, .log] s (retireRow k i r c s) :=
  .ite .refl (emit_only.after (addCinder_only.after (modClass_only.mono rfl) rfl) rfl)

theorem retireWpBank_only {b c} : Only [.hif, .pkt, .mi, .log] s (retireWpBank b c s) :=
  emit_only.after (retireBank_only.after (addCinder_only.after
    (.foldl (fun _ _ => logRecord_only.mono rfl) (Only.set_mi.mono rfl)) rfl) rfl) rfl

theorem retireWpTile_only {t c} : Only [.hif, .pkt, .mi, .log] s (retireWpTile t c s) :=
  .ite .refl (retireWpBank_only.ifAfter (emit_only.after (addCinder_only.after (retireTile_only.mono rfl) rfl) rfl) rfl)

theorem stuckRow_only {k i r} : Only [.hif, .pkt, .mi, .log] s (stuckRow k i r s) :=
  .ite (logRecord_only.mono rfl) (.ite retireWpTile_only (retireRow_only.mono rfl))

theorem countScrub_only {k i r b f} : Only [.mi] s (countScrub k i r b f s) := .ite modClass_only .refl

/-! ### Client lanes and Snapshot copies (R26, R354) -/

theorem trainLane_only {l} : Only [.cln, .freeCount] s (trainLane l s) := .ite (modLane_only.after (takeFree_only.mono rfl) rfl) .refl

theorem copySnap_only {b} (os : List Nat) : Only [.cln, .plk, .snap, .freeCount] s (copySnap b os s) := by
  have hheld : ∀ {u : State} {o v}, Only [.cln, .plk, .snap, .freeCount] u (holdEq b o v u) := .ite (modLane_only.mono rfl) (modPeer_only.mono rfl)
  induction os generalizing s with
  | nil => exact .refl
  | cons o os ih =>
    unfold copySnap
    split
    · split
      · exact ih.after (Only.set_snap.mono rfl) rfl
      · exact ih.after (hheld.after (Only.set_snap.after (takeFree_only.mono rfl) rfl) rfl) rfl
    · exact ih.after (Only.set_snap.mono rfl) rfl

theorem snapRequest_only {b} : Only [.cln, .plk, .snap, .snapBusy, .freeCount] s (snapRequest b s) :=
  .ite .refl ((copySnap_only _).after (Only.set_snapBusy.mono rfl) rfl)

end

end Sys2Proof.Machine

namespace Sys2Proof.Machine

section
variable {s : State}

/-! ### Which blocks an event changes -/

theorem execTcImageFetchDone_only : NextOnly [.dev] s (execTcImageFetchDone s) := (Only.ite modDev_only .refl).next
theorem execAcImageFetchDone_only : NextOnly [.dev] s (execAcImageFetchDone s) := (Only.ite modDev_only .refl).next
theorem execDevLoadCtrlGo_only : NextOnly [.dev] s (execDevLoadCtrlGo s) := (Only.ite .refl modDev_only).next
theorem execAonPowerUp_only {a} : NextOnly [.pins] s (execAonPowerUp a s) := .ite (Only.next .refl) (Only.next rfl)
theorem execKindlingStart_only {b m o} : NextOnly [.dev, .tim, .pins] s (execKindlingStart b m o s) :=
  .ite (Only.next .refl) (Only.next rfl)
theorem execSupplyGroupsWithinRange_only : NextOnly [.dev, .pins] s (execSupplyGroupsWithinRange s) :=
  .ite (Only.next rfl) (Only.next .refl)

theorem execHifArrivalLoRead_only : NextOnly [.hif] s (execHifArrivalLoRead s) := modHif_only.next
theorem execHifQ0EnSet_only : NextOnly [.hif] s (execHifQ0EnSet s) :=
  (Only.ite .refl (.ite (modHif_only.after setQueue_only rfl) modHif_only)).next
theorem execHifQ0EnClear_only : NextOnly [.hif] s (execHifQ0EnClear s) :=
  (Only.ite (deleteQueue_only.after modHif_only rfl) .refl).next
theorem execHifEqEnSet_only : NextOnly [.hif] s (execHifEqEnSet s) := (Only.ite .refl (.ite modHif_only modHif_only)).next
theorem execHifEqEnClear_only : NextOnly [.hif] s (execHifEqEnClear s) := (Only.ite modHif_only .refl).next
theorem execD3hotEntry_only : NextOnly [.hif] s (execD3hotEntry s) := .ite (Only.next .refl) modHif_only.next
theorem execPciePerstRise_only : NextOnly [.hif] s (execPciePerstRise s) := modHif_only.next
theorem execMgmtResponseRead_only : NextOnly [.hif] s (execMgmtResponseRead s) := .ite (Only.next .refl) modHif_only.next
theorem execMgmtStatusRead_only : NextOnly [.hif] s (execMgmtStatusRead s) := .ite (Only.next .refl) modHif_only.next
theorem execMgmtAvsRead_only : NextOnly [.hif] s (execMgmtAvsRead s) := .ite (Only.next .refl) modHif_only.next
theorem execMgmtBusTimeout_only : NextOnly [.hif] s (execMgmtBusTimeout s) := modHif_only.next
theorem execMgmtBadSelector_only {b} : NextOnly [.hif] s (execMgmtBadSelector b s) := .ite (Only.next .refl) modHif_only.next
theorem execPcieLinkChange_only {g w} : NextOnly [.hif] s (execPcieLinkChange g w s) := .ite setLink_only.next (Only.next .refl)
theorem execHifSqTailWrite_only {q v e} : NextOnly [.hif] s (execHifSqTailWrite q v e s) :=
  .ite countBadDb_only.next (emit_only.ifAfter setQueue_only rfl).next
theorem execHifCqHeadWrite_only {q v} : NextOnly [.hif] s (execHifCqHeadWrite q v s) :=
  .ite countBadDb_only.next (flushHeld_only.after setQueue_only rfl).next
theorem execHifEqHeadWrite_only {v} : NextOnly [.hif] s (execHifEqHeadWrite v s) :=
  .ite countBadDb_only.next (reportLost_only.after modHif_only rfl).next
theorem execPacketFetchFailed_only {q} : NextOnly [.hif] s (execPacketFetchFailed q s) :=
  .ite (Only.next .refl) (.ite fetchFailed_only.next holdEntry_only.next)
theorem execUndefinedOpcode_only {o p} : NextOnly [.hif] s (execUndefinedOpcode o p s) :=
  .ite (Only.next .refl) (.ite (notStarted_onlyHif ..).only.next (.ite modHif_only.next
    (.ite (reply_only.after ((countBadCrc_onlyHif _).only.after takePacket_only rfl) rfl).next
      (.ite (reply_only.after takePacket_only rfl).next (reply_only.after takePacket_only rfl).next))))

theorem execPassthroughXferComplete_only {k r d b} : NextOnly [.hif] s (execPassthroughXferComplete k r d b s) := by
  unfold execPassthroughXferComplete
  split
  · exact Only.next .refl
  refine .ite (Only.next .refl) ?_
  split
  · exact Only.next .refl
  · exact (finishWaiting_only.after modHif_only rfl).next

theorem execLeaseExpiry_only {id} : NextOnly [.hif, .tim] s (execLeaseExpiry id s) := by
  unfold execLeaseExpiry
  split
  · exact Only.next .refl
  · exact (emit_only.after (modHif_only.after (advancePs_only.mono rfl) rfl) rfl).next

theorem execTimTodSecLoRead_only : NextOnly [.tim] s (execTimTodSecLoRead s) := Only.set_tim.next
theorem execPpsOutPulseEnd_only : NextOnly [.tim] s (execPpsOutPulseEnd s) := modTim_only.next
theorem execSlewComplete_only : NextOnly [.tim] s (execSlewComplete s) := .ite (Only.next .refl) advancePs_only.next
theorem execPpsOutRise_only : NextOnly [.tim] s (execPpsOutRise s) := (modTim_only.after advanceToUnits_only rfl).next
theorem execPpsInMissing_only : NextOnly [.hif, .tim] s (execPpsInMissing s) :=
  .ite (Only.next .refl) (setServo_only.ifAfter (modTim_only.mono rfl) rfl).next
theorem execPtpUpdateTimeout_only : NextOnly [.hif, .tim] s (execPtpUpdateTimeout s) :=
  .ite (Only.next .refl) (setServo_only.ifAfter (modTim_only.mono rfl) rfl).next

theorem execRefRestored_only {r} : NextOnly [.hif, .tim] s (execRefRestored r s) := by
  have href : ∀ {f}, Only [.hif, .tim] s (refEvent (modTim f s)) := emit_only.after (modTim_only.mono rfl) rfl
  unfold execRefRestored
  refine .ite (Only.next .refl) ?_
  cases r with
  | lineRef0 | lineRef1 | pcieRef => exact href.next
  | clientRef => exact .ite href.next (.ite (setServo_only.after href rfl).next (setServo_only.elseAfter href rfl).next)

theorem execSynceResumeTimer_only {o} : NextOnly [.hif, .tim] s (execSynceResumeTimer o s) :=
  .ite (emit_only.after (modTim_only.mono rfl) rfl).next (Only.next .refl)
theorem execPtpFrameReceived_only {c e r f} : NextOnly [.hif, .tim] s (execPtpFrameReceived c e r f s) :=
  .ite (Only.next .refl) (.ite (modTim_only.mono rfl).next (signalVector_only.after (modTim_only.mono rfl) rfl).next)

theorem execPtpFrameSent_only {c m d q} : NextOnly [.hif, .tim] s (execPtpFrameSent c m d q s) := by
  unfold execPtpFrameSent
  split
  · exact Only.next .refl
  · exact .ite (modTim_only.mono rfl).next (raiseEvent_only.after (modTim_only.mono rfl) rfl).next

theorem execCnvStepStart_only {g} : NextOnly [.cnv] s (execCnvStepStart g s) := .ite modGroup_only.next (Only.next .refl)
theorem execCnvSpareSettled_only {g} : NextOnly [.cnv] s (execCnvSpareSettled g s) := modGroup_only.next
theorem execCnvRefreshInterval_only {g} : NextOnly [.cnv] s (execCnvRefreshInterval g s) :=
  .ite startRefresh_only.next (Only.next .refl)
theorem execCnvTsetSaveDue_only {g t c} : NextOnly [.cnv, .log] s (execCnvTsetSaveDue g t c s) :=
  .ite saveBlock_only.next (Only.next .refl)
theorem execCnvSliceClockLocked_only {g} : NextOnly [.hif, .cnv, .dsp] s (execCnvSliceClockLocked g s) :=
  .ite (engineStart_only.ifAfter (modEngine_only.after (modGroup_only.mono rfl) rfl) rfl).next (Only.next .refl)
theorem execCnvMatchDone_only {g a x} : NextOnly [.hif, .cnv, .log] s (execCnvMatchDone g a x s) :=
  .ite (Only.next .refl) (.ite (modAdc_only.mono rfl).next (.ite (modAdc_only.mono rfl).next spareFailure_only.next))

theorem execNlcComputeComplete_only {e} : NextOnly [.dsp] s (execNlcComputeComplete e s) := modEngine_only.next
theorem execDspLosCleared_only {e} : NextOnly [.hif, .dsp] s (execDspLosCleared e s) := (Only.ite toCdAcq_only .refl).next
theorem execDspCdFilterSet_only {e} : NextOnly [.hif, .dsp] s (execDspCdFilterSet e s) :=
  (Only.ite (setLock_only.after (modEngine_only.mono rfl) rfl) .refl).next
theorem execDspEqPreconverged_only {e} : NextOnly [.hif, .dsp] s (execDspEqPreconverged e s) := (Only.ite setLock_only .refl).next
theorem execDspSyncLost_only {e} : NextOnly [.hif, .dsp] s (execDspSyncLost e s) :=
  (Only.ite (setLock_only.after (modEngine_only.mono rfl) rfl) .refl).next
theorem execFastsopHoldExpiry_only {e} : NextOnly [.hif, .dsp] s (execFastsopHoldExpiry e s) := (modEngine_only.mono rfl).next

theorem execFastsopEntry_only {e} : NextOnly [.hif, .dsp] s (execFastsopEntry e s) := by
  unfold execFastsopEntry
  dsimp only
  split
  · exact Only.next .refl
  · exact .ite (modEngine_only.after (modEngine_only.mono rfl) rfl).next (.ite (modEngine_only.after (modEngine_only.mono rfl) rfl).next
      (fastEnter_only.after (fastExitNow_only.after (modEngine_only.mono rfl) rfl) rfl).next)

theorem execProfileSwitchTimeout_only {e} : NextOnly [.hif, .dsp] s (execProfileSwitchTimeout e s) := by
  unfold execProfileSwitchTimeout
  split
  · exact .ite profileDone_only.next (Only.next .refl)
  · exact Only.next .refl

theorem execTxpdRecomputeComplete_only {e} (b) : NextOnly [.hif, .dsp] s (execTxpdRecomputeComplete e b s) :=
  .ite (Only.next .refl) (completeOr_only.after (modEngine_only.mono rfl) rfl).next

theorem execProfileTxBoundary_only {e} :
    NextOnly [.hif, .dsp, .frm, .map, .cph, .pkt, .plk, .latched] s (execProfileTxBoundary e s) := by
  have hswitch : ∀ {u : State}, Only [.dsp] u (switchTx e.val u) := modEngine_only
  have hrestart : ∀ {u : State}, Only [.frm] u (framerRestart e.val u) := modUnit_only
  unfold execProfileTxBoundary
  split
  · exact .ite (pktRefresh_only.after (plkRefresh_only.after (sendStructure_only.after (hrestart.after
      (hswitch.after (applyAtSwitch_only.mono rfl) rfl) rfl) rfl) rfl) rfl).next (Only.next .refl)
  · exact Only.next .refl

theorem execFecKatDue_only {k} : NextOnly [.fec] s (execFecKatDue k s) := (Only.ite modCore_only .refl).next
theorem execFecBlockArrival_only {e b z} : NextOnly [.hif, .fec] s (execFecBlockArrival e b z s) :=
  .ite (Only.next .refl) (Only.set_fec.after (fecRecompute_only.after (Only.set_fec.mono rfl) rfl) rfl).next
theorem execFecCeilingPacingEnd_only : NextOnly [.hif, .fec] s (execFecCeilingPacingEnd s) :=
  (ceilingCheck_only.after (Only.set_fec.mono rfl) rfl).next
theorem execFecKatComplete_only {k b} : NextOnly [.hif, .fec, .log, .freeCount] s (execFecKatComplete k b s) :=
  .ite (Only.next .refl) (.ite (modCore_only.mono rfl).next retireCore_only.next)
theorem execCoreRetestComplete_only {k n} : NextOnly [.hif, .fec, .log] s (execCoreRetestComplete k n s) :=
  .ite (Only.next .refl) (completeOr_only.after (.ite (fecRecompute_only.after (logRecord_only.after (modCore_only.mono rfl) rfl) rfl)
    (modCore_only.mono rfl)) rfl).next

theorem execFrmPmSelWrite_only {w v} : NextOnly [.frm] s (execFrmPmSelWrite w v s) := by
  cases w with
  | host | ac | tc => exact Only.set_frm.next

theorem execApsHoldoffExpiry_only {w} : NextOnly [.map] s (execApsHoldoffExpiry w s) :=
  (withGroup_only fun _ _ => .ite setApsGroup_only .refl).next
theorem execApsWtrExpiry_only {w} : NextOnly [.map] s (execApsWtrExpiry w s) :=
  (withGroup_only fun _ _ => .ite setApsGroup_only .refl).next
theorem execApsPccReceived_only {w f} : NextOnly [.map] s (execApsPccReceived w f s) :=
  (withGroup_only fun _ _ => .ite .refl setApsGroup_only).next
theorem execApsSelectorSwitch_only {w} : NextOnly [.hif, .map] s (execApsSelectorSwitch w s) :=
  (withGroup_only fun _ _ => .ite .refl (.ite (setApsGroup_only.mono rfl) apsReport_only)).next
theorem execApsMismatchHeld_only {w} : NextOnly [.hif, .map] s (execApsMismatchHeld w s) :=
  (withGroup_only fun _ _ => .ite .refl (emit_only.after (setApsGroup_only.mono rfl) rfl)).next
theorem execApsPacingEnd_only {w} : NextOnly [.hif, .map] s (execApsPacingEnd w s) :=
  (withGroup_only fun _ _ => .ite .refl (.ite (setApsGroup_only.mono rfl) apsReport_only)).next

theorem execCphDctrLoRead_only : NextOnly [.cph] s (execCphDctrLoRead s) := (Only.ite .refl .set_cph).next

theorem execCphJobComplete_only {j e} : NextOnly [.hif, .cph, .log] s (execCphJobComplete j e s) := by
  have hend : ∀ {x st n g y m}, Only [.hif, .cph, .log] s (jobDone x st n g (writeOutput y e m s)) :=
    jobDone_only.after (writeOutput_only.mono rfl) rfl
  have hfilled : ∀ {x st n g y m}, Only [.hif, .cph, .log] s (jobDone x st n g (zeroFill y m s)) :=
    jobDone_only.after (zeroFill_only.mono rfl) rfl
  unfold execCphJobComplete
  split
  · exact Only.next .refl
  refine .ite hend.next (.ite (Only.next .refl) ?_)
  split
  · exact (saveJob_only.mono rfl).next
  · exact .ite hend.next (.ite (Only.next .refl) (.ite (logRecord_only.after hfilled rfl).next (.ite hfilled.next hend.next)))

theorem execPktFineWheelSlot_only {n} : NextOnly [.tim, .pkt] s (execPktFineWheelSlot n s) :=
  (Only.set_pkt.after (advancePs_only.mono rfl) rfl).next

theorem execClnLaneClean_only {l} : NextOnly [.frm, .cln, .freeCount] s (execClnLaneClean l s) := by
  have hlane : ∀ {f}, Only [.frm, .cln, .freeCount] s (modLane l.val f (trainLane l.val s)) :=
    modLane_only.after (trainLane_only.mono rfl) rfl
  refine .ite (Only.next .refl) (Only.next ?_)
  split
  · exact cifLos_only.after hlane rfl
  · exact hlane

theorem execLocalFaultReceived_only {c l r} : NextOnly [.cln] s (execLocalFaultReceived c l r s) :=
  .ite (Only.next .refl) modCif_only.next

theorem execPlkHelloTimer_only : NextOnly [.plk] s (execPlkHelloTimer s) := .ite Only.set_plk.next (Only.next .refl)
theorem execPlkApsRefreshTimer_only : NextOnly [.plk] s (execPlkApsRefreshTimer s) := .ite Only.set_plk.next (Only.next .refl)
theorem execPlkLaneCdrLocked_only {l} : NextOnly [.hif, .map, .plk] s (execPlkLaneCdrLocked l s) :=
  .ite (plkProgress_only.after (modPeer_only.mono rfl) rfl).next (Only.next .refl)
theorem execPlkDfeConverged_only {l} : NextOnly [.hif, .map, .plk] s (execPlkDfeConverged l s) :=
  .ite (plkProgress_only.after (modPeer_only.mono rfl) rfl).next (Only.next .refl)
theorem execPlkLaneLoss_only {l} : NextOnly [.hif, .map, .plk] s (execPlkLaneLoss l s) :=
  .ite (plkProgress_only.after (modPeer_only.mono rfl) rfl).next (Only.next .refl)
theorem execPlkMarkerReceived_only {l m} : NextOnly [.hif, .map, .plk] s (execPlkMarkerReceived l m s) :=
  .ite (.ite (plkMirror_only.after (plkProgress_only.after (Only.set_plk.after (modPeer_only.mono rfl) rfl) rfl) rfl).next
    (plkMirror_only.after (plkProgress_only.after (modPeer_only.mono rfl) rfl) rfl).next) (Only.next .refl)
theorem execPlkMarkerPeriodStart_only (n) : NextOnly [.hif, .map, .plk] s (execPlkMarkerPeriodStart n s) :=
  .ite (plkMirror_only.after (plkRefresh_only.after (plkProgress_only.after (emit_only.elseAfter (Only.set_plk.mono rfl) rfl) rfl) rfl) rfl).next
    (Only.next .refl)
theorem execPlkTribBlockReceived_only (c) {b} : NextOnly [.hif, .map, .plk] s (execPlkTribBlockReceived c b s) :=
  receiveBlock_only.next
theorem execPlkApsBlockReceived_only {b} (e) : NextOnly [.hif, .map, .plk] s (execPlkApsBlockReceived b e s) :=
  receiveBlock_only.next
theorem execPlkHelloReceived_only {h} : NextOnly [.hif, .map, .plk] s (execPlkHelloReceived h s) := receiveBlock_only.next
theorem execPlkApsEntryTimeout_only {w} : NextOnly [.hif, .map, .plk] s (execPlkApsEntryTimeout w s) :=
  (plkRefresh_only.after (Only.set_plk.mono rfl) rfl).next
theorem execPlkHelloTimeout_only : NextOnly [.hif, .map, .plk] s (execPlkHelloTimeout s) := .ite setPlk_only.next (Only.next .refl)

theorem execMonChainFilled_only {c} : NextOnly [.mon] s (execMonChainFilled c s) := modChan_only.next
theorem execMonDetectorWindowEnd_only {c b} : NextOnly [.mon] s (execMonDetectorWindowEnd c b s) :=
  .ite (Only.ite modChan_only .refl).next (Only.ite modChan_only .refl).next
theorem execMonRecordWrite_only {c} : NextOnly [.hif, .mon] s (execMonRecordWrite c s) := (Only.ite flushRecord_only .refl).next
theorem execMonFsopRepeat_only {e} : NextOnly [.dsp, .mon] s (execMonFsopRepeat e s) := (Only.ite sendFsop_only .refl).next
theorem execMonOutputSample_only {c i} : NextOnly [.hif, .dsp, .mon] s (execMonOutputSample c i s) :=
  .ite (Only.next .refl) (outputSample_only.elseAfter (modChan_only.mono rfl) rfl).next

theorem execDmaRingHeadWrite_only {r v} : NextOnly [.tim, .mon] s (execDmaRingHeadWrite r v s) := by
  cases r with
  | ptp => exact (Only.ite (Only.set_tim.mono rfl) .refl).next
  | monitor c => exact (Only.ite (modRing_only.mono rfl) .refl).next
  | hka k => exact (Only.ite (modRing_only.mono rfl) .refl).next

theorem execHkaSystemTick_only : NextOnly [.tim, .mon] s (execHkaSystemTick s) :=
  (systemDue_only.after (systemDue_only.after (Only.set_mon.after (toTick_only.mono rfl) rfl) rfl) rfl).next
theorem execHkaSeqPeriodStart_only {k} : NextOnly [.mon] s (execHkaSeqPeriodStart k s) :=
  .ite (Only.next .refl) (.ite (sarKick_only.after modSar_only rfl).next modSar_only.next)
theorem execHkaCalTimer_only {k} : NextOnly [.mon] s (execHkaCalTimer k s) := .ite (Only.next .refl) calBegin_only.next
theorem execHkaCalComplete_only {k} : NextOnly [.hif, .mon] s (execHkaCalComplete k s) :=
  .ite (Only.next .refl) (modSar_only.after (modSar_only.after (Only.set_mon.after (calReport_only.mono rfl) rfl) rfl) rfl).next
theorem execHkaCalStepAbort_only {k} : NextOnly [.hif, .mon] s (execHkaCalStepAbort k s) :=
  .ite (Only.next .refl) (modSar_only.after (modSar_only.after (Only.set_mon.after (calReport_only.mono rfl) rfl) rfl) rfl).next

theorem execHkaConversionDone_only {k r o} : NextOnly [.hif, .mon, .thm] s (execHkaConversionDone k r o s) := by
  unfold execHkaConversionDone
  dsimp only
  split
  · exact Only.next .refl
  · exact (modSar_only.after (modSar_only.mono rfl) rfl).next
  · exact (modSar_only.after (doneInjected_only.mono rfl) rfl).next
  · exact (modSar_only.after doneSystem_only rfl).next
  · exact (modSar_only.after (doneRegular_only.mono rfl) rfl).next

theorem execCrystalLoss_only : NextOnly [.thm] s (execCrystalLoss s) := modThm_only.next
theorem execThmLevelPacingEnd_only : NextOnly [.hif, .thm] s (execThmLevelPacingEnd s) :=
  .ite (levelEvent_only.after (modThm_only.mono rfl) rfl).next (Only.next .refl)
theorem execAvsEvaluation_only {m} : NextOnly [.hif, .tim, .thm] s (execAvsEvaluation m s) :=
  .ite (Only.next .refl) (modThm_only.after (avsCheck_only.after (avsStep_only.after (modThm_only.after
    (advancePs_only.mono rfl) rfl) rfl) rfl) rfl).next

theorem execMiPatrolRead_only {k} : NextOnly [.mi] s (execMiPatrolRead k s) := .ite (Only.next .refl) modClass_only.next

theorem execScrubRangeComplete_only {k n} : NextOnly [.hif, .mi] s (execScrubRangeComplete k n s) := by
  unfold execScrubRangeComplete
  dsimp only
  split
  · exact Only.next .refl
  · exact (completeOr_only.after (modClass_only.mono rfl) rfl).next

theorem execMemoryCorrectableError_only {k i r b f} :
    NextOnly [.hif, .pkt, .mi, .log] s (execMemoryCorrectableError k i r b f s) := by
  have hcounted : ∀ {g}, Only [.hif, .pkt, .mi, .log] s
      (countScrub k.val i r b g (countCe k.val i r (useFlip k.val i r (setValid k.val i r s)))) :=
    countScrub_only.after (modClass_only.after (modClass_only.after (modClass_only.mono rfl) rfl) rfl) rfl
  exact .ite (Only.next .refl) (.ite (countScrub_only.after (stuckRow_only.after hcounted rfl) rfl).next hcounted.next)

theorem execLogLoWordRead_only {c} : NextOnly [.log] s (execLogLoWordRead c s) := by
  cases c with
  | none => exact modLog_only.next
  | some k => exact modLog_only.next

theorem execAgeingMonthDue_only : NextOnly [.log] s (execAgeingMonthDue s) := .ite logRecord_only.next (Only.next .refl)
theorem execLogRefreshPassDue_only : NextOnly [.log] s (execLogRefreshPassDue s) := .ite (Only.next .refl) modLog_only.next

theorem execFlashBlockErased_only {b} : NextOnly [.hif, .thm, .log] s (execFlashBlockErased b s) := by
  unfold execFlashBlockErased
  split
  · refine .ite (workDone_only.after (retireFlash_only.after (modLog_only.mono rfl) rfl) rfl).next ?_
    have herased : ∀ {f}, Only [.hif, .thm, .log] s (eraseCounted (modLog f s)) := eraseCounted_only.after (modLog_only.mono rfl) rfl
    exact .ite (workDone_only.after (retireFlash_only.after (modLog_only.after herased rfl) rfl) rfl).next
      (.ite (workDone_only.after herased rfl).next (workDone_only.after (openBlock_only.after herased rfl) rfl).next)
  · exact Only.next .refl

theorem execLogRefreshPassComplete_only {f} : NextOnly [.hif, .log] s (execLogRefreshPassComplete f s) :=
  .ite (Only.next .refl) (flashKick_only.after (completeOr_only.after (modLog_only.mono rfl) rfl) rfl).next

theorem execLogExportComplete_only {f} : NextOnly [.hif, .log] s (execLogExportComplete f s) := by
  unfold execLogExportComplete
  split
  · exact Only.next .refl
  · exact exportEnd_only.next

theorem execPlanYearDue_only : NextOnly [.hif, .log] s (execPlanYearDue s) :=
  .ite (Only.next .refl) (.ite planStart_only.next (modLog_only.mono rfl).next)

theorem execMarginPlanComplete_only : NextOnly [.hif, .fec, .thm, .log] s (execMarginPlanComplete s) := by
  unfold execMarginPlanComplete
  split
  · exact Only.next .refl
  · exact .ite (planWaiting_only.after (planDone_only.after (modLog_only.mono rfl) rfl) rfl).next
      (.ite (Only.next .refl) (planWaiting_only.after planApply_only rfl).next)

theorem execSnapRequest_only {w} : NextOnly [.cln, .plk, .snap, .snapBusy, .freeCount] s (execSnapRequest w s) :=
  (Only.ite snapRequest_only .refl).next
theorem execSnapCopyDone_only {w} : NextOnly [.snapBusy] s (execSnapCopyDone w s) := Only.set_snapBusy.next

end

/-- Settles O9: each row by the blocks that its operations change. -/
theorem eventRowsFrame : Obligations.Event_rows_frame := by
  intro s t
  simp only [List.forall_mem_cons]
  have hnil : ∀ {P : Instr → Prop}, ∀ i ∈ [], P i := List.forall_mem_nil _
  exact ⟨
    ⟨execTcImageFetchDone_only t, execAcImageFetchDone_only t, execDevLoadCtrlGo_only t, hnil⟩,
    ⟨execHifArrivalLoRead_only t, execHifQ0EnSet_only t, execHifQ0EnClear_only t, execHifEqEnSet_only t,
      execHifEqEnClear_only t, execD3hotEntry_only t, execPciePerstRise_only t, execMgmtResponseRead_only t,
      execMgmtStatusRead_only t, execMgmtAvsRead_only t, execMgmtBusTimeout_only t, hnil⟩,
    fun _ _ => execPcieLinkChange_only t,
    fun _ _ _ => execHifSqTailWrite_only t,
    fun _ _ => execHifCqHeadWrite_only t,
    fun _ => execHifEqHeadWrite_only t,
    fun _ => execPacketFetchFailed_only t,
    fun _ _ => execUndefinedOpcode_only t,
    fun _ _ _ _ => execPassthroughXferComplete_only t,
    fun _ => execMgmtBadSelector_only t,
    ⟨execTimTodSecLoRead_only t, execPpsOutPulseEnd_only t, execSlewComplete_only t, execPpsOutRise_only t, hnil⟩,
    fun _ => ⟨execCnvStepStart_only t, execCnvSpareSettled_only t, execCnvRefreshInterval_only t, hnil⟩,
    fun _ => execNlcComputeComplete_only t,
    fun _ => execProfileTxBoundary_only t,
    fun _ => execFecKatDue_only t,
    fun _ _ => execFrmPmSelWrite_only t,
    fun _ => ⟨execApsHoldoffExpiry_only t, execApsWtrExpiry_only t, hnil⟩,
    fun _ _ => execApsPccReceived_only t,
    execCphDctrLoRead_only t,
    fun _ => execClnLaneClean_only t,
    fun _ _ _ => execLocalFaultReceived_only t,
    ⟨execPlkHelloTimer_only t, execPlkApsRefreshTimer_only t, hnil⟩,
    fun _ => execMonChainFilled_only t,
    fun _ _ => execMonDetectorWindowEnd_only t,
    fun _ => ⟨execHkaSeqPeriodStart_only t, execHkaCalTimer_only t, hnil⟩,
    execCrystalLoss_only t,
    fun _ => execMiPatrolRead_only t,
    fun _ => execLogLoWordRead_only t,
    ⟨execAgeingMonthDue_only t, execLogRefreshPassDue_only t, hnil⟩,
    fun _ => execAonPowerUp_only t,
    fun _ => execSnapCopyDone_only t,
    execSupplyGroupsWithinRange_only t,
    fun _ => execLeaseExpiry_only t,
    ⟨execPpsInMissing_only t, execPtpUpdateTimeout_only t, hnil⟩,
    fun _ => execRefRestored_only t,
    fun _ => execSynceResumeTimer_only t,
    fun _ _ _ _ => execPtpFrameReceived_only t,
    fun _ _ _ _ => execPtpFrameSent_only t,
    fun _ => ⟨execDspLosCleared_only t, execDspCdFilterSet_only t, execDspEqPreconverged_only t, execDspSyncLost_only t,
      execFastsopEntry_only t, execFastsopHoldExpiry_only t, execProfileSwitchTimeout_only t, hnil⟩,
    fun _ b => execTxpdRecomputeComplete_only b t,
    fun _ _ _ => execFecBlockArrival_only t,
    execFecCeilingPacingEnd_only t,
    fun _ => ⟨execApsSelectorSwitch_only t, execApsMismatchHeld_only t, execApsPacingEnd_only t, hnil⟩,
    fun _ => execMonRecordWrite_only t,
    fun _ => ⟨execHkaCalComplete_only t, execHkaCalStepAbort_only t, hnil⟩,
    execThmLevelPacingEnd_only t,
    fun _ _ => execScrubRangeComplete_only t,
    fun _ => execFlashBlockErased_only t,
    fun _ => execLogRefreshPassComplete_only t,
    fun _ => execLogExportComplete_only t,
    execPlanYearDue_only t,
    fun _ => execPktFineWheelSlot_only t,
    fun _ _ => execDmaRingHeadWrite_only t,
    execHkaSystemTick_only t,
    fun _ _ _ => execCnvTsetSaveDue_only t,
    fun _ => execMonFsopRepeat_only t,
    fun _ _ _ => execKindlingStart_only t,
    fun _ => execAvsEvaluation_only t,
    fun _ => execCnvSliceClockLocked_only t,
    fun _ _ _ => execCnvMatchDone_only t,
    fun _ _ => execMonOutputSample_only t,
    fun _ _ => execFecKatComplete_only t,
    fun _ _ => execCoreRetestComplete_only t,
    fun _ => ⟨execPlkLaneCdrLocked_only t, execPlkDfeConverged_only t, execPlkLaneLoss_only t, hnil⟩,
    fun _ _ => execPlkMarkerReceived_only t,
    fun n => execPlkMarkerPeriodStart_only n t,
    fun c _ => execPlkTribBlockReceived_only c t,
    fun _ e => execPlkApsBlockReceived_only e t,
    fun _ => execPlkHelloReceived_only t,
    fun _ => execPlkApsEntryTimeout_only t,
    execPlkHelloTimeout_only t,
    fun _ _ => execCphJobComplete_only t,
    fun _ _ _ => execHkaConversionDone_only t,
    fun _ => execSnapRequest_only t,
    execMarginPlanComplete_only t,
    fun _ _ _ _ _ => execMemoryCorrectableError_only t⟩

end Sys2Proof.Machine

namespace Sys2Proof.Machine

/-! ### Which blocks a setting command changes (R71) -/

/-- What the command does once its checks pass decides its frame: a failed check leaves the state. -/
theorem Only.checked {l : List Block} {s : State} {cs : List Check} {r : Reply} (h : r.Frame (Only (.hif :: l)) s) :
    (checked s cs r).Frame (Only (.hif :: l)) s :=
  checked_frame (Only.framed List.mem_cons_self) h

/-- A command row changes the host interface and the blocks `l` of its own part. -/
theorem only_of_commandOf (l : List Block) {i : Instr} {c : CmdInfo} {body : Packet → State → Reply} {p : Packet} {s t : State}
    (hi : commandOf i = some (c, body, p)) (hbody : ∀ u, (body p u).Frame (Only (.hif :: l)) u) :
    exec i s = .next t → Only (.hif :: l) s t := by
  rw [exec_of_commandOf hi]
  exact (runCommand_frame (Only.framed List.mem_cons_self) hbody).next t

theorem replyMapPlanLoad_only (p : Packet) (s : State) : (replyMapPlanLoad p s).Frame (Only [.hif, .map]) s := by
  unfold replyMapPlanLoad
  dsimp only
  split
  · exact Only.refl
  · exact Only.checked (Only.set_map.mono rfl)

theorem replyMapPlanCommit_only (p : Packet) (s : State) : (replyMapPlanCommit p s).Frame (Only [.hif, .map]) s := by
  unfold replyMapPlanCommit
  dsimp only
  split
  · exact Only.refl
  refine Only.checked ?_
  split
  · exact Only.refl
  split
  · exact Only.refl
  split
  · exact Only.set_map.mono rfl
  · exact fun _ => Only.set_map.mono rfl

theorem replyApsCfgSet_only (p : Packet) (s : State) : (replyApsCfgSet p s).Frame (Only [.hif, .map]) s := by
  unfold replyApsCfgSet
  dsimp only
  split
  · split
    · exact Only.refl
    · exact Only.refl
  · exact Only.checked (setApsGroup_only.mono rfl)

theorem replyApsCmd_only (p : Packet) (s : State) : (replyApsCmd p s).Frame (Only [.hif, .map]) s := by
  unfold replyApsCmd
  dsimp only
  split
  · split
    · exact Only.refl
    · exact Only.refl
  · exact Only.checked (setApsGroup_only.mono rfl)

theorem replyCphEpochSwitch_only (p : Packet) (s : State) : (replyCphEpochSwitch p s).Frame (Only [.hif, .cph]) s := by
  unfold replyCphEpochSwitch
  dsimp only
  split
  · split
    · exact Only.refl
    · exact Only.refl
  · exact Only.checked fun _ => modCphTrib_only.mono rfl

theorem replyCphCtxSave_only (p : Packet) (s : State) : (replyCphCtxSave p s).Frame (Only [.hif, .cph]) s := by
  unfold replyCphCtxSave
  dsimp only
  split
  · exact Only.refl
  · exact Only.checked (modJob_only.mono rfl)

theorem replyCphCtxRestore_only (p : Packet) (s : State) : (replyCphCtxRestore p s).Frame (Only [.hif, .cph]) s := by
  unfold replyCphCtxRestore
  dsimp only
  split
  · exact Only.refl
  · exact Only.checked fun _ => Only.set_cph.mono rfl

/-- In STANDBY the settings are stored at once, elsewhere the filter is computed first (R169). -/
theorem replyDspTxSet_only (p : Packet) (s : State) : (replyDspTxSet p s).Frame (Only [.hif, .dsp]) s := by
  refine Only.checked ?_
  split
  · exact modEngine_only.mono rfl
  · exact fun _ => modEngine_only.after (modEngine_only.mono rfl) rfl

theorem replyMiScrubRange_only (p : Packet) (s : State) : (replyMiScrubRange p s).Frame (Only [.hif, .mi]) s := by
  refine Only.checked ?_
  split
  · exact Only.refl
  · exact Only.checked fun _ => modClass_only.mono rfl

/-- Settles O8: each row by what its own part changes once its checks pass. -/
theorem settingCommandsFrame : Obligations.Setting_commands_frame := by
  intro p s t
  simp only [List.forall_mem_cons]
  have hnil : ∀ {P : Instr → Prop}, ∀ i ∈ [], P i := List.forall_mem_nil _
  refine ⟨?dev, ?hif, ?tim, ?cnv, ?dsp, ?fec, ?frm, ?map, ?cph, ?pkt, ?cln, ?plk, ?mon, ?thm, ?mi, ?log⟩
  case dev => exact ⟨only_of_commandOf [.dev] rfl (fun _ => Only.checked fun _ => modDev_only.mono rfl), hnil⟩
  case hif =>
    exact ⟨only_of_commandOf [] rfl (fun _ => Only.checked setQueue_only),
      only_of_commandOf [] rfl (fun _ => Only.checked (modHif_only.after endLapsed_only rfl)),
      only_of_commandOf [] rfl (fun _ => Only.checked modHif_only),
      only_of_commandOf [] rfl (fun _ => Only.checked (modHif_only.after takeKey_only rfl)),
      only_of_commandOf [] rfl (fun _ => Only.checked (modHif_only.after takeKey_only rfl)), hnil⟩
  case tim =>
    exact ⟨only_of_commandOf [.tim] rfl (fun _ => Only.checked (modTim_only.mono rfl)),
      only_of_commandOf [.tim] rfl (fun _ => Only.checked (modTim_only.mono rfl)),
      only_of_commandOf [.tim] rfl (fun _ => Only.checked (modTim_only.mono rfl)), hnil⟩
  case cnv =>
    exact ⟨only_of_commandOf [.cnv] rfl (fun _ => Only.checked fun _ =>
        Only.set_cnv.after (.foldl (fun _ _ => modGroup_only.mono rfl) .refl) rfl),
      only_of_commandOf [.cnv] rfl (fun _ => Only.checked (modGroup_only.mono rfl)), hnil⟩
  case dsp =>
    exact ⟨only_of_commandOf [.dsp] rfl (fun _ => Only.checked (modEngine_only.mono rfl)),
      only_of_commandOf [.dsp] rfl (fun _ => Only.checked (modEngine_only.mono rfl)),
      only_of_commandOf [.dsp] rfl (fun _ => Only.checked (modEngine_only.mono rfl)),
      only_of_commandOf [.dsp] rfl (replyDspTxSet_only p),
      only_of_commandOf [.dsp] rfl (fun _ => Only.checked (modEngine_only.mono rfl)),
      only_of_commandOf [.dsp] rfl (fun _ => Only.checked (modEngine_only.mono rfl)), hnil⟩
  case fec =>
    exact ⟨only_of_commandOf [.fec] rfl (fun _ => Only.checked (Only.set_fec.mono rfl)),
      only_of_commandOf [.fec] rfl (fun _ => Only.checked (modFecEngine_only.mono rfl)),
      only_of_commandOf [.fec] rfl (fun _ => Only.checked fun _ => modCore_only.mono rfl),
      only_of_commandOf [.fec] rfl (fun _ => Only.checked (modFecEngine_only.mono rfl)), hnil⟩
  case frm =>
    exact ⟨only_of_commandOf [.frm] rfl (fun _ => Only.checked (Only.set_frm.mono rfl)),
      only_of_commandOf [.frm] rfl (fun _ => Only.checked (Only.set_frm.mono rfl)),
      only_of_commandOf [.frm] rfl (fun _ => Only.checked (modUnit_only.mono rfl)), hnil⟩
  case map =>
    exact ⟨only_of_commandOf [.map] rfl (fun _ => Only.checked (Only.set_map.mono rfl)),
      only_of_commandOf [.map] rfl (replyMapPlanLoad_only p),
      only_of_commandOf [.map] rfl (replyMapPlanCommit_only p),
      only_of_commandOf [.map] rfl (replyApsCfgSet_only p),
      only_of_commandOf [.map] rfl (replyApsCmd_only p), hnil⟩
  case cph =>
    exact ⟨only_of_commandOf [.cph] rfl (replyCphEpochSwitch_only p),
      only_of_commandOf [.cph] rfl (fun _ => Only.checked (modCphTrib_only.mono rfl)),
      only_of_commandOf [.cph] rfl (fun _ => Only.checked (modJob_only.mono rfl)),
      only_of_commandOf [.cph] rfl (replyCphCtxSave_only p),
      only_of_commandOf [.cph] rfl (replyCphCtxRestore_only p), hnil⟩
  case pkt =>
    exact ⟨only_of_commandOf [.pkt] rfl (fun _ => Only.checked (modPort_only.mono rfl)),
      only_of_commandOf [.pkt] rfl (fun _ => Only.checked (Only.set_pkt.mono rfl)),
      only_of_commandOf [.pkt] rfl (fun _ => Only.checked (Only.set_pkt.mono rfl)),
      only_of_commandOf [.pkt] rfl (fun _ => Only.checked (modPort_only.mono rfl)), hnil⟩
  case cln => exact ⟨only_of_commandOf [.cln] rfl (fun _ => Only.checked (modLane_only.mono rfl)), hnil⟩
  case plk => exact ⟨only_of_commandOf [.plk] rfl (fun _ => Only.checked (modPeer_only.mono rfl)), hnil⟩
  case mon =>
    exact ⟨only_of_commandOf [.mon] rfl (fun _ => Only.checked storeChan_only),
      only_of_commandOf [.mon] rfl (fun _ => Only.checked (modFsop_only.ifAfter (modFsop_only.mono rfl) rfl)),
      only_of_commandOf [.mon] rfl (fun _ => Only.checked (modRing_only.mono rfl)),
      only_of_commandOf [.mon] rfl (fun _ => Only.checked (modSar_only.mono rfl)),
      only_of_commandOf [.mon] rfl (fun _ => Only.checked (Only.set_mon.mono rfl)), hnil⟩
  case thm => exact ⟨only_of_commandOf [.thm] rfl (fun _ => Only.checked (modThm_only.mono rfl)), hnil⟩
  case mi =>
    exact ⟨only_of_commandOf [.mi] rfl (replyMiScrubRange_only p),
      only_of_commandOf [.mi] rfl (fun _ => Only.checked (Only.set_mi.mono rfl)), hnil⟩
  case log => exact ⟨only_of_commandOf [.log] rfl (fun _ => Only.checked fun _ => modLog_only.mono rfl), hnil⟩

end Sys2Proof.Machine
